-- ==== Sys2Proof/Word.lean ====
section
/-! DEFINITION. The words the block's registers and ports carry, and the index types of its instances (R8, R12, R466). -/

namespace Sys2Proof

/-- One byte of a payload, a descriptor or a record. -/
abbrev Byte := BitVec 8
/-- A register word (R473). -/
abbrev Word := BitVec 32
/-- A byte string; byte 0 is the first (R8: little-endian). -/
abbrev Bytes := List Byte
/-- A header flit of 64 bytes (chapter 11). -/
abbrev Flit := BitVec 512

/-- Ports 0-7 are gates, 8 and 9 the hinge ports H0 and H1 (R373). -/
abbrev Port := Fin 10
/-- A gate. -/
abbrev Gate := Fin 8
/-- A hinge port. -/
abbrev Hinge := Fin 2
/-- A physical lane of a gate. -/
abbrev Lane := Fin 9
/-- A communication queue (R31). -/
abbrev QueueId := Fin 4096
/-- A function (R466). -/
abbrev FuncId := Fin 64
/-- A window (R106). -/
abbrev WindowId := Fin 65536
/-- A requester tag (R465). -/
abbrev TagId := Fin 262144
/-- A memory-side port (R441). -/
abbrev MspId := Fin 16
/-- A scratchpad slot port (R448). -/
abbrev SspId := Fin 4
/-- A keyring group. -/
abbrev GroupId := Fin 4096
/-- A bolt circuit of the block: [10:8] gate, [7:0] index (R63). -/
abbrev CircuitId := Fin 2048
/-- A circuit at a hop: outgoing port x 256 + index, or at its destination 4096 + incoming port x 256 + index. -/
abbrev HopId := Fin 8192
/-- A signal counter of the ESP (R66). -/
abbrev CounterId := Fin 65536

end Sys2Proof
end

