-- ==== Sys2Proof/Syntax.lean ====
section
/-! DEFINITION. The commands of the block: one constructor per row of spec/opcode_table.json. The table gives no
operand bits, so a constructor's operands are what the row's rule needs to name the event (log entry 7). -/

namespace Sys2Proof

/-- A frame after FEC decoding (R318-R322): its 512-bit body positions in order (64, the last of a gate's being the trailer's place and
not used), the 64 trailer bytes of R321, whether the FEC decoder failed to correct it (R319), and how many code words it corrected (R318,
event CW_CORRECTED of R409). -/
structure Frame where
  body        : List Flit
  trailer     : BitVec 512
  uncorrected : Bool
  corrected   : Nat
deriving DecidableEq, Repr

/-- A present beat of a hinge (R438, R439): its index within the frame, 16 body positions, a quarter of the trailer. -/
structure HingeBeat where
  index : BitVec 2
  data  : BitVec 8192
  side  : BitVec 128
deriving DecidableEq, Repr

/-- What the PHY of a port brings: a hinge's present beats in order (R440), or a gate's code words of R318 in order, up to the one that
completes the frame, each as the symbols received on the logical lanes, and with each the symbols received meanwhile on the spare lane
(R336; none without a spare). -/
inductive RxFrame where
  | hinge (beats : List HingeBeat)
  | gate (words spare : List (List (BitVec 10)))
deriving DecidableEq, Repr

/-- When a frame's first bit crosses a port (R436, R439, R440): how many core cycles before this one the beat that holds it was taken or
given, the phase the PHY reports in 1/64 of a core cycle, and the bit's place in a gate's beat, in unit intervals. A hinge reports a phase
with a received beat 0 alone, and there the operand belongs to the first of the command's beats. -/
structure Crossing where
  ago  : BitVec 16
  frac : BitVec 6
  ui   : BitVec 8
deriving DecidableEq, Repr

/-- A port that sends a frame, and the crossing of the frame's first bit. -/
structure FrameOut where
  port  : Port
  cross : Crossing
deriving DecidableEq, Repr

/-- What the PHY of a port brings of a frame, and the crossing of the frame's first bit. -/
structure FrameIn where
  rx    : RxFrame
  cross : Crossing
deriving DecidableEq, Repr

/-- An inbound key-port message (R459): its header beat, its payload beats, and the number of the beat after the header on which
kp_in_last fell (0 for the header beat itself). -/
structure KeyMsg where
  header : BitVec 64
  beats  : List (BitVec 64)
  last   : Nat
deriving DecidableEq, Repr

/-- A request at the local atomic aperture (R446). -/
structure LocalAtomic where
  addr    : BitVec 52
  aop     : BitVec 4
  atype   : BitVec 4
  operand : BitVec 128
  compare : BitVec 128
  key     : BitVec 6
  id      : BitVec 8
deriving DecidableEq, Repr

/-- The credit an MSP returns (R442). -/
inductive CreditKind where
  /-- a read-request credit -/
  | readRequest
  /-- a write-request credit -/
  | writeRequest
  /-- a write-data credit -/
  | writeData
deriving DecidableEq, Repr

/-- The SRAM store in which an uncorrectable error is found (R397). -/
inductive SramStore where
  /-- receive VC -/
  | rxVc
  /-- COL landing store -/
  | landing
  /-- COPY staging slot -/
  | staging
  /-- latch hold slot -/
  | holdSlot
  /-- Tumbler entry -/
  | tumbler
  /-- Pintle slot -/
  | pintleSlot
  /-- translation cache -/
  | xlateCache
  /-- walk cache -/
  | walkCache
  /-- keyring cache -/
  | keyringCache
  /-- rate cache -/
  | rateCache
  /-- Ward core memories -/
  | wardMem
  /-- window table -/
  | windowTable
  /-- tag table -/
  | tagTable
  /-- range trackers -/
  | rangeTracker
  /-- latch tables and tracker -/
  | latchTable
  /-- bolt reservations -/
  | boltReservation
  /-- resident code tables -/
  | codeTable
  /-- group state -/
  | groupState
deriving DecidableEq, Repr

/-- The commands of the block. -/
inductive Instr where
  /-- AON_RESET_DEASSERT. Deassertion of rst_aon_n begins a cold start and returns both domains to reset values. (R428) -/
  | aonResetDeassert
  /-- CORE_RESET_DEASSERT. Deassertion of rst_core_n while rst_aon_n is 1 begins a warm start; the sequencer leaves OFF for WAIT_GO when clk_core_ok is 1. (R428) -/
  | coreResetDeassert
  /-- CORE_RESET_ASSERT. Assertion of core reset stops every unit at once and returns the sequencer to OFF. (R367) -/
  | coreResetAssert
  /-- CLK_CORE_OK_RISE. clk_core_ok rises while rst_core_n is 1, letting the sequencer leave OFF. (R428) -/
  | clkCoreOkRise
  /-- CLK_CORE_OK_FALL. clk_core_ok falls with the sequencer out of OFF and the block acts as if core reset were asserted. (R428) -/
  | clkCoreOkFall
  /-- PWR_ISO_CHANGE. pwr_iso changes, clamping or releasing every core-domain output at its reset value. (R427) -/
  | pwrIsoChange (v : Bool)
  /-- TST_MODE_CHANGE. tst_mode changes while rst_aon_n is 0, entering or leaving test mode. (R463) -/
  | tstModeChange (v : Bool)
  /-- GO. GLOBAL_START_CMD GO moves the sequencer from WAIT_GO to WAIT_KEYS, or sets CMD_ERR in RUN or FAILED. (R367) -/
  | go
  /-- WARM_RESTART. GLOBAL_START_CMD WARM_RESTART is answered, then holds the core domain in a 16-cycle internal reset. (R365) -/
  | warmRestart
  /-- COLD_RESTART. GLOBAL_START_CMD COLD_RESTART is answered, then holds both domains in a 16-cycle internal reset. (R365) -/
  | coldRestart
  /-- INTERNAL_RESET_END. The 16 clk_ref cycles of internal reset end, which counts as a deassertion of core reset. (R365) -/
  | internalResetEnd
  /-- KP_ROT_READY_CHANGE. kp_rot_ready changes; in WAIT_KEYS a rise starts BIST or moves the sequencer to RUN. (R458) -/
  | kpRotReadyChange (v : Bool)
  /-- BIST_DONE. Buffer BIST completes; the result is recorded and the sequencer enters RUN, permitting ports that passed, or enters FAILED. (R367) -/
  | bistDone (gateFail : BitVec 8) (hingeFail : BitVec 2) (sharedFail : Bool)
  /-- REQUEST_HOLD_END. HOLD_MS elapses after the sequencer left OFF; REQ packets may be sent and HOLDING clears. (R370) -/
  | requestHoldEnd
  /-- CLK_MEASURE. Every 10 µs the core clock is measured over 1,000 clk_ref cycles, updating CORE_MHZ, VALID and DRIFT. (R431) -/
  | clkMeasure (cycles : BitVec 20)
  /-- CSR_WRITE. A CSR write to a register without a row of its own stores its fields under the field types, write conditions and capture rules. (R476) -/
  | csrWrite (a : BitVec 21) (data : Word)
  /-- TIME_NOW_READ. A read of TIME_NOW_LO returns fabric time [31:0] and latches [63:32] into TIME_NOW_HI. (R269) -/
  | timeNowRead
  /-- CNT_VAL_READ. A read of CNT_VAL_LO returns the selected counter's low word and latches the high word. (R410) -/
  | cntValRead
  /-- JOURNAL_SIZE_WRITE. A write of JOURNAL_SIZE.LOG2 with 10–24 stores it and locks the journal registers, setting journal coverage. (R83) -/
  | journalSizeWrite (data : Word)
  /-- ROUTE_SELF_WRITE. A write of ROUTE_SELF with VALID 1 stores NODE and locks ROUTE_SELF, ROUTE_EXTENT and ROUTE_POD, or sets SELF_ERR. (R298) -/
  | routeSelfWrite (data : Word)
  /-- CHAIN_VALIDATE. Writing KNUCKLE_CHAIN_HDR.VALID from 0 to 1 validates program p, or leaves VALID 0 and sets PROG_ERR. (R201) -/
  | chainValidate (p : Fin 256) (data : Word)
  /-- QUEUE_ENABLE. QUEUE_CTL.ENABLE written 1 moves a DISABLED queue to RUNNING with zeroed ring counts, or sets CFG_ERR. (R33) -/
  | queueEnable (q : QueueId) (data : Word)
  /-- QUEUE_DISABLE. QUEUE_CTL.ENABLE written 0 moves a RUNNING or STOPPED queue to DRAINING and aborts fetched unissued descriptors. (R33) -/
  | queueDisable (q : QueueId) (data : Word)
  /-- DOORBELL_SQ_TAIL. A doorbell write of SQ_TAIL sets the submission tail, or is ignored and raises DB_OVF. (R39) -/
  | doorbellSqTail (q : QueueId) (data : Word) (strb : BitVec 4)
  /-- DOORBELL_CQ_HEAD. A doorbell write of CQ_HEAD frees completion slots, or is ignored and raises DB_OVF. (R39) -/
  | doorbellCqHead (q : QueueId) (data : Word) (strb : BitVec 4)
  /-- RESUME. A RESUME doorbell write clears ERR and WAIT_TO and returns a STOPPED queue to RUNNING when no cause remains. (R34) -/
  | resume (q : QueueId) (data : Word) (strb : BitVec 4)
  /-- PUT. A PUT descriptor issues and is cut into WRITE or NYESH packets toward a remote window. (R52) -/
  | put (q : QueueId)
  /-- GET. A GET descriptor issues, translates its local destination and sends READ requests. (R77) -/
  | get (q : QueueId)
  /-- COPY. A COPY descriptor issues, reserving staging slots and tags for reads from the source window. (R78) -/
  | copy (q : QueueId)
  /-- ATOMIC. An ATOMIC descriptor issues, sending a fabric atomic with a journal ID and deadline. (R85) -/
  | atomic (q : QueueId)
  /-- LATCH_PUT. A LATCH_PUT descriptor issues as a held latch, an unheld latch or a latch held at the requester. (R91) -/
  | latchPut (q : QueueId)
  /-- FENCE. A FENCE issues and holds later descriptors until every earlier write of the queue is settled. (R96) -/
  | fence (q : QueueId)
  /-- SIGNAL. A SIGNAL issues and is held until the writes it covers have completed. (R97) -/
  | signal (q : QueueId)
  /-- WAIT. A WAIT issues and holds its queue until the counter condition holds or the timeout elapses. (R67) -/
  | wait (q : QueueId)
  /-- RS. An RS descriptor starts a reduce-scatter at this member of its group, with a handover if the epoch is newer. (R162) -/
  | rs (q : QueueId)
  /-- AG. An AG descriptor starts a gather-to-all at this member of its group. (R162) -/
  | ag (q : QueueId)
  /-- COUNTX. A COUNTX descriptor starts a barrier, then sends one count to each member. (R168) -/
  | countx (q : QueueId)
  /-- PINTLE. A PINTLE descriptor starts a barrier or reduction on the Pintle path, or completes with FEATURE when the group is ABSENT. (R240) -/
  | pintle (q : QueueId)
  /-- BOLT_PUT. A BOLT_PUT is checked and queued on its circuit, with its first slot chosen. (R261) -/
  | boltPut (q : QueueId)
  /-- TABLE_LOAD. A TABLE_LOAD loads a code-table version into a slot or retires one, or is refused. (R210) -/
  | tableLoad (q : QueueId)
  /-- WINDOW_OPEN. WINDOW_OP OPEN takes the free-list head, writes the entry with a new generation and returns a pointer. (R109) -/
  | windowOpen (q : QueueId)
  /-- WINDOW_CLOSE. WINDOW_OP CLOSE moves an OPEN or ALIASED window to CLOSING, refuses its held latches and writes the CLOSE record. (R123) -/
  | windowClose (q : QueueId)
  /-- WINDOW_ALIAS. WINDOW_OP ALIAS turns an OPEN window into an ALIASED one that forwards to ALIAS_TO. (R117) -/
  | windowAlias (q : QueueId)
  /-- XLATE_INV. An XLATE_INV removes cached translations, marks walks stale and snapshots accesses that use old translations. (R140) -/
  | xlateInv (q : QueueId)
  /-- NOP. A NOP completes at issue. (R51) -/
  | nop (q : QueueId)
  /-- NOT_BEFORE_RELEASE. Fabric time reaches the slot named by NOT_BEFORE and the held descriptor may issue. (R46) -/
  | notBeforeRelease (q : QueueId)
  /-- WAIT_TIMEOUT. A WAIT's TIMEOUT elapses first; it completes with TIMEOUT and raises stop cause WAIT_TO. (R67) -/
  | waitTimeout (q : QueueId)
  /-- REQ_PACKET_SEND. A request packet is issued once it holds its tag, tokens, injection budget and credits. (R285) -/
  | reqPacketSend (q : QueueId)
  /-- PACKET_SEND. An output port chooses and sends its next packet by the priority order and deficit round robin. (R290) -/
  | packetSend (p : Port)
  /-- RING_ENTRY_GUARD. A packet has waited INJ_WAIT cycles to enter a ring, and continuing packets of its VC are stopped until it is sent. (R291) -/
  | ringEntryGuard (p : Port) (vc : Fin 5)
  /-- LCF_SEND. A link control flit with cumulative TXC and FREED counts falls due and is sent. (R286) -/
  | lcfSend (p : Port)
  /-- FRAME_SEND. A transmitter assembles and sends a 64-position frame with its trailer, slot marks, encryption and FSEQ. (R320) -/
  | frameSend (fo : FrameOut)
  /-- FRAME_RECEIVE. A received frame is checked and either discarded whole or its body flits are released to the router in order. (R322) -/
  | frameReceive (p : Port) (fr : FrameIn)
  /-- WRITE_ARRIVAL. The responder checks an arriving WRITE request against the window table and issues its writes, or refuses or forwards it. (R20) -/
  | writeArrival
  /-- READ_ARRIVAL. The responder checks an arriving READ request and reads through the MSPs, or refuses or forwards it. (R20) -/
  | readArrival
  /-- ATOMIC_ARRIVAL. An arriving fabric atomic is checked against the window and journal conditions and performed, refused or discarded. (R87) -/
  | atomicArrival
  /-- LATCH_ARRIVAL. An arriving latch is committed, held in a hold slot, refused or answered NO_TRACK. (R93) -/
  | latchArrival
  /-- SIGNAL_ARRIVAL. An arriving SIGNAL addition is checked on a signal window and applied to its counter. (R110) -/
  | signalArrival
  /-- NYESH_ARRIVAL. An arriving Nyesh block is checked by the Tumbler expander and written expanded or compressed, or ends with a status. (R214) -/
  | nyeshArrival
  /-- JQUERY_ARRIVAL. The atomic unit answers a journal query by search in hardware with FOUND, NOT_FOUND or UNKNOWN. (R89) -/
  | jqueryArrival
  /-- LATCH_DEADLINE. Target fabric time reaches a held latch's deadline and the latch is discarded without response. (R93) -/
  | latchDeadline (slot : Fin 256)
  /-- LATCH_RESEND. A latch held at the requester is sent as an unheld latch once OUTST and UNCOUNTED reach zero. (R93) -/
  | latchResend (q : QueueId)
  /-- SIGNAL_SEND. A held SIGNAL's covered writes have completed and it sends its addition or completes with ABORTED. (R97) -/
  | signalSend (q : QueueId)
  /-- MSP_READ_RETURN. A read line returns on an MSP, ending a read request with or without error. (R445) -/
  | mspReadReturn (m : MspId) (tag : BitVec 12) (line : BitVec 1024) (last : Bool) (bad : Bool)
  /-- MSP_WRITE_ACK. An MSP reports a write committed or failed, finishing the access it served. (R445) -/
  | mspWriteAck (m : MspId) (tag : BitVec 12) (bad : Bool)
  /-- MSP_CREDIT_RETURN. The memory side returns a read-request, write-request or write-data credit. (R442) -/
  | mspCreditReturn (m : MspId) (kind : CreditKind)
  /-- SSP_READ_RETURN. A scratchpad read beat returns, with or without error. (R449) -/
  | sspReadReturn (n : SspId) (line : BitVec 1024) (err : Bool)
  /-- WINDOW_QUARANTINE_END. QUARANTINE µs elapse and the window ID is appended to the free list. (R123) -/
  | windowQuarantineEnd (w : WindowId)
  /-- ACK_RECEIVE. The requester receives an ACK, frees the tag and completes the descriptor when it was the last packet. (R74) -/
  | ackReceive
  /-- DATA_RECEIVE. The requester receives a DATA response and writes GET bytes locally or sends a COPY's write half. (R77) -/
  | dataReceive
  /-- ATOMIC_RSP_RECEIVE. The requester receives an atomic's response and writes its record. (R88) -/
  | atomicRspReceive
  /-- JANSWER_RECEIVE. The requester receives a journal answer and resolves the atomic, reissues it or queries again. (R88) -/
  | janswerReceive
  /-- NO_TRACK_RECEIVE. The requester receives NO_TRACK and holds the latch for an unheld resend. (R93) -/
  | noTrackReceive
  /-- BOLT_ACK_RECEIVE. The source receives the end-of-transfer acknowledgement and writes the BOLT_PUT record. (R266) -/
  | boltAckReceive
  /-- RATE_RECOVERY. INTERVAL µs pass with no echo and a rate entry's RATE rises by INCR. (R294) -/
  | rateRecovery (f : FuncId) (node : BitVec 20)
  /-- REQUEST_TIMEOUT. A request's timer expires; its tag enters quarantine and the request is reissued or completes with TIMEOUT. (R389) -/
  | requestTimeout (t : TagId)
  /-- ATOMIC_TIMEOUT. The requester's fabric time reaches D + 16 ns with no response and the atomic is handed to policy firmware. (R88) -/
  | atomicTimeout (t : TagId)
  /-- TAG_QUARANTINE_END. 4T pass since a timed-out request was sent and its tag is freed. (R390) -/
  | tagQuarantineEnd (t : TagId)
  /-- WORK_ITEM_POST. Hardware posts a work item to the Ward queue once room appears. (R382) -/
  | workItemPost
  /-- RETRY_REISSUE. Policy firmware reissues a timed-out request under a new tag and timeout. (R392) -/
  | retryReissue (t : TagId)
  /-- JOURNAL_QUERY_SEND. Policy firmware sends a journal query for a timed-out atomic. (R88) -/
  | journalQuerySend (t : TagId)
  /-- JOURNAL_RECLAIM. Target fabric time passes an oldest entry's retention and the entry is reclaimed, raising COVER. (R87) -/
  | journalReclaim
  /-- LA_ATOMIC. The local atomic aperture takes an engine atomic and routes it to the atomic unit of its address. (R447) -/
  | laAtomic (req : LocalAtomic)
  /-- ES_READ. The ESP takes a READ request and answers with the counter value 3 cycles later. (R451) -/
  | esRead (c : CounterId) (id : BitVec 8)
  /-- ES_WRITE. The ESP takes a WRITE that stores all 64 bits of a counter, SLOT_LATE included. (R451) -/
  | esWrite (c : CounterId) (v : BitVec 64) (id : BitVec 8)
  /-- ES_ADD. The ESP takes an ADD to a counter's COUNT modulo 2^63. (R451) -/
  | esAdd (c : CounterId) (v : BitVec 64) (id : BitVec 8)
  /-- TABLE_LOAD_READ_DONE. A loading table image has been read and is validated, made resident or discarded. (R210) -/
  | tableLoadReadDone
  /-- KEYRING_ACTIVATE. KEYRING_CMD ACTIVATE reads and checks a group's entry and member list. (R150) -/
  | keyringActivate (k : GroupId)
  /-- KEYRING_DEACTIVATE. KEYRING_CMD DEACTIVATE discards a group's state and frees its Pintle slots. (R150) -/
  | keyringDeactivate (k : GroupId)
  /-- KEYRING_ACTIVATE_DONE. An activation's reads end and policy firmware acknowledges it; the group enters IDLE or the command fails with CAUSE. (R150) -/
  | keyringActivateDone
  /-- READY_ARRIVAL. A GROUP READY from a peer arrives and grants landing-store room for COL data. (R154) -/
  | readyArrival
  /-- COL_ARRIVAL. A COL packet arrives and is accepted into the landing store or discarded. (R156) -/
  | colArrival
  /-- ABORT_ARRIVAL. A GROUP ABORT arrives, faults the epoch and is relayed over the tree. (R172) -/
  | abortArrival
  /-- SWEEP_ARRIVAL. A SWEEP_UP or SWEEP_DOWN arrives, advancing a handover, COUNTX barrier or confirmation sweep. (R158) -/
  | sweepArrival
  /-- COUNT_ARRIVAL. A COUNTX count arrives and is written into RECV. (R169) -/
  | countArrival
  /-- PROBE_ARRIVAL. A PROBE is marked with missing features and forwarded, or answered at its target. (R174) -/
  | probeArrival
  /-- PROBE_ANSWER_ARRIVAL. A probe answer arrives and the collective proceeds or completes with FEATURE. (R174) -/
  | probeAnswerArrival
  /-- PROGRESS_TIMEOUT. A chunk's progress timer expires and the epoch faults with reason PROGRESS. (R171) -/
  | progressTimeout (k : GroupId)
  /-- KNUCKLE_PASS. A Knuckle unit folds a chunk once all its operands are present and sends it on or writes it. (R24) -/
  | knucklePass (u : Gate)
  /-- PINTLE_FLIT_ARRIVAL. A Pintle flit is forwarded cut-through, copied into its slot, and a stage folds once all values are held. (R240) -/
  | pintleFlitArrival
  /-- PINTLE_STAGE_TIMEOUT. A Pintle stage waits past WAIT_US and the epoch faults with PROGRESS. (R245) -/
  | pintleStageTimeout (k : GroupId)
  /-- PINTLE_HANDOVER_RESEND. Every WAIT_US a member in a Pintle handover resends its flit of its current stage. (R246) -/
  | pintleHandoverResend (k : GroupId)
  /-- BOLT_SETUP_CMD. BOLT_CMD SETUP sends a SETUP message along the circuit's path. (R257) -/
  | boltSetupCmd (data : Word)
  /-- BOLT_TEARDOWN_CMD. BOLT_CMD TEARDOWN moves an ACTIVE circuit to CLOSING, or sends RELEASE for a BROKEN one. (R260) -/
  | boltTeardownCmd (data : Word)
  /-- BOLT_SETUP_ARRIVAL. A hop or destination applies its admission checks to SETUP and holds or refuses the reservation. (R258) -/
  | boltSetupArrival
  /-- BOLT_ANSWER_ARRIVAL. An answer passes a hop, committing or releasing its reservation, and at the source sets BOLT_STATUS. (R257) -/
  | boltAnswerArrival
  /-- BOLT_RELEASE_ARRIVAL. A RELEASE passes a hop and frees its reservation. (R260) -/
  | boltReleaseArrival
  /-- BOLT_BREAK_ARRIVAL. A BREAK reaches an end, moving the circuit to BROKEN and aborting its transfers. (R260) -/
  | boltBreakArrival
  /-- BOLT_SETUP_TIMEOUT. A PENDING circuit receives no answer within 1 ms and releases its reservation. (R260) -/
  | boltSetupTimeout (c : HopId)
  /-- SLOT_BEGIN. A slot begins at a block; bolt prefetch reads start for slot k and reserved packets or empty-slot markers go out at send points. (R249) -/
  | slotBegin
  /-- BOLT_READ_TIMEOUT. A bolt prefetch read has been outstanding one request timeout and an ABORT marker is sent. (R264) -/
  | boltReadTimeout (c : CircuitId)
  /-- BOLT_ACK_TIMEOUT. One request timeout passes in ACK_WAIT and the BOLT_PUT completes with TIMEOUT. (R264) -/
  | boltAckTimeout (c : CircuitId)
  /-- BLT_ARRIVAL. Bolt packets arrive at the destination's landing area and are committed, or discarded on overflow, with the transfer acknowledged at its end. (R265) -/
  | bltArrival
  /-- TIME_ENABLE. TIME_CTL.ENABLE written 1 starts mastering or discipline of fabric time. (R250) -/
  | timeEnable (data : Word)
  /-- TIME_DISABLE. TIME_CTL.ENABLE written 0 puts the time unit into HOLDOVER. (R250) -/
  | timeDisable (data : Word)
  /-- TIME_EXCHANGE_START. Every 256 slots a parent sends SYNC on a port to start an exchange. (R251) -/
  | timeExchangeStart (p : Port)
  /-- SYNC_ARRIVAL. A child stamps a SYNC and replies with DELAY_REQ. (R251) -/
  | syncArrival
  /-- DELAY_REQ_ARRIVAL. A parent stamps a DELAY_REQ and returns DELAY_RESP. (R251) -/
  | delayReqArrival
  /-- DELAY_RESP_ARRIVAL. A child computes path delay and offset and steps, slews or locks its fabric time. (R250) -/
  | delayRespArrival
  /-- TIME_HOLDOVER_TIMEOUT. 64 µs pass without a valid exchange and the time unit enters HOLDOVER. (R250) -/
  | timeHoldoverTimeout
  /-- TIME_HOLD_MAX. HOLD_MAX superframes of holdover pass and every circuit with a hop at this block breaks. (R250) -/
  | timeHoldMax
  /-- ROUTE_HOLD. ROUTE_CMD HOLD starts holding ring entries and the drain timer. (R309) -/
  | routeHold
  /-- ROUTE_COMMIT. ROUTE_CMD COMMIT in DRAINED loads the active set, increments EPOCH, sends ANNOUNCE and stops holding. (R309) -/
  | routeCommit
  /-- ROUTE_RELEASE. ROUTE_CMD RELEASE stops holding and leaves the active set unchanged. (R309) -/
  | routeRelease
  /-- CLEAR_PEAKS. ROUTE_CMD.CLEAR_PEAKS clears every ROUTE_TELEM_PEAK. (R311) -/
  | clearPeaks
  /-- ROUTE_DRAIN_DONE. DRAIN_US elapse in HOLDING and the route state becomes DRAINED. (R309) -/
  | routeDrainDone
  /-- ANNOUNCE_ARRIVAL. A ROUTE ANNOUNCE arrives and the port becomes routable or is marked miswired. (R304) -/
  | announceArrival
  /-- GATE_ENABLE. GATE_CTL.ENABLE written 1 starts training in FAST or PROBE when start control permits. (R330) -/
  | gateEnable (g : Gate) (data : Word)
  /-- GATE_DISABLE. GATE_CTL.ENABLE written 0 sends DOWN, idles the lanes and takes the gate to DISABLED. (R330) -/
  | gateDisable (g : Gate) (data : Word)
  /-- RETRAIN. GATE_CMD.RETRAIN leaves READY with cause 11, clears ATTEMPTS and COEF_VALID and trains cold. (R342) -/
  | retrain (p : Port)
  /-- RETRY. GATE_CMD.RETRY in BACKOFF ends the delay and starts training again. (R332) -/
  | retry (p : Port)
  /-- HINGE_ENABLE. HINGE_CTL.ENABLE written 1 or 0 moves a hinge port to WAIT_PHY or to DISABLED. (R340) -/
  | hingeEnable (h : Hinge) (data : Word)
  /-- HINGE_LINK_CHANGE. hg_link_up changes, starting DISCOVER or ending READY with cause 6. (R340) -/
  | hingeLinkChange (h : Hinge) (v : Bool)
  /-- WAIT_PHY_TIMEOUT. A hinge port waits more than 10 ms for its PHY link and enters BACKOFF with cause 1. (R340) -/
  | waitPhyTimeout (h : Hinge)
  /-- LANE_LOCK_CHANGE. A PHY receiver's lock on a lane changes. (R337) -/
  | laneLockChange (g : Gate) (l : Lane) (v : Bool)
  /-- LANE_LOCK_LOSS_TIMEOUT. A lane stays out of lock for 100 ns and fails. (R337) -/
  | laneLockLossTimeout (g : Gate) (l : Lane)
  /-- LANE_SER_WINDOW. A 1 ms symbol-error window ends and a lane above the threshold fails. (R337) -/
  | laneSerWindow (g : Gate) (l : Lane) (exponent : BitVec 8)
  /-- RATE_ACK_CHANGE. gt_rate_ack reports the PHY running at the presented rate and beats resume. (R433) -/
  | rateAckChange (g : Gate) (v : Bool)
  /-- PHY_CFG_DONE. gt_cfg_done ends an equalization request, with its result or error. (R435) -/
  | phyCfgDone (g : Gate) (rdata : BitVec 64) (err : Bool)
  /-- PHY_CFG_TIMEOUT. An equalization request gets no done within 1 ms and its lane counts as failed. (R435) -/
  | phyCfgTimeout (g : Gate)
  /-- FAST_TIMEOUT. FAST fails to lock or match the partner within 200 µs and the gate clears COEF_VALID and enters PROBE. (R330) -/
  | fastTimeout (g : Gate)
  /-- PROBE_TIMEOUT. PROBE ends at 4 ms, entering DISCOVER with four lanes locked or BACKOFF with cause 1. (R330) -/
  | probeTimeout (g : Gate)
  /-- EQUALIZE_WINDOW_END. An equalization window ends and the gate returns to 56 Gb/s to exchange TRAIN_RESULT. (R333) -/
  | equalizeWindowEnd (g : Gate)
  /-- KEYS_TIMEOUT. 100 ms pass in KEYS and the port enters BACKOFF with cause 5. (R330) -/
  | keysTimeout (p : Port)
  /-- BACKOFF_END. The backoff delay ends and the port trains again from FAST or PROBE. (R332) -/
  | backoffEnd (p : Port)
  /-- DISCOVER_ARRIVAL. A LINK DISCOVER arrives and both ends negotiate version, rate, width, FEC and encryption. (R331) -/
  | discoverArrival
  /-- TRAIN_RESULT_ARRIVAL. A LINK TRAIN_RESULT arrives and the gate fixes its rate or lowers its target. (R330) -/
  | trainResultArrival
  /-- LANE_FAIL_ARRIVAL. A LINK LANE_FAIL arrives and the transmitter moves the failed lane's data onto the spare from the named frame. (R338) -/
  | laneFailArrival
  /-- WIDTH_ARRIVAL. A LINK WIDTH arrives and both directions move to x4 at the named frames. (R339) -/
  | widthArrival
  /-- KEY_SWITCH_ARRIVAL. A LINK KEY_SWITCH arrives and the receiver applies the new key from START_FSEQ. (R325) -/
  | keySwitchArrival
  /-- RECAL_ARRIVAL. A LINK RECAL arrives and its adjustment is passed to the PHY as TX_ADJUST. (R336) -/
  | recalArrival
  /-- DOWN_ARRIVAL. A LINK DOWN arrives and the port leaves READY with cause 9. (R341) -/
  | downArrival
  /-- SPARE_ROTATE_START. Every DWELL_US the transmitter names NEXTSP and begins the 255-frame countdown. (R336) -/
  | spareRotateStart (g : Gate)
  /-- LANE_FAIL_RESEND. Every 2 µs a receiver resends LANE_FAIL until the trailers show no spare. (R338) -/
  | laneFailResend (g : Gate)
  /-- WIDTH_RESEND. Every 2 µs a port resends WIDTH until the trailers show X4. (R339) -/
  | widthResend (g : Gate)
  /-- KEYX_ARRIVAL. A KEYX fragment arrives and a complete message is passed to the root-of-trust as KEYX_IN. (R359) -/
  | keyxArrival
  /-- KEYX_OUT. The root-of-trust's KEYX_OUT is cut into fragments and sent to the partner. (R359) -/
  | keyxOut (m : KeyMsg)
  /-- KEY_LOAD. KEY_LOAD fills the next phase's key slot of a port and direction, or is ignored with LOAD_ERR. (R358) -/
  | keyLoad (m : KeyMsg)
  /-- KEY_ARM. KEY_ARM permits the transmitter to send KEY_SWITCH and switch to its loaded key. (R360) -/
  | keyArm (m : KeyMsg)
  /-- REJECT. REJECT sends the port to BACKOFF with cause 5 and erases its slots. (R358) -/
  | reject (m : KeyMsg)
  /-- FUNC_ENABLE. FUNC_CMD ENABLE enables a function, zeroing its counters and discarding its translations, or is refused. (R348) -/
  | funcEnable (f : FuncId)
  /-- FUNC_DISABLE. FUNC_CMD DISABLE moves a function to DRAINING and starts its drain deadline. (R348) -/
  | funcDisable (f : FuncId)
  /-- FUNC_DRAIN_DEADLINE. The drain deadline expires and every operation of the function still in progress ends. (R349) -/
  | funcDrainDeadline (f : FuncId)
  /-- WARD_STAGE. WARD_CMD STAGE starts reading an image into the inactive slot. (R379) -/
  | wardStage
  /-- WARD_STAGE_DONE. The staged image's reads end and it is verified, setting STAGED or CAUSE. (R379) -/
  | wardStageDone
  /-- WARD_SWITCH. WARD_CMD SWITCH starts the staged image, restarts the active one or requests a checkpoint. (R380) -/
  | wardSwitch
  /-- WARD_HALT. WARD_CMD HALT stops the image at its next checkpoint. (R380) -/
  | wardHalt
  /-- WARD_IMAGE_UP. The starting image declares itself up and work-item delivery resumes. (R380) -/
  | wardImageUp
  /-- WARD_START_TIMEOUT. 100 µs pass in STARTING and the block reverts to the previous image or halts. (R380) -/
  | wardStartTimeout
  /-- WARD_CHECKPOINT_YIELD. The running image yields at a checkpoint and the slots are swapped. (R380) -/
  | wardCheckpointYield
  /-- WARD_CKPT_TIMEOUT. CKPT_US pass without a yield; the switch is cancelled, or a HALT stops the image. (R380) -/
  | wardCkptTimeout
  /-- WARD_HEARTBEAT_MISS. The image misses its heartbeat for 1 ms and the Ward core halts with WDOG. (R380) -/
  | wardHeartbeatMiss
  /-- WARD_POLICY_WRITE. A Ward write to a policy field is clamped and applied, or dropped with DENIED. (R383) -/
  | wardPolicyWrite (a : BitVec 21) (data : Word)
  /-- JQUERY. WARD_SVC_CMD JQUERY asks policy firmware to query the journal for a listed atomic. (R384) -/
  | jquery
  /-- ST_REQUEST. GLOBAL_ST_CMD REQUEST starts a self-test, or defers it as PENDING. (R403) -/
  | stRequest
  /-- ST_CANCEL. GLOBAL_ST_CMD CANCEL ends a pending or running self-test with ABORTED. (R404) -/
  | stCancel
  /-- ST_DEFERRED_START. A deferred self-test starts once its condition holds. (R403) -/
  | stDeferredStart
  /-- ST_DONE. A self-test ends with its CODE and ST_INFO. (R404) -/
  | stDone (fail : Bool) (idx : Word)
  /-- SRAM_UNCORRECTABLE. An uncorrectable SRAM error discards, refetches, halts the Ward core or declares FATAL by store. (R397) -/
  | sramUncorrectable (st : SramStore) (idx : BitVec 18)
  /-- ERRLOG_COALESCE_EXPIRE. COALESCE_US pass since a pending error record's first occurrence and it is written or dropped. (R401) -/
  | errlogCoalesceExpire
  /-- DUMP_NOW. CNT_CMD DUMP_NOW captures every counter in one cycle and starts writing the dump. (R411) -/
  | dumpNow
  /-- DUMP_AT. CNT_CMD DUMP_AT arms a dump for a fabric instant, or is refused. (R412) -/
  | dumpAt
  /-- VIEW. CNT_CMD VIEW writes a function's tenant view once. (R413) -/
  | view (f : FuncId)
  /-- DUMP_TRIGGER. Fabric time reaches an armed dump instant and the counters are captured. (R412) -/
  | dumpTrigger
  /-- DUMP_WRITE_DONE. A dump's writes end, committing SEQ, or the dump is abandoned with FAULT. (R411) -/
  | dumpWriteDone
  /-- VIEW_PERIOD. PERIOD_US elapse and an enabled function's view is written. (R413) -/
  | viewPeriod (f : FuncId)
  /-- KH_ARM. KH_CMD ARM stores KH_AT and arms a Keyhole snapshot. (R421) -/
  | khArm
  /-- KH_DISARM. KH_CMD DISARM returns an armed Keyhole unit to IDLE. (R421) -/
  | khDisarm
  /-- KH_NOW. KH_CMD NOW triggers a Keyhole snapshot in this cycle. (R421) -/
  | khNow
  /-- KH_TRIGGER. Fabric time reaches KH_AT and the snapshot capture begins. (R412) -/
  | khTrigger
  /-- KH_CAPTURE_DONE. The last Keyhole entry is captured and writing begins. (R421) -/
  | khCaptureDone
  /-- KH_WRITE_DONE. The snapshot's writes commit or fail, and the unit enters DONE or FAILED. (R421) -/
  | khWriteDone
  /-- TRACE_RECORD_WRITE. A trace record leaves the FIFO and is written to the trace ring, or dropped with a loss mark. (R414) -/
  | traceRecordWrite
  /-- AON_RESET_ASSERT. Assertion of rst_aon_n puts both the AON and the core domain into reset at once, whatever rst_core_n holds. (R428) -/
  | aonResetAssert
  /-- SCRATCHPAD_SLOT_OFFER. The scratchpad raises sp_slot, offering a read slot that the block uses for a pending SSP read or lets lapse. (R449) -/
  | scratchpadSlotOffer (n : SspId)
  /-- CORRECTED_SRAM_ERROR. A single-bit SRAM error is corrected by ECC and counted in SRAM_CORRECTED, with no other effect. (R397) -/
  | correctedSramError
  /-- KEY_PORT_BEAT_TAKEN. The root-of-trust raises kp_out_ready and takes an outbound key-port beat, freeing room in the 16 KiB outbound buffer. (R460) -/
  | keyPortBeatTaken
deriving DecidableEq, Repr

end Sys2Proof
end

