-- ==== Sys2Proof/Decode.lean ====
section
/-! DEFINITION. Commands spelled by table words: spec/opcode_table.json gives no row any bits, so there are none. -/

namespace Sys2Proof

/-- The command that the low `nbits` bits `w` spell. No row of the table has fields, so every word is refused. -/
def decodeTableWord (nbits w : Nat) : Option Instr :=
  match nbits, w with
  | _, _ => none

end Sys2Proof
end

