-- ==== Sys2Proof/Machine/Bits.lean ====
section
/-! DEFINITION. Bit fields, byte order and sorted maps: the plain helpers every unit uses (R8). -/

namespace Sys2Proof.Machine

/-- Bits [lo+w-1:lo] of a number. -/
def bits (n lo w : Nat) : Nat := n / 2 ^ lo % 2 ^ w

/-- Bit `i` of a number as a Bool. -/
def bit (n i : Nat) : Bool := n / 2 ^ i % 2 == 1

/-- A word put together from (lo, width, value) fields that do not overlap. -/
def pack : List (Nat × Nat × Nat) → Nat
  | [] => 0
  | (lo, w, v) :: t => v % 2 ^ w * 2 ^ lo + pack t

/-- 1 for true. -/
def b2n (b : Bool) : Nat := if b then 1 else 0

/-- `len` bytes of `n`, least significant first (R8). -/
def toLE : Nat → Nat → Bytes
  | 0, _ => []
  | len + 1, n => BitVec.ofNat 8 n :: toLE len (n / 256)

/-- The number a little-endian byte string holds (R8). -/
def ofLE : Bytes → Nat
  | [] => 0
  | b :: t => b.toNat + 256 * ofLE t

/-- `len` bytes of `bs` from offset `off`. -/
def slice (bs : Bytes) (off len : Nat) : Bytes := (bs.drop off).take len

/-- The little-endian number in `len` bytes at offset `off`. -/
def leAt (bs : Bytes) (off len : Nat) : Nat := ofLE (slice bs off len)

/-- `bs` cut or padded with zeros to `len` bytes. -/
def padTo (len : Nat) (bs : Bytes) : Bytes := (bs ++ List.replicate (len - bs.length) 0).take len

/-- Two's-complement value of the low `w` bits. -/
def toSigned (w n : Nat) : Int :=
  let v := n % 2 ^ w
  if v < 2 ^ (w - 1) then (v : Int) else (v : Int) - (2 ^ w : Nat)

/-- The low `w` bits of an integer. -/
def ofSigned (w : Nat) (i : Int) : Nat := (i % ((2 ^ w : Nat) : Int)).toNat

/-- `n` rounded up to a multiple of `m`. -/
def roundUp (n m : Nat) : Nat := (n + m - 1) / m * m

/-- `a - b` modulo 2^w. -/
def subMod (w a b : Nat) : Nat := (a % 2 ^ w + 2 ^ w - b % 2 ^ w) % 2 ^ w

/-- A finite map from numbers, its keys strictly rising. -/
abbrev SMap (α : Type) := List (Nat × α)

/-- The value at a key. -/
def SMap.get? {α : Type} (m : SMap α) (k : Nat) : Option α :=
  match m with
  | [] => none
  | (j, v) :: t => if j = k then some v else SMap.get? t k

/-- The value at a key, or the default of an unlisted key. -/
def SMap.getD {α : Type} (m : SMap α) (k : Nat) (d : α) : α := (SMap.get? m k).getD d

/-- The map with `v` at `k`. -/
def SMap.put {α : Type} (m : SMap α) (k : Nat) (v : α) : SMap α :=
  match m with
  | [] => [(k, v)]
  | (j, u) :: t =>
    if k < j then (k, v) :: (j, u) :: t
    else if k = j then (k, v) :: t
    else (j, u) :: SMap.put t k v

/-- The map without `k`. -/
def SMap.del {α : Type} (m : SMap α) (k : Nat) : SMap α := m.filter (fun p => p.1 ≠ k)

/-- The map with `v` at `k`, where an unlisted key reads as `d`: no entry equals the default. -/
def SMap.putD {α : Type} [BEq α] (m : SMap α) (k : Nat) (v d : α) : SMap α :=
  if v == d then SMap.del m k else SMap.put m k v

/-- Change the value at a key if there is one. -/
def SMap.modify {α : Type} (m : SMap α) (k : Nat) (f : α → α) : SMap α :=
  m.map (fun p => if p.1 = k then (p.1, f p.2) else p)

/-- The values in key order. -/
def SMap.vals {α : Type} (m : SMap α) : List α := m.map (·.2)

/-- The least number below `n` that is no key, searched from `k`. -/
def SMap.freeKey {α : Type} (m : SMap α) : Nat → Nat → Option Nat
  | 0, _ => none
  | n + 1, k => if (SMap.get? m k).isNone then some k else SMap.freeKey m n (k + 1)

/-- Keys strictly rise. -/
def SMap.wf {α : Type} : SMap α → Bool
  | [] => true
  | [_] => true
  | (j, _) :: (k, v) :: t => decide (j < k) && SMap.wf ((k, v) :: t)

/-- The first element that satisfies `p`, and the list without it. -/
def takeFirst {α : Type} (p : α → Bool) : List α → Option (α × List α)
  | [] => none
  | x :: t => if p x then some (x, t) else (takeFirst p t).map (fun r => (r.1, x :: r.2))

/-- `f` applied `n` times. -/
def iterate {α : Type} (f : α → α) : Nat → α → α
  | 0, a => a
  | n + 1, a => iterate f n (f a)

/-- Change element `i` of a list. -/
def modifyAt {α : Type} (l : List α) (i : Nat) (f : α → α) : List α :=
  match l, i with
  | [], _ => []
  | x :: t, 0 => f x :: t
  | x :: t, n + 1 => x :: modifyAt t n f

end Sys2Proof.Machine
end

