-- ==== Sys2Proof/Machine/Float.lean ====
section
/-! DEFINITION. Number formats (R182-R185) and the arithmetic of Knuckle units and atomics (R81, R187): exact values, one rounding. -/

namespace Sys2Proof.Machine

/-- A float value: NaN, an infinity, or a signed magnitude `mant` x 2^`exp`; a zero has a sign. -/
inductive FVal where
  /-- not a number -/
  | nan
  /-- an infinity -/
  | inf (neg : Bool)
  /-- a finite value -/
  | fin (neg : Bool) (mant : Nat) (exp : Int)
deriving DecidableEq, Repr

/-- A float format: exponent and mantissa widths, bias, whether it has infinities, whether its all-ones code is its only NaN, whether
it has no NaN at all, and the NaN the block writes (R182). -/
structure FFmt where
  ew   : Nat
  mw   : Nat
  bias : Nat
  inf  : Bool
  oneNan : Bool
  nan  : Nat
deriving DecidableEq, Repr

def fE4M3 : FFmt := ⟨4, 3, 7, false, true, 0x7F⟩
def fE5M2 : FFmt := ⟨5, 2, 15, true, false, 0x7E⟩
def fFp16 : FFmt := ⟨5, 10, 15, true, false, 0x7E00⟩
def fBf16 : FFmt := ⟨8, 7, 127, true, false, 0x7FC0⟩
def fFp32 : FFmt := ⟨8, 23, 127, true, false, 0x7FC00000⟩
def fFp64 : FFmt := ⟨11, 52, 1023, true, false, 0x7FF8000000000000⟩
def fE3M2 : FFmt := ⟨3, 2, 3, false, false, 0⟩
def fE2M3 : FFmt := ⟨2, 3, 1, false, false, 0⟩
def fE2M1 : FFmt := ⟨2, 1, 1, false, false, 0⟩

/-- Flags as the IEEE field orders them: invalid, overflow, underflow, inexact. -/
def flInvalid : Nat := 1
def flOverflow : Nat := 2
def flUnderflow : Nat := 4
def flInexact : Nat := 8

/-- OR of two flag sets. -/
def flOr (a b : Nat) : Nat := Nat.lor a b

/-- The value a code denotes (R184). -/
def FFmt.decode (f : FFmt) (n : Nat) : FVal :=
  let m := bits n 0 f.mw
  let e := bits n f.mw f.ew
  let s := bit n (f.mw + f.ew)
  let top := 2 ^ f.ew - 1
  if e = top ∧ f.inf then (if m = 0 then .inf s else .nan)
  else if e = top ∧ f.oneNan ∧ m = 2 ^ f.mw - 1 then .nan
  else if e = 0 then .fin s m (1 - (f.bias : Int) - f.mw)
  else .fin s (m + 2 ^ f.mw) ((e : Int) - f.bias - f.mw)

/-- Largest finite magnitude: (mantissa, exponent). -/
def FFmt.maxFin (f : FFmt) : Nat × Int :=
  if f.inf then (2 ^ (f.mw + 1) - 1, (2 ^ f.ew - 2 : Nat) - (f.bias : Int) - f.mw)
  else if f.oneNan then (2 ^ (f.mw + 1) - 2, (2 ^ f.ew - 1 : Nat) - (f.bias : Int) - f.mw)
  else (2 ^ (f.mw + 1) - 1, (2 ^ f.ew - 1 : Nat) - (f.bias : Int) - f.mw)

/-- Exponent of the lowest bit of a subnormal. -/
def FFmt.emin (f : FFmt) : Int := 1 - (f.bias : Int) - f.mw

/-- a x 2^x is greater than b x 2^y. -/
def magGt (a : Nat) (x : Int) (b : Nat) (y : Int) : Bool :=
  if x ≥ y then decide (a * 2 ^ (x - y).toNat > b) else decide (a > b * 2 ^ (y - x).toNat)

/-- Number of bits of a number. -/
def bitLen (n : Nat) : Nat := if n = 0 then 0 else Nat.log2 n + 1

/-- m / 2^k rounded to nearest, ties to even, and whether it was exact. -/
def rne (m k : Nat) : Nat × Bool :=
  let q := m / 2 ^ k
  let r := m % 2 ^ k
  if r = 0 then (q, true)
  else if 2 * r > 2 ^ k ∨ (2 * r = 2 ^ k ∧ q % 2 = 1) then (q + 1, false)
  else (q, false)

/-- A magnitude rounded into a format's significand and subnormal range: mantissa, exponent, exactness. -/
def FFmt.roundMag (f : FFmt) (m : Nat) (e : Int) : Nat × Int × Bool :=
  let q := max (e + bitLen m - (f.mw + 1)) f.emin
  if q ≤ e then (m * 2 ^ (e - q).toNat, q, true)
  else
    let (r, ex) := rne m (q - e).toNat
    (r, q, ex)

/-- Code of a rounded magnitude. -/
def FFmt.packMag (f : FFmt) (neg : Bool) (m : Nat) (q : Int) : Nat :=
  let s := b2n neg * 2 ^ (f.ew + f.mw)
  let (m, q) := if m ≥ 2 ^ (f.mw + 1) then (m / 2, q + 1) else (m, q)
  if m < 2 ^ f.mw then s + m
  else s + (m - 2 ^ f.mw) + (q + f.mw + f.bias).toNat * 2 ^ f.mw

/-- Encode a value into a format (R185): code and flags. -/
def FFmt.encode (f : FFmt) (v : FVal) : Nat × Nat :=
  match v with
  | .nan => (f.nan, 0)
  | .inf neg => if f.inf then (b2n neg * 2 ^ (f.ew + f.mw) + (2 ^ f.ew - 1) * 2 ^ f.mw, 0) else (f.nan, flInvalid)
  | .fin neg m e =>
    if m = 0 then (b2n neg * 2 ^ (f.ew + f.mw), 0)
    else
      let (r, q, exact) := f.roundMag m e
      if magGt r q f.maxFin.1 f.maxFin.2 then
        if f.inf then (b2n neg * 2 ^ (f.ew + f.mw) + (2 ^ f.ew - 1) * 2 ^ f.mw, flOverflow + flInexact)
        else (f.packMag neg f.maxFin.1 f.maxFin.2, flOverflow + flInexact)
      else
        let tiny := !exact && magGt (2 ^ f.mw) f.emin r q
        (f.packMag neg r q, (if exact then 0 else flInexact) + (if tiny then flUnderflow else 0))

/-- A value rounded into a format, with flags. -/
def FFmt.round (f : FFmt) (v : FVal) : FVal × Nat :=
  let (c, fl) := f.encode v
  (f.decode c, fl)

/-- Magnitude of a finite value shifted to a common exponent, signed. -/
def scaled (neg : Bool) (m : Nat) (e base : Int) : Int :=
  let x : Int := (m * 2 ^ (e - base).toNat : Nat)
  if neg then -x else x

/-- Exact sum (R187): flags only for opposite infinities. -/
def fAdd (a b : FVal) : FVal × Nat :=
  match a, b with
  | .nan, _ => (.nan, 0)
  | _, .nan => (.nan, 0)
  | .inf x, .inf y => if x = y then (.inf x, 0) else (.nan, flInvalid)
  | .inf x, _ => (.inf x, 0)
  | _, .inf y => (.inf y, 0)
  | .fin na ma ea, .fin nb mb eb =>
    let base := min ea eb
    let t := scaled na ma ea base + scaled nb mb eb base
    if t = 0 then (.fin (na && nb) 0 base, 0) else (.fin (decide (t < 0)) t.natAbs base, 0)

/-- Exact product (R192). -/
def fMul (a b : FVal) : FVal × Nat :=
  match a, b with
  | .nan, _ => (.nan, 0)
  | _, .nan => (.nan, 0)
  | .inf x, .inf y => (.inf (x != y), 0)
  | .inf x, .fin n m _ => if m = 0 then (.nan, flInvalid) else (.inf (x != n), 0)
  | .fin n m _, .inf y => if m = 0 then (.nan, flInvalid) else (.inf (n != y), 0)
  | .fin na ma ea, .fin nb mb eb => (.fin (na != nb) (ma * mb) (ea + eb), 0)

/-- a is less than b in the order of minimumNumber: -0 below +0; neither is NaN. -/
def fLt (a b : FVal) : Bool :=
  match a, b with
  | .inf x, .inf y => x && !y
  | .inf x, _ => x
  | _, .inf y => !y
  | .fin na ma ea, .fin nb mb eb =>
    let base := min ea eb
    let x := scaled na ma ea base
    let y := scaled nb mb eb base
    if x = y then (ma == 0 && na && !nb) else decide (x < y)
  | _, _ => false

/-- minimumNumber and maximumNumber (R187). -/
def fMin (a b : FVal) : FVal :=
  match a, b with
  | .nan, x => x
  | x, .nan => x
  | x, y => if fLt y x then y else x
def fMax (a b : FVal) : FVal :=
  match a, b with
  | .nan, x => x
  | x, .nan => x
  | x, y => if fLt x y then y else x

/-- Magnitude and negation. -/
def fAbs (a : FVal) : FVal :=
  match a with
  | .nan => .nan
  | .inf _ => .inf false
  | .fin _ m e => .fin false m e
def fNeg (a : FVal) : FVal :=
  match a with
  | .nan => .nan
  | .inf n => .inf !n
  | .fin n m e => .fin (!n) m e

/-- The value is a zero of either sign. -/
def fZero (a : FVal) : Bool :=
  match a with
  | .fin _ 0 _ => true
  | _ => false

/-- A value scaled by 2^k. -/
def fScale (a : FVal) (k : Int) : FVal :=
  match a with
  | .fin n m e => .fin n m (e + k)
  | x => x

/-! ## Integers -/

/-- Saturate an integer into `w` bits: value and flags (R185). -/
def satInt (w : Nat) (i : Int) : Int × Nat :=
  let hi : Int := 2 ^ (w - 1) - 1
  let lo : Int := -2 ^ (w - 1)
  if i > hi then (hi, flOverflow) else if i < lo then (lo, flOverflow) else (i, 0)

/-! ## Atomics (R81) -/

/-- A code is a signalling NaN of a format. -/
def FFmt.snan (f : FFmt) (n : Nat) : Bool := f.decode n == .nan && !bit n (f.mw - 1)

/-- The new value of an atomic and the flags its one operation raises (R81). `old` has the operand size. -/
def atomicNew (aop atype old opnd cmp : Nat) : Nat × Nat :=
  let w := if atype = 0 ∨ atype = 2 ∨ atype = 4 ∨ atype = 6 then 32 else if atype = 8 then 128 else 64
  let opnd := opnd % 2 ^ w
  let f := if atype = 4 then fFp32 else fFp64
  let float := atype = 4 ∨ atype = 5
  let sn := if float ∧ (f.snan old ∨ f.snan opnd) then flInvalid else 0
  let signed := atype = 0 ∨ atype = 1
  let less (a b : Nat) : Bool := if signed then decide (toSigned w a < toSigned w b) else decide (a < b)
  if aop = 0 then
    if float then
      let (v, fl) := fAdd (f.decode old) (f.decode opnd)
      let (c, fl2) := f.encode v
      (c, flOr sn (flOr fl fl2))
    else ((old + opnd) % 2 ^ w, 0)
  else if aop = 1 then
    if float then ((f.encode (fMin (f.decode old) (f.decode opnd))).1, sn) else (if less opnd old then opnd else old, 0)
  else if aop = 2 then
    if float then ((f.encode (fMax (f.decode old) (f.decode opnd))).1, sn) else (if less old opnd then opnd else old, 0)
  else if aop = 3 then (Nat.land old opnd, 0)
  else if aop = 4 then (Nat.lor old opnd, 0)
  else if aop = 5 then (Nat.xor old opnd, 0)
  else if aop = 6 then (opnd, 0)
  else (if old = cmp % 2 ^ w then opnd else old, 0)

/-! ## Formats by code (R62, R182) -/

/-- The float format of a scalar or MX element code. -/
def floatFmt (c : Nat) : Option FFmt :=
  if c = 4 ∨ c = 0xA then some fE4M3 else if c = 5 ∨ c = 0xB then some fE5M2 else if c = 6 then some fFp16
  else if c = 7 then some fBf16 else if c = 8 then some fFp32 else if c = 9 then some fFp64
  else if c = 0xC then some fE3M2 else if c = 0xD then some fE2M3 else if c = 0xE then some fE2M1 else none

/-- Bits of an integer code. -/
def intBits (c : Nat) : Nat := 8 * 2 ^ c
def isIntFmt (c : Nat) : Bool := decide (c < 4)
def isMxFmt (c : Nat) : Bool := decide (0xA ≤ c ∧ c ≤ 0xE)
def isFloatFmt (c : Nat) : Bool := decide (4 ≤ c ∧ c ≤ 9)

/-- Bytes of an element of a scalar format. The reserved format 0xF counts as 8 bytes, which decides only whether R50 reports 0x004 before
its 0x007 (the model's choice, log entry 34). -/
def fmtSize (c : Nat) : Nat :=
  if c < 4 then 2 ^ c else if c = 4 ∨ c = 5 then 1 else if c = 6 ∨ c = 7 then 2 else if c = 8 then 4 else 8

/-- Bits of an element of an MX format. -/
def mxBits (c : Nat) : Nat := if c = 0xA ∨ c = 0xB then 8 else if c = 0xC ∨ c = 0xD then 6 else 4

/-- A value of the working format: binary64's value or an int64 (R188, R190). -/
inductive Num where
  /-- a float value -/
  | f (v : FVal)
  /-- an integer -/
  | i (v : Int)
deriving DecidableEq, Repr

/-- Decode an element of a scalar format. -/
def numDecode (c n : Nat) : Num :=
  if c < 4 then .i (toSigned (intBits c) n)
  else match floatFmt c with
    | some f => .f (f.decode n)
    | none => .i 0

/-- Encode a value into a scalar format of its class (R185): code and flags. -/
def numEncode (c : Nat) (v : Num) : Nat × Nat :=
  match v with
  | .i x => let (y, fl) := satInt (intBits c) x; (ofSigned (intBits c) y, fl)
  | .f x => match floatFmt c with
    | some f => f.encode x
    | none => (0, 0)

/-- The combine operators (R187), exact before the encoding: 0 SUM, 1 MIN, 2 MAX, 3 ABSMAX, 4 AND, 5 OR, 6 XOR. -/
def numOp (op : Nat) (a b : Num) : Num × Nat :=
  match a, b with
  | .f x, .f y =>
    if op = 0 then let (v, fl) := fAdd x y; (.f v, fl)
    else if op = 1 then (.f (fMin x y), 0)
    else if op = 2 then (.f (fMax x y), 0)
    else (.f (fMax (fAbs x) (fAbs y)), 0)
  | .i x, .i y =>
    if op = 0 then (.i (x + y), 0)
    else if op = 1 then (.i (min x y), 0)
    else if op = 2 then (.i (max x y), 0)
    else if op = 4 then (.i (toSigned 64 (Nat.land (ofSigned 64 x) (ofSigned 64 y))), 0)
    else if op = 5 then (.i (toSigned 64 (Nat.lor (ofSigned 64 x) (ofSigned 64 y))), 0)
    else if op = 6 then (.i (toSigned 64 (Nat.xor (ofSigned 64 x) (ofSigned 64 y))), 0)
    else (.i (max x.natAbs y.natAbs), 0)
  | x, _ => (x, 0)

/-- A zero of either sign, or integer 0 (R224, R226). -/
def numZero (a : Num) : Bool :=
  match a with
  | .f v => fZero v
  | .i v => v == 0

end Sys2Proof.Machine
end

