-- ==== Sys2Proof/Config.lean ====
section
/-! DEFINITION. What an implementation fixes and the spec leaves open: constants without a body. -/

namespace Sys2Proof.Config

/-- WARD_ANCHOR (R465): 384 bits, Synrehal's digest; no value is given. -/
opaque wardAnchor : BitVec 384

/-- Set of the translation cache that holds a function's virtual page (R137): the hash is not given (log entry 9). -/
opaque xlateSet : Nat → Nat → Nat

/-- Set of the rate cache that holds a (function, node) pair (R294): the hash is not given (log entry 9). -/
opaque rateSet : Nat → Nat → Nat

/-- The bytes over which a signature's CRC runs (R155): the fields and their order are given, their widths are not (log entry 9). -/
opaque signatureBytes : List Nat → Bytes

/-- The pattern FUNC_PATH writes to a line of its buffer (R403): not given (log entry 9). -/
opaque testPattern : Nat → BitVec 1024

/-- A free value per draw: nothing constrains it (log entry 9). -/
opaque freeValue : Nat → BitVec 64

end Sys2Proof.Config
end

