-- ==== Sys2Proof/Machine/Fec.lean ====
section
/-! DEFINITION. The Reed-Solomon codes of R318 and R319: the field, the encoder and the decoder, and the streams of bits between frames and
code words. The first symbol of a code word is the coefficient of the highest power (log entry 40). -/

namespace Sys2Proof.Machine

/-- A symbol of ten bits. -/
abbrev Sym := BitVec 10

/-! ## GF(2^10) modulo x^10 + x^3 + 1 -/

/-- Times α, the root x. -/
def gfDouble (x : Nat) : Nat := if x < 512 then 2 * x else Nat.xor (2 * x) 0x409

/-- Product: the ten bits of `a` select the doublings of `b`. -/
def gfMul (a b : Nat) : Nat :=
  ((List.range 10).foldl (fun (acc : Nat × Nat) i => (if a.testBit i then Nat.xor acc.1 acc.2 else acc.1, gfDouble acc.2)) (0, b)).1

/-- A power, by the ten lowest bits of the exponent. -/
def gfPow (x e : Nat) : Nat :=
  ((List.range 10).foldl (fun (acc : Nat × Nat) i => (if e.testBit i then gfMul acc.1 acc.2 else acc.1, gfMul acc.2 acc.2)) (1, x)).1

/-- The inverse; 0 of 0. -/
def gfInv (x : Nat) : Nat := gfPow x 1022

/-- α to a power. -/
def gfAlpha (e : Nat) : Nat := gfPow 2 (e % 1023)

/-- The value at `x` of the polynomial whose coefficients are listed from the highest power. -/
def gfEval (cs : List Nat) (x : Nat) : Nat := cs.foldl (fun v c => Nat.xor (gfMul v x) c) 0

/-- The value at `x` of the polynomial whose coefficients are listed from the lowest power. -/
def gfEvalLow (cs : List Nat) (x : Nat) : Nat := gfEval cs.reverse x

/-! ## The codes -/

/-- Symbols of a code word, of its data, and how many symbols it corrects. -/
def codeLen (short : Bool) : Nat := if short then 272 else 544
def codeData (short : Bool) : Nat := if short then 258 else 514
def codeFix (short : Bool) : Nat := if short then 7 else 15

/-- The generator's coefficients below the leading one, from the highest power: the product of x - α^i for i below `n`. -/
def generator (n : Nat) : List Nat :=
  ((List.range n).foldl (fun g i => List.zipWith Nat.xor (g ++ [0]) (0 :: g.map (gfMul (gfAlpha i)))) [1]).drop 1

/-- The code word of data symbols: the data, then the remainder of their polynomial times x^n by the generator. -/
def rsEncode (short : Bool) (data : List Nat) : List Nat :=
  let n := codeLen short - codeData short
  let g := generator n
  data ++ data.foldl (fun r d =>
    let f := Nat.xor d (r.headD 0)
    List.zipWith Nat.xor (r.drop 1 ++ [0]) (g.map (gfMul f))) (List.replicate n 0)

/-- The syndromes of a word: its value at α^i for every root of the generator. -/
def syndromes (short : Bool) (w : List Nat) : List Nat := (List.range (codeLen short - codeData short)).map (fun i => gfEval w (gfAlpha i))

/-- The state of the search for the error locator: locator, the last one before it grew, its degree, steps since, and its discrepancy. -/
structure Locator where
  cur  : List Nat
  prev : List Nat
  deg  : Nat
  gap  : Nat
  disc : Nat

/-- Sum of two polynomials listed from the lowest power. -/
def gfAdd (a b : List Nat) : List Nat := (List.range (max a.length b.length)).map (fun i => Nat.xor (a.getD i 0) (b.getD i 0))

/-- One syndrome of the search (Berlekamp and Massey). -/
def locatorStep (ss : List Nat) (l : Locator) (i : Nat) : Locator :=
  let d := (List.range (l.deg + 1)).foldl (fun v k => Nat.xor v (gfMul (l.cur.getD k 0) (ss.getD (i - k) 0))) 0
  if d = 0 then { l with gap := l.gap + 1 }
  else
    let next := gfAdd l.cur (List.replicate l.gap 0 ++ l.prev.map (gfMul (gfMul d (gfInv l.disc))))
    if 2 * l.deg ≤ i then ⟨next, l.cur, i + 1 - l.deg, 1, d⟩ else { l with cur := next, gap := l.gap + 1 }

/-- The error locator of a word's syndromes, from the lowest power. -/
def locator (ss : List Nat) : Locator := (List.range ss.length).foldl (locatorStep ss) ⟨[1], [1], 0, 1, 1⟩

/-- The word with the errors its syndromes name taken off: at each power whose inverse is a root of the locator, the locator's
derivative and the evaluator give the value (Forney). -/
def rsFix (w ss : List Nat) : List Nat :=
  let l := locator ss
  let omega := ((List.range ss.length).map (fun i =>
    (List.range (i + 1)).foldl (fun v k => Nat.xor v (gfMul (l.cur.getD k 0) (ss.getD (i - k) 0))) 0))
  let deriv := (List.range (l.cur.length - 1)).map (fun i => if i % 2 = 0 then l.cur.getD (i + 1) 0 else 0)
  w.zipIdx.map (fun x =>
    let p := w.length - 1 - x.2
    let inv := gfAlpha (1023 - p % 1023)
    if gfEvalLow l.cur inv = 0 then
      Nat.xor x.1 (gfMul (gfAlpha p) (gfMul (gfEvalLow omega inv) (gfInv (gfEvalLow deriv inv))))
    else x.1)

/-- Places in which two words differ. -/
def distance (a b : List Nat) : Nat := ((a.zip b).filter (fun x => x.1 != x.2)).length

/-- Decode a received word: the data of the code word within the corrected distance and the number of symbols corrected, or none where
there is no such code word. -/
def rsDecode (short : Bool) (w : List Nat) : Option (List Nat × Nat) :=
  if w.length ≠ codeLen short then none
  else
    let ss := syndromes short w
    if ss.all (· == 0) then some (w.take (codeData short), 0)
    else
      let c := rsFix w ss
      let n := distance w c
      if n ≤ codeFix short ∧ (syndromes short c).all (· == 0) then some (c.take (codeData short), n) else none

/-! ## Streams of bits, first bit lowest -/

/-- The number a list of symbols makes, the first lowest. -/
def symsNat (ss : List Nat) : Nat := ss.foldr (fun x n => x % 1024 + 1024 * n) 0

/-- `n` symbols of a number, the first lowest. -/
def natSyms (n x : Nat) : List Nat := (List.range n).map (fun i => x / 2 ^ (10 * i) % 1024)

/-- The code words that a stream of `len` bits fills, at most `n` of them, with the bits left over. -/
def fillWords (short : Bool) : Nat → Nat × Nat → List (List Nat) × (Nat × Nat)
  | 0, x => ([], x)
  | n + 1, (v, len) =>
    let d := 10 * codeData short
    if len < d then ([], (v, len))
    else
      let (ws, rest) := fillWords short n (v / 2 ^ d, len - d)
      (rsEncode short (natSyms (codeData short) v) :: ws, rest)

/-- Bits of a received stream: their value, their number, and whether they come from a code word that was not corrected (R319). -/
structure FecPiece where
  val : Nat
  len : Nat
  bad : Bool
deriving DecidableEq, Repr

/-- The first `n` bits of a stream, whether any of them is bad, and what is left; none while the stream is shorter. -/
def takeBits : Nat → List FecPiece → Option (Nat × Bool × List FecPiece)
  | 0, ps => some (0, false, ps)
  | _ + 1, [] => none
  | n + 1, p :: t =>
    if p.len ≤ n + 1 then
      (takeBits (n + 1 - p.len) t).map (fun r => (p.val + r.1 * 2 ^ p.len, p.bad || r.2.1, r.2.2))
    else some (p.val % 2 ^ (n + 1), p.bad, ⟨p.val / 2 ^ (n + 1), p.len - (n + 1), p.bad⟩ :: t)

/-- The bits a received word adds to the stream, and whether it was corrected: an uncorrectable word's bits are bad. -/
def wordPiece (short : Bool) (w : List Nat) : FecPiece × Bool :=
  match rsDecode short w with
  | some (d, n) => (⟨symsNat d, 10 * codeData short, false⟩, decide (n > 0))
  | none => (⟨symsNat (w.take (codeData short)), 10 * codeData short, true⟩, false)

end Sys2Proof.Machine
end

