-- ==== Sys2Proof/Machine/Regs.lean ====
section
/-! DEFINITION. The register map (R473-R477): every register of R474 with its address, its instances and its fields, and one name
per field. The field tables are those of the rules named beside each register. -/

namespace Sys2Proof.Machine

/-- The types of R476. -/
inductive FType where
  /-- stored by a write -/
  | rw
  /-- written by hardware only -/
  | ro
  /-- a 1 clears -/
  | w1c
  /-- acts, stores nothing -/
  | wo
  /-- RW kept through a warm start -/
  | rws
  /-- RW until locked -/
  | rwl
deriving DecidableEq, Repr

/-- A field of one register instance: byte address, lowest bit, width, and whether it lies in the AON domain (R474, R477). -/
structure Fld where
  addr  : Nat
  lo    : Nat
  width : Nat
  aon   : Bool
deriving DecidableEq, Repr

/-- A field of a row of the map. -/
structure FieldRow where
  lo    : Nat
  width : Nat
  ty    : FType
  aon   : Bool
deriving DecidableEq, Repr

/-- A row of the map: `n1` instances `s1` bytes apart, each of `n2` instances `s2` bytes apart. -/
structure RegRow where
  name   : String
  base   : Nat
  n1     : Nat
  s1     : Nat
  n2     : Nat
  s2     : Nat
  fields : List FieldRow
deriving DecidableEq, Repr

/-- The build parameters of R465. -/
structure Build where
  gates      : Nat
  hinges     : Nat
  tagsLog2   : Nat
  walkers    : Nat
  msps       : Nat
  mspIl      : Nat
  ssps       : Nat
  sspLat     : Nat
  rxbufKib   : Nat
  hingeRxbufKib : Nat
  landKib    : Nat
  stagingLog2 : Nat
  holdLog2   : Nat
  boltStageKib : Nat
  boltLandKib  : Nat
  pintleSlots  : Nat
  scanChains   : Nat
deriving DecidableEq, Repr

/-- The build's parameters lie in the ranges of R465. -/
def Build.legal (b : Build) : Bool :=
  let within (x lo hi step : Nat) : Bool := decide (lo ≤ x) && decide (x ≤ hi) && x % step == 0
  within b.gates 2 8 1 && (b.hinges == 0 || b.hinges == 2) && within b.tagsLog2 15 18 1 && within b.walkers 4 32 4
    && (b.msps == 4 || b.msps == 8 || b.msps == 16) && within b.mspIl 9 16 1 && within b.ssps 0 4 1
    && (if b.ssps = 0 then b.sspLat == 0 else within b.sspLat 4 64 1) && within b.rxbufKib 512 4096 64 && within b.hingeRxbufKib 512 4096 64
    && within b.landKib 10240 16384 1024 && within b.stagingLog2 8 12 1 && within b.holdLog2 6 8 1 && within b.boltStageKib 256 4096 64
    && within b.boltLandKib 256 4096 64 && within b.pintleSlots 1024 8192 1024 && within b.scanChains 1 256 1

/-- The maximum configuration of R465; SCAN_CHAINS is the integrator's own, 1 here (log entry 4). -/
def Build.max : Build where
  gates := 8
  hinges := 2
  tagsLog2 := 18
  walkers := 32
  msps := 16
  mspIl := 12
  ssps := 4
  sspLat := 24
  rxbufKib := 2048
  hingeRxbufKib := 2048
  landKib := 16384
  stagingLog2 := 12
  holdLog2 := 8
  boltStageKib := 4096
  boltLandKib := 4096
  pintleSlots := 8192
  scanChains := 1

/-! ## Field names -/

namespace R

/-- R385 -/
def GLOBAL_ID_PART : Fld := ⟨0, 0, 16, true⟩
/-- R385 -/
def GLOBAL_ID_RELEASE : Fld := ⟨0, 16, 16, true⟩
/-- R385 -/
def GLOBAL_CAP_GATES : Fld := ⟨0x4, 0, 4, true⟩
/-- R385 -/
def GLOBAL_CAP_HINGES : Fld := ⟨0x4, 4, 2, true⟩
/-- R385 -/
def GLOBAL_CAP_TAGS_LOG2 : Fld := ⟨0x4, 6, 5, true⟩
/-- R385 -/
def GLOBAL_CAP_WALKERS : Fld := ⟨0x4, 11, 6, true⟩
/-- R385 -/
def GLOBAL_START_CTL_KEYS_OPTIONAL : Fld := ⟨0x8, 0, 1, true⟩
/-- R385 -/
def GLOBAL_START_CTL_BIST_ON_WARM : Fld := ⟨0x8, 1, 1, true⟩
/-- R385 -/
def GLOBAL_START_CMD_OP : Fld := ⟨0xc, 0, 2, true⟩
/-- R385 -/
def GLOBAL_START_STATUS_STATE : Fld := ⟨0x10, 0, 3, true⟩
/-- R385 -/
def GLOBAL_START_STATUS_WARM : Fld := ⟨0x10, 3, 1, true⟩
/-- R385 -/
def GLOBAL_START_STATUS_CMD_ERR : Fld := ⟨0x10, 4, 1, true⟩
/-- R385 -/
def GLOBAL_START_STATUS_BIST_RAN : Fld := ⟨0x10, 5, 1, true⟩
/-- R385 -/
def GLOBAL_START_STATUS_BIST_PASS : Fld := ⟨0x10, 6, 1, true⟩
/-- R385 -/
def GLOBAL_START_STATUS_HOLDING : Fld := ⟨0x10, 7, 1, true⟩
/-- R385 -/
def GLOBAL_START_STATUS_STARTS : Fld := ⟨0x10, 16, 16, true⟩
/-- R385 -/
def GLOBAL_BIST_GATE_FAIL : Fld := ⟨0x14, 0, 8, true⟩
/-- R385 -/
def GLOBAL_BIST_HINGE_FAIL : Fld := ⟨0x14, 8, 2, true⟩
/-- R385 -/
def GLOBAL_BIST_SHARED_FAIL : Fld := ⟨0x14, 10, 1, true⟩
/-- R385 -/
def GLOBAL_READY_GATE : Fld := ⟨0x18, 0, 8, true⟩
/-- R385 -/
def GLOBAL_READY_HINGE : Fld := ⟨0x18, 8, 2, true⟩
/-- R385 -/
def GLOBAL_READY_KEYPORT : Fld := ⟨0x18, 10, 1, true⟩
/-- R385 -/
def GLOBAL_READY_TIME : Fld := ⟨0x18, 11, 1, true⟩
/-- R385 -/
def GLOBAL_READY_ROUTE : Fld := ⟨0x18, 12, 1, true⟩
/-- R385 -/
def GLOBAL_READY_WARD : Fld := ⟨0x18, 13, 1, true⟩
/-- R385 -/
def GLOBAL_READY_CHG_CHG : Fld := ⟨0x1c, 0, 14, true⟩
/-- R385 -/
def GLOBAL_IRQ_EN_EN : Fld := ⟨0x20, 0, 14, true⟩
/-- R385 -/
def GLOBAL_REQ_HOLD_HOLD_MS : Fld := ⟨0x24, 0, 16, true⟩
/-- R431 -/
def GLOBAL_CLK_CORE_MHZ : Fld := ⟨0x28, 0, 12, true⟩
/-- R431 -/
def GLOBAL_CLK_VALID : Fld := ⟨0x28, 12, 1, true⟩
/-- R431 -/
def GLOBAL_CLK_DRIFT : Fld := ⟨0x28, 13, 1, true⟩
/-- R431 -/
def GLOBAL_CLK_NOM_KHZ : Fld := ⟨0x2c, 0, 21, true⟩
/-- R469 -/
def GLOBAL_CAP2_MSPS : Fld := ⟨0x30, 0, 5, true⟩
/-- R469 -/
def GLOBAL_CAP2_MSP_IL : Fld := ⟨0x30, 5, 5, true⟩
/-- R469 -/
def GLOBAL_CAP2_SSPS : Fld := ⟨0x30, 10, 3, true⟩
/-- R469 -/
def GLOBAL_CAP2_SSP_LAT : Fld := ⟨0x30, 13, 7, true⟩
/-- R469 -/
def GLOBAL_CAP2_STAGING_LOG2 : Fld := ⟨0x30, 20, 4, true⟩
/-- R469 -/
def GLOBAL_CAP2_HOLD_LOG2 : Fld := ⟨0x30, 24, 4, true⟩
/-- R469 -/
def GLOBAL_CAP3_BOLT_STAGE : Fld := ⟨0x34, 0, 7, true⟩
/-- R469 -/
def GLOBAL_CAP3_BOLT_LAND : Fld := ⟨0x34, 8, 7, true⟩
/-- R469 -/
def GLOBAL_CAP3_PINTLE : Fld := ⟨0x34, 16, 4, true⟩
/-- R405 -/
def GLOBAL_ST_CMD_OP : Fld := ⟨0x40, 0, 2, true⟩
/-- R405 -/
def GLOBAL_ST_ARG_KIND : Fld := ⟨0x44, 0, 2, true⟩
/-- R405 -/
def GLOBAL_ST_ARG_TARGET : Fld := ⟨0x44, 4, 6, true⟩
/-- R405 -/
def GLOBAL_ST_ARG_LANE : Fld := ⟨0x44, 10, 4, true⟩
/-- R405 -/
def GLOBAL_ST_BUF_LO_BASE : Fld := ⟨0x48, 12, 20, true⟩
/-- R405 -/
def GLOBAL_ST_BUF_HI_BASE : Fld := ⟨0x4c, 0, 32, true⟩
/-- R405 -/
def GLOBAL_ST_LEN_KIB : Fld := ⟨0x50, 0, 16, true⟩
/-- R405 -/
def GLOBAL_ST_STATUS_STATE : Fld := ⟨0x54, 0, 2, true⟩
/-- R405 -/
def GLOBAL_ST_STATUS_CMD_ERR : Fld := ⟨0x54, 2, 1, true⟩
/-- R405 -/
def GLOBAL_ST_STATUS_CODE : Fld := ⟨0x54, 8, 8, true⟩
/-- R405 -/
def GLOBAL_ST_INFO_DATA : Fld := ⟨0x58, 0, 32, true⟩
/-- R469 -/
def GLOBAL_ANCHOR_DIGEST (i : Nat) : Fld := ⟨0x70 + i * 0x4, 0, 32, true⟩
/-- R83 -/
def JOURNAL_BASE_LO_BASE : Fld := ⟨0x100, 12, 20, true⟩
/-- R83 -/
def JOURNAL_BASE_HI_BASE : Fld := ⟨0x104, 0, 32, true⟩
/-- R83 -/
def JOURNAL_SIZE_LOG2 : Fld := ⟨0x108, 0, 5, true⟩
/-- R83 -/
def JOURNAL_STATUS_USED : Fld := ⟨0x10c, 0, 25, true⟩
/-- R83 -/
def JOURNAL_STATUS_BUSY_SEEN : Fld := ⟨0x10c, 30, 1, true⟩
/-- R83 -/
def JOURNAL_STATUS_FULL : Fld := ⟨0x10c, 31, 1, true⟩
/-- R342 -/
def GATE_CTL_ENABLE (i : Nat) : Fld := ⟨0x10000 + i * 0x10000, 0, 1, false⟩
/-- R342 -/
def GATE_CTL_MAX_RATE (i : Nat) : Fld := ⟨0x10000 + i * 0x10000, 1, 2, false⟩
/-- R342 -/
def GATE_CTL_X4_ONLY (i : Nat) : Fld := ⟨0x10000 + i * 0x10000, 3, 1, false⟩
/-- R342 -/
def GATE_CTL_SHORT_OK (i : Nat) : Fld := ⟨0x10000 + i * 0x10000, 4, 1, false⟩
/-- R342 -/
def GATE_CTL_CLEAR_OK (i : Nat) : Fld := ⟨0x10000 + i * 0x10000, 5, 1, false⟩
/-- R342 -/
def GATE_CTL_VERSIONS (i : Nat) : Fld := ⟨0x10000 + i * 0x10000, 6, 3, false⟩
/-- R342 -/
def GATE_CTL_WARM_OK (i : Nat) : Fld := ⟨0x10000 + i * 0x10000, 9, 1, false⟩
/-- R342 -/
def GATE_CTL_ROTATE (i : Nat) : Fld := ⟨0x10000 + i * 0x10000, 10, 1, false⟩
/-- R342 -/
def GATE_STATUS_STATE (i : Nat) : Fld := ⟨0x10004 + i * 0x10000, 0, 4, false⟩
/-- R342 -/
def GATE_STATUS_CAUSE (i : Nat) : Fld := ⟨0x10004 + i * 0x10000, 4, 4, false⟩
/-- R342 -/
def GATE_STATUS_ATTEMPTS (i : Nat) : Fld := ⟨0x10004 + i * 0x10000, 8, 8, false⟩
/-- R342 -/
def GATE_STATUS_NO_SPARE_TX (i : Nat) : Fld := ⟨0x10004 + i * 0x10000, 16, 1, false⟩
/-- R342 -/
def GATE_STATUS_NO_SPARE_RX (i : Nat) : Fld := ⟨0x10004 + i * 0x10000, 17, 1, false⟩
/-- R342 -/
def GATE_STATUS_DEGRADED (i : Nat) : Fld := ⟨0x10004 + i * 0x10000, 18, 1, false⟩
/-- R342 -/
def GATE_STATUS_UNCORR (i : Nat) : Fld := ⟨0x10004 + i * 0x10000, 19, 1, false⟩
/-- R342 -/
def GATE_STATUS_AUTH_FAIL (i : Nat) : Fld := ⟨0x10004 + i * 0x10000, 20, 1, false⟩
/-- R342 -/
def GATE_STATUS_FSEQ_ERR (i : Nat) : Fld := ⟨0x10004 + i * 0x10000, 21, 1, false⟩
/-- R342 -/
def GATE_STATUS_COEF_VALID (i : Nat) : Fld := ⟨0x10004 + i * 0x10000, 22, 1, true⟩
/-- R342 -/
def GATE_CMD_RETRAIN (i : Nat) : Fld := ⟨0x10008 + i * 0x10000, 0, 1, false⟩
/-- R342 -/
def GATE_CMD_RETRY (i : Nat) : Fld := ⟨0x10008 + i * 0x10000, 1, 1, false⟩
/-- R342 -/
def GATE_NEG_VERSION (i : Nat) : Fld := ⟨0x1000c + i * 0x10000, 0, 2, false⟩
/-- R342 -/
def GATE_NEG_RATE (i : Nat) : Fld := ⟨0x1000c + i * 0x10000, 2, 2, false⟩
/-- R342 -/
def GATE_NEG_X4 (i : Nat) : Fld := ⟨0x1000c + i * 0x10000, 4, 1, false⟩
/-- R342 -/
def GATE_NEG_SHORT (i : Nat) : Fld := ⟨0x1000c + i * 0x10000, 5, 1, false⟩
/-- R342 -/
def GATE_NEG_CLEAR (i : Nat) : Fld := ⟨0x1000c + i * 0x10000, 6, 1, false⟩
/-- R342 -/
def GATE_NEG_WARM (i : Nat) : Fld := ⟨0x1000c + i * 0x10000, 7, 1, false⟩
/-- R342 -/
def GATE_NEG_PARTNER_PORT (i : Nat) : Fld := ⟨0x1000c + i * 0x10000, 8, 4, false⟩
/-- R342 -/
def GATE_NEG_PARTNER_RELEASE (i : Nat) : Fld := ⟨0x1000c + i * 0x10000, 16, 16, false⟩
/-- R342 -/
def GATE_PARTNER_LO_IDENT (i : Nat) : Fld := ⟨0x10010 + i * 0x10000, 0, 32, true⟩
/-- R342 -/
def GATE_PARTNER_HI_IDENT (i : Nat) : Fld := ⟨0x10014 + i * 0x10000, 0, 32, true⟩
/-- R342 -/
def GATE_IDENT_LO_IDENT (i : Nat) : Fld := ⟨0x10018 + i * 0x10000, 0, 32, true⟩
/-- R342 -/
def GATE_IDENT_HI_IDENT (i : Nat) : Fld := ⟨0x1001c + i * 0x10000, 0, 32, true⟩
/-- R342 -/
def GATE_LANES_TX_GOOD (i : Nat) : Fld := ⟨0x10020 + i * 0x10000, 0, 9, false⟩
/-- R342 -/
def GATE_LANES_RX_GOOD (i : Nat) : Fld := ⟨0x10020 + i * 0x10000, 9, 9, false⟩
/-- R342 -/
def GATE_LANES_TX_SPARE (i : Nat) : Fld := ⟨0x10020 + i * 0x10000, 18, 4, false⟩
/-- R342 -/
def GATE_LANES_RX_SPARE (i : Nat) : Fld := ⟨0x10020 + i * 0x10000, 22, 4, false⟩
/-- R342 -/
def GATE_RECAL_DWELL_US (i : Nat) : Fld := ⟨0x10024 + i * 0x10000, 0, 16, false⟩
/-- R342 -/
def GATE_RECAL_FAIL_LOG2 (i : Nat) : Fld := ⟨0x10024 + i * 0x10000, 16, 8, false⟩
/-- R342 -/
def GATE_RECAL_SHORT_LOG2 (i : Nat) : Fld := ⟨0x10024 + i * 0x10000, 24, 8, false⟩
/-- R342 -/
def GATE_LANE_TX_OK (i j : Nat) : Fld := ⟨0x10040 + i * 0x10000 + j * 0x4, 0, 1, false⟩
/-- R342 -/
def GATE_LANE_RX_OK (i j : Nat) : Fld := ⟨0x10040 + i * 0x10000 + j * 0x4, 1, 1, false⟩
/-- R342 -/
def GATE_LANE_RX_SPARE (i j : Nat) : Fld := ⟨0x10040 + i * 0x10000 + j * 0x4, 2, 1, false⟩
/-- R342 -/
def GATE_LANE_RX_IDLE (i j : Nat) : Fld := ⟨0x10040 + i * 0x10000 + j * 0x4, 3, 1, false⟩
/-- R342 -/
def GATE_LANE_LOGICAL (i j : Nat) : Fld := ⟨0x10040 + i * 0x10000 + j * 0x4, 4, 4, false⟩
/-- R342 -/
def GATE_LANE_RX_SER_EXP (i j : Nat) : Fld := ⟨0x10040 + i * 0x10000 + j * 0x4, 8, 8, false⟩
/-- R296 -/
def GATE_VC_SIZE_FLITS (i j : Nat) : Fld := ⟨0x10400 + i * 0x10000 + j * 0x4, 0, 16, false⟩
/-- R296 -/
def GATE_VC_STATE_CREDITS (i j : Nat) : Fld := ⟨0x10420 + i * 0x10000 + j * 0x4, 0, 16, false⟩
/-- R296 -/
def GATE_VC_STATE_OCC (i j : Nat) : Fld := ⟨0x10420 + i * 0x10000 + j * 0x4, 16, 16, false⟩
/-- R296 -/
def GATE_RXBUF_SIZE (i : Nat) : Fld := ⟨0x10440 + i * 0x10000, 0, 7, false⟩
/-- R296 -/
def GATE_RXBUF_BLT_SHARE (i : Nat) : Fld := ⟨0x10440 + i * 0x10000, 16, 16, false⟩
/-- R296 -/
def GATE_ARB_W_REQ (i : Nat) : Fld := ⟨0x10444 + i * 0x10000, 0, 8, false⟩
/-- R296 -/
def GATE_ARB_W_FWD (i : Nat) : Fld := ⟨0x10444 + i * 0x10000, 8, 8, false⟩
/-- R296 -/
def GATE_ARB_W_RSP (i : Nat) : Fld := ⟨0x10444 + i * 0x10000, 16, 8, false⟩
/-- R296 -/
def GATE_ARB_W_COL (i : Nat) : Fld := ⟨0x10444 + i * 0x10000, 24, 8, false⟩
/-- R296 -/
def GATE_ARB_CTL_CTL_CAP (i : Nat) : Fld := ⟨0x10448 + i * 0x10000, 0, 7, false⟩
/-- R296 -/
def GATE_ARB_CTL_INJ_WAIT (i : Nat) : Fld := ⟨0x10448 + i * 0x10000, 16, 16, false⟩
/-- R296 -/
def GATE_CM_THRESH (i : Nat) : Fld := ⟨0x1044c + i * 0x10000, 0, 16, false⟩
/-- R296 -/
def GATE_CM_ENABLE (i : Nat) : Fld := ⟨0x1044c + i * 0x10000, 16, 1, false⟩
/-- R296 -/
def GATE_FLOW_STATUS_LOST (i : Nat) : Fld := ⟨0x10450 + i * 0x10000, 0, 1, false⟩
/-- R296 -/
def GATE_FLOW_STATUS_MALFORMED (i : Nat) : Fld := ⟨0x10450 + i * 0x10000, 1, 1, false⟩
/-- R296 -/
def GATE_FLOW_STATUS_SIZE_ERR (i : Nat) : Fld := ⟨0x10450 + i * 0x10000, 2, 1, false⟩
/-- R316 -/
def ROUTE_CTL_DRAIN_US : Fld := ⟨0xb0000, 0, 16, false⟩
/-- R316 -/
def ROUTE_STATUS_STATE : Fld := ⟨0xb0004, 0, 2, false⟩
/-- R316 -/
def ROUTE_STATUS_PENDING : Fld := ⟨0xb0004, 2, 1, false⟩
/-- R316 -/
def ROUTE_STATUS_CMD_ERR : Fld := ⟨0xb0004, 3, 1, false⟩
/-- R316 -/
def ROUTE_STATUS_SELF_ERR : Fld := ⟨0xb0004, 4, 1, false⟩
/-- R316 -/
def ROUTE_STATUS_EPOCH : Fld := ⟨0xb0004, 16, 16, false⟩
/-- R316 -/
def ROUTE_CMD_OP : Fld := ⟨0xb0008, 0, 2, false⟩
/-- R316 -/
def ROUTE_CMD_CLEAR_PEAKS : Fld := ⟨0xb0008, 2, 1, false⟩
/-- R316 -/
def ROUTE_SELF_NODE : Fld := ⟨0xb000c, 0, 20, false⟩
/-- R316 -/
def ROUTE_SELF_VALID : Fld := ⟨0xb000c, 31, 1, false⟩
/-- R316 -/
def ROUTE_EXTENT_EX : Fld := ⟨0xb0010, 0, 7, false⟩
/-- R316 -/
def ROUTE_EXTENT_EY : Fld := ⟨0xb0010, 8, 7, false⟩
/-- R316 -/
def ROUTE_EXTENT_EZ : Fld := ⟨0xb0010, 16, 6, false⟩
/-- R316 -/
def ROUTE_EXTENT_DIES : Fld := ⟨0xb0010, 24, 4, false⟩
/-- R316 -/
def ROUTE_POD_PX_LOG2 : Fld := ⟨0xb0014, 0, 3, false⟩
/-- R316 -/
def ROUTE_POD_PY_LOG2 : Fld := ⟨0xb0014, 4, 3, false⟩
/-- R316 -/
def ROUTE_POD_PZ_LOG2 : Fld := ⟨0xb0014, 8, 3, false⟩
/-- R316 -/
def ROUTE_FLIP_X_LO_FLIP : Fld := ⟨0xb0020, 0, 32, false⟩
/-- R316 -/
def ROUTE_FLIP_X_HI_FLIP : Fld := ⟨0xb0024, 0, 32, false⟩
/-- R316 -/
def ROUTE_FLIP_Y_LO_FLIP : Fld := ⟨0xb0028, 0, 32, false⟩
/-- R316 -/
def ROUTE_FLIP_Y_HI_FLIP : Fld := ⟨0xb002c, 0, 32, false⟩
/-- R316 -/
def ROUTE_FLIP_Z_FLIP : Fld := ⟨0xb0030, 0, 32, false⟩
/-- R316 -/
def ROUTE_FLIP_D_FLIP : Fld := ⟨0xb0034, 0, 8, false⟩
/-- R316 -/
def ROUTE_AUX_MODE (i : Nat) : Fld := ⟨0xb0040 + i * 0x4, 0, 2, false⟩
/-- R316 -/
def ROUTE_AUX_DIM (i : Nat) : Fld := ⟨0xb0040 + i * 0x4, 2, 2, false⟩
/-- R316 -/
def ROUTE_AUX_DIR (i : Nat) : Fld := ⟨0xb0040 + i * 0x4, 4, 1, false⟩
/-- R316 -/
def ROUTE_AUX_STRIDE (i : Nat) : Fld := ⟨0xb0040 + i * 0x4, 5, 6, false⟩
/-- R316 -/
def ROUTE_PORT_STATE_ROUTABLE : Fld := ⟨0xb0050, 0, 10, false⟩
/-- R316 -/
def ROUTE_PORT_STATE_MISWIRED : Fld := ⟨0xb0050, 16, 10, false⟩
/-- R316 -/
def ROUTE_COL_LAND_TOTAL_KIB : Fld := ⟨0xb0054, 0, 16, false⟩
/-- R316 -/
def ROUTE_COL_LAND_USED_KIB : Fld := ⟨0xb0054, 16, 16, false⟩
/-- R316 -/
def ROUTE_DENY_VAL_NODE (i : Nat) : Fld := ⟨0xb0100 + i * 0x8, 0, 20, false⟩
/-- R316 -/
def ROUTE_DENY_VAL_VALID (i : Nat) : Fld := ⟨0xb0100 + i * 0x8, 31, 1, false⟩
/-- R316 -/
def ROUTE_DENY_MASK_MASK (i : Nat) : Fld := ⟨0xb0104 + i * 0x8, 0, 20, false⟩
/-- R316 -/
def ROUTE_TELEM_ENTRY_CYCLES (i : Nat) : Fld := ⟨0xb0200 + i * 0x10, 0, 32, false⟩
/-- R316 -/
def ROUTE_TELEM_GUARD_COUNT (i : Nat) : Fld := ⟨0xb0204 + i * 0x10, 0, 32, false⟩
/-- R316 -/
def ROUTE_TELEM_DISCARD_COUNT (i : Nat) : Fld := ⟨0xb0208 + i * 0x10, 0, 32, false⟩
/-- R316 -/
def ROUTE_TELEM_PEAK_FLITS (i : Nat) : Fld := ⟨0xb020c + i * 0x10, 0, 16, false⟩
/-- R297 -/
def RATE_CTL_ENABLE : Fld := ⟨0xb0800, 0, 1, false⟩
/-- R297 -/
def RATE_CTL_RESP_THRESH : Fld := ⟨0xb0800, 4, 12, false⟩
/-- R297 -/
def RATE_CTL_MIN_RATE : Fld := ⟨0xb0800, 16, 11, false⟩
/-- R297 -/
def RATE_CURVE_DECR : Fld := ⟨0xb0804, 0, 8, false⟩
/-- R297 -/
def RATE_CURVE_INCR : Fld := ⟨0xb0804, 8, 8, false⟩
/-- R297 -/
def RATE_CURVE_INTERVAL : Fld := ⟨0xb0804, 16, 8, false⟩
/-- R297 -/
def RATE_CURVE_CUT_GAP : Fld := ⟨0xb0804, 24, 8, false⟩
/-- R297 -/
def RATE_STATUS_THROTTLED : Fld := ⟨0xb0808, 0, 13, false⟩
/-- R297 -/
def RATE_STATUS_EVICT : Fld := ⟨0xb0808, 13, 1, false⟩
/-- R269 -/
def TIME_CTL_ENABLE : Fld := ⟨0xc0000, 0, 1, false⟩
/-- R269 -/
def TIME_CTL_MASTER : Fld := ⟨0xc0000, 1, 1, false⟩
/-- R269 -/
def TIME_CTL_PARENT : Fld := ⟨0xc0000, 2, 4, false⟩
/-- R269 -/
def TIME_CTL_HOLD_MAX : Fld := ⟨0xc0000, 8, 8, false⟩
/-- R269 -/
def TIME_STATUS_STATE : Fld := ⟨0xc0004, 0, 2, false⟩
/-- R269 -/
def TIME_STATUS_SYNCED : Fld := ⟨0xc0004, 2, 1, false⟩
/-- R269 -/
def TIME_STATUS_AHEAD : Fld := ⟨0xc0004, 3, 1, false⟩
/-- R269 -/
def TIME_STATUS_STEPPED : Fld := ⟨0xc0004, 4, 1, false⟩
/-- R269 -/
def TIME_STATUS_LOOP : Fld := ⟨0xc0004, 5, 1, false⟩
/-- R269 -/
def TIME_STATUS_HOPS : Fld := ⟨0xc0004, 8, 8, false⟩
/-- R269 -/
def TIME_NOW_LO_COUNT : Fld := ⟨0xc0008, 0, 32, false⟩
/-- R269 -/
def TIME_NOW_HI_COUNT : Fld := ⟨0xc000c, 0, 32, false⟩
/-- R269 -/
def TIME_SET_LO_COUNT : Fld := ⟨0xc0010, 0, 32, false⟩
/-- R269 -/
def TIME_SET_HI_COUNT : Fld := ⟨0xc0014, 0, 32, false⟩
/-- R269 -/
def TIME_OFFSET_VALUE : Fld := ⟨0xc0018, 0, 32, false⟩
/-- R269 -/
def TIME_PATH_DELAY (i : Nat) : Fld := ⟨0xc0100 + i * 0x8, 0, 24, false⟩
/-- R269 -/
def TIME_ASYM_CORR (i : Nat) : Fld := ⟨0xc0104 + i * 0x8, 0, 16, true⟩
/-- R270 -/
def BOLT_CMD_OP : Fld := ⟨0xd0000, 0, 2, false⟩
/-- R270 -/
def BOLT_CMD_CIRCUIT : Fld := ⟨0xd0000, 4, 11, false⟩
/-- R270 -/
def BOLT_STATUS_BUSY : Fld := ⟨0xd0004, 0, 1, false⟩
/-- R270 -/
def BOLT_STATUS_STATUS : Fld := ⟨0xd0004, 1, 8, false⟩
/-- R270 -/
def BOLT_STATUS_CIRCUIT : Fld := ⟨0xd0004, 9, 11, false⟩
/-- R270 -/
def BOLT_STATUS_CMD_LOST : Fld := ⟨0xd0004, 20, 1, false⟩
/-- R270 -/
def BOLT_FAIL_NODE : Fld := ⟨0xd0008, 0, 20, false⟩
/-- R270 -/
def BOLT_FAIL_REASON : Fld := ⟨0xd0008, 20, 12, false⟩
/-- R270 -/
def BOLT_SETUP_DEST_NODE : Fld := ⟨0xd0010, 0, 20, false⟩
/-- R270 -/
def BOLT_SETUP_DEST_FUNC : Fld := ⟨0xd0010, 20, 6, false⟩
/-- R270 -/
def BOLT_SETUP_DEST_KIND : Fld := ⟨0xd0010, 26, 1, false⟩
/-- R270 -/
def BOLT_SETUP_PAT_START : Fld := ⟨0xd0014, 0, 10, false⟩
/-- R270 -/
def BOLT_SETUP_PAT_STRIDE_LOG2 : Fld := ⟨0xd0014, 10, 4, false⟩
/-- R270 -/
def BOLT_SETUP_PAT_PKTS : Fld := ⟨0xd0014, 16, 8, false⟩
/-- R270 -/
def BOLT_SETUP_SIG0_PTR : Fld := ⟨0xd0018, 0, 32, false⟩
/-- R270 -/
def BOLT_SETUP_SIG1_PTR : Fld := ⟨0xd001c, 0, 32, false⟩
/-- R270 -/
def BOLT_SETUP_SIG2_PTR : Fld := ⟨0xd0020, 0, 32, false⟩
/-- R270 -/
def BOLT_PORT_CAP_FLITS (i : Nat) : Fld := ⟨0xd0100 + i * 0x4, 0, 11, false⟩
/-- R270 -/
def BOLT_PORT_CAP_PKTS (i : Nat) : Fld := ⟨0xd0100 + i * 0x4, 16, 8, false⟩
/-- R270 -/
def BOLT_PORT_LIMIT_MAX_PKTS (i : Nat) : Fld := ⟨0xd0140 + i * 0x4, 0, 8, false⟩
/-- R270 -/
def BOLT_PORT_USE_CIRCUITS (i : Nat) : Fld := ⟨0xd0180 + i * 0x4, 0, 9, false⟩
/-- R270 -/
def BOLT_PORT_USE_PEAK (i : Nat) : Fld := ⟨0xd0180 + i * 0x4, 16, 8, false⟩
/-- R270 -/
def BOLT_FUNC_SHARE_MAX (i : Nat) : Fld := ⟨0xd0200 + i * 0x4, 0, 20, false⟩
/-- R270 -/
def BOLT_SEL_PORT : Fld := ⟨0xd0300, 0, 4, false⟩
/-- R270 -/
def BOLT_SEL_INDEX : Fld := ⟨0xd0300, 4, 8, false⟩
/-- R270 -/
def BOLT_RD0_STATE : Fld := ⟨0xd0304, 0, 3, false⟩
/-- R270 -/
def BOLT_RD0_ROLE : Fld := ⟨0xd0304, 3, 2, false⟩
/-- R270 -/
def BOLT_RD0_KIND : Fld := ⟨0xd0304, 5, 1, false⟩
/-- R270 -/
def BOLT_RD0_FUNC : Fld := ⟨0xd0304, 6, 6, false⟩
/-- R270 -/
def BOLT_RD0_ADVANCE : Fld := ⟨0xd0304, 12, 4, false⟩
/-- R270 -/
def BOLT_RD1_PEER : Fld := ⟨0xd0308, 0, 20, false⟩
/-- R270 -/
def BOLT_RD2_START : Fld := ⟨0xd030c, 0, 10, false⟩
/-- R270 -/
def BOLT_RD2_STRIDE_LOG2 : Fld := ⟨0xd030c, 10, 4, false⟩
/-- R270 -/
def BOLT_RD2_PKTS : Fld := ⟨0xd030c, 16, 8, false⟩
/-- R270 -/
def BOLT_RD3_SLIP : Fld := ⟨0xd0310, 0, 32, false⟩
/-- R201 -/
def KNUCKLE_CAP_UNITS : Fld := ⟨0xe0000, 0, 4, false⟩
/-- R201 -/
def KNUCKLE_CAP_SPARSE : Fld := ⟨0xe0000, 4, 1, false⟩
/-- R201 -/
def KNUCKLE_CAP_WIDE : Fld := ⟨0xe0000, 5, 1, false⟩
/-- R201 -/
def KNUCKLE_STATUS_BUSY : Fld := ⟨0xe0004, 0, 8, false⟩
/-- R201 -/
def KNUCKLE_STATUS_PROG_ERR : Fld := ⟨0xe0004, 8, 1, false⟩
/-- R201 -/
def KNUCKLE_STATUS_PROG_ERR_ID : Fld := ⟨0xe0004, 16, 8, false⟩
/-- R201 -/
def KNUCKLE_CHAIN_HDR_VALID (i : Nat) : Fld := ⟨0xe0400 + i * 0x4, 0, 1, false⟩
/-- R201 -/
def KNUCKLE_CHAIN_HDR_STAGES (i : Nat) : Fld := ⟨0xe0400 + i * 0x4, 1, 4, false⟩
/-- R201 -/
def KNUCKLE_CHAIN_HDR_FUNC (i : Nat) : Fld := ⟨0xe0400 + i * 0x4, 8, 6, false⟩
/-- R201 -/
def KNUCKLE_STAGE_CTL_OP (i j : Nat) : Fld := ⟨0xe8000 + i * 0x80 + j * 0x10, 0, 4, false⟩
/-- R201 -/
def KNUCKLE_STAGE_CTL_FMT (i j : Nat) : Fld := ⟨0xe8000 + i * 0x80 + j * 0x10, 4, 4, false⟩
/-- R201 -/
def KNUCKLE_STAGE_OPND_LO_DATA (i j : Nat) : Fld := ⟨0xe8008 + i * 0x80 + j * 0x10, 0, 32, false⟩
/-- R201 -/
def KNUCKLE_STAGE_OPND_HI_DATA (i j : Nat) : Fld := ⟨0xe800c + i * 0x80 + j * 0x10, 0, 32, false⟩
/-- R232 -/
def TUMBLER_CAP_UNITS : Fld := ⟨0xf0000, 0, 4, false⟩
/-- R232 -/
def TUMBLER_CAP_CODED : Fld := ⟨0xf0000, 4, 1, false⟩
/-- R232 -/
def TUMBLER_STATUS_BUSY : Fld := ⟨0xf0004, 0, 8, false⟩
/-- R232 -/
def TUMBLER_STATUS_LOAD_BUSY : Fld := ⟨0xf0004, 8, 1, false⟩
/-- R232 -/
def TUMBLER_STATUS_LOAD_TABLE : Fld := ⟨0xf0004, 9, 6, false⟩
/-- R232 -/
def TUMBLER_STATUS_LOAD_VERSION : Fld := ⟨0xf0004, 16, 4, false⟩
/-- R232 -/
def TUMBLER_TBL_VER_A (i : Nat) : Fld := ⟨0xf0100 + i * 0x8, 0, 4, false⟩
/-- R232 -/
def TUMBLER_TBL_STATE_A (i : Nat) : Fld := ⟨0xf0100 + i * 0x8, 4, 2, false⟩
/-- R232 -/
def TUMBLER_TBL_VER_B (i : Nat) : Fld := ⟨0xf0100 + i * 0x8, 8, 4, false⟩
/-- R232 -/
def TUMBLER_TBL_STATE_B (i : Nat) : Fld := ⟨0xf0100 + i * 0x8, 12, 2, false⟩
/-- R232 -/
def TUMBLER_TBL_OLDER (i : Nat) : Fld := ⟨0xf0100 + i * 0x8, 14, 1, false⟩
/-- R232 -/
def TUMBLER_TBL_SYMBITS_A (i : Nat) : Fld := ⟨0xf0100 + i * 0x8, 16, 4, false⟩
/-- R232 -/
def TUMBLER_TBL_SYMBITS_B (i : Nat) : Fld := ⟨0xf0100 + i * 0x8, 20, 4, false⟩
/-- R232 -/
def TUMBLER_REFS_REFS_A (i : Nat) : Fld := ⟨0xf0104 + i * 0x8, 0, 16, false⟩
/-- R232 -/
def TUMBLER_REFS_REFS_B (i : Nat) : Fld := ⟨0xf0104 + i * 0x8, 16, 16, false⟩
/-- R146 -/
def XLATE_CTL_WALK_SHARE : Fld := ⟨0x100000, 0, 6, false⟩
/-- R146 -/
def XLATE_CTL_ARR_RESERVE : Fld := ⟨0x100000, 8, 5, false⟩
/-- R146 -/
def XLATE_STATUS_WALKS : Fld := ⟨0x100004, 0, 6, false⟩
/-- R146 -/
def XLATE_STATUS_INV : Fld := ⟨0x100004, 8, 4, false⟩
/-- R146 -/
def XLATE_ROOT_LO_VALID (i : Nat) : Fld := ⟨0x100100 + i * 0x20, 0, 1, false⟩
/-- R146 -/
def XLATE_ROOT_LO_ROOT (i : Nat) : Fld := ⟨0x100100 + i * 0x20, 12, 20, false⟩
/-- R146 -/
def XLATE_ROOT_HI_ROOT (i : Nat) : Fld := ⟨0x100104 + i * 0x20, 0, 20, false⟩
/-- R146 -/
def XLATE_ROOT_HI_KEY_SEL (i : Nat) : Fld := ⟨0x100104 + i * 0x20, 20, 6, false⟩
/-- R146 -/
def XLATE_FAULT_VA_LO_VA (i : Nat) : Fld := ⟨0x100108 + i * 0x20, 0, 32, false⟩
/-- R146 -/
def XLATE_FAULT_VA_HI_VA (i : Nat) : Fld := ⟨0x10010c + i * 0x20, 0, 32, false⟩
/-- R146 -/
def XLATE_FAULT_INFO_VALID (i : Nat) : Fld := ⟨0x100110 + i * 0x20, 0, 1, false⟩
/-- R146 -/
def XLATE_FAULT_INFO_KIND (i : Nat) : Fld := ⟨0x100110 + i * 0x20, 1, 3, false⟩
/-- R146 -/
def XLATE_FAULT_INFO_SIDE (i : Nat) : Fld := ⟨0x100110 + i * 0x20, 4, 1, false⟩
/-- R146 -/
def XLATE_FAULT_INFO_QUEUE (i : Nat) : Fld := ⟨0x100110 + i * 0x20, 8, 12, false⟩
/-- R146 -/
def XLATE_FAULT_INFO_COUNT (i : Nat) : Fld := ⟨0x100110 + i * 0x20, 24, 8, false⟩
/-- R129 -/
def WINDOW_CTL_QUARANTINE : Fld := ⟨0x110000, 0, 20, false⟩
/-- R129 -/
def WINDOW_STATUS_IN_USE : Fld := ⟨0x110004, 0, 17, false⟩
/-- R129 -/
def WINDOW_STATUS_NO_FREE : Fld := ⟨0x110004, 31, 1, false⟩
/-- R129 -/
def WINDOW_SEL_ID : Fld := ⟨0x110008, 0, 16, false⟩
/-- R129 -/
def WINDOW_RD_DATA (i : Nat) : Fld := ⟨0x110010 + i * 0x4, 0, 32, false⟩
/-- R129 -/
def WINDOW_QUOTA_MAX (i : Nat) : Fld := ⟨0x110100 + i * 0x4, 0, 17, false⟩
/-- R129 -/
def WINDOW_USED_COUNT (i : Nat) : Fld := ⟨0x110200 + i * 0x4, 0, 17, false⟩
/-- R177 -/
def KEYRING_CTL_WAIT_US : Fld := ⟨0x120000, 0, 20, false⟩
/-- R177 -/
def KEYRING_CTL_PINTLE_HANDOVER : Fld := ⟨0x120000, 20, 1, false⟩
/-- R177 -/
def KEYRING_ALGO_TREE_MAX_LOG2 : Fld := ⟨0x120004, 0, 6, false⟩
/-- R177 -/
def KEYRING_ALGO_RING_MIN_LOG2 : Fld := ⟨0x120004, 8, 6, false⟩
/-- R177 -/
def KEYRING_BASE_LO_BASE : Fld := ⟨0x120008, 12, 20, false⟩
/-- R177 -/
def KEYRING_BASE_HI_BASE : Fld := ⟨0x12000c, 0, 32, false⟩
/-- R177 -/
def KEYRING_CMD_GROUP : Fld := ⟨0x120010, 0, 12, false⟩
/-- R177 -/
def KEYRING_CMD_OP : Fld := ⟨0x120010, 12, 2, false⟩
/-- R177 -/
def KEYRING_STATUS_BUSY : Fld := ⟨0x120014, 0, 1, false⟩
/-- R177 -/
def KEYRING_STATUS_CAUSE : Fld := ⟨0x120014, 1, 3, false⟩
/-- R177 -/
def KEYRING_STATUS_CMD_LOST : Fld := ⟨0x120014, 4, 1, false⟩
/-- R177 -/
def KEYRING_STATUS_ACTIVE : Fld := ⟨0x120014, 16, 13, false⟩
/-- R177 -/
def KEYRING_SEL_GROUP : Fld := ⟨0x120018, 0, 12, false⟩
/-- R177 -/
def KEYRING_RD0_CUR_EPOCH : Fld := ⟨0x120020, 0, 32, false⟩
/-- R177 -/
def KEYRING_RD1_STATE : Fld := ⟨0x120024, 0, 3, false⟩
/-- R177 -/
def KEYRING_RD1_RUN : Fld := ⟨0x120024, 3, 4, false⟩
/-- R177 -/
def KEYRING_RD1_FUNC : Fld := ⟨0x120024, 7, 6, false⟩
/-- R177 -/
def KEYRING_RD1_WIDE : Fld := ⟨0x120024, 13, 1, false⟩
/-- R177 -/
def KEYRING_RD1_PROBED : Fld := ⟨0x120024, 14, 1, false⟩
/-- R177 -/
def KEYRING_RD1_V3_OK : Fld := ⟨0x120024, 15, 1, false⟩
/-- R177 -/
def KEYRING_RD1_TREE_MAX_LOG2 : Fld := ⟨0x120024, 16, 6, false⟩
/-- R177 -/
def KEYRING_RD1_RING_MIN_LOG2 : Fld := ⟨0x120024, 22, 6, false⟩
/-- R177 -/
def KEYRING_RD2_SLOW_NODE : Fld := ⟨0x120028, 0, 20, false⟩
/-- R177 -/
def KEYRING_RD3_SLOW_NS : Fld := ⟨0x12002c, 0, 32, false⟩
/-- R177 -/
def KEYRING_RD4_FAULT_EPOCH : Fld := ⟨0x120030, 0, 32, false⟩
/-- R177 -/
def KEYRING_RD5_FAULT_REASON : Fld := ⟨0x120034, 0, 12, false⟩
/-- R177 -/
def KEYRING_RD5_FAULT_NODE : Fld := ⟨0x120034, 12, 20, false⟩
/-- R177 -/
def KEYRING_RD6_RELEASED : Fld := ⟨0x120038, 0, 32, false⟩
/-- R177 -/
def KEYRING_RD7_FAULTS : Fld := ⟨0x12003c, 0, 32, false⟩
/-- R247 -/
def KEYRING_PINTLE_STATUS_SLOTS_USED : Fld := ⟨0x120040, 0, 14, false⟩
/-- R247 -/
def KEYRING_PINTLE_STATUS_BOXES : Fld := ⟨0x120040, 16, 13, false⟩
/-- R247 -/
def KEYRING_PINTLE_STATUS_POOL_SHORT : Fld := ⟨0x120040, 29, 1, false⟩
/-- R247 -/
def KEYRING_PINTLE_RD_STATE : Fld := ⟨0x120044, 0, 2, false⟩
/-- R247 -/
def KEYRING_PINTLE_RD_BOX : Fld := ⟨0x120044, 2, 1, false⟩
/-- R247 -/
def KEYRING_PINTLE_RD_LOCAL_OK : Fld := ⟨0x120044, 3, 1, false⟩
/-- R247 -/
def KEYRING_PINTLE_RD_CAUSE : Fld := ⟨0x120044, 4, 3, false⟩
/-- R247 -/
def KEYRING_PINTLE_RD_SLOTS : Fld := ⟨0x120044, 16, 9, false⟩
/-- R362 -/
def SECURITY_CTL_ROLL_AT_LOG2 : Fld := ⟨0x130000, 0, 5, false⟩
/-- R362 -/
def SECURITY_STATUS_KEYPORT_READY : Fld := ⟨0x130004, 0, 1, false⟩
/-- R362 -/
def SECURITY_STATUS_LOAD_ERR : Fld := ⟨0x130004, 1, 1, false⟩
/-- R362 -/
def SECURITY_STATUS_LOAD_ERR_PORT : Fld := ⟨0x130004, 2, 4, false⟩
/-- R362 -/
def SECURITY_TX_CUR_VALID (i : Nat) : Fld := ⟨0x130100 + i * 0x8, 0, 1, false⟩
/-- R362 -/
def SECURITY_TX_KPH (i : Nat) : Fld := ⟨0x130100 + i * 0x8, 1, 1, false⟩
/-- R362 -/
def SECURITY_TX_NEXT_LOADED (i : Nat) : Fld := ⟨0x130100 + i * 0x8, 2, 1, false⟩
/-- R362 -/
def SECURITY_TX_ARMED (i : Nat) : Fld := ⟨0x130100 + i * 0x8, 3, 1, false⟩
/-- R362 -/
def SECURITY_TX_ROLL_PEND (i : Nat) : Fld := ⟨0x130100 + i * 0x8, 4, 1, false⟩
/-- R362 -/
def SECURITY_TX_CLEAR (i : Nat) : Fld := ⟨0x130100 + i * 0x8, 5, 1, false⟩
/-- R362 -/
def SECURITY_TX_FSEQ_HI (i : Nat) : Fld := ⟨0x130100 + i * 0x8, 8, 24, false⟩
/-- R362 -/
def SECURITY_RX_CUR_VALID (i : Nat) : Fld := ⟨0x130104 + i * 0x8, 0, 1, false⟩
/-- R362 -/
def SECURITY_RX_KPH (i : Nat) : Fld := ⟨0x130104 + i * 0x8, 1, 1, false⟩
/-- R362 -/
def SECURITY_RX_NEXT_LOADED (i : Nat) : Fld := ⟨0x130104 + i * 0x8, 2, 1, false⟩
/-- R386 -/
def WARD_CTL_CKPT_US : Fld := ⟨0x140000, 0, 7, false⟩
/-- R386 -/
def WARD_STATUS_STATE : Fld := ⟨0x140004, 0, 3, false⟩
/-- R386 -/
def WARD_STATUS_ACTIVE_SLOT : Fld := ⟨0x140004, 3, 1, false⟩
/-- R386 -/
def WARD_STATUS_STAGED : Fld := ⟨0x140004, 4, 1, false⟩
/-- R386 -/
def WARD_STATUS_STAGE_BUSY : Fld := ⟨0x140004, 5, 1, false⟩
/-- R386 -/
def WARD_STATUS_CAUSE : Fld := ⟨0x140004, 6, 4, false⟩
/-- R386 -/
def WARD_STATUS_DENIED : Fld := ⟨0x140004, 10, 1, false⟩
/-- R386 -/
def WARD_STATUS_REVERTED : Fld := ⟨0x140004, 11, 1, false⟩
/-- R386 -/
def WARD_STATUS_WDOG : Fld := ⟨0x140004, 12, 1, false⟩
/-- R386 -/
def WARD_STATUS_ITEMS : Fld := ⟨0x140004, 16, 13, false⟩
/-- R386 -/
def WARD_CMD_OP : Fld := ⟨0x140008, 0, 2, false⟩
/-- R386 -/
def WARD_IMG_LO_BASE : Fld := ⟨0x14000c, 12, 20, false⟩
/-- R386 -/
def WARD_IMG_HI_BASE : Fld := ⟨0x140010, 0, 20, false⟩
/-- R386 -/
def WARD_IMG_HI_KEY_SEL : Fld := ⟨0x140010, 20, 6, false⟩
/-- R386 -/
def WARD_IMG_LEN_BYTES : Fld := ⟨0x140014, 0, 20, false⟩
/-- R386 -/
def WARD_MIN_SVN_SVN : Fld := ⟨0x140018, 0, 32, true⟩
/-- R386 -/
def WARD_ACTIVE_SVN_SVN : Fld := ⟨0x14001c, 0, 32, false⟩
/-- R386 -/
def WARD_CLAMP_INJ : Fld := ⟨0x140020, 0, 1, false⟩
/-- R386 -/
def WARD_CLAMP_TAGS : Fld := ⟨0x140020, 1, 1, false⟩
/-- R386 -/
def WARD_CLAMP_TIMEOUT : Fld := ⟨0x140020, 2, 1, false⟩
/-- R386 -/
def WARD_CLAMP_BOLT : Fld := ⟨0x140020, 3, 1, false⟩
/-- R386 -/
def WARD_CLAMP_CREDIT : Fld := ⟨0x140020, 4, 1, false⟩
/-- R386 -/
def WARD_SVC_CMD_OP : Fld := ⟨0x140040, 0, 2, false⟩
/-- R386 -/
def WARD_SVC_STATUS_BUSY : Fld := ⟨0x140044, 0, 1, false⟩
/-- R386 -/
def WARD_SVC_STATUS_ANSWER : Fld := ⟨0x140044, 1, 2, false⟩
/-- R386 -/
def WARD_SVC_JID_LO_JID : Fld := ⟨0x140048, 0, 32, false⟩
/-- R386 -/
def WARD_SVC_JID_HI_JID : Fld := ⟨0x14004c, 0, 32, false⟩
/-- R386 -/
def WARD_SVC_NODE_NODE : Fld := ⟨0x140050, 0, 20, false⟩
/-- R386 -/
def WARD_SVC_OLD_DATA (i : Nat) : Fld := ⟨0x140060 + i * 0x4, 0, 32, false⟩
/-- R424 -/
def CNT_SEL_EVENT : Fld := ⟨0x150000, 0, 5, false⟩
/-- R424 -/
def CNT_SEL_INST : Fld := ⟨0x150000, 5, 6, false⟩
/-- R424 -/
def CNT_SEL_GROUP : Fld := ⟨0x150000, 11, 2, false⟩
/-- R424 -/
def CNT_VAL_LO_COUNT : Fld := ⟨0x150004, 0, 32, false⟩
/-- R424 -/
def CNT_VAL_HI_COUNT : Fld := ⟨0x150008, 0, 32, false⟩
/-- R424 -/
def CNT_CMD_OP : Fld := ⟨0x150010, 0, 2, false⟩
/-- R424 -/
def CNT_CMD_FUNC : Fld := ⟨0x150010, 4, 6, false⟩
/-- R424 -/
def CNT_STATUS_BUSY : Fld := ⟨0x150014, 0, 1, false⟩
/-- R424 -/
def CNT_STATUS_ARMED : Fld := ⟨0x150014, 1, 1, false⟩
/-- R424 -/
def CNT_STATUS_CMD_ERR : Fld := ⟨0x150014, 2, 1, false⟩
/-- R424 -/
def CNT_STATUS_FAULT : Fld := ⟨0x150014, 3, 1, false⟩
/-- R424 -/
def CNT_STATUS_LATE_ARM : Fld := ⟨0x150014, 4, 1, false⟩
/-- R424 -/
def CNT_AT_LO_TIME : Fld := ⟨0x150018, 0, 32, false⟩
/-- R424 -/
def CNT_AT_HI_TIME : Fld := ⟨0x15001c, 0, 32, false⟩
/-- R424 -/
def CNT_DUMP_BASE_LO_BASE : Fld := ⟨0x150020, 12, 20, false⟩
/-- R424 -/
def CNT_DUMP_BASE_HI_BASE : Fld := ⟨0x150024, 0, 32, false⟩
/-- R424 -/
def CNT_VIEW_BASE_LO_BASE (i : Nat) : Fld := ⟨0x150100 + i * 0x10, 8, 24, false⟩
/-- R424 -/
def CNT_VIEW_BASE_HI_BASE (i : Nat) : Fld := ⟨0x150104 + i * 0x10, 0, 32, false⟩
/-- R424 -/
def CNT_VIEW_CTL_VIEW_EN (i : Nat) : Fld := ⟨0x150108 + i * 0x10, 0, 1, false⟩
/-- R424 -/
def CNT_VIEW_CTL_FAULT (i : Nat) : Fld := ⟨0x150108 + i * 0x10, 1, 1, false⟩
/-- R424 -/
def CNT_VIEW_CTL_PERIOD_US (i : Nat) : Fld := ⟨0x150108 + i * 0x10, 12, 20, false⟩
/-- R406 -/
def ERRLOG_CTL_ENABLE : Fld := ⟨0x158000, 0, 1, false⟩
/-- R406 -/
def ERRLOG_CTL_IRQ_EN : Fld := ⟨0x158000, 1, 1, false⟩
/-- R406 -/
def ERRLOG_CTL_COALESCE_US : Fld := ⟨0x158000, 8, 16, false⟩
/-- R406 -/
def ERRLOG_STATUS_FATAL : Fld := ⟨0x158004, 0, 1, false⟩
/-- R406 -/
def ERRLOG_STATUS_WRITE_ERR : Fld := ⟨0x158004, 1, 1, false⟩
/-- R406 -/
def ERRLOG_STATUS_OVF : Fld := ⟨0x158004, 2, 1, false⟩
/-- R406 -/
def ERRLOG_STATUS_IRQ : Fld := ⟨0x158004, 3, 1, false⟩
/-- R406 -/
def ERRLOG_STATUS_FATAL_UNIT : Fld := ⟨0x158004, 16, 8, false⟩
/-- R406 -/
def ERRLOG_BASE_LO_BASE : Fld := ⟨0x158008, 12, 20, false⟩
/-- R406 -/
def ERRLOG_BASE_HI_BASE : Fld := ⟨0x15800c, 0, 20, false⟩
/-- R406 -/
def ERRLOG_BASE_HI_KEY_SEL : Fld := ⟨0x15800c, 20, 6, false⟩
/-- R406 -/
def ERRLOG_SIZE_LOG2 : Fld := ⟨0x158010, 0, 5, false⟩
/-- R406 -/
def ERRLOG_TAIL_COUNT : Fld := ⟨0x158014, 0, 32, false⟩
/-- R406 -/
def ERRLOG_HEAD_COUNT : Fld := ⟨0x158018, 0, 32, false⟩
/-- R406 -/
def ERRLOG_DROPPED_COUNT : Fld := ⟨0x15801c, 0, 32, false⟩
/-- R425 -/
def TRACE_CTL_ENABLE : Fld := ⟨0x160000, 0, 1, false⟩
/-- R425 -/
def TRACE_CTL_SAMPLE_LOG2 : Fld := ⟨0x160000, 4, 4, false⟩
/-- R425 -/
def TRACE_CTL_PKT : Fld := ⟨0x160000, 8, 1, false⟩
/-- R425 -/
def TRACE_CTL_HOP : Fld := ⟨0x160000, 9, 1, false⟩
/-- R425 -/
def TRACE_CTL_QUEUE : Fld := ⟨0x160000, 10, 1, false⟩
/-- R425 -/
def TRACE_CTL_COL : Fld := ⟨0x160000, 11, 1, false⟩
/-- R425 -/
def TRACE_CTL_BOLT : Fld := ⟨0x160000, 12, 1, false⟩
/-- R425 -/
def TRACE_CTL_PORT : Fld := ⟨0x160000, 13, 1, false⟩
/-- R425 -/
def TRACE_CTL_FUNC_FILT : Fld := ⟨0x160000, 14, 6, false⟩
/-- R425 -/
def TRACE_CTL_FILT_EN : Fld := ⟨0x160000, 20, 1, false⟩
/-- R425 -/
def TRACE_STATUS_FAULT : Fld := ⟨0x160004, 0, 1, false⟩
/-- R425 -/
def TRACE_STATUS_LOSS_PEND : Fld := ⟨0x160004, 1, 1, false⟩
/-- R425 -/
def TRACE_STATUS_FIFO_PEAK : Fld := ⟨0x160004, 16, 9, false⟩
/-- R425 -/
def TRACE_BASE_LO_BASE : Fld := ⟨0x160008, 12, 20, false⟩
/-- R425 -/
def TRACE_BASE_HI_BASE : Fld := ⟨0x16000c, 0, 32, false⟩
/-- R425 -/
def TRACE_SIZE_LOG2 : Fld := ⟨0x160010, 0, 5, false⟩
/-- R425 -/
def TRACE_TAIL_COUNT : Fld := ⟨0x160014, 0, 32, false⟩
/-- R425 -/
def TRACE_HEAD_COUNT : Fld := ⟨0x160018, 0, 32, false⟩
/-- R425 -/
def TRACE_LOST_COUNT : Fld := ⟨0x16001c, 0, 32, false⟩
/-- R425 -/
def KH_CMD_OP : Fld := ⟨0x160100, 0, 2, false⟩
/-- R425 -/
def KH_STATUS_STATE : Fld := ⟨0x160104, 0, 3, false⟩
/-- R425 -/
def KH_STATUS_CMD_ERR : Fld := ⟨0x160104, 3, 1, false⟩
/-- R425 -/
def KH_STATUS_LATE_ARM : Fld := ⟨0x160104, 4, 1, false⟩
/-- R425 -/
def KH_STATUS_CNT_SKIPPED : Fld := ⟨0x160104, 5, 1, false⟩
/-- R425 -/
def KH_STATUS_SEQ : Fld := ⟨0x160104, 16, 16, false⟩
/-- R425 -/
def KH_AT_LO_TIME : Fld := ⟨0x160108, 0, 32, false⟩
/-- R425 -/
def KH_AT_HI_TIME : Fld := ⟨0x16010c, 0, 32, false⟩
/-- R425 -/
def KH_BASE_LO_BASE : Fld := ⟨0x160110, 12, 20, false⟩
/-- R425 -/
def KH_BASE_HI_BASE : Fld := ⟨0x160114, 0, 32, false⟩
/-- R425 -/
def KH_CTL_WITH_COUNTERS : Fld := ⟨0x160118, 0, 1, false⟩
/-- R364 -/
def FUNC_CTL_STRICT (i : Nat) : Fld := ⟨0x200000 + i * 0x8000, 0, 1, false⟩
/-- R364 -/
def FUNC_CTL_ZERO (i : Nat) : Fld := ⟨0x200000 + i * 0x8000, 1, 1, false⟩
/-- R364 -/
def FUNC_CTL_SCRATCH (i : Nat) : Fld := ⟨0x200000 + i * 0x8000, 2, 1, false⟩
/-- R364 -/
def FUNC_STATUS_STATE (i : Nat) : Fld := ⟨0x200004 + i * 0x8000, 0, 2, false⟩
/-- R364 -/
def FUNC_STATUS_CAUSE (i : Nat) : Fld := ⟨0x200004 + i * 0x8000, 2, 3, false⟩
/-- R364 -/
def FUNC_STATUS_CMD_ERR (i : Nat) : Fld := ⟨0x200004 + i * 0x8000, 5, 1, false⟩
/-- R364 -/
def FUNC_STATUS_DEADLINE_HIT (i : Nat) : Fld := ⟨0x200004 + i * 0x8000, 6, 1, false⟩
/-- R364 -/
def FUNC_STATUS_QUEUES (i : Nat) : Fld := ⟨0x200004 + i * 0x8000, 8, 13, false⟩
/-- R364 -/
def FUNC_CMD_OP (i : Nat) : Fld := ⟨0x200008 + i * 0x8000, 0, 2, false⟩
/-- R364 -/
def FUNC_SIG_BASE_BASE (i : Nat) : Fld := ⟨0x20000c + i * 0x8000, 0, 16, false⟩
/-- R364 -/
def FUNC_SIG_COUNT_COUNT (i : Nat) : Fld := ⟨0x200010 + i * 0x8000, 0, 17, false⟩
/-- R364 -/
def FUNC_INJ_FLITS_PER_US (i : Nat) : Fld := ⟨0x200014 + i * 0x8000, 0, 20, false⟩
/-- R364 -/
def FUNC_TAGS_MAX (i : Nat) : Fld := ⟨0x200018 + i * 0x8000, 0, 19, false⟩
/-- R364 -/
def FUNC_TAGS_USED_COUNT (i : Nat) : Fld := ⟨0x20001c + i * 0x8000, 0, 19, false⟩
/-- R364 -/
def FUNC_TIMEOUT_TOUT_US (i : Nat) : Fld := ⟨0x200020 + i * 0x8000, 0, 20, false⟩
/-- R364 -/
def FUNC_TIMEOUT_MIN_MIN_US (i : Nat) : Fld := ⟨0x200024 + i * 0x8000, 0, 20, false⟩
/-- R364 -/
def FUNC_DRAIN_DEADLINE_US (i : Nat) : Fld := ⟨0x200028 + i * 0x8000, 0, 20, false⟩
/-- R32 -/
def QUEUE_CTL_ENABLE (i : Nat) : Fld := ⟨0x400000 + i * 0x400, 0, 1, false⟩
/-- R32 -/
def QUEUE_CTL_KIND (i : Nat) : Fld := ⟨0x400000 + i * 0x400, 1, 2, false⟩
/-- R32 -/
def QUEUE_CTL_STOP_ON_ERR (i : Nat) : Fld := ⟨0x400000 + i * 0x400, 3, 1, false⟩
/-- R32 -/
def QUEUE_CTL_NYESH_CRC (i : Nat) : Fld := ⟨0x400000 + i * 0x400, 4, 1, false⟩
/-- R32 -/
def QUEUE_CTL_RETRY_OK (i : Nat) : Fld := ⟨0x400000 + i * 0x400, 5, 1, false⟩
/-- R32 -/
def QUEUE_CTL_EVENTS (i : Nat) : Fld := ⟨0x400000 + i * 0x400, 6, 1, false⟩
/-- R32 -/
def QUEUE_CTL_FUNC (i : Nat) : Fld := ⟨0x400000 + i * 0x400, 8, 6, false⟩
/-- R32 -/
def QUEUE_CTL_GROUP (i : Nat) : Fld := ⟨0x400000 + i * 0x400, 16, 12, false⟩
/-- R32 -/
def QUEUE_SQ_BASE_LO_BASE (i : Nat) : Fld := ⟨0x400004 + i * 0x400, 12, 20, false⟩
/-- R32 -/
def QUEUE_SQ_BASE_HI_BASE (i : Nat) : Fld := ⟨0x400008 + i * 0x400, 0, 32, false⟩
/-- R32 -/
def QUEUE_SQ_SIZE_LOG2 (i : Nat) : Fld := ⟨0x40000c + i * 0x400, 0, 5, false⟩
/-- R32 -/
def QUEUE_CQ_BASE_LO_BASE (i : Nat) : Fld := ⟨0x400010 + i * 0x400, 12, 20, false⟩
/-- R32 -/
def QUEUE_CQ_BASE_HI_BASE (i : Nat) : Fld := ⟨0x400014 + i * 0x400, 0, 32, false⟩
/-- R32 -/
def QUEUE_CQ_SIZE_LOG2 (i : Nat) : Fld := ⟨0x400018 + i * 0x400, 0, 5, false⟩
/-- R32 -/
def QUEUE_TAGS_SHARE (i : Nat) : Fld := ⟨0x40001c + i * 0x400, 0, 18, false⟩
/-- R32 -/
def QUEUE_STATUS_STATE (i : Nat) : Fld := ⟨0x400020 + i * 0x400, 0, 2, false⟩
/-- R32 -/
def QUEUE_STATUS_ERR (i : Nat) : Fld := ⟨0x400020 + i * 0x400, 8, 1, false⟩
/-- R32 -/
def QUEUE_STATUS_WAIT_TO (i : Nat) : Fld := ⟨0x400020 + i * 0x400, 9, 1, false⟩
/-- R32 -/
def QUEUE_STATUS_DB_OVF (i : Nat) : Fld := ⟨0x400020 + i * 0x400, 10, 1, false⟩
/-- R32 -/
def QUEUE_STATUS_RING_FAULT (i : Nat) : Fld := ⟨0x400020 + i * 0x400, 11, 1, false⟩
/-- R32 -/
def QUEUE_STATUS_CFG_ERR (i : Nat) : Fld := ⟨0x400020 + i * 0x400, 12, 1, false⟩
/-- R32 -/
def QUEUE_SQ_HEAD_COUNT (i : Nat) : Fld := ⟨0x400024 + i * 0x400, 0, 32, false⟩
/-- R32 -/
def QUEUE_SQ_TAIL_COUNT (i : Nat) : Fld := ⟨0x400028 + i * 0x400, 0, 32, false⟩
/-- R32 -/
def QUEUE_CQ_TAIL_COUNT (i : Nat) : Fld := ⟨0x40002c + i * 0x400, 0, 32, false⟩
/-- R32 -/
def QUEUE_CQ_HEAD_COUNT (i : Nat) : Fld := ⟨0x400030 + i * 0x400, 0, 32, false⟩
/-- R32 -/
def QUEUE_RANGES_USED (i : Nat) : Fld := ⟨0x400034 + i * 0x400, 0, 7, false⟩

end R

/-! ## The map -/

/-- R474: the GLOBAL registers. -/
def mapGlobal : List RegRow := [
  ⟨"GLOBAL_ID", 0x0, 1, 0x0, 1, 0x0, [⟨0, 16, .ro, true⟩, ⟨16, 16, .ro, true⟩]⟩,
  ⟨"GLOBAL_CAP", 0x4, 1, 0x0, 1, 0x0, [⟨0, 4, .ro, true⟩, ⟨4, 2, .ro, true⟩, ⟨6, 5, .ro, true⟩, ⟨11, 6, .ro, true⟩]⟩,
  ⟨"GLOBAL_START_CTL", 0x8, 1, 0x0, 1, 0x0, [⟨0, 1, .rws, true⟩, ⟨1, 1, .rws, true⟩]⟩,
  ⟨"GLOBAL_START_CMD", 0xc, 1, 0x0, 1, 0x0, [⟨0, 2, .wo, true⟩]⟩,
  ⟨"GLOBAL_START_STATUS", 0x10, 1, 0x0, 1, 0x0, [⟨0, 3, .ro, true⟩, ⟨3, 1, .ro, true⟩, ⟨4, 1, .w1c, true⟩, ⟨5, 1, .ro, true⟩, ⟨6, 1, .ro, true⟩, ⟨7, 1, .ro, true⟩, ⟨16, 16, .ro, true⟩]⟩,
  ⟨"GLOBAL_BIST", 0x14, 1, 0x0, 1, 0x0, [⟨0, 8, .ro, true⟩, ⟨8, 2, .ro, true⟩, ⟨10, 1, .ro, true⟩]⟩,
  ⟨"GLOBAL_READY", 0x18, 1, 0x0, 1, 0x0, [⟨0, 8, .ro, true⟩, ⟨8, 2, .ro, true⟩, ⟨10, 1, .ro, true⟩, ⟨11, 1, .ro, true⟩, ⟨12, 1, .ro, true⟩, ⟨13, 1, .ro, true⟩]⟩,
  ⟨"GLOBAL_READY_CHG", 0x1c, 1, 0x0, 1, 0x0, [⟨0, 14, .w1c, true⟩]⟩,
  ⟨"GLOBAL_IRQ_EN", 0x20, 1, 0x0, 1, 0x0, [⟨0, 14, .rw, true⟩]⟩,
  ⟨"GLOBAL_REQ_HOLD", 0x24, 1, 0x0, 1, 0x0, [⟨0, 16, .rws, true⟩]⟩,
  ⟨"GLOBAL_CLK", 0x28, 1, 0x0, 1, 0x0, [⟨0, 12, .ro, true⟩, ⟨12, 1, .ro, true⟩, ⟨13, 1, .w1c, true⟩]⟩,
  ⟨"GLOBAL_CLK_NOM", 0x2c, 1, 0x0, 1, 0x0, [⟨0, 21, .rws, true⟩]⟩,
  ⟨"GLOBAL_CAP2", 0x30, 1, 0x0, 1, 0x0, [⟨0, 5, .ro, true⟩, ⟨5, 5, .ro, true⟩, ⟨10, 3, .ro, true⟩, ⟨13, 7, .ro, true⟩, ⟨20, 4, .ro, true⟩, ⟨24, 4, .ro, true⟩]⟩,
  ⟨"GLOBAL_CAP3", 0x34, 1, 0x0, 1, 0x0, [⟨0, 7, .ro, true⟩, ⟨8, 7, .ro, true⟩, ⟨16, 4, .ro, true⟩]⟩,
  ⟨"GLOBAL_ST_CMD", 0x40, 1, 0x0, 1, 0x0, [⟨0, 2, .wo, true⟩]⟩,
  ⟨"GLOBAL_ST_ARG", 0x44, 1, 0x0, 1, 0x0, [⟨0, 2, .rw, true⟩, ⟨4, 6, .rw, true⟩, ⟨10, 4, .rw, true⟩]⟩,
  ⟨"GLOBAL_ST_BUF_LO", 0x48, 1, 0x0, 1, 0x0, [⟨12, 20, .rw, true⟩]⟩,
  ⟨"GLOBAL_ST_BUF_HI", 0x4c, 1, 0x0, 1, 0x0, [⟨0, 32, .rw, true⟩]⟩,
  ⟨"GLOBAL_ST_LEN", 0x50, 1, 0x0, 1, 0x0, [⟨0, 16, .rw, true⟩]⟩,
  ⟨"GLOBAL_ST_STATUS", 0x54, 1, 0x0, 1, 0x0, [⟨0, 2, .ro, true⟩, ⟨2, 1, .w1c, true⟩, ⟨8, 8, .ro, true⟩]⟩,
  ⟨"GLOBAL_ST_INFO", 0x58, 1, 0x0, 1, 0x0, [⟨0, 32, .ro, true⟩]⟩,
  ⟨"GLOBAL_ANCHOR", 0x70, 12, 0x4, 1, 0x0, [⟨0, 32, .ro, true⟩]⟩]

/-- R474: the JOURNAL registers. -/
def mapJournal : List RegRow := [
  ⟨"JOURNAL_BASE_LO", 0x100, 1, 0x0, 1, 0x0, [⟨12, 20, .rwl, true⟩]⟩,
  ⟨"JOURNAL_BASE_HI", 0x104, 1, 0x0, 1, 0x0, [⟨0, 32, .rwl, true⟩]⟩,
  ⟨"JOURNAL_SIZE", 0x108, 1, 0x0, 1, 0x0, [⟨0, 5, .rwl, true⟩]⟩,
  ⟨"JOURNAL_STATUS", 0x10c, 1, 0x0, 1, 0x0, [⟨0, 25, .ro, true⟩, ⟨30, 1, .w1c, true⟩, ⟨31, 1, .ro, true⟩]⟩]

/-- R474: the GATE registers. -/
def mapGate : List RegRow := [
  ⟨"GATE_CTL", 0x10000, 10, 0x10000, 1, 0x0, [⟨0, 1, .rw, false⟩, ⟨1, 2, .rw, false⟩, ⟨3, 1, .rw, false⟩, ⟨4, 1, .rw, false⟩, ⟨5, 1, .rw, false⟩, ⟨6, 3, .rw, false⟩, ⟨9, 1, .rw, false⟩, ⟨10, 1, .rw, false⟩]⟩,
  ⟨"GATE_STATUS", 0x10004, 10, 0x10000, 1, 0x0, [⟨0, 4, .ro, false⟩, ⟨4, 4, .ro, false⟩, ⟨8, 8, .ro, false⟩, ⟨16, 1, .ro, false⟩, ⟨17, 1, .ro, false⟩, ⟨18, 1, .ro, false⟩, ⟨19, 1, .w1c, false⟩, ⟨20, 1, .w1c, false⟩, ⟨21, 1, .w1c, false⟩, ⟨22, 1, .ro, true⟩]⟩,
  ⟨"GATE_CMD", 0x10008, 10, 0x10000, 1, 0x0, [⟨0, 1, .wo, false⟩, ⟨1, 1, .wo, false⟩]⟩,
  ⟨"GATE_NEG", 0x1000c, 10, 0x10000, 1, 0x0, [⟨0, 2, .ro, false⟩, ⟨2, 2, .ro, false⟩, ⟨4, 1, .ro, false⟩, ⟨5, 1, .ro, false⟩, ⟨6, 1, .ro, false⟩, ⟨7, 1, .ro, false⟩, ⟨8, 4, .ro, false⟩, ⟨16, 16, .ro, false⟩]⟩,
  ⟨"GATE_PARTNER_LO", 0x10010, 10, 0x10000, 1, 0x0, [⟨0, 32, .ro, true⟩]⟩,
  ⟨"GATE_PARTNER_HI", 0x10014, 10, 0x10000, 1, 0x0, [⟨0, 32, .ro, true⟩]⟩,
  ⟨"GATE_IDENT_LO", 0x10018, 10, 0x10000, 1, 0x0, [⟨0, 32, .rws, true⟩]⟩,
  ⟨"GATE_IDENT_HI", 0x1001c, 10, 0x10000, 1, 0x0, [⟨0, 32, .rws, true⟩]⟩,
  ⟨"GATE_LANES", 0x10020, 10, 0x10000, 1, 0x0, [⟨0, 9, .ro, false⟩, ⟨9, 9, .ro, false⟩, ⟨18, 4, .ro, false⟩, ⟨22, 4, .ro, false⟩]⟩,
  ⟨"GATE_RECAL", 0x10024, 10, 0x10000, 1, 0x0, [⟨0, 16, .rw, false⟩, ⟨16, 8, .rw, false⟩, ⟨24, 8, .rw, false⟩]⟩,
  ⟨"GATE_LANE", 0x10040, 10, 0x10000, 9, 0x4, [⟨0, 1, .ro, false⟩, ⟨1, 1, .ro, false⟩, ⟨2, 1, .ro, false⟩, ⟨3, 1, .ro, false⟩, ⟨4, 4, .ro, false⟩, ⟨8, 8, .ro, false⟩]⟩,
  ⟨"GATE_VC_SIZE", 0x10400, 10, 0x10000, 5, 0x4, [⟨0, 16, .rw, false⟩]⟩,
  ⟨"GATE_VC_STATE", 0x10420, 10, 0x10000, 5, 0x4, [⟨0, 16, .ro, false⟩, ⟨16, 16, .ro, false⟩]⟩,
  ⟨"GATE_RXBUF", 0x10440, 10, 0x10000, 1, 0x0, [⟨0, 7, .ro, false⟩, ⟨16, 16, .ro, false⟩]⟩,
  ⟨"GATE_ARB", 0x10444, 10, 0x10000, 1, 0x0, [⟨0, 8, .rw, false⟩, ⟨8, 8, .rw, false⟩, ⟨16, 8, .rw, false⟩, ⟨24, 8, .rw, false⟩]⟩,
  ⟨"GATE_ARB_CTL", 0x10448, 10, 0x10000, 1, 0x0, [⟨0, 7, .rw, false⟩, ⟨16, 16, .rw, false⟩]⟩,
  ⟨"GATE_CM", 0x1044c, 10, 0x10000, 1, 0x0, [⟨0, 16, .rw, false⟩, ⟨16, 1, .rw, false⟩]⟩,
  ⟨"GATE_FLOW_STATUS", 0x10450, 10, 0x10000, 1, 0x0, [⟨0, 1, .w1c, false⟩, ⟨1, 1, .w1c, false⟩, ⟨2, 1, .w1c, false⟩]⟩]

/-- R474: the ROUTE registers. -/
def mapRoute : List RegRow := [
  ⟨"ROUTE_CTL", 0xb0000, 1, 0x0, 1, 0x0, [⟨0, 16, .rw, false⟩]⟩,
  ⟨"ROUTE_STATUS", 0xb0004, 1, 0x0, 1, 0x0, [⟨0, 2, .ro, false⟩, ⟨2, 1, .ro, false⟩, ⟨3, 1, .w1c, false⟩, ⟨4, 1, .ro, false⟩, ⟨16, 16, .ro, false⟩]⟩,
  ⟨"ROUTE_CMD", 0xb0008, 1, 0x0, 1, 0x0, [⟨0, 2, .wo, false⟩, ⟨2, 1, .wo, false⟩]⟩,
  ⟨"ROUTE_SELF", 0xb000c, 1, 0x0, 1, 0x0, [⟨0, 20, .rwl, false⟩, ⟨31, 1, .rwl, false⟩]⟩,
  ⟨"ROUTE_EXTENT", 0xb0010, 1, 0x0, 1, 0x0, [⟨0, 7, .rwl, false⟩, ⟨8, 7, .rwl, false⟩, ⟨16, 6, .rwl, false⟩, ⟨24, 4, .rwl, false⟩]⟩,
  ⟨"ROUTE_POD", 0xb0014, 1, 0x0, 1, 0x0, [⟨0, 3, .rwl, false⟩, ⟨4, 3, .rwl, false⟩, ⟨8, 3, .rwl, false⟩]⟩,
  ⟨"ROUTE_FLIP_X_LO", 0xb0020, 1, 0x0, 1, 0x0, [⟨0, 32, .rw, false⟩]⟩,
  ⟨"ROUTE_FLIP_X_HI", 0xb0024, 1, 0x0, 1, 0x0, [⟨0, 32, .rw, false⟩]⟩,
  ⟨"ROUTE_FLIP_Y_LO", 0xb0028, 1, 0x0, 1, 0x0, [⟨0, 32, .rw, false⟩]⟩,
  ⟨"ROUTE_FLIP_Y_HI", 0xb002c, 1, 0x0, 1, 0x0, [⟨0, 32, .rw, false⟩]⟩,
  ⟨"ROUTE_FLIP_Z", 0xb0030, 1, 0x0, 1, 0x0, [⟨0, 32, .rw, false⟩]⟩,
  ⟨"ROUTE_FLIP_D", 0xb0034, 1, 0x0, 1, 0x0, [⟨0, 8, .rw, false⟩]⟩,
  ⟨"ROUTE_AUX", 0xb0040, 2, 0x4, 1, 0x0, [⟨0, 2, .rw, false⟩, ⟨2, 2, .rw, false⟩, ⟨4, 1, .rw, false⟩, ⟨5, 6, .rw, false⟩]⟩,
  ⟨"ROUTE_PORT_STATE", 0xb0050, 1, 0x0, 1, 0x0, [⟨0, 10, .ro, false⟩, ⟨16, 10, .ro, false⟩]⟩,
  ⟨"ROUTE_COL_LAND", 0xb0054, 1, 0x0, 1, 0x0, [⟨0, 16, .ro, false⟩, ⟨16, 16, .ro, false⟩]⟩,
  ⟨"ROUTE_DENY_VAL", 0xb0100, 16, 0x8, 1, 0x0, [⟨0, 20, .rw, false⟩, ⟨31, 1, .rw, false⟩]⟩,
  ⟨"ROUTE_DENY_MASK", 0xb0104, 16, 0x8, 1, 0x0, [⟨0, 20, .rw, false⟩]⟩,
  ⟨"ROUTE_TELEM_ENTRY", 0xb0200, 10, 0x10, 1, 0x0, [⟨0, 32, .ro, false⟩]⟩,
  ⟨"ROUTE_TELEM_GUARD", 0xb0204, 10, 0x10, 1, 0x0, [⟨0, 32, .ro, false⟩]⟩,
  ⟨"ROUTE_TELEM_DISCARD", 0xb0208, 10, 0x10, 1, 0x0, [⟨0, 32, .ro, false⟩]⟩,
  ⟨"ROUTE_TELEM_PEAK", 0xb020c, 10, 0x10, 1, 0x0, [⟨0, 16, .ro, false⟩]⟩]

/-- R474: the RATE registers. -/
def mapRate : List RegRow := [
  ⟨"RATE_CTL", 0xb0800, 1, 0x0, 1, 0x0, [⟨0, 1, .rw, false⟩, ⟨4, 12, .rw, false⟩, ⟨16, 11, .rw, false⟩]⟩,
  ⟨"RATE_CURVE", 0xb0804, 1, 0x0, 1, 0x0, [⟨0, 8, .rw, false⟩, ⟨8, 8, .rw, false⟩, ⟨16, 8, .rw, false⟩, ⟨24, 8, .rw, false⟩]⟩,
  ⟨"RATE_STATUS", 0xb0808, 1, 0x0, 1, 0x0, [⟨0, 13, .ro, false⟩, ⟨13, 1, .w1c, false⟩]⟩]

/-- R474: the TIME registers. -/
def mapTime : List RegRow := [
  ⟨"TIME_CTL", 0xc0000, 1, 0x0, 1, 0x0, [⟨0, 1, .rw, false⟩, ⟨1, 1, .rw, false⟩, ⟨2, 4, .rw, false⟩, ⟨8, 8, .rw, false⟩]⟩,
  ⟨"TIME_STATUS", 0xc0004, 1, 0x0, 1, 0x0, [⟨0, 2, .ro, false⟩, ⟨2, 1, .ro, false⟩, ⟨3, 1, .w1c, false⟩, ⟨4, 1, .w1c, false⟩, ⟨5, 1, .w1c, false⟩, ⟨8, 8, .ro, false⟩]⟩,
  ⟨"TIME_NOW_LO", 0xc0008, 1, 0x0, 1, 0x0, [⟨0, 32, .ro, false⟩]⟩,
  ⟨"TIME_NOW_HI", 0xc000c, 1, 0x0, 1, 0x0, [⟨0, 32, .ro, false⟩]⟩,
  ⟨"TIME_SET_LO", 0xc0010, 1, 0x0, 1, 0x0, [⟨0, 32, .rw, false⟩]⟩,
  ⟨"TIME_SET_HI", 0xc0014, 1, 0x0, 1, 0x0, [⟨0, 32, .rw, false⟩]⟩,
  ⟨"TIME_OFFSET", 0xc0018, 1, 0x0, 1, 0x0, [⟨0, 32, .ro, false⟩]⟩,
  ⟨"TIME_PATH", 0xc0100, 10, 0x8, 1, 0x0, [⟨0, 24, .ro, false⟩]⟩,
  ⟨"TIME_ASYM", 0xc0104, 10, 0x8, 1, 0x0, [⟨0, 16, .rws, true⟩]⟩]

/-- R474: the BOLT registers. -/
def mapBolt : List RegRow := [
  ⟨"BOLT_CMD", 0xd0000, 1, 0x0, 1, 0x0, [⟨0, 2, .wo, false⟩, ⟨4, 11, .wo, false⟩]⟩,
  ⟨"BOLT_STATUS", 0xd0004, 1, 0x0, 1, 0x0, [⟨0, 1, .ro, false⟩, ⟨1, 8, .ro, false⟩, ⟨9, 11, .ro, false⟩, ⟨20, 1, .w1c, false⟩]⟩,
  ⟨"BOLT_FAIL", 0xd0008, 1, 0x0, 1, 0x0, [⟨0, 20, .ro, false⟩, ⟨20, 12, .ro, false⟩]⟩,
  ⟨"BOLT_SETUP_DEST", 0xd0010, 1, 0x0, 1, 0x0, [⟨0, 20, .rw, false⟩, ⟨20, 6, .rw, false⟩, ⟨26, 1, .rw, false⟩]⟩,
  ⟨"BOLT_SETUP_PAT", 0xd0014, 1, 0x0, 1, 0x0, [⟨0, 10, .rw, false⟩, ⟨10, 4, .rw, false⟩, ⟨16, 8, .rw, false⟩]⟩,
  ⟨"BOLT_SETUP_SIG0", 0xd0018, 1, 0x0, 1, 0x0, [⟨0, 32, .rw, false⟩]⟩,
  ⟨"BOLT_SETUP_SIG1", 0xd001c, 1, 0x0, 1, 0x0, [⟨0, 32, .rw, false⟩]⟩,
  ⟨"BOLT_SETUP_SIG2", 0xd0020, 1, 0x0, 1, 0x0, [⟨0, 32, .rw, false⟩]⟩,
  ⟨"BOLT_PORT_CAP", 0xd0100, 10, 0x4, 1, 0x0, [⟨0, 11, .ro, false⟩, ⟨16, 8, .ro, false⟩]⟩,
  ⟨"BOLT_PORT_LIMIT", 0xd0140, 10, 0x4, 1, 0x0, [⟨0, 8, .rw, false⟩]⟩,
  ⟨"BOLT_PORT_USE", 0xd0180, 10, 0x4, 1, 0x0, [⟨0, 9, .ro, false⟩, ⟨16, 8, .ro, false⟩]⟩,
  ⟨"BOLT_FUNC_SHARE", 0xd0200, 64, 0x4, 1, 0x0, [⟨0, 20, .rw, false⟩]⟩,
  ⟨"BOLT_SEL", 0xd0300, 1, 0x0, 1, 0x0, [⟨0, 4, .rw, false⟩, ⟨4, 8, .rw, false⟩]⟩,
  ⟨"BOLT_RD0", 0xd0304, 1, 0x0, 1, 0x0, [⟨0, 3, .ro, false⟩, ⟨3, 2, .ro, false⟩, ⟨5, 1, .ro, false⟩, ⟨6, 6, .ro, false⟩, ⟨12, 4, .ro, false⟩]⟩,
  ⟨"BOLT_RD1", 0xd0308, 1, 0x0, 1, 0x0, [⟨0, 20, .ro, false⟩]⟩,
  ⟨"BOLT_RD2", 0xd030c, 1, 0x0, 1, 0x0, [⟨0, 10, .ro, false⟩, ⟨10, 4, .ro, false⟩, ⟨16, 8, .ro, false⟩]⟩,
  ⟨"BOLT_RD3", 0xd0310, 1, 0x0, 1, 0x0, [⟨0, 32, .ro, false⟩]⟩]

/-- R474: the KNUCKLE registers. -/
def mapKnuckle : List RegRow := [
  ⟨"KNUCKLE_CAP", 0xe0000, 1, 0x0, 1, 0x0, [⟨0, 4, .ro, false⟩, ⟨4, 1, .ro, false⟩, ⟨5, 1, .ro, false⟩]⟩,
  ⟨"KNUCKLE_STATUS", 0xe0004, 1, 0x0, 1, 0x0, [⟨0, 8, .ro, false⟩, ⟨8, 1, .w1c, false⟩, ⟨16, 8, .ro, false⟩]⟩,
  ⟨"KNUCKLE_CHAIN_HDR", 0xe0404, 255, 0x4, 1, 0x0, [⟨0, 1, .rw, false⟩, ⟨1, 4, .rw, false⟩, ⟨8, 6, .rw, false⟩]⟩,
  ⟨"KNUCKLE_STAGE_CTL", 0xe8080, 255, 0x80, 8, 0x10, [⟨0, 4, .rw, false⟩, ⟨4, 4, .rw, false⟩]⟩,
  ⟨"KNUCKLE_STAGE_OPND_LO", 0xe8088, 255, 0x80, 8, 0x10, [⟨0, 32, .rw, false⟩]⟩,
  ⟨"KNUCKLE_STAGE_OPND_HI", 0xe808c, 255, 0x80, 8, 0x10, [⟨0, 32, .rw, false⟩]⟩]

/-- R474: the TUMBLER registers. -/
def mapTumbler : List RegRow := [
  ⟨"TUMBLER_CAP", 0xf0000, 1, 0x0, 1, 0x0, [⟨0, 4, .ro, false⟩, ⟨4, 1, .ro, false⟩]⟩,
  ⟨"TUMBLER_STATUS", 0xf0004, 1, 0x0, 1, 0x0, [⟨0, 8, .ro, false⟩, ⟨8, 1, .ro, false⟩, ⟨9, 6, .ro, false⟩, ⟨16, 4, .ro, false⟩]⟩,
  ⟨"TUMBLER_TBL", 0xf0100, 64, 0x8, 1, 0x0, [⟨0, 4, .ro, false⟩, ⟨4, 2, .ro, false⟩, ⟨8, 4, .ro, false⟩, ⟨12, 2, .ro, false⟩, ⟨14, 1, .ro, false⟩, ⟨16, 4, .ro, false⟩, ⟨20, 4, .ro, false⟩]⟩,
  ⟨"TUMBLER_REFS", 0xf0104, 64, 0x8, 1, 0x0, [⟨0, 16, .ro, false⟩, ⟨16, 16, .ro, false⟩]⟩]

/-- R474: the XLATE registers. -/
def mapXlate : List RegRow := [
  ⟨"XLATE_CTL", 0x100000, 1, 0x0, 1, 0x0, [⟨0, 6, .rw, false⟩, ⟨8, 5, .rw, false⟩]⟩,
  ⟨"XLATE_STATUS", 0x100004, 1, 0x0, 1, 0x0, [⟨0, 6, .ro, false⟩, ⟨8, 4, .ro, false⟩]⟩,
  ⟨"XLATE_ROOT_LO", 0x100100, 64, 0x20, 1, 0x0, [⟨0, 1, .rw, false⟩, ⟨12, 20, .rw, false⟩]⟩,
  ⟨"XLATE_ROOT_HI", 0x100104, 64, 0x20, 1, 0x0, [⟨0, 20, .rw, false⟩, ⟨20, 6, .rw, false⟩]⟩,
  ⟨"XLATE_FAULT_VA_LO", 0x100108, 64, 0x20, 1, 0x0, [⟨0, 32, .ro, false⟩]⟩,
  ⟨"XLATE_FAULT_VA_HI", 0x10010c, 64, 0x20, 1, 0x0, [⟨0, 32, .ro, false⟩]⟩,
  ⟨"XLATE_FAULT_INFO", 0x100110, 64, 0x20, 1, 0x0, [⟨0, 1, .w1c, false⟩, ⟨1, 3, .ro, false⟩, ⟨4, 1, .ro, false⟩, ⟨8, 12, .ro, false⟩, ⟨24, 8, .ro, false⟩]⟩]

/-- R474: the WINDOW registers. -/
def mapWindow : List RegRow := [
  ⟨"WINDOW_CTL", 0x110000, 1, 0x0, 1, 0x0, [⟨0, 20, .rw, false⟩]⟩,
  ⟨"WINDOW_STATUS", 0x110004, 1, 0x0, 1, 0x0, [⟨0, 17, .ro, false⟩, ⟨31, 1, .ro, false⟩]⟩,
  ⟨"WINDOW_SEL", 0x110008, 1, 0x0, 1, 0x0, [⟨0, 16, .rw, false⟩]⟩,
  ⟨"WINDOW_RD", 0x110010, 10, 0x4, 1, 0x0, [⟨0, 32, .ro, false⟩]⟩,
  ⟨"WINDOW_QUOTA", 0x110100, 64, 0x4, 1, 0x0, [⟨0, 17, .rw, false⟩]⟩,
  ⟨"WINDOW_USED", 0x110200, 64, 0x4, 1, 0x0, [⟨0, 17, .ro, false⟩]⟩]

/-- R474: the KEYRING registers. -/
def mapKeyring : List RegRow := [
  ⟨"KEYRING_CTL", 0x120000, 1, 0x0, 1, 0x0, [⟨0, 20, .rw, false⟩, ⟨20, 1, .rw, false⟩]⟩,
  ⟨"KEYRING_ALGO", 0x120004, 1, 0x0, 1, 0x0, [⟨0, 6, .rw, false⟩, ⟨8, 6, .rw, false⟩]⟩,
  ⟨"KEYRING_BASE_LO", 0x120008, 1, 0x0, 1, 0x0, [⟨12, 20, .rw, false⟩]⟩,
  ⟨"KEYRING_BASE_HI", 0x12000c, 1, 0x0, 1, 0x0, [⟨0, 32, .rw, false⟩]⟩,
  ⟨"KEYRING_CMD", 0x120010, 1, 0x0, 1, 0x0, [⟨0, 12, .wo, false⟩, ⟨12, 2, .wo, false⟩]⟩,
  ⟨"KEYRING_STATUS", 0x120014, 1, 0x0, 1, 0x0, [⟨0, 1, .ro, false⟩, ⟨1, 3, .ro, false⟩, ⟨4, 1, .w1c, false⟩, ⟨16, 13, .ro, false⟩]⟩,
  ⟨"KEYRING_SEL", 0x120018, 1, 0x0, 1, 0x0, [⟨0, 12, .rw, false⟩]⟩,
  ⟨"KEYRING_RD0", 0x120020, 1, 0x0, 1, 0x0, [⟨0, 32, .ro, false⟩]⟩,
  ⟨"KEYRING_RD1", 0x120024, 1, 0x0, 1, 0x0, [⟨0, 3, .ro, false⟩, ⟨3, 4, .ro, false⟩, ⟨7, 6, .ro, false⟩, ⟨13, 1, .ro, false⟩, ⟨14, 1, .ro, false⟩, ⟨15, 1, .ro, false⟩, ⟨16, 6, .ro, false⟩, ⟨22, 6, .ro, false⟩]⟩,
  ⟨"KEYRING_RD2", 0x120028, 1, 0x0, 1, 0x0, [⟨0, 20, .ro, false⟩]⟩,
  ⟨"KEYRING_RD3", 0x12002c, 1, 0x0, 1, 0x0, [⟨0, 32, .ro, false⟩]⟩,
  ⟨"KEYRING_RD4", 0x120030, 1, 0x0, 1, 0x0, [⟨0, 32, .ro, false⟩]⟩,
  ⟨"KEYRING_RD5", 0x120034, 1, 0x0, 1, 0x0, [⟨0, 12, .ro, false⟩, ⟨12, 20, .ro, false⟩]⟩,
  ⟨"KEYRING_RD6", 0x120038, 1, 0x0, 1, 0x0, [⟨0, 32, .ro, false⟩]⟩,
  ⟨"KEYRING_RD7", 0x12003c, 1, 0x0, 1, 0x0, [⟨0, 32, .ro, false⟩]⟩,
  ⟨"KEYRING_PINTLE_STATUS", 0x120040, 1, 0x0, 1, 0x0, [⟨0, 14, .ro, false⟩, ⟨16, 13, .ro, false⟩, ⟨29, 1, .w1c, false⟩]⟩,
  ⟨"KEYRING_PINTLE_RD", 0x120044, 1, 0x0, 1, 0x0, [⟨0, 2, .ro, false⟩, ⟨2, 1, .ro, false⟩, ⟨3, 1, .ro, false⟩, ⟨4, 3, .ro, false⟩, ⟨16, 9, .ro, false⟩]⟩]

/-- R474: the SECURITY registers. -/
def mapSecurity : List RegRow := [
  ⟨"SECURITY_CTL", 0x130000, 1, 0x0, 1, 0x0, [⟨0, 5, .rw, false⟩]⟩,
  ⟨"SECURITY_STATUS", 0x130004, 1, 0x0, 1, 0x0, [⟨0, 1, .ro, false⟩, ⟨1, 1, .w1c, false⟩, ⟨2, 4, .ro, false⟩]⟩,
  ⟨"SECURITY_TX", 0x130100, 10, 0x8, 1, 0x0, [⟨0, 1, .ro, false⟩, ⟨1, 1, .ro, false⟩, ⟨2, 1, .ro, false⟩, ⟨3, 1, .ro, false⟩, ⟨4, 1, .ro, false⟩, ⟨5, 1, .ro, false⟩, ⟨8, 24, .ro, false⟩]⟩,
  ⟨"SECURITY_RX", 0x130104, 10, 0x8, 1, 0x0, [⟨0, 1, .ro, false⟩, ⟨1, 1, .ro, false⟩, ⟨2, 1, .ro, false⟩]⟩]

/-- R474: the WARD registers. -/
def mapWard : List RegRow := [
  ⟨"WARD_CTL", 0x140000, 1, 0x0, 1, 0x0, [⟨0, 7, .rw, false⟩]⟩,
  ⟨"WARD_STATUS", 0x140004, 1, 0x0, 1, 0x0, [⟨0, 3, .ro, false⟩, ⟨3, 1, .ro, false⟩, ⟨4, 1, .ro, false⟩, ⟨5, 1, .ro, false⟩, ⟨6, 4, .ro, false⟩, ⟨10, 1, .w1c, false⟩, ⟨11, 1, .w1c, false⟩, ⟨12, 1, .w1c, false⟩, ⟨16, 13, .ro, false⟩]⟩,
  ⟨"WARD_CMD", 0x140008, 1, 0x0, 1, 0x0, [⟨0, 2, .wo, false⟩]⟩,
  ⟨"WARD_IMG_LO", 0x14000c, 1, 0x0, 1, 0x0, [⟨12, 20, .rw, false⟩]⟩,
  ⟨"WARD_IMG_HI", 0x140010, 1, 0x0, 1, 0x0, [⟨0, 20, .rw, false⟩, ⟨20, 6, .rw, false⟩]⟩,
  ⟨"WARD_IMG_LEN", 0x140014, 1, 0x0, 1, 0x0, [⟨0, 20, .rw, false⟩]⟩,
  ⟨"WARD_MIN_SVN", 0x140018, 1, 0x0, 1, 0x0, [⟨0, 32, .rws, true⟩]⟩,
  ⟨"WARD_ACTIVE_SVN", 0x14001c, 1, 0x0, 1, 0x0, [⟨0, 32, .ro, false⟩]⟩,
  ⟨"WARD_CLAMP", 0x140020, 1, 0x0, 1, 0x0, [⟨0, 1, .w1c, false⟩, ⟨1, 1, .w1c, false⟩, ⟨2, 1, .w1c, false⟩, ⟨3, 1, .w1c, false⟩, ⟨4, 1, .w1c, false⟩]⟩,
  ⟨"WARD_SVC_CMD", 0x140040, 1, 0x0, 1, 0x0, [⟨0, 2, .wo, false⟩]⟩,
  ⟨"WARD_SVC_STATUS", 0x140044, 1, 0x0, 1, 0x0, [⟨0, 1, .ro, false⟩, ⟨1, 2, .ro, false⟩]⟩,
  ⟨"WARD_SVC_JID_LO", 0x140048, 1, 0x0, 1, 0x0, [⟨0, 32, .rw, false⟩]⟩,
  ⟨"WARD_SVC_JID_HI", 0x14004c, 1, 0x0, 1, 0x0, [⟨0, 32, .rw, false⟩]⟩,
  ⟨"WARD_SVC_NODE", 0x140050, 1, 0x0, 1, 0x0, [⟨0, 20, .rw, false⟩]⟩,
  ⟨"WARD_SVC_OLD", 0x140060, 4, 0x4, 1, 0x0, [⟨0, 32, .ro, false⟩]⟩]

/-- R474: the CNT registers. -/
def mapCnt : List RegRow := [
  ⟨"CNT_SEL", 0x150000, 1, 0x0, 1, 0x0, [⟨0, 5, .rw, false⟩, ⟨5, 6, .rw, false⟩, ⟨11, 2, .rw, false⟩]⟩,
  ⟨"CNT_VAL_LO", 0x150004, 1, 0x0, 1, 0x0, [⟨0, 32, .ro, false⟩]⟩,
  ⟨"CNT_VAL_HI", 0x150008, 1, 0x0, 1, 0x0, [⟨0, 32, .ro, false⟩]⟩,
  ⟨"CNT_CMD", 0x150010, 1, 0x0, 1, 0x0, [⟨0, 2, .wo, false⟩, ⟨4, 6, .wo, false⟩]⟩,
  ⟨"CNT_STATUS", 0x150014, 1, 0x0, 1, 0x0, [⟨0, 1, .ro, false⟩, ⟨1, 1, .ro, false⟩, ⟨2, 1, .w1c, false⟩, ⟨3, 1, .w1c, false⟩, ⟨4, 1, .w1c, false⟩]⟩,
  ⟨"CNT_AT_LO", 0x150018, 1, 0x0, 1, 0x0, [⟨0, 32, .rw, false⟩]⟩,
  ⟨"CNT_AT_HI", 0x15001c, 1, 0x0, 1, 0x0, [⟨0, 32, .rw, false⟩]⟩,
  ⟨"CNT_DUMP_BASE_LO", 0x150020, 1, 0x0, 1, 0x0, [⟨12, 20, .rw, false⟩]⟩,
  ⟨"CNT_DUMP_BASE_HI", 0x150024, 1, 0x0, 1, 0x0, [⟨0, 32, .rw, false⟩]⟩,
  ⟨"CNT_VIEW_BASE_LO", 0x150100, 64, 0x10, 1, 0x0, [⟨8, 24, .rw, false⟩]⟩,
  ⟨"CNT_VIEW_BASE_HI", 0x150104, 64, 0x10, 1, 0x0, [⟨0, 32, .rw, false⟩]⟩,
  ⟨"CNT_VIEW_CTL", 0x150108, 64, 0x10, 1, 0x0, [⟨0, 1, .rw, false⟩, ⟨1, 1, .w1c, false⟩, ⟨12, 20, .rw, false⟩]⟩]

/-- R474: the ERRLOG registers. -/
def mapErrlog : List RegRow := [
  ⟨"ERRLOG_CTL", 0x158000, 1, 0x0, 1, 0x0, [⟨0, 1, .rw, false⟩, ⟨1, 1, .rw, false⟩, ⟨8, 16, .rw, false⟩]⟩,
  ⟨"ERRLOG_STATUS", 0x158004, 1, 0x0, 1, 0x0, [⟨0, 1, .ro, false⟩, ⟨1, 1, .w1c, false⟩, ⟨2, 1, .w1c, false⟩, ⟨3, 1, .ro, false⟩, ⟨16, 8, .ro, false⟩]⟩,
  ⟨"ERRLOG_BASE_LO", 0x158008, 1, 0x0, 1, 0x0, [⟨12, 20, .rw, false⟩]⟩,
  ⟨"ERRLOG_BASE_HI", 0x15800c, 1, 0x0, 1, 0x0, [⟨0, 20, .rw, false⟩, ⟨20, 6, .rw, false⟩]⟩,
  ⟨"ERRLOG_SIZE", 0x158010, 1, 0x0, 1, 0x0, [⟨0, 5, .rw, false⟩]⟩,
  ⟨"ERRLOG_TAIL", 0x158014, 1, 0x0, 1, 0x0, [⟨0, 32, .ro, false⟩]⟩,
  ⟨"ERRLOG_HEAD", 0x158018, 1, 0x0, 1, 0x0, [⟨0, 32, .rw, false⟩]⟩,
  ⟨"ERRLOG_DROPPED", 0x15801c, 1, 0x0, 1, 0x0, [⟨0, 32, .ro, false⟩]⟩]

/-- R474: the TRACE registers. -/
def mapTrace : List RegRow := [
  ⟨"TRACE_CTL", 0x160000, 1, 0x0, 1, 0x0, [⟨0, 1, .rw, false⟩, ⟨4, 4, .rw, false⟩, ⟨8, 1, .rw, false⟩, ⟨9, 1, .rw, false⟩, ⟨10, 1, .rw, false⟩, ⟨11, 1, .rw, false⟩, ⟨12, 1, .rw, false⟩, ⟨13, 1, .rw, false⟩, ⟨14, 6, .rw, false⟩, ⟨20, 1, .rw, false⟩]⟩,
  ⟨"TRACE_STATUS", 0x160004, 1, 0x0, 1, 0x0, [⟨0, 1, .w1c, false⟩, ⟨1, 1, .ro, false⟩, ⟨16, 9, .ro, false⟩]⟩,
  ⟨"TRACE_BASE_LO", 0x160008, 1, 0x0, 1, 0x0, [⟨12, 20, .rw, false⟩]⟩,
  ⟨"TRACE_BASE_HI", 0x16000c, 1, 0x0, 1, 0x0, [⟨0, 32, .rw, false⟩]⟩,
  ⟨"TRACE_SIZE", 0x160010, 1, 0x0, 1, 0x0, [⟨0, 5, .rw, false⟩]⟩,
  ⟨"TRACE_TAIL", 0x160014, 1, 0x0, 1, 0x0, [⟨0, 32, .ro, false⟩]⟩,
  ⟨"TRACE_HEAD", 0x160018, 1, 0x0, 1, 0x0, [⟨0, 32, .rw, false⟩]⟩,
  ⟨"TRACE_LOST", 0x16001c, 1, 0x0, 1, 0x0, [⟨0, 32, .ro, false⟩]⟩]

/-- R474: the KH registers. -/
def mapKh : List RegRow := [
  ⟨"KH_CMD", 0x160100, 1, 0x0, 1, 0x0, [⟨0, 2, .wo, false⟩]⟩,
  ⟨"KH_STATUS", 0x160104, 1, 0x0, 1, 0x0, [⟨0, 3, .ro, false⟩, ⟨3, 1, .w1c, false⟩, ⟨4, 1, .w1c, false⟩, ⟨5, 1, .w1c, false⟩, ⟨16, 16, .ro, false⟩]⟩,
  ⟨"KH_AT_LO", 0x160108, 1, 0x0, 1, 0x0, [⟨0, 32, .rw, false⟩]⟩,
  ⟨"KH_AT_HI", 0x16010c, 1, 0x0, 1, 0x0, [⟨0, 32, .rw, false⟩]⟩,
  ⟨"KH_BASE_LO", 0x160110, 1, 0x0, 1, 0x0, [⟨12, 20, .rw, false⟩]⟩,
  ⟨"KH_BASE_HI", 0x160114, 1, 0x0, 1, 0x0, [⟨0, 32, .rw, false⟩]⟩,
  ⟨"KH_CTL", 0x160118, 1, 0x0, 1, 0x0, [⟨0, 1, .rw, false⟩]⟩]

/-- R474: the FUNC registers. -/
def mapFunc : List RegRow := [
  ⟨"FUNC_CTL", 0x200000, 64, 0x8000, 1, 0x0, [⟨0, 1, .rw, false⟩, ⟨1, 1, .rw, false⟩, ⟨2, 1, .rw, false⟩]⟩,
  ⟨"FUNC_STATUS", 0x200004, 64, 0x8000, 1, 0x0, [⟨0, 2, .ro, false⟩, ⟨2, 3, .ro, false⟩, ⟨5, 1, .w1c, false⟩, ⟨6, 1, .w1c, false⟩, ⟨8, 13, .ro, false⟩]⟩,
  ⟨"FUNC_CMD", 0x200008, 64, 0x8000, 1, 0x0, [⟨0, 2, .wo, false⟩]⟩,
  ⟨"FUNC_SIG_BASE", 0x20000c, 64, 0x8000, 1, 0x0, [⟨0, 16, .rw, false⟩]⟩,
  ⟨"FUNC_SIG_COUNT", 0x200010, 64, 0x8000, 1, 0x0, [⟨0, 17, .rw, false⟩]⟩,
  ⟨"FUNC_INJ", 0x200014, 64, 0x8000, 1, 0x0, [⟨0, 20, .rw, false⟩]⟩,
  ⟨"FUNC_TAGS", 0x200018, 64, 0x8000, 1, 0x0, [⟨0, 19, .rw, false⟩]⟩,
  ⟨"FUNC_TAGS_USED", 0x20001c, 64, 0x8000, 1, 0x0, [⟨0, 19, .ro, false⟩]⟩,
  ⟨"FUNC_TIMEOUT", 0x200020, 64, 0x8000, 1, 0x0, [⟨0, 20, .rw, false⟩]⟩,
  ⟨"FUNC_TIMEOUT_MIN", 0x200024, 64, 0x8000, 1, 0x0, [⟨0, 20, .rw, false⟩]⟩,
  ⟨"FUNC_DRAIN", 0x200028, 64, 0x8000, 1, 0x0, [⟨0, 20, .rw, false⟩]⟩]

/-- R474: the QUEUE registers. -/
def mapQueue : List RegRow := [
  ⟨"QUEUE_CTL", 0x400000, 4096, 0x400, 1, 0x0, [⟨0, 1, .rw, false⟩, ⟨1, 2, .rw, false⟩, ⟨3, 1, .rw, false⟩, ⟨4, 1, .rw, false⟩, ⟨5, 1, .rw, false⟩, ⟨6, 1, .rw, false⟩, ⟨8, 6, .rw, false⟩, ⟨16, 12, .rw, false⟩]⟩,
  ⟨"QUEUE_SQ_BASE_LO", 0x400004, 4096, 0x400, 1, 0x0, [⟨12, 20, .rw, false⟩]⟩,
  ⟨"QUEUE_SQ_BASE_HI", 0x400008, 4096, 0x400, 1, 0x0, [⟨0, 32, .rw, false⟩]⟩,
  ⟨"QUEUE_SQ_SIZE", 0x40000c, 4096, 0x400, 1, 0x0, [⟨0, 5, .rw, false⟩]⟩,
  ⟨"QUEUE_CQ_BASE_LO", 0x400010, 4096, 0x400, 1, 0x0, [⟨12, 20, .rw, false⟩]⟩,
  ⟨"QUEUE_CQ_BASE_HI", 0x400014, 4096, 0x400, 1, 0x0, [⟨0, 32, .rw, false⟩]⟩,
  ⟨"QUEUE_CQ_SIZE", 0x400018, 4096, 0x400, 1, 0x0, [⟨0, 5, .rw, false⟩]⟩,
  ⟨"QUEUE_TAGS", 0x40001c, 4096, 0x400, 1, 0x0, [⟨0, 18, .rw, false⟩]⟩,
  ⟨"QUEUE_STATUS", 0x400020, 4096, 0x400, 1, 0x0, [⟨0, 2, .ro, false⟩, ⟨8, 1, .w1c, false⟩, ⟨9, 1, .w1c, false⟩, ⟨10, 1, .w1c, false⟩, ⟨11, 1, .w1c, false⟩, ⟨12, 1, .w1c, false⟩]⟩,
  ⟨"QUEUE_SQ_HEAD", 0x400024, 4096, 0x400, 1, 0x0, [⟨0, 32, .ro, false⟩]⟩,
  ⟨"QUEUE_SQ_TAIL", 0x400028, 4096, 0x400, 1, 0x0, [⟨0, 32, .ro, false⟩]⟩,
  ⟨"QUEUE_CQ_TAIL", 0x40002c, 4096, 0x400, 1, 0x0, [⟨0, 32, .ro, false⟩]⟩,
  ⟨"QUEUE_CQ_HEAD", 0x400030, 4096, 0x400, 1, 0x0, [⟨0, 32, .ro, false⟩]⟩,
  ⟨"QUEUE_RANGES", 0x400034, 4096, 0x400, 1, 0x0, [⟨0, 7, .ro, false⟩]⟩]

/-- R474: every register of the block. -/
def regMap : List RegRow :=
  mapGlobal ++ mapJournal ++ mapGate ++ mapRoute ++ mapRate ++ mapTime ++ mapBolt ++ mapKnuckle ++ mapTumbler ++ mapXlate ++ mapWindow ++ mapKeyring ++ mapSecurity ++ mapWard ++ mapCnt ++ mapErrlog ++ mapTrace ++ mapKh ++ mapFunc ++ mapQueue

/-- The row that holds a byte address, with the instance's indices. -/
def RegRow.indices (r : RegRow) (a : Nat) : Option (Nat × Nat) :=
  if a < r.base then none else
    let d := a - r.base
    let i := if r.s1 = 0 then 0 else d / r.s1
    let e := d - i * r.s1
    let j := if r.s2 = 0 then 0 else e / r.s2
    if i < r.n1 ∧ j < r.n2 ∧ e = j * r.s2 then some (i, j) else none

/-- The row and indices of a byte address; none where no register lies (R455). -/
def findReg (a : Nat) : List RegRow → Option (RegRow × Nat × Nat)
  | [] => none
  | r :: t => match r.indices a with
    | some (i, j) => some (r, i, j)
    | none => findReg a t

/-! ## Reset words -/

/-- Reset words of the GLOBAL block (R385, R405, R431, R469). -/
def resetGlobal (b : Build) (a : Nat) : Nat :=
  if a = 0x0 then 0x3010480
  else if a = 0x4 then pack [(0, 4, b.gates), (4, 2, b.hinges), (6, 5, b.tagsLog2), (11, 6, b.walkers)]
  else if a = 0x24 then 0xfa1
  else if a = 0x2C then 0x1ab3f0
  else if a = 0x30 then pack [(0, 5, b.msps), (5, 5, b.mspIl), (10, 3, b.ssps), (13, 7, b.sspLat), (20, 4, b.stagingLog2), (24, 4, b.holdLog2)]
  else if a = 0x34 then pack [(0, 7, b.boltStageKib / 64), (8, 7, b.boltLandKib / 64), (16, 4, b.pintleSlots / 1024)]
  else if a = 0x50 then 0x4
  else 0

/-- Reset words of a port block at offset `o` (R296, R342). -/
def resetPort (hinge : Bool) (kib o : Nat) : Nat :=
  if o = 0x0 then if hinge then 0x1c0 else 0x7d6
  else if o = 0x20 then if hinge then 0 else 0x3fc0000
  else if o = 0x24 then if hinge then 0 else 0x140d03e8
  else if 0x40 ≤ o ∧ o < 0x64 then if hinge then 0 else 0xf0
  else if o = 0x400 then 256
  else if o = 0x404 then 1536
  else if o = 0x408 then 512
  else if o = 0x40c then 2048
  else if o = 0x410 then 2048
  else if o = 0x440 then pack [(0, 7, kib / 64), (16, 16, kib / 64 * 1024 - 6400)]
  else if o = 0x444 then 0x4080204
  else if o = 0x448 then 0x4000008
  else if o = 0x44c then 0x10200
  else 0

/-- Reset words of the core blocks from ROUTE to KH. -/
def resetUnits (b : Build) (a : Nat) : Nat :=
  if a = 0xb0000 then 0x14
  else if a = 0xb0010 then 0x2010101
  else if a = 0xb0054 then pack [(0, 16, b.landKib)]
  else if a = 0xb0800 then 0x81001
  else if a = 0xb0804 then 0x2081040
  else if a = 0xc0000 then 0x103c
  else if a = 0xd0014 then 0x10000
  else if 0xd0140 ≤ a ∧ a < 0xd0168 ∧ a % 0x4 = 0x0 then 0xff
  else if a = 0xe0000 then pack [(0, 4, b.gates)] + 0x30
  else if a = 0xf0000 then pack [(0, 4, b.gates)] + 0x10
  else if a = 0x100000 then 0x108
  else if a = 0x110000 then 0xc8
  else if 0x110100 ≤ a ∧ a < 0x110200 ∧ a % 0x4 = 0x0 then 0x10000
  else if a = 0x120000 then 0x1003e8
  else if a = 0x120004 then 0x1410
  else if a = 0x130000 then 0x1f
  else if a = 0x140000 then 0x32
  else if 0x150108 ≤ a ∧ a < 0x150508 ∧ a % 0x10 = 0x8 then 0x3e8000
  else if a = 0x158000 then 0x6400
  else if a = 0x158010 then 0x6
  else if a = 0x160000 then 0x20a0
  else if a = 0x160010 then 0xa
  else 0

/-- Reset words of the FUNCTION blocks (R364). -/
def resetFunc (a : Nat) : Nat :=
  if 0x200014 ≤ a ∧ a < 0x400014 ∧ a % 0x8000 = 0x14 then 0xfffff
  else if 0x200018 ≤ a ∧ a < 0x400018 ∧ a % 0x8000 = 0x18 then 0x40000
  else if 0x200020 ≤ a ∧ a < 0x400020 ∧ a % 0x8000 = 0x20 then 0x32
  else if 0x200024 ≤ a ∧ a < 0x400024 ∧ a % 0x8000 = 0x24 then 0x1
  else if 0x200028 ≤ a ∧ a < 0x400028 ∧ a % 0x8000 = 0x28 then 0x3e8
  else 0

/-- Reset words of the QUEUE blocks (R32). -/
def resetQueue (a : Nat) : Nat :=
  if 0x40000c ≤ a ∧ a < 0x80000c ∧ a % 0x400 = 0xc then 0x6
  else if 0x400018 ≤ a ∧ a < 0x800018 ∧ a % 0x400 = 0x18 then 0x6
  else if 0x40001c ≤ a ∧ a < 0x80001c ∧ a % 0x400 = 0x1c then 0x10
  else 0

/-- The word a register holds after reset, apart from GLOBAL_ANCHOR, which is WARD_ANCHOR (R465, Config). -/
def resetWord (b : Build) (a : Nat) : Nat :=
  if a < 0x10000 then resetGlobal b a
  else if a < 0x90000 then resetPort false b.rxbufKib (a % 0x10000)
  else if a < 0xB0000 then resetPort true b.hingeRxbufKib (a % 0x10000)
  else if a < 0x200000 then resetUnits b a
  else if a < 0x400000 then resetFunc a
  else resetQueue a

end Sys2Proof.Machine
end

