-- ==== Sys2Proof/Machine/Types.lean ====
section
/-! DEFINITION. The pieces of the block's state that no register shows: one structure per unit. -/

namespace Sys2Proof.Machine

/-! ## Packets (chapter 11) -/

/-- A packet: its header flit and the LEN bytes it carries (R272). -/
structure Packet where
  hdr     : Flit
  payload : Bytes
deriving DecidableEq, Repr

/-! ## Memory accesses (chapters 5 and 18) -/

/-- The space of an access's address (R130, R135): a function's virtual space, with the permissions the leaf must carry and, for a
window arrival, the window's key selector (R113); or physical, with its key selector. -/
inductive Space where
  /-- virtual, in the space of the job's function -/
  | virt (read write : Bool) (key : Option Nat)
  /-- physical -/
  | phys (ksel : Nat)
  /-- physical, the bytes from `at_` on at another page -/
  | split (at_ : Nat) (pa2 : Nat) (ksel : Nat)
deriving DecidableEq, Repr

/-- What an access does at the memory side. -/
inductive Acc where
  /-- translate only -/
  | probe
  /-- read the bytes -/
  | read
  /-- write the bytes -/
  | write
deriving DecidableEq, Repr

/-- How an access failed: a translation kind of R136, or an error the MSP reported (R395). -/
inductive Fail where
  /-- translation failure of the KIND -/
  | xlate (kind : Nat)
  /-- MSP error at the address presented -/
  | msp (addr : Nat)
deriving DecidableEq, Repr

/-- What a finished access goes on with: the unit that made it and what that unit needs to find its work again. -/
inductive Purpose where
  /-- descriptor slot of queue `q`; `second` for slot n + 1 -/
  | descFetch (q : Nat) (second : Bool)
  /-- reserved completion slot of the descriptor at the head of queue `q` -/
  | slotProbe (q : Nat)
  /-- the record at the front of queue `q`'s records; `ext` for its extension record -/
  | record (q : Nat) (ext : Bool)
  /-- source bytes of a request, by tag -/
  | reqSource (tag : Nat)
  /-- header of the Nyesh block a request carries, by tag -/
  | reqNyHeader (tag : Nat)
  /-- local destination of a GET request, by tag -/
  | reqDest (tag : Nat)
  /-- local write of GET data, by tag -/
  | reqLand (tag : Nat)
  /-- check 5 of an arrival (R20), by arrival -/
  | arrCheck (id : Nat)
  /-- memory access of an accepted arrival -/
  | arrAccess (id : Nat)
  /-- granule read of an atomic -/
  | atomRead (id : Nat)
  /-- granule write of an atomic -/
  | atomWrite (id : Nat)
  /-- translation of the journal entry an atomic will write -/
  | journalProbe (id : Nat)
  /-- journal entry write of an atomic -/
  | journalWrite (id : Nat)
  /-- journal entry read of a query -/
  | journalRead (id : Nat)
  /-- code-table image -/
  | tableImage (t : Nat)
  /-- keyring entry of an activation -/
  | keyEntry (g : Nat)
  /-- member list of an activation -/
  | keyList (g : Nat)
  /-- member-list entry of member `m`, fetched again -/
  | keyFetch (g : Nat) (m : Nat)
  /-- member-list entry of a COUNTX peer -/
  | countPeer (g : Nat) (i : Nat)
  /-- source, mask, second source or chain vector of a collective piece; which operand -/
  | colSource (g : Nat) (task : Nat) (which : Nat)
  /-- result of a collective task -/
  | colResult (g : Nat) (task : Nat)
  /-- COUNTX SEND entry of member `i` -/
  | countSend (g : Nat) (i : Nat)
  /-- COUNTX RECV entry of member `i` -/
  | countRecv (g : Nat) (i : Nat)
  /-- PINTLE operand block -/
  | pintleSrc (g : Nat)
  /-- PINTLE result block -/
  | pintleDst (g : Nat)
  /-- bolt prefetch of one packet -/
  | boltRead (c : Nat) (pkt : Nat)
  /-- Ward image -/
  | wardImage
  /-- self-test buffer access -/
  | selfTest
  /-- error record -/
  | errRecord
  /-- counter dump -/
  | dump (part : Nat)
  /-- tenant view of a function -/
  | view (f : Nat)
  /-- trace record -/
  | trace
  /-- Keyhole snapshot -/
  | keyhole
deriving DecidableEq, Repr

/-- A memory access in progress, done in pieces that never cross a 512-byte boundary (R443). -/
structure Job where
  func    : Nat
  va      : Nat
  len     : Nat
  space   : Space
  acc     : Acc
  data    : Bytes
  src     : Nat
  side    : Nat
  queue   : Nat
  pos     : Nat
  pa      : Nat
  ksel    : Nat
  pa0     : Nat
  purpose : Purpose
deriving DecidableEq, Repr

/-- What a finished access hands to its unit: the failure if any, the bytes read, the last physical address and selector, how many
bytes were done, and the first physical address. -/
structure JobResult where
  fail : Option Fail
  data : Bytes
  pa   : Nat
  ksel : Nat
  pos  : Nat
  pa0  : Nat
deriving DecidableEq, Repr

/-- Who owns an MSP request. -/
inductive Owner where
  /-- an access -/
  | job (id : Nat)
  /-- a walk -/
  | walk (id : Nat)
deriving DecidableEq, Repr

/-- A request waiting for credits at an MSP, or outstanding there (R441-R444). `got` holds the lines returned; `bolt` marks
an access for a packet that came in reserved slots, served ahead within source 4 (R265, R354). -/
structure MemReq where
  owner : Owner
  msp   : Nat
  src   : Nat
  func  : Nat
  pa    : Nat
  len   : Nat
  ksel  : Nat
  write : Bool
  data  : Bytes
  got   : Bytes
  bad   : Bool
  bolt  : Bool
deriving DecidableEq, Repr

/-- A write data line waiting for a write-data credit. -/
structure WLine where
  msp  : Nat
  data : BitVec 1024
  mask : BitVec 128
deriving DecidableEq, Repr

/-- The memory side of the block: per-MSP credits, requests waiting, requests outstanding by (MSP x 4096 + tag), data lines waiting
for credits in request order, the place of each read and write channel's weighted round robin (R15), and the 16-byte granules an atomic holds, with its
access (R80). -/
structure MemSide where
  rqCredit : SMap Nat
  wqCredit : SMap Nat
  wdCredit : SMap Nat
  waiting  : List MemReq
  reads    : SMap MemReq
  writes   : SMap MemReq
  lines    : List WLine
  wrr      : SMap Nat
  locks    : SMap Nat
deriving DecidableEq, Repr

/-- A cached leaf (R137): page number in units of its own size, most recently used last in the list that holds it. -/
structure Leaf where
  func : Nat
  sizeLog2 : Nat
  vpn  : Nat
  ppn  : Nat
  r    : Bool
  w    : Bool
  ksel : Nat
deriving DecidableEq, Repr

/-- A walk-cache entry: the table a pointer of level `level` names. -/
structure Ptr where
  func  : Nat
  level : Nat
  vpn   : Nat
  table : Nat
deriving DecidableEq, Repr

/-- A walk in progress (R138). -/
structure Walk where
  func    : Nat
  vpn     : Nat
  level   : Nat
  table   : Nat
  stale   : Bool
  arrival : Bool
  waiters : List Nat
deriving DecidableEq, Repr

/-- An XLATE_INV in progress: the operation it belongs to and its snapshot: accesses, walks, tags (with their place in the order of
sending) and arrivals that hold a translation. -/
structure Inval where
  op    : Nat
  jobs  : List Nat
  walks : List Nat
  tags  : List (Nat × Nat)
  arrs  : List Nat
deriving DecidableEq, Repr

/-- The translation unit. `leaves` and `ptrs` run from least to most recently used. -/
structure Xlate where
  leaves  : List Leaf
  ptrs    : List Ptr
  walks   : SMap Walk
  waiting : List Nat
  invals  : List Inval
deriving DecidableEq, Repr

/-! ## Queues and the requester (chapters 2 and 3) -/

/-- A range-tracker entry (R44): no window for the function's local space, or (node, window). -/
structure Range where
  op  : Nat
  win : Option (Nat × Nat)
  lo  : Int
  hi  : Int
  w   : Bool
deriving DecidableEq, Repr

/-- A latch in a hold slot (R93), with the function that owned its window when it was held (R352). -/
structure HoldSlot where
  func  : Nat
  port  : Nat
  stamp : Nat
  pkt   : Packet
deriving DecidableEq, Repr

/-- A latch-table entry (R91), with its queue's function (R352). -/
structure LatchEntry where
  func  : Nat
  node  : Nat
  linc  : Nat
  nseq  : Nat
  outst : Nat
deriving DecidableEq, Repr

/-- A completion record to be written (R68), with the operation it retires, and the completion slots it takes; `stamp` 1 puts the
fabric time of the write into RESULT[127:64], 2 only its upper half (R71). -/
structure Record where
  op       : Option Nat
  slots    : Nat
  reserved : Bool
  status   : Nat
  opcode   : Nat
  ext      : Option (Nat × Nat × Nat)
  event    : Bool
  retried  : Bool
  ieee     : Nat
  slotLate : Bool
  index    : Nat
  detail   : Nat
  userTag  : Nat
  result   : Nat
  stamp    : Nat
deriving DecidableEq, Repr

/-- A fetched descriptor at the head of its queue (R41): its bits, slot count, how many of its
completion slots are translated, and whether NOT_BEFORE_RELEASE has come. -/
structure Head where
  desc   : BitVec 1024
  slots  : Nat
  index  : Nat
  probed : Nat
  nbOk   : Bool
deriving DecidableEq, Repr

/-- What a queue holds beside its registers. `latches` runs from least to most recently used;
`failed` holds the target nodes of writes that failed and that no SIGNAL has covered (R97). -/
structure QState where
  fetching  : Bool
  first     : Option Bytes
  head      : Option Head
  reserved  : Nat
  ranges    : List Range
  hold      : Option Nat
  records   : List Record
  writing   : Bool
  latches   : List LatchEntry
  uncounted : Nat
  lincNext  : Nat
  atomNext  : Nat
  failed    : List Nat
deriving DecidableEq, Repr

/-- A queue that nothing has used since the start. -/
def QState.empty : QState where
  fetching := false
  first := none
  head := none
  reserved := 0
  ranges := []
  hold := none
  records := []
  writing := false
  latches := []
  uncounted := 0
  lincNext := 0
  atomNext := 0
  failed := []

/-- A position in the loop of R54. -/
structure Cursor where
  i0 : Nat
  i1 : Nat
  i2 : Nat
  i3 : Nat
deriving DecidableEq, Repr

/-- An issued descriptor in progress. `pkts` counts packets cut, `open_` those not finished; `firstFail` is the failure earliest in
iteration order (R22); `faultAt` the fault point of R143 with its detail. -/
structure Op where
  queue    : Nat
  func     : Nat
  desc     : BitVec 1024
  index    : Nat
  slots    : Nat
  cursor   : Cursor
  pkts     : Nat
  open_    : Nat
  cutDone  : Bool
  prep     : Bool
  firstFail : Option (Nat × Nat × Nat × Nat)
  faultAt  : Option (Cursor × Nat)
  bytes    : Nat
  retried  : Bool
  ieee     : Nat
  late     : Bool
  slip     : Nat
  result   : Nat
  ext      : Option (Nat × Nat × Nat)
  waitsFor : List Nat
  failedCover : Bool
  covered  : Bool
  nyOff    : Nat
  done     : Option (Nat × Nat)
deriving DecidableEq, Repr

/-- Kinds of request a tag serves. -/
inductive ReqKind where
  /-- WRITE of a PUT -/
  | write
  /-- NYESH of a PUT -/
  | nyesh
  /-- READ of a GET -/
  | read
  /-- READ half of a COPY -/
  | copyRead
  /-- WRITE half of a COPY -/
  | copyWrite
  /-- ATOMIC -/
  | atomic
  /-- JQUERY of an atomic -/
  | jquery
  /-- JQUERY of the driver's service request -/
  | jservice
  /-- LATCH -/
  | latch
  /-- SIGNAL -/
  | signal
  /-- bolt transfer -/
  | bolt
deriving DecidableEq, Repr

/-- Life of a tag. -/
inductive ReqState where
  /-- translating or reading -/
  | prep
  /-- ready to be sent -/
  | ready
  /-- at the router; its timer has not started -/
  | queued
  /-- held latch waiting at the requester -/
  | held
  /-- sent, response awaited -/
  | sent
  /-- GET data being written locally -/
  | landing
  /-- timed out, work item waiting for policy firmware -/
  | firmware
  /-- R390 -/
  | quarantine
deriving DecidableEq, Repr

/-- Where the source reads of a strict function's request stand (R263, R354). -/
inductive Pre where
  /-- read as for any request -/
  | free
  /-- waits for the prefetch of one of its pair's slots -/
  | waits
  /-- read for a reserved slot -/
  | slot (k : Nat)
deriving DecidableEq, Repr

/-- A request under a tag. `pkt` is its place in its operation, for a query the tag it asks about; `tdm` the circuit whose slots it
travels in; `heldBy` whether its waits for the rate cache (bit 0) and the injection ceiling (bit 1) have been counted. -/
structure Req where
  kind    : ReqKind
  state   : ReqState
  op      : Nat
  queue   : Nat
  func    : Nat
  pkt     : Nat
  len     : Nat
  srcVa   : Nat
  dstVa   : Nat
  ptr     : Nat
  rptr    : Nat
  hdr     : Nat
  payload : Bytes
  pa      : Nat
  ksel    : Nat
  counted : Option (Nat × Nat)
  uncounted : Bool
  staged  : Bool
  tout    : Nat
  dline   : Nat
  jid     : Option Nat
  tries   : Nat
  node    : Nat
  order   : Nat
  cur     : Cursor
  tdm     : Option Nat
  heldBy  : Nat
  pre     : Pre
  expired : Nat
deriving DecidableEq, Repr

/-- A rate-cache entry (R294): RATE, tokens in 1/256 flit, and whether a cut is still within CUT_GAP. -/
structure RateEntry where
  func   : Nat
  node   : Nat
  rate   : Nat
  tokens : Nat
  lastCut : Option Nat
deriving DecidableEq, Repr

/-- A Ward work item (R382). -/
inductive WorkItem where
  /-- timed-out read or idempotent write -/
  | retry (tag : Nat)
  /-- atomic to resolve -/
  | atomic (tag : Nat)
  /-- driver service request -/
  | service
  /-- keyring activation -/
  | activation (g : Nat)
deriving DecidableEq, Repr

/-- A Ward image slot that holds a usable image (R377, R378). -/
structure WardImage where
  svn   : Nat
  entry : Nat
  code  : Bytes
  data  : Bytes
deriving DecidableEq, Repr

/-- The Ward core (R377-R384): work items posted and work items their sources keep, the image slots, the reads of a STAGE when they
have ended (whether without error, and the bytes), whether the inactive slot holds the image that ran before this start, whether a
HALT waits for a checkpoint, the driver's service request (its journal ID and node, R481) and the queries sent for it. -/
structure Ward where
  items    : List WorkItem
  waiting  : List WorkItem
  slots    : SMap WardImage
  read     : Option (Bool × Bytes)
  prev     : Bool
  halting  : Bool
  svc      : Nat × Nat
  svcTries : Nat
deriving DecidableEq, Repr

/-- An atomic that ended with ATOMIC_UNKNOWN (R384). -/
structure LostAtomic where
  jid  : Nat
  node : Nat
  dline : Nat
  tout : Nat
  op   : Nat
deriving DecidableEq, Repr

/-- The requester. `rates` runs from least to most recently used. `engines` are the queues that the sixteen queue engines serve, `turn` the
function and `turns` the queue of each function served last (R35); `stageTurn` the queue that took a COPY staging slot last (R78). -/
structure Requester where
  ops    : SMap Op
  reqs   : SMap Req
  sendOrder : Nat
  rates  : List RateEntry
  inj    : SMap Nat
  lost   : List LostAtomic
  queues : SMap QState
  signals : SMap Nat
  engines : List Nat
  turn   : Nat
  turns  : SMap Nat
  stageTurn : Nat
deriving DecidableEq, Repr


/-! ## Fabric time (chapter 10) -/

/-- The time exchange in progress on a port (R251): its number, whether this end is the parent, and the stamps taken so far. -/
structure Exchange where
  xseq   : Nat
  parent : Bool
  disc   : Bool
  t1     : Nat
  t2     : Nat
  t3     : Nat
deriving DecidableEq, Repr

/-- The time unit: count and increment with 24 fraction bits (R249), nominal core clock captured on entry to RUN (R430),
consecutive good exchanges, exchanges in progress and next numbers by port, hops of the parent's last SYNC, and for
the time output fabric time of the cycle before and whether a slot began in it (R461). -/
structure TimeUnit where
  count : Nat
  inc   : Nat
  khz   : Nat
  good  : Nat
  exch  : SMap Exchange
  xseq  : SMap Nat
  hops  : Nat
  prev  : Nat
  edge  : Bool
deriving DecidableEq, Repr

/-! ## Windows (chapter 4) -/

/-- States of R123. -/
inductive WinState where
  /-- 0 -/
  | free
  /-- 1 -/
  | opened
  /-- 2 -/
  | aliased
  /-- 3 -/
  | closing
  /-- 4 -/
  | quarantine
deriving DecidableEq, Repr

/-- A window (R106): `base` its virtual address, `aliasTo` the pointer that arrivals are forwarded to while it is ALIASED, and `op` the
operation whose ALIAS record is pending. -/
structure Window where
  base      : Nat
  size      : Nat
  gen       : Nat
  ksel      : Nat
  aliasTo   : Nat
  perm      : Nat
  func      : Nat
  state     : WinState
  sigwin    : Bool
  aliasPend : Bool
  accepted  : Nat
  fwdPend   : Nat
  tag       : Nat
  op        : Option Nat
deriving DecidableEq, Repr

/-- An entry after a start (R128). -/
def Window.empty : Window where
  base := 0
  size := 0
  gen := 0
  ksel := 0
  aliasTo := 0
  perm := 0
  func := 0
  state := .free
  sigwin := false
  aliasPend := false
  accepted := 0
  fwdPend := 0
  tag := 0
  op := none

/-- The window table and its free list (R109): IDs `fresh` to 0xFFFF, never opened, in ascending order, then `freed`. -/
structure Windows where
  table : SMap Window
  fresh : Nat
  freed : List Nat
deriving DecidableEq, Repr

/-! ## The responder and the atomic unit (chapters 3 and 4) -/

/-- A packet waiting in a store of the local units: the port it came by (10 for the local port) and its receive stamp (R436). -/
structure InPkt where
  port  : Nat
  stamp : Nat
  pkt   : Packet
deriving DecidableEq, Repr

/-- Where an arrival stands. -/
inductive ArrPhase where
  /-- check 5 in progress -/
  | check
  /-- accepted, access in progress -/
  | access
  /-- waiting for its turn at its granule (R80) -/
  | turn
  /-- atomic: journal entry being translated -/
  | journal
  /-- atomic: granule being read -/
  | granule
  /-- atomic: new value being written -/
  | commit
  /-- atomic: journal entry being written -/
  | entry
  /-- journal query: the entry is being read -/
  | query
deriving DecidableEq, Repr

/-- An arrival the responder works on (R20, R111-R114), a packet of a bolt transfer, a journal query, or an atomic of the local
aperture. `go` marks a held latch whose hold has ended; `cm` is the congestion mark in the responder's view (R292); `epa` and
`eksel` place an atomic's journal entry; `tref` is the code-table slot a Nyesh block references. -/
structure Arrival where
  pkt     : Packet
  port    : Nat
  stamp   : Nat
  phase   : ArrPhase
  go      : Bool
  window  : Option Nat
  func    : Nat
  va      : Nat
  len     : Nat
  pa      : Nat
  ksel    : Nat
  cm      : Bool
  old     : Nat
  flags   : Nat
  time    : Nat
  epa     : Nat
  eksel   : Nat
  la      : Option LocalAtomic
  status  : Nat
  detail  : Nat
  tref    : Option Nat
  xfer    : Option Nat
deriving DecidableEq, Repr

/-- A latch-tracker entry (R92): P, the commits at P and above, and the FAILED sequence numbers. -/
structure Track where
  node      : Nat
  queue     : Nat
  linc      : Nat
  p         : Nat
  commits   : List Nat
  failed    : List Nat
  untracked : Bool
deriving DecidableEq, Repr

/-- A journal entry (R84), its TIME in whole 4 ns units. -/
structure JEntry where
  jid  : Nat
  time : Nat
  tout : Nat
  old  : Nat
deriving DecidableEq, Repr

/-- The responder, the atomic unit and its journal. `tracks` runs from least to most recently used; `journal` from oldest to
newest, its oldest entry at slot `jHead` of the ring; `cover` is COVER of R89 in LSB units. -/
structure Responder where
  arrivals : SMap Arrival
  tracks   : List Track
  holds    : SMap HoldSlot
  journal  : List JEntry
  jHead    : Nat
  cover    : Option Nat
  inbox    : List InPkt
deriving DecidableEq, Repr

/-! ## Tumbler code tables (chapter 8) -/

/-- A TABLE_LOAD in progress for a table: its operation, the slot it works on, whether it retires, whether it waits for a draining
slot, and its image once read. -/
structure TableLoad where
  op     : Nat
  slot   : Nat
  retire : Bool
  waits  : Bool
  read   : Option JobResult
deriving DecidableEq, Repr

/-- The code tables: resident images by table x 2 + slot, and the load in progress of each table. -/
structure Tables where
  images : SMap Bytes
  loads  : SMap TableLoad
deriving DecidableEq, Repr

/-! ## The router (chapters 11 and 12) -/

/-- A packet queued for an output port: the port it came by (10 local), whether its move is a ring entry (R289), its arrival stamp
(R418), the local function it belongs to if any, the tag whose timer starts when it is sent (R389), and the cycles it has waited. -/
structure OutPkt where
  inPort : Nat
  port   : Nat
  entry  : Bool
  stamp  : Nat
  func   : Option Nat
  tag    : Option Nat
  pkt    : Packet
  wait   : Nat
deriving DecidableEq, Repr

/-- The set of values a COMMIT loads (R308). -/
structure RouteSet where
  flipX : Nat
  flipY : Nat
  flipZ : Nat
  flipD : Nat
  aux0  : Nat
  aux1  : Nat
deriving DecidableEq, Repr

/-- A port's flow state (R285-R291, R304), by VC: flits sent, FREED as last received, flits received, the partner's sizes; the class
whose turn it is and its deficit, the ages in cycles of the CTL flits sent in the last 64, the input port served last per
class, the guards that stand, and whether the last ANNOUNCE matched; the weights of the round in progress (R290), and the flits of torn
packets since the last LCF (R287). FREED of this end is `rx` less the flits held. -/
structure Flow where
  txc     : SMap Nat
  pFreed  : SMap Nat
  rx      : SMap Nat
  pSize   : SMap Nat
  deficit : Nat
  turn    : Nat
  ctlSent : List Nat
  lastIn  : SMap Nat
  guard   : List Nat
  ann     : Option Bool
  weights : List Nat
  torn    : Nat
deriving DecidableEq, Repr

/-- A port with no flits sent or received. -/
def Flow.empty : Flow where
  txc := []
  pFreed := []
  rx := []
  pSize := []
  deficit := 0
  turn := 0
  ctlSent := []
  lastIn := []
  guard := []
  ann := none
  weights := []
  torn := 0

/-- The router: packets queued per output, the ports' flow state, and the active set of R308. -/
structure Router where
  queued : List OutPkt
  flow   : SMap Flow
  active : RouteSet
deriving DecidableEq, Repr

/-! ## Gates and hinge ports (chapter 13), session keys (chapter 14) -/

/-- A key slot of R357. -/
structure KeySlot where
  key  : BitVec 256
  salt : BitVec 64
deriving DecidableEq, Repr

/-- A flit waiting for a frame: kind 1 packet flit, 2 LCF, 3 no flit but the mark of a slot that begins (R326); a header flit brings
its packet along for its stamp and trace. -/
structure TxItem where
  kind : Nat
  flit : Flit
  head : Option OutPkt
  mark : Nat
deriving DecidableEq, Repr

/-- A packet whose flits are arriving: header, stamp, payload flits still to come, those that came (latest first), and whether the
packet is being discarded. -/
structure Asm where
  hdr   : Flit
  stamp : Nat
  need  : Nat
  got   : List Flit
  drop  : Bool
deriving DecidableEq, Repr

/-- An equalization request (R434). -/
structure CfgReq where
  lane  : Nat
  op    : Nat
  wdata : Nat
deriving DecidableEq, Repr

/-- A KEYX message being reassembled (R359). -/
structure KeyxMsg where
  msg   : Nat
  frags : Nat
  len   : Nat
  got   : SMap Bytes
deriving DecidableEq, Repr

/-- A port's link state. `ctl` is the GATE_CTL or HINGE_CTL word as the port left DISABLED or BACKOFF, `serFail` the FAIL_LOG2 that the
current window of each lane began with (R481). `rxSync` says whether a frame has passed since the direction's numbering began. `bad` has a bit per lane that failed to equalize; `txMap` holds the physical
lane of each logical lane; `cfg` the equalization requests, the first presented. `countdown`, `nextSp` and `failSwitch` are the
transmitter's pending change of lane map, `failSent` the lane this receiver reported; `txWidth` and `rxWidth` the frames from which
x4 applies. `badTimes` are the times of frames that failed check 1 or 2 within 100 µs (R341 cause 7). `sentGood` is RX_GOOD of the DISCOVER sent last
(R331), `resultOut` says that this end's TRAIN_RESULT has left (R330). `txFec` holds the bits that fill no code word yet, their value and
number, `rxFec` the received bits that fill no frame yet (R318); `rxBeats` holds the beats of the hinge frame being assembled and `rxStamp`
the stamp of its first (R440). `rxCount` is COUNTDOWN of the last good trailer and `rxNext` its NEXTSP
(R336); `spareBad` whether every window of the spare's dwell has been over the ratio, none while none has ended (R337); `prbs` is the
generator of the spare's PRBS31 (R336). -/
structure Link where
  tx        : List TxItem
  asm       : Option Asm
  torn      : Bool
  rxSlot    : Option (Nat × Nat)
  txFseq    : Nat
  rxFseq    : Nat
  rxSync    : Bool
  txKeys    : SMap KeySlot
  rxKeys    : SMap KeySlot
  txSwitch  : Option (Nat × Nat)
  rxSwitch  : Option (Nat × Nat)
  fseqFails : Nat
  authFails : Nat
  badTimes  : List Nat
  peer      : Option Packet
  rate      : Nat
  rateAck   : Bool
  target    : Nat
  mine      : Option Packet
  theirs    : Option Packet
  bad       : Nat
  cfg       : List CfgReq
  txMap     : List Nat
  countdown : Nat
  nextSp    : Nat
  failSwitch : Option (Nat × Nat)
  failSent  : Option (Nat × Nat)
  txWidth   : Option (Nat × Nat)
  rxWidth   : Option Nat
  msgOut    : Nat
  keyx      : Option KeyxMsg
  ctl       : Word
  serFail   : SMap Nat
  sentGood  : Nat
  resultOut : Bool
  txFec     : Nat × Nat
  rxFec     : List FecPiece
  rxCount   : Nat
  rxNext    : Nat
  spareBad  : Option Bool
  prbs      : Nat
  rxBeats   : List HingeBeat
  rxStamp   : Nat
deriving DecidableEq, Repr

/-- A port after a start. -/
def Link.empty : Link where
  tx := []
  asm := none
  torn := false
  rxSlot := none
  txFseq := 0
  rxFseq := 0
  rxSync := false
  txKeys := []
  rxKeys := []
  txSwitch := none
  rxSwitch := none
  fseqFails := 0
  authFails := 0
  badTimes := []
  peer := none
  rate := 0
  rateAck := false
  target := 0
  mine := none
  theirs := none
  bad := 0
  cfg := []
  txMap := []
  countdown := 0
  nextSp := 15
  failSwitch := none
  failSent := none
  txWidth := none
  rxWidth := none
  msgOut := 0
  keyx := none
  ctl := 0
  serFail := []
  sentGood := 0
  resultOut := false
  txFec := (0, 0)
  rxFec := []
  rxCount := 0
  rxNext := 15
  spareBad := none
  prbs := 0
  rxBeats := []
  rxStamp := 0

/-- The key port's outbound buffer (R460): the beats of messages that wait, each with its last mark. -/
structure KeyPort where
  out : List (Nat × Bool)
deriving DecidableEq, Repr

/-! ## Collectives (chapters 6 to 9) -/

/-- A captured chain stage (R191, R201): operation, format, operand. -/
structure Stage where
  op   : Nat
  fmt  : Nat
  opnd : Nat
deriving DecidableEq, Repr

/-- A piece of a partial, a result or a contribution: the values of one packet's elements, or of one tile. `vals` holds (element
within the piece, code); a sparse AG carries a block's header and body instead. `flags` are those the packets carried. -/
structure Piece where
  flags : Nat
  vals  : List (Nat × Nat)
  hdr   : Nat
  body  : Bytes
deriving DecidableEq, Repr

/-- A COL packet in the landing store, with its source's member index and the port it came by. -/
structure Landed where
  src  : Nat
  port : Nat
  pkt  : Packet
deriving DecidableEq, Repr

/-- What the summaries have gathered (R200): the element index the current beat began at and its lanes, sums, extremes and count. -/
structure Summary where
  beat   : Nat
  lanes  : List (Nat × Nat)
  sum    : Nat
  sumsq  : Nat
  max    : Nat
  absmax : Nat
  nnz    : Nat
deriving DecidableEq, Repr

/-- A delivery being committed: its chunk, the bytes it stands for, the writes that are out (0 where its block was lost, R397), the code
table it references, the Tumbler expander that holds its block (R221), and the peer in whose landing room it still stands (R313). -/
structure Delivery where
  chunk  : Nat
  bytes  : Nat
  writes : Nat
  tref   : Option Nat
  unit   : Option Nat
  src    : Option Nat
deriving DecidableEq, Repr

/-- A COL packet that waits for grants or for the function's bucket (R313, R314, R345): the peer, the grants its sender must hold, the packet,
and whether a hold on the bucket has been counted. -/
structure ColOut where
  peer  : Nat
  need  : Nat
  pkt   : Packet
  noted : Bool
deriving DecidableEq, Repr

/-- Where the running collective stands. -/
inductive ColPhase where
  /-- confirmation sweep before a PINTLE or a COUNTX barrier (R237) -/
  | confirm
  /-- opening barrier of COUNTX (R169) -/
  | barrier
  /-- paths being probed (R174) -/
  | probe
  /-- data phase -/
  | data
deriving DecidableEq, Repr

/-- The running collective of a group (R152). `item`, `unit` and `step` name the next action: the member whose slice or contribution it
belongs to, the piece of that, and the action of the plan; `held` the pieces kept between actions by member index; `opnds` the local reads
of the current action, `asked` the one that is out, `srcRef` the code table its source block references (R209); `grants` the packets granted
to each peer and not yet gone from the landing store, `resv` the peer and how many of them the reserve holds, `spent` the packets sent to
each peer, `outq` those that wait to be sent (R313, R314); `late` the arrival of each chunk's first operand and the nodes whose operands have
come (R170); `beats` the flags counted in the current beat of each action's passes (R409); `probes` the peers whose answers are awaited;
`sent`, `got` and `sum` belong to COUNTX. -/
structure Coll where
  op      : Nat
  seq     : Nat
  alg     : Nat
  phase   : ColPhase
  sig     : Nat
  item    : Nat
  unit    : Nat
  step    : Nat
  held    : SMap Piece
  opnds   : SMap Bytes
  asked   : Option Nat
  srcRef  : Option Nat
  tiles   : List Nat
  landed  : List Landed
  grants  : SMap Nat
  resv    : Option (Nat × Nat)
  spent   : SMap Nat
  outq    : List ColOut
  late    : SMap (Nat × List Nat)
  beats   : SMap (List Nat)
  probes  : List Nat
  sums    : Summary
  flags   : Nat
  deliv   : SMap Delivery
  done    : SMap Nat
  ovfEnd  : Nat
  ovfFirst : Option Nat
  fail    : Option (Nat × Nat × Nat × Nat)
  ended   : Bool
  sent    : Nat
  got     : List Nat
  peers   : SMap (Nat × Nat)
  sum     : Nat
deriving DecidableEq, Repr

/-- A READY that has come (R154, R313): peer, epoch, run, SEQ, signature, and how many have come. -/
structure ReadyMsg where
  node  : Nat
  epoch : Nat
  run   : Nat
  seq   : Nat
  sig   : Nat
  count : Nat
deriving DecidableEq, Repr

/-- A SWEEP_UP that has come: the child's node, epoch, run, SEQ, whether of a confirmation, and its AND. -/
structure UpMsg where
  node  : Nat
  epoch : Nat
  run   : Nat
  seq   : Nat
  confirm : Bool
  and_  : Bool
deriving DecidableEq, Repr

/-- A sweep this member takes part in (R158, R237): its names, and whether this member has sent its up message. -/
structure Sweep where
  epoch   : Nat
  run     : Nat
  seq     : Nat
  confirm : Bool
  upSent  : Bool
deriving DecidableEq, Repr

/-- A Pintle flit that has come: SEQ, its epoch, signature, whether of a handover, the stage's dimension, the originating position, the flags
raised so far, and its lanes. -/
structure PFlit where
  seq   : Nat
  epoch : Nat
  sig   : Nat
  hand  : Bool
  stage : Nat
  org   : Nat
  flags : Nat
  data  : Bytes
deriving DecidableEq, Repr

/-- The Pintle work in progress of a group (R240): handover or not, epoch, SEQ, the stage's dimension (4 when the last has ended), the stage
value, whether its flits of this stage are sent, and the flags raised. -/
structure PRun where
  hand  : Bool
  epoch : Nat
  seq   : Nat
  stage : Nat
  value : Bytes
  sent  : Bool
  flags : Nat
deriving DecidableEq, Repr

/-- A member's arc in each dimension (R233): start and length. -/
structure Arc where
  start : Nat
  len   : Nat
deriving DecidableEq, Repr

/-- An active group (R150-R157, R165, R237). `cache` holds node and group ID of the neighbour set by member index; `issued` the
issued collectives in order with their captured chains; `fresh` that no epoch has been current yet; `target` the epoch of a handover in progress; `aborts` the (epoch, run) pairs whose abort has been sent or relayed
(R172); `paths` whether the probed path to each peer supports Lyard 3 throughout (R174); `pstate` 0 UNCONFIRMED, 1
CONFIRMED, 2 ABSENT. -/
structure Group where
  n       : Nat
  n0      : Nat
  n1      : Nat
  self    : Nat
  func    : Nat
  wide    : Bool
  listVa  : Nat
  listCrc : Nat
  treeMax : Nat
  ringMin : Nat
  cache   : SMap (Nat × Nat)
  state   : Nat
  fresh   : Bool
  epoch   : Nat
  run     : Nat
  seq     : Nat
  target  : Option Nat
  issued  : List (Nat × List Stage)
  coll    : Option Coll
  readies : List ReadyMsg
  ups     : List UpMsg
  sweep   : Option Sweep
  slowNs  : Nat
  slowNode : Nat
  latNs   : Nat
  latNode : Nat
  faultEpoch : Nat
  faultReason : Nat
  faultNode : Nat
  aborts  : List (Nat × Nat)
  released : Nat
  faults  : Nat
  probed  : Bool
  paths   : SMap Bool
  pstate  : Nat
  arcs    : Option (List Arc)
  localOk : Bool
  cause   : Nat
  slots   : Nat
  pflits  : List PFlit
  prun    : Option PRun
deriving DecidableEq, Repr

/-- An activation in progress (R150): its group, the entry's bytes once read, and, once its reads and checks have ended, the CAUSE or
the group that becomes active. -/
structure Activation where
  group : Nat
  entry : Bytes
  ended : Option (Nat × Option Group)
deriving DecidableEq, Repr

/-- The collective engine: active groups, the activation in progress, and the group whose pass each Knuckle unit served last (R180). -/
structure Colls where
  groups : SMap Group
  act    : Option Activation
  served : SMap Nat
deriving DecidableEq, Repr

/-! ## Bolt circuits (chapter 10) -/

/-- A packet of a transfer that is being read or has been read (R263): its source address, pointer and length, scratchpad lines returned so far, and data once whole. -/
structure BoltRead where
  pkt  : Nat
  va   : Nat
  ptr  : Nat
  len  : Nat
  last : Bool
  got  : Bytes
  data : Option Bytes
deriving DecidableEq, Repr

/-- States of R264 of a transfer's slots; `abort` waits to send its ABORT marker. -/
inductive XferPhase where
  /-- WAITING -/
  | waiting
  /-- PREFETCH -/
  | prefetch
  /-- a read failed; the marker goes out in the next reserved slot -/
  | abort
  /-- ACK_WAIT -/
  | ackWait
deriving DecidableEq, Repr

/-- A transfer queued on or running over a circuit: its operation, number, tag, first slot, the cursor of the next packet to read,
packets cut so far, whether any was sent, packets read and not sent, its slip, and status, detail and result of what ended its reading. -/
structure Transfer where
  op     : Nat
  num    : Nat
  tag    : Nat
  first  : Nat
  phase  : XferPhase
  cursor : Option Cursor
  pkts   : Nat
  sent   : Bool
  reads  : List BoltRead
  slip   : Nat
  fail   : Option (Nat × Nat × Nat)
deriving DecidableEq, Repr

/-- A transfer arriving at the destination (R265): packets in progress, packets received, the index of the last one once known, bytes
committed, markers, the first failure in iteration order, whether its end, an ABORT marker or an overflow has come, and whether an alias
has forwarded a packet of it. -/
structure Landing where
  num      : Nat
  tag      : Nat
  queue    : Nat
  open_    : Nat
  got      : Nat
  last     : Option Nat
  bytes    : Nat
  markers  : Nat
  fail     : Option (Nat × Nat × Nat)
  aborted  : Bool
  overflow : Bool
  away     : Bool
deriving DecidableEq, Repr

/-- A circuit at this block (R256-R260): role 0 source, 1 transit, 2 destination; state as BOLT_RD(0).STATE; its incoming and
outgoing port and index; the pattern's slot at each; the packets a hop holds for a slot to come, with that slot and their stamps; the TDM packets
that wait for a slot; packets outstanding on a TDM pair (R268); set-up order. -/
structure Circuit where
  role     : Nat
  state    : Nat
  kind     : Nat
  func     : Nat
  dest     : Nat
  src      : Nat
  inPort   : Nat
  inIndex  : Nat
  outPort  : Nat
  outIndex : Nat
  inStart  : Nat
  start    : Nat
  stride   : Nat
  pkts     : Nat
  adv      : Nat
  rxSig    : Nat
  order    : Nat
  slip     : Nat
  nextXfer : Nat
  xfers    : List Transfer
  buf      : List (Nat × Nat × Packet)
  tdm      : List OutPkt
  pending_ : Nat
  land     : List Landing
  rev      : Bool
deriving DecidableEq, Repr

/-- A scratchpad read of one line of a packet: the SSP, the line, the circuit and the packet under its tag (R449). -/
structure SspRead where
  ssp  : Nat
  line : Nat
  circ : Nat
  pkt  : Nat
deriving DecidableEq, Repr

/-- The circuits of the block, source and transit by outgoing port x 256 + index, destinations by 4096 + incoming port x 256 + index;
the SSP reads that wait for a slot offer or for data, the next set-up number, and the slot that began last. -/
structure Bolts where
  table : SMap Circuit
  order : Nat
  sspWait : List SspRead
  sspOut  : List SspRead
  slot  : Option Nat
deriving DecidableEq, Repr

/-! ## Error log, trace (chapters 16 and 17) -/

/-- An error record (R400); QUEUE and NODE zero when none, PORT 15 when none. -/
structure ErrRec where
  cls    : Nat
  status : Nat
  detail : Nat
  port   : Nat
  func   : Option Nat
  queue  : Nat
  node   : Nat
  count  : Nat
  time   : Nat
  info   : Nat
deriving DecidableEq, Repr

/-- The error log: records still merging (R401), records due to be written, and whether one is being written. -/
structure ErrLog where
  merging : List ErrRec
  due     : List ErrRec
  writing : Bool
deriving DecidableEq, Repr

/-- The trace unit: the 256-entry FIFO of 32-byte records, whether one is being written, the drops since the last record with the time
of the first (R417 LOSS, R419), and those of the LOSS record being written. -/
structure TraceUnit where
  fifo    : List Nat
  writing : Bool
  drops   : Nat
  dropTime : Nat
  loss    : Option (Nat × Nat)
deriving DecidableEq, Repr

/-! ## Self-tests, dumps and snapshots (chapters 16 and 17) -/

/-- The self-test requested last (R403-R405): its kind, target, lane and buffer as captured at REQUEST, the line it works on, whether that
line is being read back, and the CODE and ST_INFO it ends with once known. -/
structure SelfTest where
  kind    : Nat
  target  : Nat
  lane    : Nat
  buf     : Nat
  len     : Nat
  pos     : Nat
  reading : Bool
  result  : Option (Nat × Nat)
deriving DecidableEq, Repr

/-- A counter dump (R411, R412): the number of the last, the armed instant as captured, the shadow of the counters with the fabric time of
the capture cycle and the AT and LATE_ARM marks, and whether its writes have ended, without error or not. -/
structure Dump where
  num    : Nat
  instant : Nat
  shadow : SMap Nat
  time   : Nat
  marks  : Nat
  node   : Nat
  ended  : Option Bool
deriving DecidableEq, Repr

/-- The Keyhole unit (R420-R422): SEQ, the armed instant as captured, the entries
captured by offset, how far they are written, and whether the writes have ended, without error or not. -/
structure Keyhole where
  seq     : Nat
  instant : Nat
  ents    : SMap Bytes
  pos     : Nat
  ended   : Option Bool
deriving DecidableEq, Repr

/-! ## Work between commands -/

/-- What a unit still has to do of itself: the tick runs it (log entry 2). -/
inductive Work where
  /-- go on with an access -/
  | job (id : Nat)
  /-- hand a finished access to its unit -/
  | done (p : Purpose) (r : JobResult)
  /-- fetch the next descriptor of a queue -/
  | fetch (q : Nat)
  /-- a descriptor reached the head of its queue -/
  | head (q : Nat)
  /-- write the next record of a queue -/
  | record (q : Nat)
  /-- cut the next packet of an operation -/
  | cut (op : Nat)
  /-- see whether an operation has ended -/
  | settle (op : Nat)
  /-- see which WAITs a counter releases -/
  | waits
  /-- write pending event records -/
  | events
  /-- see whether a window has drained -/
  | window (w : Nat)
  /-- test the held latches again -/
  | latches
  /-- go on with an atomic -/
  | atomic (id : Nat)
  /-- go on with a collective -/
  | coll (g : Nat)
  /-- a queue of the group drains (R160) -/
  | colDrain (g : Nat)
  /-- see whether a function has drained -/
  | func (f : Nat)
  /-- write the next error record -/
  | errlog
  /-- see whether a code table's draining slot is free -/
  | table (t : Nat)
deriving DecidableEq, Repr

/-! ## What leaves the block (chapter 18) -/

/-- A beat or message that left a port during the last command. -/
inductive Output where
  /-- ms_rq_*: line address, lines less one, tag, key selector, function, source (R441) -/
  | mspRead (m line lines tag ksel fn src : Nat)
  /-- ms_wq_* -/
  | mspWrite (m line lines tag ksel fn src : Nat)
  /-- ms_wd_* -/
  | mspData (m : Nat) (data : BitVec 1024) (mask : BitVec 128)
  /-- sp_rd with sp_addr (R448) -/
  | sspRead (i line : Nat)
  /-- la_rsp_* (R446) -/
  | laRsp (id old status flags : Nat)
  /-- es_rsp_* (R450) -/
  | esRsp (id val : Nat)
  /-- an update lane (R452) -/
  | esUpd (idx val : Nat)
  /-- the clear beat (R453) -/
  | esClr (base count : Nat)
  /-- cs_rdata of a read (R454) -/
  | csrRead (data : Nat)
  /-- a frame leaving a port (R320) -/
  | frame (p : Nat) (f : Frame)
  /-- the code words that a gate's frames fill, symbol j of each on the j mod W-th of the lanes named, and what the spare lane carries
  meanwhile: the mirrored symbols of the lane that becomes the spare, or PRBS31 (R318, R336) -/
  | words (g : Nat) (lanes : List Nat) (spare : Nat) (words onSpare : List (List Nat))
  /-- hg_tx_*: the four beats of a hinge's frame (R439) -/
  | beats (h : Nat) (bs : List HingeBeat)
  /-- gt_cfg_*: an equalization request (R434) -/
  | phyCfg (g lane op wdata : Nat)
  /-- a beat of the key port (R459): data and kp_out_last -/
  | keyBeat (data : Nat) (last : Bool)
deriving DecidableEq, Repr

end Sys2Proof.Machine
end

