-- ==== Sys2Proof/Machine/State.lean ====
section
/-! DEFINITION. The state of the block as plain data, its outcomes, and the state right after reset. -/

namespace Sys2Proof.Machine

/-- Why a command could stop the machine. The spec stops it nowhere: errors are statuses, register bits and records. -/
inductive Fault where
  /-- raised by no command; it keeps the type inhabited. Safe: nothing can be concluded from it. -/
  | none
deriving DecidableEq, Repr

/-- Why a command has no meaning. -/
inductive Refusal where
  /-- the command's row is not modelled yet; raised by exec's arm for it. Safe: nothing can be concluded past it. -/
  | notModelled (mnemonic : String)
deriving DecidableEq, Repr

/-- The levels at the block's input pins (R427, R458, R463): gt_rx_lock with bit gate x 9 + lane, gt_rate_ack by gate, hg_link_up by
hinge. -/
structure Pins where
  rstAon  : Bool
  rstCore : Bool
  clkOk   : Bool
  iso     : Bool
  tst     : Bool
  rot     : Bool
  lock    : Nat
  rateAck : Nat
  linkUp  : Nat
deriving DecidableEq, Repr

/-- The always-on domain (R13): its registers, the store of lane coefficients (R334) by gate x 16 + lane, an internal reset in
progress (R365) and whether it is cold, whether the start to come is cold, whether the clock's fall brought OFF and no start has begun
since (R428), and the self-test requested last. -/
structure Aon where
  regs     : SMap Word
  coefs    : SMap (BitVec 64)
  intReset : Option Bool
  coldNext : Bool
  clkFell  : Bool
  selfTest : SelfTest
deriving DecidableEq, Repr

/-- The core domain: its registers and the units' own state. -/
structure Core where
  regs   : SMap Word
  jobs   : SMap Job
  nextId : Nat
  work   : List Work
  mem    : MemSide
  xl     : Xlate
  rq     : Requester
  win    : Windows
  resp   : Responder
  tables : Tables
  router : Router
  links  : SMap Link
  keyPort : KeyPort
  bolts  : Bolts
  time   : TimeUnit
  events : List Record
  err    : ErrLog
  trace  : TraceUnit
  dump   : Dump
  kh     : Keyhole
  ward   : Ward
  col    : Colls
  cnt    : SMap Nat
deriving DecidableEq, Repr

/-- The block. `regs` of either domain list only words that differ from the reset word; `out` is what left the block during the
last command; `draws` counts the free values drawn (log entry 9); `pending` holds the commands that wait, first in first out. -/
structure State where
  build   : Build
  pins    : Pins
  aon     : Aon
  core    : Core
  draws   : Nat
  out     : List Output
  pending : List Instr
deriving DecidableEq, Repr

/-- The always-on domain at its reset values. -/
def Aon.reset : Aon where
  regs := []
  coefs := []
  intReset := none
  coldNext := true
  clkFell := false
  selfTest := ⟨0, 0, 0, 0, 0, 0, false, none⟩

/-- The core domain at its reset values (R366): every store empty, every count zero. -/
def Core.reset : Core where
  regs := []
  jobs := []
  nextId := 0
  work := []
  mem := ⟨[], [], [], [], [], [], [], [], []⟩
  xl := ⟨[], [], [], [], []⟩
  rq := ⟨[], [], 0, [], [], [], [], [], [], 64, [], 4096⟩
  win := ⟨[], 0, []⟩
  resp := ⟨[], [], [], [], 0, none, []⟩
  tables := ⟨[], []⟩
  router := ⟨[], [], ⟨0, 0, 0, 0, 0, 0⟩⟩
  links := []
  keyPort := ⟨[]⟩
  bolts := ⟨[], 0, [], [], none⟩
  time := ⟨0, 0, 0, 0, [], [], 0, 0, false⟩
  events := []
  err := ⟨[], [], false⟩
  trace := ⟨[], false, 0, 0, none⟩
  dump := ⟨0, 0, [], 0, 0, 0, none⟩
  kh := ⟨0, 0, [], 0, none⟩
  ward := ⟨[], [], [], none, false, false, (0, 0), 0⟩
  col := ⟨[], none, []⟩
  cnt := []

/-- The block at power-on: both resets asserted, every input low, the sequencer in OFF (R366, R367, R428; log entry 1). -/
def State.reset : State where
  build := Build.max
  pins := ⟨false, false, false, false, false, false, 0, 0, 0⟩
  aon := Aon.reset
  core := Core.reset
  draws := 0
  out := []
  pending := []

end Sys2Proof.Machine
end

