-- ==== Sys2Proof/Machine/Ops.lean ====
section
/-! DEFINITION. The named operations every unit shares: registers, the reset wiring, work, counters, errors, trace and signal
counters. -/

namespace Sys2Proof.Machine

open Host (Outcome)

/-! ## Registers (R476, R477) -/

/-- `w` bits of a word from bit `lo`. -/
def getField (x : Word) (lo w : Nat) : Nat := (x >>> lo).toNat % 2 ^ w

/-- The word with `w` bits from bit `lo` set to `v`. -/
def setField (x : Word) (lo w v : Nat) : Word :=
  let mask : Word := BitVec.ofNat 32 (2 ^ w - 1) <<< lo
  (x &&& ~~~mask) ||| ((BitVec.ofNat 32 v <<< lo) &&& mask)

/-- The reset word of an address in a domain: the AON fields of core registers reset to zero (R477). -/
def domainReset (b : Build) (aon : Bool) (a : Nat) : Word :=
  if aon && decide (a ≥ 0x10000) then 0 else BitVec.ofNat 32 (resetWord b a)

/-- The word an address holds in a domain. -/
def State.word (s : State) (aon : Bool) (a : Nat) : Word :=
  SMap.getD (if aon then s.aon.regs else s.core.regs) a (domainReset s.build aon a)

/-- The state with a word at an address of a domain. -/
def State.setWord (s : State) (aon : Bool) (a : Nat) (w : Word) : State :=
  if aon then { s with aon.regs := SMap.putD s.aon.regs a w (domainReset s.build true a) }
  else { s with core.regs := SMap.putD s.core.regs a w (domainReset s.build false a) }

/-- Read a field. -/
def State.rd (s : State) (f : Fld) : Nat := getField (s.word f.aon f.addr) f.lo f.width

/-- Write a field. -/
def State.wr (s : State) (f : Fld) (v : Nat) : State := s.setWord f.aon f.addr (setField (s.word f.aon f.addr) f.lo f.width v)

/-- Read a one-bit field as a Bool. -/
def State.on (s : State) (f : Fld) : Bool := s.rd f == 1

/-- A quantity split across a LO field and the HI field above it (R478). -/
def State.rd2 (s : State) (lo hi : Fld) : Nat := s.rd lo + s.rd hi * 2 ^ lo.width

/-- Two fields share no bit. -/
def Fld.apart (f g : Fld) : Prop := g.aon ≠ f.aon ∨ g.addr ≠ f.addr ∨ f.lo + f.width ≤ g.lo ∨ g.lo + g.width ≤ f.lo

/-- The fields of the register at a byte address; none where no register lies. -/
def rowFields (a : Nat) : List FieldRow :=
  match findReg a regMap with
  | some (r, _, _) => r.fields
  | none => []

/-! ## Reset wiring -/

/-- The sequencer's state (R367). -/
def State.seq (s : State) : Nat := s.rd R.GLOBAL_START_STATUS_STATE

/-- The sequencer is in OFF. -/
def State.off (s : State) : Bool := s.seq == 0

/-- The sequencer is in RUN. -/
def State.running (s : State) : Bool := s.seq == 4

/-- The ports stand idle: the sequencer is in OFF (R374), or in FAILED, on every port but the CSR port (R368). -/
def State.idle (s : State) : Bool := s.off || s.seq == 5

/-- The AON domain is out of reset: rst_aon_n is 1 and no cold internal reset runs (R365, R428). -/
def State.aonUp (s : State) : Bool := s.pins.rstAon && s.aon.intReset != some true

/-- CSR read data: the port of R374 and R368 that is served while every other stands idle. -/
def Output.isCsr : Output → Bool
  | .csrRead _ => true
  | _ => false

/-- The CSR port and the key port lie in the AON domain; every other output is a core-domain output (R426). -/
def Output.isAon : Output → Bool
  | .csrRead _ => true
  | .keyBeat _ _ => true
  | _ => false

/-- The reset wiring: while the sequencer is in OFF the core domain holds its reset values (R366, R374); while the ports stand idle
nothing but read data leaves the block (R368, R374), and while pwr_iso is 1 no core-domain output does (R427). -/
def wire (s : State) : State :=
  let s1 := if s.off then { s with core := Core.reset } else s
  if s1.idle then { s1 with out := s1.out.filter Output.isCsr }
  else if s1.pins.iso then { s1 with out := s1.out.filter Output.isAon }
  else s1

/-- A command of the AON domain. -/
def aonCmd (body : State → State) (s : State) : Outcome State Fault Refusal :=
  .next (wire (body { s with out := [] }))

/-- A command of the core domain: while the sequencer is in OFF it has no effect (R374). -/
def coreCmd (body : State → State) (s : State) : Outcome State Fault Refusal :=
  aonCmd (fun s => if s.off then s else body s) s

/-- A command that comes by a port of the core domain or the key port, or from the core's own clock: while the ports stand idle it has
no effect (R368, R374). -/
def portCmd (body : State → State) (s : State) : Outcome State Fault Refusal :=
  aonCmd (fun s => if s.idle then s else body s) s

/-! ## Work, identifiers, outputs, free values, counters -/

/-- Leave work for the tick. -/
def State.post (s : State) (w : Work) : State := { s with core.work := s.core.work ++ [w] }

/-- Let something leave at a port. -/
def State.emit (s : State) (o : Output) : State := { s with out := s.out ++ [o] }

/-- A free value, nothing known of it (log entry 9), and the state that has drawn it. -/
def State.draw (s : State) : Nat × State := ((Config.freeValue s.draws).toNat, { s with draws := s.draws + 1 })

/-- Count an event of a counter slot (R409, R411): slots 0-9 ports, 10-73 functions, 74-81 units, 82 the block. -/
def State.countN (s : State) (slot event n : Nat) : State :=
  let k := slot * 32 + event
  { s with core.cnt := SMap.putD s.core.cnt k ((SMap.getD s.core.cnt k 0 + n) % 2 ^ 64) 0 }

/-- Count one event. -/
def State.count (s : State) (slot event : Nat) : State := s.countN slot event 1

/-- Slot of a function's counters. -/
def funcSlot (f : Nat) : Nat := 10 + f
/-- Slot of a gate's unit counters. -/
def unitSlot (g : Nat) : Nat := 74 + g
/-- Slot of the block's counters. -/
def blockSlot : Nat := 82

/-- Fabric time in LSB units (R248). -/
def State.now (s : State) : Nat := s.core.time.count / 2 ^ 24 % 2 ^ 64

/-- The block has been synchronised since its last start (R250). -/
def State.synced (s : State) : Bool := s.on R.TIME_STATUS_SYNCED

/-- This block's node ID. -/
def State.self (s : State) : Nat := s.rd R.ROUTE_SELF_NODE

/-- ROUTE_SELF is valid (R298). -/
def State.selfValid (s : State) : Bool := s.on R.ROUTE_SELF_VALID && !s.on R.ROUTE_STATUS_SELF_ERR

/-- A FATAL error holds (R398). -/
def State.fatal (s : State) : Bool := s.on R.ERRLOG_STATUS_FATAL

/-! ## CRC-32C (R213) -/

/-- One bit of the reflected CRC-32C. -/
def crcBit (c : Nat) : Nat := if c % 2 = 1 then Nat.xor (c / 2) 0x82F63B78 else c / 2

/-- One byte of the CRC. -/
def crcByte (c b : Nat) : Nat := iterate crcBit 8 (Nat.xor c b)

/-- CRC-32C of a byte string: start 0xFFFF_FFFF, reflected, final XOR 0xFFFF_FFFF. -/
def crc32c (bs : Bytes) : Nat := Nat.xor (bs.foldl (fun c b => crcByte c b.toNat) 0xFFFFFFFF) 0xFFFFFFFF

/-! ## Packets (R272, R273) -/

/-- `w` bits at byte offset `off`, bit `lo`, of a header flit. -/
def Packet.fld (p : Packet) (off lo w : Nat) : Nat := bits p.hdr.toNat (8 * off + lo) w

def Packet.cls (p : Packet) : Nat := p.fld 0x00 0 3
def Packet.type (p : Packet) : Nat := p.fld 0x00 3 5
def Packet.plen (p : Packet) : Nat := p.fld 0x01 0 4
def Packet.cm (p : Packet) : Bool := p.fld 0x01 4 1 == 1
def Packet.ce (p : Packet) : Bool := p.fld 0x01 5 1 == 1
def Packet.len (p : Packet) : Nat := p.fld 0x02 0 10
def Packet.dest (p : Packet) : Nat := p.fld 0x04 0 20
def Packet.srcNode (p : Packet) : Nat := p.fld 0x04 20 20
def Packet.squeue (p : Packet) : Nat := p.fld 0x04 40 12
def Packet.tag (p : Packet) : Nat := p.fld 0x0C 0 18
def Packet.circuit (p : Packet) : Nat := p.fld 0x0C 18 8
def Packet.tdm (p : Packet) : Bool := p.fld 0x0C 26 1 == 1
/-- Flits of the packet. -/
def Packet.flits (p : Packet) : Nat := 1 + p.plen

/-- A header field for `mkPacket`: byte offset, bit, width, value. -/
def hf (off lo w v : Nat) : Nat × Nat × Nat := (8 * off + lo, w, v)

/-- A packet of class `c` and type `t` from this block's fields: the common header of R273 and the type's own fields. LEN is the
payload length unless `len` says otherwise (READ, R272). -/
def mkPacket (c t dest src queue tag : Nat) (len : Nat) (fields : List (Nat × Nat × Nat)) (payload : Bytes) : Packet where
  hdr := BitVec.ofNat 512 (pack ([hf 0 0 3 c, hf 0 3 5 t, hf 1 0 4 ((payload.length + 63) / 64), hf 2 0 10 len, hf 4 0 20 dest,
    hf 4 20 20 src, hf 4 40 12 queue, hf 0x0C 0 18 tag] ++ fields))
  payload := payload

/-- The header with a field replaced. -/
def Packet.set (p : Packet) (off lo w v : Nat) : Packet :=
  let n := p.hdr.toNat
  let o := 8 * off + lo
  { p with hdr := BitVec.ofNat 512 (n - bits n o w * 2 ^ o + v % 2 ^ w * 2 ^ o) }

/-! ## Fabric pointers (R104) -/

def ptrOffset (p : Nat) : Nat := bits p 0 48
def ptrGen (p : Nat) : Nat := bits p 52 8
def ptrWindow (p : Nat) : Nat := bits p 60 16
def ptrNode (p : Nat) : Nat := bits p 76 20

/-- The pointer with its offset moved by `d`, modulo the field (log entry 11). -/
def ptrAdd (p : Nat) (d : Int) : Nat := p / 2 ^ 48 * 2 ^ 48 + ofSigned 48 ((ptrOffset p : Int) + d)

/-! ## Error records (R400, R401) -/

/-- Occurrences that R401 merges. -/
def ErrRec.same (a b : ErrRec) : Bool :=
  a.cls == b.cls && a.status == b.status && a.detail == b.detail && a.port == b.port && a.func == b.func && a.queue == b.queue
    && a.node == b.node

/-- Detail of a record: WHERE and REASON (R68). -/
def det (wher reason : Nat) : Nat := wher * 4096 + reason

/-- Log an error that occurred at fabric time `time`: merged into a pending record of the same kind, or the first of a new one; CLASS 6
and 7 are due at once (R400, R401). -/
def State.logErrAt (s : State) (time cls status detail port : Nat) (func : Option Nat) (queue node info : Nat) : State :=
  let r : ErrRec := ⟨cls, status, detail, port, func, queue, node, 1, if s.synced then time else 0, info⟩
  if cls = 6 ∨ cls = 7 then ({ s with core.err.due := s.core.err.due ++ [r] }).post .errlog
  else if s.core.err.merging.any (r.same ·) then
    { s with core.err.merging := s.core.err.merging.map (fun x =>
        if r.same x then { x with count := min (x.count + 1) (2 ^ 32 - 1) } else x) }
  else { s with core.err.merging := s.core.err.merging ++ [r] }

/-- Log an error that occurs now. -/
def State.logErr (s : State) (cls status detail port : Nat) (func : Option Nat) (queue node info : Nat) : State :=
  s.logErrAt s.now cls status detail port func queue node info

/-! ## Trace (R414-R419) -/

/-- Whether a packet is sampled (R415). -/
def State.sampled (s : State) (src queue tag : Nat) : Bool :=
  crc32c (toLE 8 (src + queue * 2 ^ 20 + tag * 2 ^ 32)) % 2 ^ s.rd R.TRACE_CTL_SAMPLE_LOG2 == 0

/-- LOG2 of the trace ring (R425). -/
def State.traceLog2 (s : State) : Nat := let l := s.rd R.TRACE_SIZE_LOG2; if l < 10 ∨ l > 24 then 10 else l

/-- A record is dropped (R419). -/
def State.traceDrop (s : State) : State :=
  let s1 := { s with core.trace.drops := s.core.trace.drops + 1,
                     core.trace.dropTime := if s.core.trace.drops = 0 then s.now else s.core.trace.dropTime }
  ((s1.wr R.TRACE_LOST_COUNT (s1.rd R.TRACE_LOST_COUNT + 1)).wr R.TRACE_STATUS_LOSS_PEND 1).count blockSlot 13

/-- Take a record into the FIFO, or drop it (R419). -/
def State.traceTake (s : State) (r : Nat) : State :=
  let free := s.rd R.TRACE_TAIL_COUNT
  let held := subMod 32 free (s.rd R.TRACE_HEAD_COUNT)
  if s.core.trace.fifo.length ≥ 256 ∨ s.on R.TRACE_STATUS_FAULT ∨ held ≥ 2 ^ s.traceLog2 then s.traceDrop
  else
    let n := s.core.trace.fifo.length + 1
    ({ s with core.trace.fifo := s.core.trace.fifo ++ [r] }).wr R.TRACE_STATUS_FIFO_PEAK (max n (s.rd R.TRACE_STATUS_FIFO_PEAK))

/-- Record a trace event of a category (R417): `cat` enables it, `func` is none for transit events. -/
def State.traceEv (s : State) (cat : Option Fld) (kind port cls status : Nat) (func : Option Nat) (src queue dest type tag len time
    arg : Nat) : State :=
  let enabled := s.on R.TRACE_CTL_ENABLE && (match cat with | none => true | some c => s.on c)
  let passes := !s.on R.TRACE_CTL_FILT_EN || func == some (s.rd R.TRACE_CTL_FUNC_FILT) || cat.isNone
  if enabled && passes then
    s.traceTake (pack [(0, 8, kind), (8, 4, port), (12, 3, cls), (16, 8, status), (24, 6, func.getD 0), (32, 20, src),
      (52, 12, queue), (64, 20, dest), (84, 5, type), (96, 18, tag), (114, 10, len), (128, 64, time), (192, 64, arg)])
  else s

/-- Record a packet event of a sampled packet (R415). RSP packets carry their request's key, their source being the responder. -/
def State.tracePkt (s : State) (cat : Fld) (kind port status : Nat) (func : Option Nat) (p : Packet) (time arg : Nat) : State :=
  let key := if p.cls = 3 then p.dest else p.srcNode
  if s.on R.TRACE_CTL_ENABLE && s.sampled key p.squeue p.tag then
    s.traceEv (some cat) kind port p.cls status func p.srcNode p.squeue p.dest p.type p.tag p.len time arg
  else s

/-! ## Signal counters (R66, R452) -/

/-- A counter's 64 bits. -/
def State.sig (s : State) (i : Nat) : Nat := SMap.getD s.core.rq.signals i 0

/-- Set a counter; the change leaves on an update lane, and WAITs look at it. -/
def State.setSig (s : State) (i v : Nat) : State :=
  (({ s with core.rq.signals := SMap.putD s.core.rq.signals i v 0 }).emit (.esUpd i v)).post .waits

/-- Add to COUNT modulo 2^63, leaving SLOT_LATE. -/
def State.addSig (s : State) (i n : Nat) : State :=
  let v := s.sig i
  s.setSig i (v / 2 ^ 63 * 2 ^ 63 + (v % 2 ^ 63 + n) % 2 ^ 63)

/-- The absolute index of a function's relative counter (R66), if it lies in the function's range (R346). -/
def State.counterOf (s : State) (f rel : Nat) : Option Nat :=
  if rel < s.rd (R.FUNC_SIG_COUNT_COUNT f) then some (s.rd (R.FUNC_SIG_BASE_BASE f) + rel) else none

/-! ## Functions -/

/-- Function states of R348. -/
def State.funcState (s : State) (f : Nat) : Nat := s.rd (R.FUNC_STATUS_STATE f)
def State.funcEnabled (s : State) (f : Nat) : Bool := s.funcState f == 1

/-- The request timeout T of a function in µs, with the limits of R364 (R345). -/
def State.timeout (s : State) (f : Nat) : Nat :=
  max (min 1000000 (s.rd (R.FUNC_TIMEOUT_TOUT_US f))) (max 1 (s.rd (R.FUNC_TIMEOUT_MIN_MIN_US f)))

end Sys2Proof.Machine
end

