-- ==== Sys2Proof/Machine/Operands.lean ====
section
/-! DEFINITION. Descriptor fields (R49-R64) and the checks of R50 on the operations that no collective rule governs. -/

namespace Sys2Proof.Machine

/-- `w` bits at byte offset `off`, bit `lo`, of a descriptor. -/
def dfld (d : BitVec 1024) (off lo w : Nat) : Nat := bits d.toNat (8 * off + lo) w

/-! ## Header (R49) -/
def dOpcode (d : BitVec 1024) : Nat := dfld d 0 0 8
def dLong (d : BitVec 1024) : Bool := dfld d 1 0 1 == 1
def dCqe (d : BitVec 1024) : Bool := dfld d 1 1 1 == 1
def dSig (d : BitVec 1024) : Bool := dfld d 1 2 1 == 1
def dNb (d : BitVec 1024) : Bool := dfld d 1 3 1 == 1
def dSummary (d : BitVec 1024) : Bool := dfld d 1 4 1 == 1
def dSignal (d : BitVec 1024) : Nat := dfld d 2 0 16
def dNotBefore (d : BitVec 1024) : Nat := dfld d 4 0 32
def dUserTag (d : BitVec 1024) : Nat := dfld d 8 0 64

/-! ## Transfers (R52, R53) -/
def dSrc (d : BitVec 1024) : Nat := dfld d 0x10 0 64
def dSrcPtr (d : BitVec 1024) : Nat := dfld d 0x10 0 96
def dDst (d : BitVec 1024) : Nat := dfld d 0x20 0 64
def dDstPtr (d : BitVec 1024) : Nat := dfld d 0x20 0 96
def dLength (d : BitVec 1024) : Nat := dfld d 0x30 0 32
def dScope (d : BitVec 1024) : Nat := dfld d 0x34 0 3
def dNyesh (d : BitVec 1024) : Bool := dfld d 0x34 3 1 == 1
def dExpand (d : BitVec 1024) : Bool := dfld d 0x34 4 1 == 1

/-- COUNTi of a dimension: 0 in the descriptor, or the short form, counts as 1 (R53). -/
def dCount (d : BitVec 1024) (i : Nat) : Nat := if dLong d then max 1 (dfld d (0x40 + 4 * (i - 1)) 0 32) else 1
def dStart (d : BitVec 1024) (i : Nat) : Nat := if dLong d then dfld d (0x4C + 4 * i) 0 32 else 0
def dSStride (d : BitVec 1024) (i : Nat) : Int := if dLong d then toSigned 48 (dfld d (0x5C + 6 * (i - 1)) 0 48) else 0
def dDStride (d : BitVec 1024) (i : Nat) : Int := if dLong d then toSigned 48 (dfld d (0x6E + 6 * (i - 1)) 0 48) else 0

/-- The start cursor (R54). -/
def startCursor (d : BitVec 1024) : Cursor := ⟨dStart d 0, dStart d 1, dStart d 2, dStart d 3⟩

/-- Distance of the cursor's byte from the source base (R54). -/
def srcShift (d : BitVec 1024) (c : Cursor) : Int :=
  c.i3 * dSStride d 3 + c.i2 * dSStride d 2 + c.i1 * dSStride d 1 + c.i0
def dstShift (d : BitVec 1024) (c : Cursor) : Int :=
  c.i3 * dDStride d 3 + c.i2 * dDStride d 2 + c.i1 * dDStride d 1 + c.i0

/-- The cursor `n` bytes on, within or at the end of its run; none past the last run (R54). -/
def advanceCursor (d : BitVec 1024) (c : Cursor) (n : Nat) : Option Cursor :=
  if c.i0 + n < dLength d then some { c with i0 := c.i0 + n }
  else if c.i1 + 1 < dCount d 1 then some ⟨0, c.i1 + 1, c.i2, c.i3⟩
  else if c.i2 + 1 < dCount d 2 then some ⟨0, 0, c.i2 + 1, c.i3⟩
  else if c.i3 + 1 < dCount d 3 then some ⟨0, 0, 0, c.i3 + 1⟩
  else none

/-- The boxes of index values a transfer visits from its start cursor: (first, last) of i0, i1, i2, i3. -/
def visited (d : BitVec 1024) : List ((Nat × Nat) × (Nat × Nat) × (Nat × Nat) × (Nat × Nat)) :=
  let l := dLength d
  let c1 := dCount d 1
  let c2 := dCount d 2
  let c3 := dCount d 3
  let s := startCursor d
  (if s.i0 < l then [((s.i0, l - 1), (s.i1, s.i1), (s.i2, s.i2), (s.i3, s.i3))] else [])
    ++ (if s.i1 + 1 < c1 ∧ 0 < l then [((0, l - 1), (s.i1 + 1, c1 - 1), (s.i2, s.i2), (s.i3, s.i3))] else [])
    ++ (if s.i2 + 1 < c2 ∧ 0 < l then [((0, l - 1), (0, c1 - 1), (s.i2 + 1, c2 - 1), (s.i3, s.i3))] else [])
    ++ (if s.i3 + 1 < c3 ∧ 0 < l then [((0, l - 1), (0, c1 - 1), (0, c2 - 1), (s.i3 + 1, c3 - 1))] else [])

/-- The lowest and highest byte a transfer touches from `base` with strides `st` (R44). -/
def touched (d : BitVec 1024) (base : Nat) (st : Nat → Int) : Int × Int :=
  let lo1 (r : Nat × Nat) (k : Int) : Int := min (r.1 * k) (r.2 * k)
  let hi1 (r : Nat × Nat) (k : Int) : Int := max (r.1 * k) (r.2 * k)
  let spans := (visited d).map (fun (a, b, c, e) =>
    ((base : Int) + a.1 + lo1 b (st 1) + lo1 c (st 2) + lo1 e (st 3), (base : Int) + a.2 + hi1 b (st 1) + hi1 c (st 2) + hi1 e (st 3)))
  match spans with
  | [] => (base, (base : Int) - 1)
  | x :: t => t.foldl (fun (l, h) (a, b) => (min l a, max h b)) x

/-- Bytes the packet at a cursor carries: to the next 512-byte boundary of either side, or to the end of the run (R48). -/
def packetBytes (d : BitVec 1024) (srcBase dstBase : Nat) (c : Cursor) : Nat :=
  let s := ofSigned 64 ((srcBase : Int) + srcShift d c)
  let t := ofSigned 64 ((dstBase : Int) + dstShift d c)
  min (dLength d - c.i0) (min (512 - s % 512) (512 - t % 512))

/-! ## Atomic, signal, wait (R55-R57) -/
def dAop (d : BitVec 1024) : Nat := dfld d 0x1C 0 4
def dAtype (d : BitVec 1024) : Nat := dfld d 0x1C 4 4
def dOperand (d : BitVec 1024) : Nat := dfld d 0x20 0 128
def dCompare (d : BitVec 1024) : Nat := dfld d 0x30 0 128
def dSigScope (d : BitVec 1024) : Nat := dfld d 0x1C 0 3
def dAdd (d : BitVec 1024) : Nat := dfld d 0x20 0 64
def dFenceScope (d : BitVec 1024) : Nat := dfld d 0x10 0 3
def dWaitCounter (d : BitVec 1024) : Nat := dfld d 0x10 0 16
def dWaitScope (d : BitVec 1024) : Nat := dfld d 0x12 0 3
def dThreshold (d : BitVec 1024) : Nat := dfld d 0x18 0 64
def dTimeout (d : BitVec 1024) : Nat := dfld d 0x20 0 32

/-- Bytes of an atomic type (R55): 4, 8 or 16. A type that R55 does not define counts as 8, which decides only whether R50 reports 0x001 or
0x005 before 0x007 of it (the model's choice, log entry 26). -/
def atypeBytes (t : Nat) : Nat := if t = 0 ∨ t = 2 ∨ t = 4 ∨ t = 6 then 4 else if t = 8 then 16 else 8

/-- The combinations of R56. -/
def atomicDefined (aop atype : Nat) : Bool :=
  if aop = 0 then [0, 1, 4, 5].contains atype
  else if aop = 1 ∨ aop = 2 then atype < 6
  else if aop ≤ 6 then atype == 6 || atype == 7
  else if aop = 7 then [6, 7, 8].contains atype
  else false

/-! ## Collective, bolt, manager and window descriptors (R60, R63, R64) -/
def dSrc2 (d : BitVec 1024) : Nat := dfld d 0x20 0 64
def dColDst (d : BitVec 1024) : Nat := dfld d 0x18 0 64
def dMask (d : BitVec 1024) : Nat := dfld d 0x28 0 64
def dBytes (d : BitVec 1024) : Nat := dfld d 0x30 0 48
def dEpoch (d : BitVec 1024) : Nat := if dOpcode d = 0x12 ∨ dOpcode d = 0x13 then dfld d 0x20 0 32 else dfld d 0x38 0 32
def dChain (d : BitVec 1024) : Nat := dfld d 0x3C 0 8
def dInFmt (d : BitVec 1024) : Nat := dfld d 0x40 0 4
def dOutFmt (d : BitVec 1024) : Nat := dfld d 0x40 4 4
def dColOp (d : BitVec 1024) : Nat := dfld d 0x40 8 4
def dChunkLog2 (d : BitVec 1024) : Nat := dfld d 0x40 12 5
def dSparse (d : BitVec 1024) : Bool := dfld d 0x40 17 1 == 1
def dColExpand (d : BitVec 1024) : Bool := dfld d 0x40 18 1 == 1
def dMaskZero (d : BitVec 1024) : Bool := dfld d 0x40 19 1 == 1
def dChunkSigBase (d : BitVec 1024) : Nat := dfld d 0x44 0 16
def dChunkSigCount (d : BitVec 1024) : Nat := dfld d 0x46 0 16
def dOvf (d : BitVec 1024) : Nat := dfld d 0x48 0 64
def dTileCap (d : BitVec 1024) : Nat := dfld d 0x50 0 32
def dPop (d : BitVec 1024) : Nat := dfld d 0x24 0 4
def dPtype (d : BitVec 1024) : Nat := dfld d 0x24 4 1
def dLanes (d : BitVec 1024) : Nat := dfld d 0x25 0 4
def dCircuit (d : BitVec 1024) : Nat := dfld d 0x34 0 11
def dSlack (d : BitVec 1024) : Nat := dfld d 0x36 0 16
def dSubop (d : BitVec 1024) : Nat := dfld d 0x10 0 4
def dWindow (d : BitVec 1024) : Nat := dfld d 0x12 0 16
def dWinBase (d : BitVec 1024) : Nat := dfld d 0x18 0 64
def dWinSize (d : BitVec 1024) : Nat := dfld d 0x20 0 48
def dWinPerm (d : BitVec 1024) : Nat := dfld d 0x26 0 4
def dWinKey (d : BitVec 1024) : Nat := dfld d 0x27 0 6
def dAliasTo (d : BitVec 1024) : Nat := dfld d 0x28 0 96
def dTblLength (d : BitVec 1024) : Nat := dfld d 0x18 0 32
def dTable (d : BitVec 1024) : Nat := dfld d 0x1C 0 6
def dVersion (d : BitVec 1024) : Nat := dfld d 0x1D 0 4
def dInvLength (d : BitVec 1024) : Nat := dfld d 0x18 0 48
def dInvFunc (d : BitVec 1024) : Nat := dfld d 0x1E 0 6
def dExtent (d : BitVec 1024) : Nat := dfld d 0x1F 0 2

/-! ## Reserved fields -/

/-- The header's own fields as (bit, width); SUMMARY only where it is not reserved (R49). -/
def headerUsed (summary : Bool) : List (Nat × Nat) :=
  [(0, 8), (8, 4), (16, 16), (32, 32), (64, 64)] ++ (if summary then [(12, 1)] else [])

/-- A field at a byte offset, as (bit, width). -/
def uf (off lo w : Nat) : Nat × Nat := (8 * off + lo, w)

/-- A fabric pointer's fields, its reserved bits [51:48] left out (R104). -/
def ufPtr (off : Nat) : List (Nat × Nat) := [uf off 0 48, uf off 52 44]

/-- Every bit outside the fields is zero. -/
def onlyUsed (n : Nat) (used : List (Nat × Nat)) : Bool :=
  used.foldl (fun n (lo, w) => n - bits n lo w * 2 ^ lo) n == 0

/-- The fields an opcode uses in its first slot (R52, R55, R57, R60, R63, R64). -/
def usedFields (d : BitVec 1024) : List (Nat × Nat) :=
  let op := dOpcode d
  let sparse := dSparse d
  if op = 0x01 then [uf 0x10 0 64, uf 0x30 0 32, uf 0x34 3 2] ++ ufPtr 0x20
  else if op = 0x02 then [uf 0x20 0 64, uf 0x30 0 32, uf 0x34 3 2] ++ ufPtr 0x10
  else if op = 0x03 then [uf 0x30 0 32, uf 0x34 3 2] ++ ufPtr 0x10 ++ ufPtr 0x20
  else if op = 0x04 then [uf 0x1C 0 8, uf 0x20 0 (8 * atypeBytes (dAtype d))] ++ ufPtr 0x10
    ++ (if dAop d = 7 then [uf 0x30 0 128] else [])
  else if op = 0x05 then [uf 0x10 0 64, uf 0x30 0 32, uf 0x34 0 5] ++ ufPtr 0x20
  else if op = 0x06 then [uf 0x10 0 3]
  else if op = 0x07 then [uf 0x1C 0 3, uf 0x20 0 63] ++ ufPtr 0x10
  else if op = 0x08 then [uf 0x10 0 16, uf 0x12 0 3, uf 0x18 0 63, uf 0x20 0 32]
  else if op = 0x10 ∨ op = 0x11 then
    [uf 0x10 0 64, uf 0x18 0 64, uf 0x20 0 64, uf 0x28 0 64, uf 0x30 0 48, uf 0x38 0 32, uf 0x3C 0 8, uf 0x40 0 18, uf 0x40 19 1,
      uf 0x44 0 16, uf 0x46 0 16] ++ (if sparse then [uf 0x40 18 1, uf 0x48 0 64, uf 0x50 0 32] else [])
  else if op = 0x12 then [uf 0x10 0 64, uf 0x18 0 64, uf 0x20 0 32]
  else if op = 0x13 then [uf 0x10 0 64, uf 0x18 0 64, uf 0x20 0 32, uf 0x24 0 5, uf 0x25 0 4]
  else if op = 0x20 then [uf 0x10 0 64, uf 0x30 0 32, uf 0x34 0 11, uf 0x36 0 16] ++ ufPtr 0x20
  else if op = 0x30 then [uf 0x10 0 64, uf 0x18 0 32, uf 0x1C 0 6, uf 0x1D 0 4]
  else if op = 0x31 then
    if dSubop d = 0 then [uf 0x10 0 4, uf 0x18 0 64, uf 0x20 0 48, uf 0x26 0 4, uf 0x27 0 6]
    else if dSubop d = 1 then [uf 0x10 0 4, uf 0x12 0 16]
    else if dSubop d = 2 then [uf 0x10 0 4, uf 0x12 0 16, uf 0x28 0 96]
    else [uf 0x10 0 4]
  else if op = 0x32 then [uf 0x10 0 64, uf 0x18 0 48, uf 0x1E 0 6, uf 0x1F 0 2]
  else []

/-- Every reserved field of the descriptor is zero (R10, R50 reason 0x001). -/
def reservedZero (d : BitVec 1024) : Bool :=
  let op := dOpcode d
  let n := if dLong d then d.toNat else d.toNat % 2 ^ 512
  let second := if dLong d ∧ (op = 0x01 ∨ op = 0x02 ∨ op = 0x03) then [(512, 512)] else []
  onlyUsed n (headerUsed (op == 0x10 || op == 0x11) ++ usedFields d ++ second)

/-! ## R50 -/

/-- The opcode is in R51's table. -/
def opcodeKnown (op : Nat) : Bool :=
  [0x01, 0x02, 0x03, 0x04, 0x05, 0x06, 0x07, 0x08, 0x10, 0x11, 0x12, 0x13, 0x20, 0x30, 0x31, 0x32, 0x3F].contains op

/-- The queue kinds that accept an opcode (R51): 0 transfer, 1 group, 2 manager. -/
def opcodeAccepted (op kind : Nat) : Bool :=
  if [0x06, 0x07, 0x08, 0x3F].contains op then kind ≤ 2
  else if [0x10, 0x11, 0x12, 0x13].contains op then kind == 1
  else if op = 0x30 ∨ op = 0x32 then kind == 2
  else opcodeKnown op && (kind == 0 || kind == 2)

/-- LONG matches the opcode's form (R51). -/
def formOk (d : BitVec 1024) : Bool :=
  if dOpcode d ≤ 0x03 then true
  else if dOpcode d = 0x10 ∨ dOpcode d = 0x11 then dLong d
  else !dLong d

/-- Reasons of transfers: sizes and starts of R54, Nyesh rules of R215, LATCH_PUT's size of R90, scope encodings of R59. -/
def transferReasons (d : BitVec 1024) : List Nat :=
  let op := dOpcode d
  let product := dLength d * dCount d 1 * dCount d 2 * dCount d 3
  let unused (i : Nat) : Bool := dfld d (0x40 + 4 * (i - 1)) 0 32 == 0
  let startBad := dLong d && ((if dLength d = 0 then dStart d 0 != 0 else decide (dStart d 0 ≥ dLength d))
    || [1, 2, 3].any (fun i => if unused i then dStart d i != 0 else decide (dStart d i ≥ dCount d i)))
  (if dLong d ∧ product > 2 ^ 44 then [4] else [])
    ++ (if startBad then [9] else [])
    ++ (if dNyesh d ∧ (op ≠ 1 ∨ dLong d) then [7] else [])
    ++ (if dExpand d ∧ ¬ dNyesh d then [1] else [])
    ++ (if op = 1 ∧ dNyesh d ∧ (dSrc d % 16 ≠ 0 ∨ dLength d % 16 ≠ 0 ∨
          ptrOffset (dDstPtr d) % (if dExpand d then 512 else 16) ≠ 0) then [5] else [])
    ++ (if op = 5 ∧ (dLength d = 0 ∨ dLength d > 512 ∨ ptrOffset (dDstPtr d) % 512 + dLength d > 512) then [4] else [])
    ++ (if op = 5 ∧ dScope d > 4 then [1] else [])

/-- Reasons of ATOMIC (R55, R56). -/
def atomicReasons (d : BitVec 1024) : List Nat :=
  (if ptrOffset (dSrcPtr d) % atypeBytes (dAtype d) ≠ 0 then [5] else [])
    ++ (if atomicDefined (dAop d) (dAtype d) then [] else [7])

/-- Reasons of WINDOW_OP that are R50's (R64, R108, R110); `inRange` says whether a signal window's counters are the owner's. -/
def windowReasons (d : BitVec 1024) (inRange : Bool) : List Nat :=
  (if dSubop d > 2 then [1] else [])
    ++ (if dSubop d = 0 ∧ dWinBase d % 4096 ≠ 0 then [5] else [])
    ++ (if dSubop d = 0 ∧ dWinPerm d = 8 ∧ dWinSize d ≠ 0 ∧ ¬ inRange then [6] else [])

/-- Reasons of XLATE_INV (R139). -/
def invReasons (d : BitVec 1024) : List Nat :=
  let e := dExtent d
  (if e = 0 ∧ dSrc d % 4096 ≠ 0 then [5] else [])
    ++ (if e = 0 ∧ (dInvLength d = 0 ∨ dInvLength d % 4096 ≠ 0) then [4] else [])
    ++ (if e = 1 ∧ (dSrc d ≠ 0 ∨ dInvLength d ≠ 0) then [1] else [])
    ++ (if e = 2 ∧ (dSrc d ≠ 0 ∨ dInvLength d ≠ 0 ∨ dInvFunc d ≠ 0) then [1] else [])
    ++ (if e = 3 then [1] else [])

/-- Reasons of PINTLE (R239). -/
def pintleReasons (d : BitVec 1024) : List Nat :=
  (if dPop d ≥ 6 ∨ ((dPop d = 4 ∨ dPop d = 5) ∧ dPtype d = 1) then [7] else [])
    ++ (if (dPop d = 0 ∧ dLanes d ≠ 0) ∨ (dPop d ≠ 0 ∧ (dLanes d = 0 ∨ dLanes d > 8)) then [4] else [])
    ++ (if dPop d = 0 ∧ (dSrc d ≠ 0 ∨ dColDst d ≠ 0) then [1] else [])
    ++ (if dPop d ≠ 0 ∧ (dSrc d % 64 ≠ 0 ∨ dColDst d % 64 ≠ 0) then [5] else [])

/-- The reason R50 reports among those that fail: 0x002, else 0x003, else the lowest. -/
def pickReason (rs : List Nat) : Option Nat :=
  if rs.contains 2 then some 2 else if rs.contains 3 then some 3
  else match rs with
    | [] => none
    | x :: t => some (t.foldl min x)

/-- The reasons of R50 a descriptor of queue kind `kind` and function `f` fails, the collective ones (`extra`) given. -/
def State.r50 (s : State) (kind f : Nat) (d : BitVec 1024) (extra : List Nat) : Option Nat :=
  let op := dOpcode d
  if !(opcodeKnown op && opcodeAccepted op kind) then some 2 else
  let counters := dWinBase d / 8 + (dWinSize d + 7) / 8
  let own := if op ≤ 3 ∨ op = 5 then transferReasons d
    else if op = 4 then atomicReasons d
    else if op = 6 then (if dFenceScope d > 4 then [1] else [])
    else if op = 7 then (if dSigScope d > 4 then [1] else [])
    else if op = 8 then (if dWaitScope d > 4 then [1] else []) ++ (if (s.counterOf f (dWaitCounter d)).isNone then [6] else [])
    else if op = 0x13 then pintleReasons d
    else if op = 0x20 then (if bit (dSrc d) 63 ∧ (bit (dSrc d) 62 ∨ bits (dSrc d) 40 20 ≠ 0) then [1] else [])
      ++ (if bit (dSrc d) 63 ∧ f ≠ 0 ∧ ¬ s.on (R.FUNC_CTL_SCRATCH f) then [8] else [])
    else if op = 0x31 then windowReasons d (counters ≤ s.rd (R.FUNC_SIG_COUNT_COUNT f))
    else if op = 0x32 then invReasons d
    else []
  pickReason ((if formOk d then [] else [3]) ++ (if reservedZero d then [] else [1])
    ++ (if dSig d ∧ (s.counterOf f (dSignal d)).isNone then [6] else []) ++ own ++ extra)

/-! ## Scopes and routes (R99, R299-R301) -/

def nodeX (n : Nat) : Nat := bits n 14 6
def nodeY (n : Nat) : Nat := bits n 8 6
def nodeZ (n : Nat) : Nat := bits n 3 5
def nodeD (n : Nat) : Nat := bits n 0 3

/-- A die lies within a scope of this block's die (R99, R301). -/
def State.inScope (s : State) (scope node : Nat) : Bool :=
  let me := s.self
  if scope = 0 then false
  else if scope = 1 then node == me
  else if scope = 2 then node / 8 == me / 8
  else if scope = 3 then
    nodeX node / 2 ^ s.rd R.ROUTE_POD_PX_LOG2 == nodeX me / 2 ^ s.rd R.ROUTE_POD_PX_LOG2
      && nodeY node / 2 ^ s.rd R.ROUTE_POD_PY_LOG2 == nodeY me / 2 ^ s.rd R.ROUTE_POD_PY_LOG2
      && nodeZ node / 2 ^ s.rd R.ROUTE_POD_PZ_LOG2 == nodeZ me / 2 ^ s.rd R.ROUTE_POD_PZ_LOG2
  else true

/-- A node matches a valid ROUTE_DENY entry (R300). -/
def State.denied (s : State) (node : Nat) : Bool :=
  (List.range 16).any (fun i => s.on (R.ROUTE_DENY_VAL_VALID i)
    && Nat.land node (s.rd (R.ROUTE_DENY_MASK_MASK i)) == Nat.land (s.rd (R.ROUTE_DENY_VAL_NODE i)) (s.rd (R.ROUTE_DENY_MASK_MASK i)))

/-- The REASON of the first route check a destination fails (R299). -/
def State.routeReason (s : State) (node : Nat) : Option Nat :=
  if ¬ s.selfValid then some 0x024
  else if nodeX node ≥ s.rd R.ROUTE_EXTENT_EX ∨ nodeY node ≥ s.rd R.ROUTE_EXTENT_EY ∨ nodeZ node ≥ s.rd R.ROUTE_EXTENT_EZ
    then some 0x021
  else if nodeD node ≥ s.rd R.ROUTE_EXTENT_DIES then some 0x022
  else if s.denied node then some 0x023
  else none

end Sys2Proof.Machine
end

