-- ==== Sys2Proof/Machine/Ranges.lean ====
section
/-! DEFINITION. The ranges a descriptor enters in its queue's tracker (R44, R45, R51). -/

namespace Sys2Proof.Machine

/-- Two ranges of one space overlap, one of them a write (R45). -/
def Range.conflicts (a b : Range) : Bool := a.win == b.win && (a.w || b.w) && decide (a.lo ≤ b.hi ∧ b.lo ≤ a.hi)

/-- A local range [va, va + len), and a remote one in a pointer's window. -/
def localRange (va : Int) (last : Int) (w : Bool) : Range := ⟨0, none, va, last, w⟩
def remoteRange (p : Nat) (lo hi : Int) (w : Bool) : Range := ⟨0, some (ptrNode p, ptrWindow p), lo, hi, w⟩

/-- Ranges of a transfer: its bytes at a base with its strides (R44), in the window of a pointer or locally. -/
def spanLocal (d : BitVec 1024) (base : Nat) (st : Nat → Int) (w : Bool) : Range :=
  let (lo, hi) := touched d base st
  localRange lo hi w
def spanRemote (d : BitVec 1024) (p : Nat) (st : Nat → Int) (w : Bool) : Range :=
  let (lo, hi) := touched d (ptrOffset p) st
  remoteRange p lo hi w

/-- Ranges of PUT (R51, R218). -/
def putRanges (d : BitVec 1024) : List Range :=
  if dNyesh d then
    let n : Int := dLength d
    let o : Int := ptrOffset (dDstPtr d)
    [localRange (dSrc d) ((dSrc d : Int) + n - 1) false,
      remoteRange (dDstPtr d) o (if dExpand d then 2 ^ 48 - 1 else o + n - 1) true]
  else [spanLocal d (dSrc d) (dSStride d) false, spanRemote d (dDstPtr d) (dDStride d) true]

/-- Ranges of GET and COPY. -/
def getRanges (d : BitVec 1024) : List Range :=
  [spanRemote d (dSrcPtr d) (dSStride d) false, spanLocal d (dDst d) (dDStride d) true]
def copyRanges (d : BitVec 1024) : List Range :=
  [spanRemote d (dSrcPtr d) (dSStride d) false, spanRemote d (dDstPtr d) (dDStride d) true]

/-- Range of an ATOMIC's target. -/
def atomicRanges (d : BitVec 1024) : List Range :=
  let o : Int := ptrOffset (dSrcPtr d)
  [remoteRange (dSrcPtr d) o (o + atypeBytes (dAtype d) - 1) true]

/-- The source is the scratchpad (R262). -/
def dScratch (d : BitVec 1024) : Bool := bit (dSrc d) 63

/-- Where a BOLT_PUT's source bytes start: a virtual address, or a byte offset in a scratchpad. -/
def boltBase (d : BitVec 1024) : Nat := if dScratch d then dSrc d % 2 ^ 40 else dSrc d

/-- Ranges of a BOLT_PUT (R51, R262). -/
def boltRanges (d : BitVec 1024) : List Range :=
  (if dScratch d then [] else [spanLocal d (dSrc d) (dSStride d) false]) ++ [spanRemote d (dDstPtr d) (dDStride d) true]

/-- Elements of a region of `bytes` bytes in a format, if that is a whole number (R162, R182). -/
def elementsOf (fmt bytes : Nat) : Option Nat :=
  let per := if isMxFmt fmt then 4 * mxBits fmt + 1 else 32 * fmtSize fmt
  if bytes * 32 % per = 0 then some (bytes * 32 / per) else none

/-- Ranges of RS and AG (R51, R223). -/
def colRanges (n : Nat) (d : BitVec 1024) : List Range :=
  let rs := dOpcode d == 0x10
  let e := (elementsOf (dInFmt d) (dBytes d)).getD 0
  let src := if dSparse d then 528 * (e / 256) else dBytes d
  let els := if rs then e / n else n * e
  let dst := if dSparse d ∧ ¬ dColExpand d then els / 256 * dTileCap d else els * fmtSize (dOutFmt d)
  let span (a l : Nat) (w : Bool) : List Range := if l = 0 then [] else [localRange a ((a : Int) + l - 1) w]
  span (dSrc d) src false ++ (if dSrc2 d = 0 then [] else span (dSrc2 d) (dBytes d) false)
    ++ (if dMask d = 0 then [] else span (dMask d) ((els + 7) / 8) false) ++ span (dColDst d) dst true

/-- Ranges of COUNTX and PINTLE (R51, R239). -/
def countRanges (n : Nat) (d : BitVec 1024) : List Range :=
  [localRange (dSrc d) ((dSrc d : Int) + 8 * n - 1) false, localRange (dColDst d) ((dColDst d : Int) + 8 * n - 1) true]
def pintleRanges (d : BitVec 1024) : List Range :=
  if dPop d = 0 then [] else [localRange (dSrc d) ((dSrc d : Int) + 8 * dLanes d - 1) false, localRange (dColDst d) ((dColDst d : Int) + 8 * dLanes d - 1) true]

/-- Range of a TABLE_LOAD's image (R51); a retire reads nothing. -/
def tableRanges (d : BitVec 1024) : List Range :=
  if dTblLength d = 0 then [] else [localRange (dSrc d) ((dSrc d : Int) + dTblLength d - 1) false]

/-- The ranges a descriptor of a group of `n` members enters when it issues (R51); a transfer of LENGTH 0 enters none (R52). -/
def descRanges (n : Nat) (d : BitVec 1024) : List Range :=
  let op := dOpcode d
  if (op ≤ 3 ∨ op = 5 ∨ op = 0x20) ∧ dLength d = 0 then []
  else if op = 0x01 ∨ op = 0x05 then putRanges d
  else if op = 0x02 then getRanges d
  else if op = 0x03 then copyRanges d
  else if op = 0x04 then atomicRanges d
  else if op = 0x10 ∨ op = 0x11 then colRanges n d
  else if op = 0x12 then countRanges n d
  else if op = 0x13 then pintleRanges d
  else if op = 0x20 then boltRanges d
  else if op = 0x30 then tableRanges d
  else []

end Sys2Proof.Machine
end

