-- ==== Sys2Proof/Machine/Msp.lean ====
section
/-! DEFINITION. The memory side (R15, R441-R445, R468): requests, credits, hazards and what comes back. -/

namespace Sys2Proof.Machine

/-- XOR of the successive `w`-bit fields of `n` (R468). -/
def xorFields (w : Nat) : Nat → Nat → Nat
  | 0, _ => 0
  | fuel + 1, n => Nat.xor (n % 2 ^ w) (xorFields w fuel (n / 2 ^ w))

/-- The MSP that serves a physical address (R468). -/
def mspOf (b : Build) (pa : Nat) : Nat :=
  let w := if b.msps = 16 then 4 else if b.msps = 8 then 3 else 2
  xorFields w 22 (pa % 2 ^ 52 / 2 ^ b.mspIl)

/-- First line of a request and the number of lines it asks for (R443). -/
def MemReq.firstLine (r : MemReq) : Nat := r.pa / 128
def MemReq.lines (r : MemReq) : Nat := (r.pa + r.len - 1) / 128 - r.pa / 128 + 1

/-- The byte range a request touches, whole lines for a read (R443). -/
def MemReq.span (r : MemReq) : Nat × Nat :=
  if r.write then (r.pa, r.pa + r.len) else (r.firstLine * 128, (r.firstLine + r.lines) * 128)

/-- Two requests touch a common 16-byte granule. -/
def MemReq.shares (a b : MemReq) : Bool :=
  decide (a.span.1 / 16 ≤ (b.span.2 - 1) / 16 ∧ b.span.1 / 16 ≤ (a.span.2 - 1) / 16)

/-- An atomic holds a granule of a write: only its own access may touch it (R80). -/
def MemReq.locked (r : MemReq) (x : MemSide) : Bool :=
  x.locks.any (fun l => r.write && r.owner != .job l.2 && decide (r.span.1 / 16 ≤ l.1 ∧ l.1 ≤ (r.span.2 - 1) / 16))

/-- A credit of the kind the request needs is held, its MSP has a tag free (R443), and R444 and R80 let it leave. -/
def MemReq.eligible (r : MemReq) (x : MemSide) : Bool :=
  let credit := SMap.getD (if r.write then x.wqCredit else x.rqCredit) r.msp 0
  let out := ((if r.write then x.writes else x.reads).filter (fun o => o.2.msp == r.msp)).length
  decide (credit > 0) && decide (out < 4096) && !r.locked x && !(SMap.vals x.writes).any (fun o => o.msp == r.msp && r.shares o)
    && !(r.write && (SMap.vals x.reads).any (fun o => o.msp == r.msp && r.shares o))

/-- The turns of sources 3 to 6 in one round: weights 4, 4, 4 and 1 (R15). -/
def mspWheel : List Nat := [3, 4, 5, 3, 4, 5, 3, 4, 5, 3, 4, 5, 6]

/-- Place of a channel's round robin among the places of all channels: read and write channels arbitrate independently (R15). -/
def mspChannel (m : Nat) (write : Bool) : Nat := 2 * m + b2n write

/-- The next request of a channel that may leave, the requests that stay, and the channel's place after it (R15): bolt prefetch, then
sink writes, then the first turn from the place reached whose source has such a request; the place moves past that turn. -/
def mspChoose (m : Nat) (write : Bool) (x : MemSide) : Option (MemReq × List MemReq × Nat) :=
  let place := SMap.getD x.wrr (mspChannel m write) 0
  let pick (src next : Nat) : Option (MemReq × List MemReq × Nat) :=
    (takeFirst (fun r => r.msp == m && r.write == write && r.src == src && r.eligible x) x.waiting).map (fun y => (y.1, y.2, next))
  match pick 1 place, pick 2 place with
  | some y, _ => some y
  | none, some y => some y
  | none, none => (List.range 13).findSome? (fun i =>
      let k := (place + i) % 13
      pick (mspWheel.getD k 6) ((k + 1) % 13))

/-- One line's data and byte enables of a write. -/
def MemReq.line (r : MemReq) (i : Nat) : WLine :=
  let base := (r.firstLine + i) * 128
  let en : List Bool := (List.range 128).map (fun k => decide (r.pa ≤ base + k ∧ base + k < r.pa + r.len))
  let bs : Bytes := (List.range 128).map (fun k => if r.pa ≤ base + k then r.data.getD (base + k - r.pa) 0 else 0)
  ⟨r.msp, BitVec.ofNat 1024 (ofLE bs), BitVec.ofNat 128 (en.foldr (fun b n => 2 * n + b2n b) 0)⟩

/-- Send data lines of an MSP while credits last, in the order of their requests (R443). -/
def pumpLines (m : Nat) : List WLine → Nat → List Output × List WLine × Nat
  | [], c => ([], [], c)
  | l :: t, c =>
    if l.msp = m then
      match c with
      | 0 => ([], l :: t, 0)
      | c' + 1 => let (o, r, c'') := pumpLines m t c'; (.mspData m l.data l.mask :: o, r, c'')
    else let (o, r, c'') := pumpLines m t c; (o, l :: r, c'')

/-- Send the data lines an MSP has credits for. -/
def State.mspLines (s : State) (m : Nat) : State :=
  let (o, r, c) := pumpLines m s.core.mem.lines (SMap.getD s.core.mem.wdCredit m 0)
  { s with core.mem.lines := r, core.mem.wdCredit := SMap.putD s.core.mem.wdCredit m c 0, out := s.out ++ o }

/-- Send one request: spend its credit, take a free tag (R442, R443). -/
def State.mspSend (s : State) (r : MemReq) (rest : List MemReq) (next : Nat) : State :=
  let x := s.core.mem
  let key := (SMap.freeKey (if r.write then x.writes else x.reads) 4096 (r.msp * 4096)).getD (r.msp * 4096)
  let place := SMap.putD x.wrr (mspChannel r.msp r.write) next 0
  if r.write then
    let x' := { x with waiting := rest, wrr := place, writes := SMap.put x.writes key r,
                       wqCredit := SMap.putD x.wqCredit r.msp (SMap.getD x.wqCredit r.msp 0 - 1) 0,
                       lines := x.lines ++ (List.range r.lines).map r.line }
    ({ s with core.mem := x' }).emit (.mspWrite r.msp r.firstLine (r.lines - 1) (key % 4096) r.ksel r.func r.src)
  else
    let x' := { x with waiting := rest, wrr := place, reads := SMap.put x.reads key r,
                       rqCredit := SMap.putD x.rqCredit r.msp (SMap.getD x.rqCredit r.msp 0 - 1) 0 }
    ({ s with core.mem := x' }).emit (.mspRead r.msp r.firstLine (r.lines - 1) (key % 4096) r.ksel r.func r.src)

/-- Send the requests of an MSP that may leave, at most `n` of them. -/
def State.mspPumpN (m : Nat) : Nat → State → State
  | 0, s => s
  | n + 1, s => match mspChoose m false s.core.mem, mspChoose m true s.core.mem with
    | some (r, rest, next), _ => State.mspPumpN m n (s.mspSend r rest next)
    | none, some (r, rest, next) => State.mspPumpN m n (s.mspSend r rest next)
    | none, none => s

/-- Send what an MSP may send now: requests, then data lines; nothing while the ports stand idle (R368, R374). -/
def State.mspPump (s : State) (m : Nat) : State :=
  if s.idle then s else (State.mspPumpN m s.core.mem.waiting.length s).mspLines m

/-- The arrival came in reserved slots: a packet of a bolt transfer, or a request of a TDM pair (R265, R354). -/
def State.reservedArrival (s : State) (id : Nat) : Bool :=
  match SMap.get? s.core.resp.arrivals id with
  | some x => x.xfer.isSome || x.pkt.tdm
  | none => false

/-- The access serves a packet that came in reserved slots. -/
def State.ownedByBolt (s : State) (owner : Owner) : Bool :=
  match owner with
  | .walk _ => false
  | .job id => match SMap.get? s.core.jobs id with
    | none => false
    | some j => match j.purpose with
      | .arrAccess a => s.reservedArrival a
      | .atomRead a => s.reservedArrival a
      | .atomWrite a => s.reservedArrival a
      | _ => false

/-- Present a request to the memory side. -/
def State.memIssue (s : State) (owner : Owner) (src func pa len ksel : Nat) (write : Bool) (data : Bytes) : State :=
  let m := mspOf s.build pa
  let bolt := s.ownedByBolt owner
  let r : MemReq := ⟨owner, m, src, func, pa, len, ksel, write, data, [], false, bolt⟩
  let w : List MemReq := s.core.mem.waiting
  ({ s with core.mem.waiting := if bolt then w.filter (fun (x : MemReq) => x.bolt) ++ [r] ++ w.filter (fun (x : MemReq) => !x.bolt) else w ++ [r] }).mspPump m

/-! ## Starting accesses -/

/-- Start an access; the tick goes on with it. -/
def State.startJob (s : State) (j : Job) : State :=
  let id := s.core.nextId
  ({ s with core.jobs := SMap.put s.core.jobs id j, core.nextId := id + 1 }).post (.job id)

/-- An access to a function's virtual space (R135). -/
def State.virtJob (s : State) (func va len : Nat) (acc : Acc) (data : Bytes) (src queue : Nat) (p : Purpose) : State :=
  let sp := match acc with
    | .write => Space.virt false true none
    | .read => .virt true false none
    | .probe => .virt false true none
  s.startJob ⟨func, va, len, sp, acc, data, src, 0, queue, 0, 0, 0, 0, p⟩

/-- An access to physical memory. -/
def State.physJob (s : State) (func pa len ksel : Nat) (acc : Acc) (data : Bytes) (src : Nat) (p : Purpose) : State :=
  s.startJob ⟨func, pa, len, .phys ksel, acc, data, src, 0, 0, 0, 0, 0, 0, p⟩

/-- End an access: its unit gets the result at the tick. -/
def State.endJob (s : State) (id : Nat) (j : Job) (fail : Option Fail) : State :=
  ({ s with core.jobs := SMap.del s.core.jobs id }).post (.done j.purpose ⟨fail, j.data, j.pa, j.ksel, j.pos, j.pa0⟩)

/-- Drop the accesses that `p` names, without result; what they have not presented to an MSP yet is withdrawn. -/
def State.dropJobs (s : State) (p : Job → Bool) : State :=
  let gone := (s.core.jobs.filter (fun x => p x.2)).map (fun x => Owner.job x.1)
  { s with core.jobs := s.core.jobs.filter (fun x => !p x.2), core.mem.waiting := s.core.mem.waiting.filter (fun r => !gone.contains r.owner) }

/-- The memory side has done the current piece of an access. -/
def State.pieceDone (s : State) (id addr : Nat) (data : Bytes) (bad : Bool) : State :=
  match SMap.get? s.core.jobs id with
  | none => s
  | some j =>
    let n := min (j.len - j.pos) (512 - (j.va + j.pos) % 512)
    let j' := { j with pos := j.pos + n, data := if j.acc = .read then j.data ++ data else j.data }
    if bad then s.endJob id { j with pos := j.pos } (some (.msp addr))
    else if j'.pos ≥ j'.len then s.endJob id j' none
    else ({ s with core.jobs := SMap.put s.core.jobs id j' }).post (.job id)

end Sys2Proof.Machine
end

