-- ==== Sys2Proof/Machine/Xlate.lean ====
section
/-! DEFINITION. Address translation (chapter 5): caches, walks, faults, invalidation, and the accesses that need it. -/

namespace Sys2Proof.Machine

/-! ## Page table entries (R132, R133) -/

def pteV (e : Nat) : Bool := bit e 0
def pteR (e : Nat) : Bool := bit e 1
def pteW (e : Nat) : Bool := bit e 2
def pteLeaf (e : Nat) : Bool := bit e 3
def pteC64 (e : Nat) : Bool := bit e 4
def pteKey (e : Nat) : Nat := bits e 5 6
def pteAddr (e : Nat) : Nat := bits e 12 40

/-- An entry with V = 1 that R133 calls malformed at its level. -/
def pteMalformed (level e : Nat) : Bool :=
  bit e 11 || bits e 52 12 != 0
    || (level == 3 && pteLeaf e) || (level == 0 && !pteLeaf e)
    || (!pteLeaf e && (pteR e || pteW e || pteC64 e || pteKey e != 0))
    || (pteC64 e && !(level == 0 && pteLeaf e))
    || (level == 2 && pteLeaf e && bits e 12 18 != 0)
    || (level == 1 && pteLeaf e && bits e 12 9 != 0)

/-- The 16 entries of a 64 KiB group are well formed together (R133). -/
def groupOk (es : List Nat) : Bool :=
  let e0 := es.headD 0
  (es.zipIdx).all (fun (e, i) => pteV e && pteC64 e && !pteMalformed 0 e && pteR e == pteR e0 && pteW e == pteW e0
    && pteKey e == pteKey e0 && bits e 16 36 == bits e0 16 36 && bits e 12 4 == i)

/-- Page size of a leaf at a level, as log2 (R131). -/
def leafSize (level : Nat) : Nat := if level = 2 then 30 else if level = 1 then 21 else 12

/-! ## Caches (R137) -/

/-- The cached leaf of a function's address. -/
def findLeaf (ls : List Leaf) (f va : Nat) : Option Leaf := ls.find? (fun l => l.func == f && va / 2 ^ l.sizeLog2 == l.vpn)

/-- A leaf becomes the most recently used. -/
def touchLeaf (ls : List Leaf) (l : Leaf) : List Leaf := ls.filter (· ≠ l) ++ [l]

/-- Set of a leaf among the 4,096 (R137); the hash is open (log entry 9). -/
def leafSet (l : Leaf) : Nat := Config.xlateSet l.func l.vpn % 4096

/-- Insert a leaf: 16 ways a set, the least recently used of a full set leaves. The set is looked at only when one could be full. -/
def insertLeaf (ls : List Leaf) (l : Leaf) : List Leaf :=
  if ls.length < 16 then touchLeaf ls l else
    let same := ls.filter (fun x => leafSet x == leafSet l)
    match decide (same.length < 16), same with
    | true, _ => touchLeaf ls l
    | _, [] => touchLeaf ls l
    | _, v :: _ => touchLeaf (ls.filter (· ≠ v)) l

/-- A pointer becomes the most recently used. -/
def touchPtr (ps : List Ptr) (p : Ptr) : List Ptr := ps.filter (· ≠ p) ++ [p]

/-- Insert a pointer into the walk cache of 2,048 entries, the least recently used of which leaves (log entry 12). -/
def insertPtr (ps : List Ptr) (p : Ptr) : List Ptr :=
  let rest := ps.filter (fun x => !(x.func == p.func && x.level == p.level && x.vpn == p.vpn))
  (if rest.length ≥ 2048 then rest.drop 1 else rest) ++ [p]

/-- The deepest cached pointer for an address: the level its table serves and the table. -/
def findPtr (ps : List Ptr) (f va : Nat) : Option Ptr :=
  [1, 2, 3].findSome? (fun l => ps.find? (fun p => p.func == f && p.level == l && p.vpn == va / 2 ^ (12 + 9 * l)))

/-! ## Faults (R136, R146) -/

/-- STATUS and DETAIL of what a failed translation leads to (R135, R136): what its error record shows (R400, log entry 18). -/
def Purpose.xlateOutcome (p : Purpose) (kind : Nat) : Nat × Nat :=
  match p with
  | .reqSource _ | .reqNyHeader _ | .boltRead _ _ | .tableImage _ => (0x01, det 1 1)
  | .reqDest _ | .reqLand _ => (0x01, det 1 2)
  | .arrCheck _ | .arrAccess _ | .atomRead _ | .atomWrite _ => (if kind = 6 then 0x05 else 0x06, det 4 (0x040 + kind))
  | .journalProbe _ => (0x10, det 3 0x01B)
  | .colSource _ _ _ | .colResult _ _ | .countSend _ _ | .countRecv _ _ | .pintleSrc _ | .pintleDst _ => (0x0E, det 6 0x061)
  | .keyFetch _ _ | .countPeer _ _ => (0x0E, det 6 0x067)
  | .selfTest => (0x06, 0)
  | _ => (0, 0)

/-- STATUS and DETAIL of what an error of the memory side leads to (R395): what its error record shows (R400, log entry 18). -/
def Purpose.memOutcome (p : Purpose) (acc : Acc) : Nat × Nat :=
  match p with
  | .reqSource _ | .reqNyHeader _ => (0x0F, det 1 3)
  | .reqLand _ => (0x12, det 1 4)
  | .arrAccess _ => if acc = .read then (0x0F, det 3 0x018) else (0x12, det 3 0x01A)
  | .atomRead _ => (0x0F, det 3 0x019)
  | .atomWrite _ => (0x12, det 3 0x01A)
  | .boltRead _ _ => (0x0F, det 7 0x07C)
  | .tableImage _ => (0x0F, det 5 0x05D)
  | .colSource _ _ _ | .countSend _ _ | .pintleSrc _ => (0x0E, det 6 0x060)
  | .colResult _ _ | .countRecv _ _ | .pintleDst _ => (0x0E, det 6 0x069)
  | .keyFetch _ _ | .countPeer _ _ => (0x0E, det 6 0x067)
  | .selfTest => (0x0F, 0)
  | _ => (0, 0)

/-- The target or peer node of an access, which its error record names (R400); zero when none. -/
def State.peerOf (s : State) (p : Purpose) : Nat :=
  match p with
  | .reqSource t | .reqNyHeader t | .reqDest t | .reqLand t => ((SMap.get? s.core.rq.reqs t).map (·.node)).getD 0
  | .arrCheck a | .arrAccess a | .atomRead a | .atomWrite a | .journalProbe a | .journalWrite a | .journalRead a =>
    ((SMap.get? s.core.resp.arrivals a).map (fun x => if x.la.isSome then 0 else x.pkt.srcNode)).getD 0
  | .boltRead c _ => ((SMap.get? s.core.bolts.table c).map (·.dest)).getD 0
  | _ => 0

/-- Record a failed translation in the function's fault registers, its error record and its counter. -/
def State.xlateFault (s : State) (f va kind side queue node : Nat) (out : Nat × Nat) : State :=
  let c := s.rd (R.XLATE_FAULT_INFO_COUNT f)
  let s := (s.wr (R.XLATE_FAULT_VA_LO_VA f) va).wr (R.XLATE_FAULT_VA_HI_VA f) (va / 2 ^ 32)
  let s := ((s.wr (R.XLATE_FAULT_INFO_VALID f) 1).wr (R.XLATE_FAULT_INFO_KIND f) kind).wr (R.XLATE_FAULT_INFO_SIDE f) side
  let s := (s.wr (R.XLATE_FAULT_INFO_QUEUE f) (if side = 0 then queue else 0)).wr (R.XLATE_FAULT_INFO_COUNT f) (min 255 (c + 1))
  let s := if side = 0 then s.count (funcSlot f) 27 else s
  s.logErr 5 out.1 out.2 15 (some f) (if side = 0 then queue else 0) node va

/-- An access fails translation at its current byte. -/
def State.jobFault (s : State) (id : Nat) (j : Job) (kind : Nat) : State :=
  (s.xlateFault j.func ((j.va + j.pos) % 2 ^ 64) kind j.side j.queue (s.peerOf j.purpose) (j.purpose.xlateOutcome kind)).endJob id j
    (some (.xlate kind))

/-! ## Walks (R138, R141) -/

/-- Walkers one function may hold, and walkers reserved for arrivals (R146). -/
def State.walkShare (s : State) : Nat := max 1 (s.rd R.XLATE_CTL_WALK_SHARE)
def State.arrReserve (s : State) : Nat :=
  let r := s.rd R.XLATE_CTL_ARR_RESERVE
  if 1 ≤ r ∧ r ≤ s.build.walkers - 1 then r else 1

/-- A walker is free for the function, for an arrival or not (R138). -/
def State.walkerFree (s : State) (f : Nat) (arrival : Bool) : Bool :=
  let ws := SMap.vals s.core.xl.walks
  decide (ws.length < s.build.walkers) && decide ((ws.filter (·.func == f)).length < s.walkShare)
    && (arrival || decide ((ws.filter (!·.arrival)).length < s.build.walkers - s.arrReserve))

/-- The physical address of a function's root table, and the selector of its tables (R130). -/
def State.rootOf (s : State) (f : Nat) : Nat :=
  s.rd (R.XLATE_ROOT_LO_ROOT f) * 4096 + s.rd (R.XLATE_ROOT_HI_ROOT f) * 2 ^ 32

/-- Read the entry of a walk's level; at L0 the whole line, which holds the entry's 64 KiB group. -/
def State.walkRead (s : State) (id : Nat) (w : Walk) : State :=
  let idx := w.vpn / 2 ^ (9 * w.level) % 512
  let pa := if w.level = 0 then w.table + idx / 16 * 128 else w.table + idx * 8
  s.memIssue (.walk id) 3 w.func pa (if w.level = 0 then 128 else 8) (s.rd (R.XLATE_ROOT_HI_KEY_SEL w.func)) false []

/-- Start a walk for a job at a virtual address: from the deepest cached pointer, or from the root. -/
def State.walkStart (s : State) (f vpn : Nat) (arrival fromRoot : Bool) (waiters : List Nat) : State :=
  let (level, table, s) : Nat × Nat × State := match (if fromRoot then none else findPtr s.core.xl.ptrs f (vpn * 4096)) with
    | some p => (p.level - 1, p.table, { s with core.xl.ptrs := touchPtr s.core.xl.ptrs p })
    | none => (3, s.rootOf f, s)
  let id := s.core.nextId
  let w : Walk := ⟨f, vpn, level, table, false, arrival, waiters⟩
  ({ s with core.nextId := id + 1, core.xl.walks := SMap.put s.core.xl.walks id w }).walkRead id w

/-- End a walk: its walker is free, and accesses waiting for one try again. -/
def State.walkEnd (s : State) (id : Nat) : State :=
  let waiting := s.core.xl.waiting
  let s := (({ s with core.xl.walks := SMap.del s.core.xl.walks id, core.xl.waiting := [] }).count blockSlot 4)
  waiting.foldl (fun s j => s.post (.job j)) s

/-- The walk yields a leaf: cached, and the accesses go on. -/
def State.walkLeaf (s : State) (id : Nat) (w : Walk) (l : Leaf) : State :=
  let s := (s.walkEnd id)
  let s := { s with core.xl.leaves := insertLeaf s.core.xl.leaves l }
  w.waiters.foldl (fun s j => s.post (.job j)) s

/-- The walk fails: every access that shared it fails. -/
def State.walkFail (s : State) (id : Nat) (w : Walk) (kind : Nat) : State :=
  w.waiters.foldl (fun s j => match SMap.get? s.core.jobs j with
    | some x => s.jobFault j x kind
    | none => s) (s.walkEnd id)

/-- The walk that a function's misses to a 4 KiB page share: one that is not stale (R138, R141). -/
def State.sharedWalk (s : State) (f vpn : Nat) : Option (Nat × Walk) :=
  s.core.xl.walks.find? (fun w => w.2.func == f && w.2.vpn == vpn && !w.2.stale)

/-- Accesses join a walk. -/
def State.joinWalk (s : State) (id : Nat) (w : Walk) (waiters : List Nat) : State :=
  { s with core.xl.walks := SMap.put s.core.xl.walks id { w with waiters := w.waiters ++ waiters } }

/-- A stale walk has ended its reads: the accesses join a walk of their page that is not stale, or walk again from the root (R141). -/
def State.walkAgain (s : State) (id : Nat) (w : Walk) : State :=
  let s := s.walkEnd id
  match s.sharedWalk w.func w.vpn with
  | some (wid, x) => s.joinWalk wid x w.waiters
  | none => s.walkStart w.func w.vpn w.arrival true w.waiters

/-- The memory side returned the entry of a walk. -/
def State.walkReturn (s : State) (id : Nat) (data : Bytes) (bad : Bool) : State :=
  match SMap.get? s.core.xl.walks id with
  | none => s
  | some w =>
    let idx := w.vpn / 2 ^ (9 * w.level) % 512
    let e := if w.level = 0 then leAt data (idx % 16 * 8) 8 else leAt data 0 8
    let fail (kind : Nat) := if w.stale then s.walkAgain id w else s.walkFail id w kind
    let leaf (l : Leaf) := if w.stale then s.walkAgain id w else s.walkLeaf id w l
    if bad then fail 5
    else if !pteV e then fail 1
    else if pteMalformed w.level e then fail 3
    else if pteLeaf e then
      if pteC64 e then
        if groupOk ((List.range 16).map (fun i => leAt data (8 * i) 8)) then
          leaf ⟨w.func, 16, w.vpn / 16, pteAddr e / 16, pteR e, pteW e, pteKey e⟩
        else fail 3
      else
        let z := leafSize w.level
        leaf ⟨w.func, z, w.vpn / 2 ^ (z - 12), pteAddr e / 2 ^ (z - 12), pteR e, pteW e, pteKey e⟩
    else
      let w' := { w with level := w.level - 1, table := pteAddr e * 4096 }
      let ptrs := if w.stale then s.core.xl.ptrs
        else insertPtr s.core.xl.ptrs ⟨w.func, w.level, w.vpn / 2 ^ (9 * w.level), w'.table⟩
      ({ s with core.xl.walks := SMap.put s.core.xl.walks id w', core.xl.ptrs := ptrs }).walkRead id w'

/-! ## Accesses -/

/-- Present the current piece of an access at its physical address. -/
def State.jobPiece (s : State) (id : Nat) (j : Job) (pa ksel : Nat) : State :=
  let n := min (j.len - j.pos) (512 - (j.va + j.pos) % 512)
  let j' := { j with pa := pa, ksel := ksel, pa0 := if j.pos = 0 then pa else j.pa0 }
  let s := { s with core.jobs := SMap.put s.core.jobs id j' }
  match j.acc with
  | .probe => s.pieceDone id pa [] false
  | .read => s.memIssue (.job id) j.src j.func pa n ksel false []
  | .write => s.memIssue (.job id) j.src j.func pa n ksel true (slice j.data j.pos n)

/-- An access misses the cache: it joins the walk of its page, starts one, or waits for a walker (R138). -/
def State.jobMiss (s : State) (id : Nat) (j : Job) (va : Nat) : State :=
  let s := s.count blockSlot 3
  let vpn := va / 4096
  match s.sharedWalk j.func vpn with
  | some (wid, w) => s.joinWalk wid w [id]
  | none =>
    if s.walkerFree j.func (j.side == 1) then s.walkStart j.func vpn (j.side == 1) false [id]
    else { s with core.xl.waiting := s.core.xl.waiting ++ [id] }

/-- Go on with an access: translate its current piece and present it. -/
def State.jobStep (s : State) (id : Nat) : State :=
  match SMap.get? s.core.jobs id with
  | none => s
  | some j =>
    if j.len = 0 then s.endJob id j none else
    let va := (j.va + j.pos) % 2 ^ 64
    match j.space with
    | .phys ksel => s.jobPiece id j (va % 2 ^ 52) ksel
    | .split n pa2 ksel => s.jobPiece id j (if j.pos < n then va % 2 ^ 52 else (pa2 + (j.pos - n)) % 2 ^ 52) ksel
    | .virt r w key =>
      if va ≥ 2 ^ 48 ∨ ¬ s.on (R.XLATE_ROOT_LO_VALID j.func) then s.jobFault id j 4
      else match findLeaf s.core.xl.leaves j.func va with
        | none => s.jobMiss id j va
        | some l =>
          let s := ({ s with core.xl.leaves := touchLeaf s.core.xl.leaves l }).count blockSlot 2
          if (r && !l.r) || (w && !l.w) then s.jobFault id j 2
          else match key with
            | some k => if k ≠ l.ksel then s.jobFault id j 6
                        else s.jobPiece id j (l.ppn * 2 ^ l.sizeLog2 + va % 2 ^ l.sizeLog2) l.ksel
            | none => s.jobPiece id j (l.ppn * 2 ^ l.sizeLog2 + va % 2 ^ l.sizeLog2) l.ksel

/-- A ring access, whose error record is of CLASS 8 and is its queue's (R395). -/
def Purpose.isRing : Purpose → Bool
  | .descFetch _ _ => true
  | .slotProbe _ => true
  | .record _ _ => true
  | _ => false

/-- The memory side ended a request: the walk or the access it served goes on. -/
def State.memDone (s : State) (r : MemReq) (data : Bytes) (bad : Bool) : State :=
  match r.owner with
  | .walk id =>
    let s := if bad then s.logErr 4 0 0 15 (some r.func) 0 0 r.pa else s
    s.walkReturn id data bad
  | .job id =>
    let s := match bad, SMap.get? s.core.jobs id with
      | true, some j =>
        let out := j.purpose.memOutcome j.acc
        if j.purpose.isRing then s
        else s.logErr 4 out.1 out.2 15 (some r.func) (if j.side = 0 then j.queue else 0) (s.peerOf j.purpose) r.pa
      | _, _ => s
    (s.pieceDone id r.pa data bad).post (.func r.func)

/-! ## Commands of the memory-side ports -/

/-- A read line returns (R441, R445). -/
def readReturn (m : MspId) (tag : BitVec 12) (line : BitVec 1024) (last bad : Bool) (s : State) : State :=
  let key := m.val * 4096 + tag.toNat
  match SMap.get? s.core.mem.reads key with
  | none => s
  | some r =>
    let r' := { r with got := r.got ++ toLE 128 line.toNat, bad := r.bad || bad }
    if last then
      let s := ({ s with core.mem.reads := SMap.del s.core.mem.reads key })
      (s.memDone r' (slice r'.got (r.pa % 128) r.len) r'.bad).mspPump m.val
    else { s with core.mem.reads := SMap.put s.core.mem.reads key r' }

/-- MSP_READ_RETURN (R445). -/
def execMspReadReturn (m : MspId) (tag : BitVec 12) (line : BitVec 1024) (last bad : Bool) : State → Host.Outcome State Fault Refusal :=
  portCmd (readReturn m tag line last bad)

/-- A write is committed or has failed (R445). -/
def writeAck (m : MspId) (tag : BitVec 12) (bad : Bool) (s : State) : State :=
  let key := m.val * 4096 + tag.toNat
  match SMap.get? s.core.mem.writes key with
  | none => s
  | some r => (({ s with core.mem.writes := SMap.del s.core.mem.writes key }).memDone r [] bad).mspPump m.val

/-- MSP_WRITE_ACK (R445). -/
def execMspWriteAck (m : MspId) (tag : BitVec 12) (bad : Bool) : State → Host.Outcome State Fault Refusal :=
  portCmd (writeAck m tag bad)

/-- The memory side returns a credit, at most 4,095 of a kind (R442). -/
def creditReturn (m : MspId) (k : CreditKind) (s : State) : State :=
  let up (c : SMap Nat) : SMap Nat := SMap.putD c m.val (min 4095 (SMap.getD c m.val 0 + 1)) 0
  let s := if m.val ≥ s.build.msps then s else match k with
    | .readRequest => { s with core.mem.rqCredit := up s.core.mem.rqCredit }
    | .writeRequest => { s with core.mem.wqCredit := up s.core.mem.wqCredit }
    | .writeData => { s with core.mem.wdCredit := up s.core.mem.wdCredit }
  s.mspPump m.val

/-- MSP_CREDIT_RETURN (R442). -/
def execMspCreditReturn (m : MspId) (k : CreditKind) : State → Host.Outcome State Fault Refusal := portCmd (creditReturn m k)

/-! ## Invalidation (R139, R140) -/

/-- A range of virtual addresses overlaps a leaf's page. -/
def Leaf.overlaps (l : Leaf) (lo hi : Nat) : Bool :=
  decide (l.vpn * 2 ^ l.sizeLog2 < hi ∧ lo < (l.vpn + 1) * 2 ^ l.sizeLog2)

/-- Remove the translations an XLATE_INV names and mark its walks stale: functions by `of_`, the range [lo, hi). -/
def State.invalidate (s : State) (of_ : Nat → Bool) (lo hi : Nat) : State :=
  { s with core.xl.leaves := s.core.xl.leaves.filter (fun l => !(of_ l.func && l.overlaps lo hi)),
           core.xl.ptrs := s.core.xl.ptrs.filter (fun p => !of_ p.func),
           core.xl.walks := s.core.xl.walks.map (fun w => (w.1, { w.2 with stale := w.2.stale || of_ w.2.func })) }

end Sys2Proof.Machine
end

