-- ==== Sys2Proof/Machine/Queue.lean ====
section
/-! DEFINITION. Communication queues (chapter 2): rings, doorbells, descriptor fetch, issue, holds, completion records. -/

namespace Sys2Proof.Machine

/-! ## Access -/

def State.qs (s : State) (q : Nat) : QState := SMap.getD s.core.rq.queues q QState.empty
def State.setQs (s : State) (q : Nat) (x : QState) : State :=
  { s with core.rq.queues := SMap.putD s.core.rq.queues q x QState.empty }
def State.modQs (s : State) (q : Nat) (f : QState → QState) : State := s.setQs q (f (s.qs q))

def State.op? (s : State) (id : Nat) : Option Op := SMap.get? s.core.rq.ops id
def State.setOp (s : State) (id : Nat) (o : Op) : State := { s with core.rq.ops := SMap.put s.core.rq.ops id o }

/-- States of R33: 0 DISABLED, 1 RUNNING, 2 STOPPED, 3 DRAINING. -/
def State.qState (s : State) (q : Nat) : Nat := s.rd (R.QUEUE_STATUS_STATE q)
def State.qFunc (s : State) (q : Nat) : Nat := s.rd (R.QUEUE_CTL_FUNC q)

def State.sqBase (s : State) (q : Nat) : Nat := s.rd (R.QUEUE_SQ_BASE_LO_BASE q) * 4096 + s.rd (R.QUEUE_SQ_BASE_HI_BASE q) * 2 ^ 32
def State.cqBase (s : State) (q : Nat) : Nat := s.rd (R.QUEUE_CQ_BASE_LO_BASE q) * 4096 + s.rd (R.QUEUE_CQ_BASE_HI_BASE q) * 2 ^ 32

/-- Virtual address of submission slot `n` and completion slot `n` (R37). -/
def State.sqSlot (s : State) (q n : Nat) : Nat := s.sqBase q + n % 2 ^ s.rd (R.QUEUE_SQ_SIZE_LOG2 q) * 64
def State.cqSlot (s : State) (q n : Nat) : Nat := s.cqBase q + n % 2 ^ s.rd (R.QUEUE_CQ_SIZE_LOG2 q) * 32

/-- Completion slots neither occupied nor reserved (R37, R42). -/
def State.cqFree (s : State) (q : Nat) : Nat :=
  2 ^ s.rd (R.QUEUE_CQ_SIZE_LOG2 q) - subMod 32 (s.rd (R.QUEUE_CQ_TAIL_COUNT q)) (s.rd (R.QUEUE_CQ_HEAD_COUNT q)) - (s.qs q).reserved

/-- Queues whose status is not DISABLED: their status words are listed. -/
def State.liveQueues (s : State) : List Nat :=
  (s.core.regs.filter (fun r => r.1 ≥ 0x400000 && r.1 % 0x400 == 0x20)).map (fun r => (r.1 - 0x400000) / 0x400)
    |>.filter (fun q => s.qState q != 0)

/-- Group and member count of a group queue. -/
def State.qGroup (s : State) (q : Nat) : Nat := s.rd (R.QUEUE_CTL_GROUP q)
def State.qMembers (s : State) (q : Nat) : Nat := ((SMap.get? s.core.col.groups (s.qGroup q)).map (·.n)).getD 1

/-- A stop cause arises (R33, R34): its bit is set, and a RUNNING queue stops. -/
def State.stopQueue (s : State) (q : Nat) (cause : Fld) : State :=
  let s := s.wr cause 1
  if s.qState q = 1 then s.wr (R.QUEUE_STATUS_STATE q) 2 else s

/-! ## Fetch (R40-R42) -/

/-- Fetch the next descriptor, or the second slot of a long one, when there is one to fetch. -/
def State.fetch (s : State) (q : Nat) : State :=
  let x := s.qs q
  let head := s.rd (R.QUEUE_SQ_HEAD_COUNT q)
  let avail := subMod 32 (s.rd (R.QUEUE_SQ_TAIL_COUNT q)) head
  if s.qState q ≠ 1 ∨ s.fatal ∨ x.fetching ∨ x.head.isSome ∨ avail = 0 then s
  else match x.first with
    | none => (s.setQs q { x with fetching := true }).virtJob (s.qFunc q) (s.sqSlot q head) 64 .read [] 5 q (.descFetch q false)
    | some _ =>
      if avail < 2 then s
      else (s.setQs q { x with fetching := true }).virtJob (s.qFunc q) (s.sqSlot q (head + 1)) 64 .read [] 5 q (.descFetch q true)

/-- A ring access failed (R42, R395): RING_FAULT, and an error record of CLASS 8 whose INFO is the slot count. -/
def State.ringFault (s : State) (q slot : Nat) : State :=
  (s.stopQueue q (R.QUEUE_STATUS_RING_FAULT q)).logErr 8 0 0 15 (some (s.qFunc q)) q 0 slot

/-- A descriptor slot has been read. -/
def State.fetched (s : State) (q : Nat) (second : Bool) (r : JobResult) : State :=
  let x := s.qs q
  let head := s.rd (R.QUEUE_SQ_HEAD_COUNT q)
  let index := head % 2 ^ s.rd (R.QUEUE_SQ_SIZE_LOG2 q)
  if r.fail.isSome then (s.setQs q { x with fetching := false, first := none }).ringFault q (if second then head + 1 else head)
  else if second then
    let d : BitVec 1024 := BitVec.ofNat 1024 (ofLE ((x.first.getD []) ++ r.data))
    (s.setQs q { x with fetching := false, first := none, head := some ⟨d, 2, index, 0, false⟩ }).post (.head q)
  else
    let d : BitVec 1024 := BitVec.ofNat 1024 (ofLE r.data)
    if dLong d then (s.setQs q { x with fetching := false, first := some r.data }).post (.fetch q)
    else (s.setQs q { x with fetching := false, head := some ⟨d, 1, index, 0, false⟩ }).post (.head q)

/-- Completion slots a descriptor needs (R42). -/
def slotsNeeded (d : BitVec 1024) : Nat := if dSummary d ∧ (dOpcode d = 0x10 ∨ dOpcode d = 0x11) then 2 else 1

/-! ## Records (R68-R71) -/

/-- The 32 bytes of the primary record at completion slot `n`. -/
def State.recordBytes (s : State) (q n : Nat) (r : Record) : Bytes :=
  let phase := b2n (n / 2 ^ s.rd (R.QUEUE_CQ_SIZE_LOG2 q) % 2 = 0)
  let result := if r.stamp = 1 then r.result % 2 ^ 64 + s.now * 2 ^ 64
    else if r.stamp = 2 then r.result % 2 ^ 96 + s.now / 2 ^ 32 * 2 ^ 96 else r.result
  toLE 32 (pack [(0, 8, r.status), (8, 8, r.opcode), (16, 1, phase), (17, 1, b2n r.ext.isSome), (18, 1, b2n r.event),
    (19, 1, b2n r.retried), (20, 4, r.ieee), (24, 1, b2n r.slotLate), (32, 16, r.index), (48, 16, r.detail), (64, 64, r.userTag),
    (128, 128, result)])

/-- The 32 bytes of the extension record at completion slot `n` (R69). -/
def State.extBytes (s : State) (q n : Nat) (e : Nat × Nat × Nat) : Bytes :=
  let phase := b2n (n / 2 ^ s.rd (R.QUEUE_CQ_SIZE_LOG2 q) % 2 = 0)
  toLE 32 (pack [(16, 1, phase), (64, 64, e.1), (128, 64, e.2.1), (192, 64, e.2.2)])

/-- Start writing a queue's next record: the first in completion order whose completion slots are reserved or free (R33, R42, R70), its
extension first (R70). It stands at the front while it is written. A record without a reservation, that of a descriptor which a drain
completed, waits for a free slot and keeps back no record that has its own. -/
def State.startRecord (s : State) (q : Nat) : State :=
  let x := s.qs q
  if x.writing ∨ s.fatal then s
  else match takeFirst (fun (r : Record) => r.reserved || decide (r.slots ≤ s.cqFree q)) x.records with
    | none => s
    | some (r, rest) =>
      let n := s.rd (R.QUEUE_CQ_TAIL_COUNT q)
      let s := s.setQs q { x with writing := true, records := r :: rest }
      match r.ext with
      | some e => s.virtJob (s.qFunc q) (s.cqSlot q (n + 1)) 32 .write (s.extBytes q (n + 1) e) 5 q (.record q true)
      | none => s.virtJob (s.qFunc q) (s.cqSlot q n) 32 .write (s.recordBytes q n r) 5 q (.record q false)

/-- The manager queue that event records go to now: the lowest-numbered one with EVENTS that is RUNNING or STOPPED (R65). -/
def State.eventQueue (s : State) : Option Nat :=
  match s.liveQueues.filter (fun q => s.rd (R.QUEUE_CTL_KIND q) == 2 && s.on (R.QUEUE_CTL_EVENTS q) && (s.qState q == 1 || s.qState q == 2)) with
  | [] => none
  | q :: t => some (t.foldl min q)

/-- Write the oldest pending event record (R65): its queue is chosen as the write starts, once that queue has a completion slot free and
no record being written; until then it stays pending. -/
def State.flushEvents (s : State) : State :=
  match s.core.events, s.eventQueue with
  | e :: rest, some q =>
    if (s.qs q).writing ∨ s.fatal ∨ s.cqFree q = 0 then s
    else (({ s with core.events := rest }).modQs q (fun x => { x with records := e :: x.records })).startRecord q
  | _, _ => s

/-- An event record of an operation code, tag and result. -/
def eventRecord (opcode userTag result : Nat) : Record :=
  ⟨none, 1, false, 0, opcode, none, true, false, 0, false, 0, 0, userTag, result, 0⟩

/-- Raise an event record (R65). -/
def State.event (s : State) (opcode userTag result : Nat) : State :=
  ({ s with core.events := s.core.events ++ [eventRecord opcode userTag result] }).post .events

/-! ## Operations -/

/-- Target node of a write descriptor. -/
def opNode (d : BitVec 1024) : Nat := if dOpcode d = 0x04 ∨ dOpcode d = 0x07 then ptrNode (dSrcPtr d) else ptrNode (dDstPtr d)

/-- Opcodes of the write descriptors (R96, R97). -/
def isWriteOp (op : Nat) : Bool := [0x01, 0x03, 0x04, 0x05, 0x07, 0x20].contains op

/-- A queue that drains is DISABLED once nothing of it is left (R33). -/
def State.drainCheck (s : State) (q : Nat) : State :=
  let x := s.qs q
  if s.qState q = 3 ∧ x.records = [] ∧ ¬ x.writing ∧ (SMap.vals s.core.rq.ops).all (fun o => o.queue != q) then
    let s := (s.wr (R.QUEUE_STATUS_STATE q) 0).wr (R.QUEUE_CTL_ENABLE q) 0
    (s.setQs q { QState.empty with lincNext := x.lincNext, atomNext := x.atomNext, latches := x.latches }).post (.func (s.qFunc q))
  else s

/-- Whether a status stops no queue and raises SIG (R49, R32). -/
def goodStatus (st : Nat) : Bool := st == 0x00 || st == 0x14

/-- An operation is over: its record is committed, or it had none (R44, R47, R70, R96, R97). Under STOP_ON_ERR a failure stops a RUNNING
queue and sets ERR; in a queue that has already left RUNNING it sets no bit (the model's choice, log entry 30). -/
def State.retire (s : State) (id : Nat) (o : Op) (status : Nat) : State :=
  let q := o.queue
  let s := { s with core.rq.ops := SMap.del s.core.rq.ops id }
  let s := s.modQs q (fun x => { x with ranges := x.ranges.filter (·.op != id), hold := if x.hold = some id then none else x.hold })
  let s := if goodStatus status then s else s.count (funcSlot o.func) 1
  let s := s.traceEv (some R.TRACE_CTL_QUEUE) 0x02 15 0 status (some o.func) 0 0 0 0 0 0 s.now
    (dOpcode o.desc + o.index * 2 ^ 8)
  let s := if dSig o.desc && goodStatus status then match s.counterOf o.func (dSignal o.desc) with
      | some i => s.addSig i 1
      | none => s
    else s
  let failed := isWriteOp (dOpcode o.desc) && (dOpcode o.desc != 0x07 || decide (o.pkts > 0)) && !goodStatus status
  let s := if failed && !o.covered then s.modQs q (fun x => { x with failed := x.failed ++ [opNode o.desc] }) else s
  let waits := s.core.rq.ops.filter (fun p => p.2.waitsFor.contains id)
  let s := waits.foldl (fun s p => (s.setOp p.1 { p.2 with waitsFor := p.2.waitsFor.filter (· != id), failedCover := p.2.failedCover || failed }).post (.settle p.1)) s
  let s := if s.on (R.QUEUE_CTL_STOP_ON_ERR q) && !goodStatus status && s.qState q == 1 then s.stopQueue q (R.QUEUE_STATUS_ERR q) else s
  let s := if dOpcode o.desc = 0x31 then s.post (.window (dWindow o.desc)) else s
  ((s.post (.head q)).post (.func o.func)).drainCheck q

/-- End an operation with a status (R70): an OK without CQE writes no record and releases its slots. -/
def State.endOp (s : State) (id status detail result stamp : Nat) : State :=
  match s.op? id with
  | none => s
  | some o =>
    if o.done.isSome then s else
    let q := o.queue
    let need := o.slots
    let s := if status = 0x0E then s.count (funcSlot o.func) 14 else s
    if status = 0 ∧ ¬ dCqe o.desc then
      (s.modQs q (fun x => { x with reserved := x.reserved - need })).retire id o status
    else
      let ext := if status = 0 then o.ext else none
      let slots := if ext.isSome then 2 else 1
      let r : Record := ⟨some id, slots, true, status, dOpcode o.desc, ext, false, o.retried, o.ieee, o.slip != 0, o.index, detail,
        dUserTag o.desc, result, stamp⟩
      let s := s.setOp id { o with done := some (status, detail) }
      (s.modQs q (fun x => { x with records := x.records ++ [r], reserved := x.reserved - (need - slots) })).post (.record q)

/-- A record, or its extension, has been committed or lost (R42, R70). When the extension's slot faults the primary record is lost with
it, and both slots are consumed (the model's choice, log entry 30). -/
def State.recordDone (s : State) (q : Nat) (ext : Bool) (r : JobResult) : State :=
  let x := s.qs q
  let n := s.rd (R.QUEUE_CQ_TAIL_COUNT q)
  match x.records with
  | [] => s
  | rec :: rest =>
    if ext ∧ r.fail.isNone then
      s.virtJob (s.qFunc q) (s.cqSlot q n) 32 .write (s.recordBytes q n rec) 5 q (.record q false)
    else
      let s := if r.fail.isSome then s.ringFault q (if ext then n + 1 else n) else s
      let s := s.setQs q { x with records := rest, writing := false,
                                  reserved := if rec.reserved then x.reserved - rec.slots else x.reserved }
      let s := ((s.wr (R.QUEUE_CQ_TAIL_COUNT q) (n + rec.slots)).post .events).post (.record q)
      match rec.op with
      | none => s.drainCheck q
      | some id => match s.op? id with
        | none => s
        | some o => s.retire id o rec.status

/-! ## Holds (R43-R46) -/

/-- NOT_BEFORE has been reached (R46): fabric time is synchronised and its slot number is at or past it. -/
def State.nbReached (s : State) (nb : Nat) : Bool :=
  let d := subMod 32 nb (s.now / 2 ^ 12)
  s.synced && (d == 0 || decide (d ≥ 2 ^ 31))

/-- The holds of R43 that any descriptor waits for: an earlier FENCE or WAIT, its not-before slot, the range tracker. -/
def State.held (s : State) (q : Nat) (h : Head) (ranges : List Range) : Bool :=
  let x := s.qs q
  x.hold.isSome || (dNb h.desc && !(h.nbOk || s.nbReached (dNotBefore h.desc)))
    || ranges.any (fun r => x.ranges.any (r.conflicts ·)) || decide (x.ranges.length + ranges.length > 64)

/-! ## Queue engines (R35) -/

/-- The descriptor needs a REQ-class packet, which R370 holds after a start. -/
def needsReq (d : BitVec 1024) : Bool := [0x01, 0x02, 0x03, 0x04, 0x05, 0x07].contains (dOpcode d)

/-- The queue is runnable (R35): RUNNING, with its next descriptor at the head, its completion slots ready, and nothing that holds it. -/
def State.runnable (s : State) (q : Nat) : Bool :=
  match (s.qs q).head with
  | none => false
  | some h => s.qState q == 1 && h.probed == slotsNeeded h.desc && !s.held q h (descRanges (s.qMembers q) h.desc)
      && !(needsReq h.desc && s.on R.GLOBAL_START_STATUS_HOLDING)

/-- The first number of a list that follows `last` in rising order, coming round to the lowest. -/
def nextAfter (last : Nat) (l : List Nat) : Option Nat :=
  match l.filter (fun x => decide (last < x)) with
  | x :: t => some (t.foldl min x)
  | [] => match l with
    | [] => none
    | x :: t => some (t.foldl min x)

/-- The next queue of two-level round robin among `l`: the next function that has one, then its next queue (R35). -/
def State.nextTurn (s : State) (l : List Nat) : Option Nat :=
  match nextAfter s.core.rq.turn (l.map s.qFunc) with
  | none => none
  | some f => nextAfter (SMap.getD s.core.rq.turns f 4096) (l.filter (fun q => s.qFunc q == f))

/-- A free engine takes a queue: the turn passes to the function and queue after it. -/
def State.takeTurn (s : State) (q : Nat) : State :=
  { s with core.rq.engines := s.core.rq.engines ++ [q], core.rq.turn := s.qFunc q, core.rq.turns := SMap.put s.core.rq.turns (s.qFunc q) q }

/-- Free engines take runnable queues in turn, at most `n` of them. -/
def State.fillEngines (run : List Nat) : Nat → State → State
  | 0, s => s
  | n + 1, s =>
    if s.core.rq.engines.length ≥ 16 then s
    else match s.nextTurn (run.filter (fun q => !s.core.rq.engines.contains q)) with
      | none => s
      | some q => State.fillEngines run n (s.takeTurn q)

/-- The sixteen engines at work (R35): each keeps its queue while that stays runnable, and a free one takes the next in turn. -/
def State.engines (s : State) : State :=
  let run := s.liveQueues.filter s.runnable
  State.fillEngines run 16 { s with core.rq.engines := s.core.rq.engines.filter run.contains }

/-- An engine serves the queue now. -/
def State.serves (s : State) (q : Nat) : Bool := s.engines.core.rq.engines.contains q

/-- The engine of a queue has issued its descriptor and is free. -/
def State.served (s : State) (q : Nat) : State :=
  let s := s.engines
  { s with core.rq.engines := s.core.rq.engines.filter (· != q) }

/-! ## Leaving the ring -/

/-- The descriptor at the head of its queue leaves the ring and becomes an operation. -/
def State.takeHead (s : State) (q : Nat) (h : Head) : Nat × State :=
  let id := s.core.nextId
  let f := s.qFunc q
  let o : Op := ⟨q, f, h.desc, h.index, slotsNeeded h.desc, startCursor h.desc, 0, 0, false, false, none, none, 0, false, 0, false, 0, 0,
    none, [], false, false, 0, none⟩
  let s := { s with core.nextId := id + 1, core.rq.ops := SMap.put s.core.rq.ops id o }
  let s := (s.served q).wr (R.QUEUE_SQ_HEAD_COUNT q) (s.rd (R.QUEUE_SQ_HEAD_COUNT q) + h.slots)
  (id, (s.modQs q (fun x => { x with head := none })).post (.fetch q))

/-- A descriptor completes at the head without being issued (R50, R299). -/
def State.completeHead (s : State) (q : Nat) (h : Head) (status detail : Nat) : State :=
  let (id, s) := s.takeHead q h
  s.endOp id status detail 0 0

/-- The descriptor reaches the head of its queue: its completion slots are reserved and translated (R42), and an unknown opcode
fails R50. -/
def State.headStep (s : State) (q : Nat) : State :=
  let x := s.qs q
  match x.head with
  | none => s.post (.fetch q)
  | some h =>
    let need := slotsNeeded h.desc
    if s.qState q ≠ 1 ∨ s.fatal then s
    else if h.probed = 0 ∧ ¬ x.fetching then
      if s.cqFree q < need then s
      else
        let n := s.rd (R.QUEUE_CQ_TAIL_COUNT q) + x.reserved
        (s.setQs q { x with fetching := true, reserved := x.reserved + need }).virtJob (s.qFunc q) (s.cqSlot q n) 32 .probe [] 5 q (.slotProbe q)
    else if h.probed = need ∧ ¬ opcodeKnown (dOpcode h.desc) then s.completeHead q h 0x05 (det 0 2)
    else s

/-- A reserved completion slot has been translated (R42). -/
def State.slotProbed (s : State) (q : Nat) (r : JobResult) : State :=
  let x := s.qs q
  match x.head with
  | none => s.setQs q { x with fetching := false }
  | some h =>
    let need := slotsNeeded h.desc
    let n := s.rd (R.QUEUE_CQ_TAIL_COUNT q) + x.reserved - need + h.probed
    if r.fail.isSome then
      (s.setQs q { x with fetching := false, reserved := x.reserved - need, head := some { h with probed := 0 } }).ringFault q n
    else if h.probed + 1 < need then
      (s.setQs q { x with head := some { h with probed := h.probed + 1 } }).virtJob (s.qFunc q) (s.cqSlot q (n + 1)) 32 .probe [] 5 q (.slotProbe q)
    else (s.setQs q { x with fetching := false, head := some { h with probed := h.probed + 1 } }).post (.head q)

/-! ## Issue (R35, R43) -/

/-- What the head of a queue is when a command issues it: absent (not this opcode, not RUNNING, slots not ready), failing R50, or
passing it. -/
inductive Ready where
  /-- nothing of this opcode can issue -/
  | no
  /-- the descriptor fails R50 with the reason -/
  | fails (h : Head) (reason : Nat)
  /-- the descriptor passes R50 -/
  | ok (h : Head)
deriving DecidableEq, Repr

/-- See whether a queue's head is a descriptor of the opcode that may issue: one that fails R50 needs no engine's turn. -/
def State.ready (s : State) (q op : Nat) (extra : BitVec 1024 → List Nat) : Ready :=
  match (s.qs q).head with
  | none => .no
  | some h =>
    if s.qState q ≠ 1 ∨ s.fatal ∨ dOpcode h.desc ≠ op ∨ h.probed ≠ slotsNeeded h.desc then .no
    else match s.r50 (s.rd (R.QUEUE_CTL_KIND q)) (s.qFunc q) h.desc (extra h.desc) with
      | some r => .fails h r
      | none => if s.serves q then .ok h else .no

/-- Issue the head: it becomes an operation that enters its ranges (R43, R44). -/
def State.issue (s : State) (q : Nat) (h : Head) (ranges : List Range) : Nat × State :=
  let f := s.qFunc q
  let (id, s) := s.takeHead q h
  let s := s.modQs q (fun x => { x with ranges := x.ranges ++ ranges.map (fun r => { r with op := id }) })
  let s := s.count (funcSlot f) 0
  (id, s.traceEv (some R.TRACE_CTL_QUEUE) 0x01 15 0 0 (some f) 0 0 0 0 0 0 s.now (dOpcode h.desc + h.index * 2 ^ 8))

/-- Issue a descriptor of an opcode: R50 first, then the holds, then `go` with the new operation. -/
def State.issueWith (s : State) (q op : Nat) (extra : BitVec 1024 → List Nat) (ranges : BitVec 1024 → List Range)
    (go : State → Nat → Head → State) : State :=
  match s.ready q op extra with
  | .no => s
  | .fails h r => s.completeHead q h 0x05 (det 0 r)
  | .ok h =>
    if s.held q h (ranges h.desc) then s
    else let (id, s) := s.issue q h (ranges h.desc); go s id h

/-! ## Enable, disable, doorbells (R33, R34, R38, R39) -/

/-- The conditions of an enable (R33), on the fields just stored. -/
def State.enableOk (s : State) (q : Nat) (groupOwned : Bool) : Bool :=
  let kind := s.rd (R.QUEUE_CTL_KIND q)
  let l (n : Nat) : Bool := decide (6 ≤ n ∧ n ≤ 16)
  s.funcEnabled (s.qFunc q)
    && (kind == 0 || (kind == 2 && s.qFunc q == 0) || (kind == 1 && groupOwned))
    && (!s.on (R.QUEUE_CTL_EVENTS q) || kind == 2)
    && l (s.rd (R.QUEUE_SQ_SIZE_LOG2 q)) && l (s.rd (R.QUEUE_CQ_SIZE_LOG2 q))

/-- Set the four ring counts to zero (R33). -/
def State.zeroRings (s : State) (q : Nat) : State :=
  (((s.wr (R.QUEUE_SQ_HEAD_COUNT q) 0).wr (R.QUEUE_SQ_TAIL_COUNT q) 0).wr (R.QUEUE_CQ_TAIL_COUNT q) 0).wr (R.QUEUE_CQ_HEAD_COUNT q) 0

/-- Store a QUEUE_CTL write's gated fields (R479): only while DISABLED. -/
def State.storeQueueCtl (s : State) (q : Nat) (data : Word) : State :=
  if s.qState q ≠ 0 then s
  else
    let n := data.toNat
    let s := ((s.wr (R.QUEUE_CTL_KIND q) (bits n 1 2)).wr (R.QUEUE_CTL_STOP_ON_ERR q) (bits n 3 1)).wr (R.QUEUE_CTL_NYESH_CRC q) (bits n 4 1)
    let s := ((s.wr (R.QUEUE_CTL_RETRY_OK q) (bits n 5 1)).wr (R.QUEUE_CTL_EVENTS q) (bits n 6 1)).wr (R.QUEUE_CTL_FUNC q) (bits n 8 6)
    s.wr (R.QUEUE_CTL_GROUP q) (bits n 16 12)

/-- ENABLE written 1: a DISABLED queue runs, or CFG_ERR is set and ENABLE reads 0 (R32, R33). A successful enable clears CFG_ERR, the
mark of the last enable (the model's choice, log entry 30). -/
def State.enableQueue (s : State) (q : Nat) (data : Word) (groupOwned : Nat → Nat → Bool) : State :=
  let was := s.qState q
  let s := s.storeQueueCtl q data
  if was ≠ 0 ∨ bits data.toNat 0 1 = 0 then s
  else if s.enableOk q (groupOwned (s.rd (R.QUEUE_CTL_GROUP q)) (s.qFunc q)) then
    ((((s.zeroRings q).wr (R.QUEUE_CTL_ENABLE q) 1).wr (R.QUEUE_STATUS_CFG_ERR q) 0).wr (R.QUEUE_STATUS_STATE q) 1).post .events
  else (s.wr (R.QUEUE_STATUS_CFG_ERR q) 1).wr (R.QUEUE_CTL_ENABLE q) 0

/-- A RUNNING or STOPPED queue drains: its fetched, unissued descriptor completes with ABORTED (R33, R349). A long descriptor of which
only the first slot has been fetched counts as not fetched, and SQ_HEAD stays before a descriptor that the drain completes: it is
neither issued nor retired (both the model's choice, log entry 30). -/
def State.drainQueue (s : State) (q : Nat) : State :=
  if s.qState q = 1 ∨ s.qState q = 2 then
    let x := s.qs q
    let s := s.dropJobs (fun j => match j.purpose with
      | .descFetch q' _ => q' == q
      | .slotProbe q' => q' == q
      | _ => false)
    let held := match x.head with
      | some h => if h.probed > 0 ∨ x.fetching then slotsNeeded h.desc else 0
      | none => 0
    let recs := match x.head with
      | some h => [(⟨none, 1, false, 0x12, dOpcode h.desc, none, false, false, 0, false, h.index, det 0 0x0E0, dUserTag h.desc, 0, 0⟩ : Record)]
      | none => []
    let s := (s.wr (R.QUEUE_STATUS_STATE q) 3).setQs q { x with fetching := false, first := none, head := none, reserved := x.reserved - held, records := x.records ++ recs }
    let s := if recs.isEmpty then s else s.count (funcSlot (s.qFunc q)) 1
    let s := if s.rd (R.QUEUE_CTL_KIND q) = 1 then s.post (.colDrain (s.rd (R.QUEUE_CTL_GROUP q))) else s
    (s.post (.record q)).drainCheck q
  else s

/-- QUEUE_ENABLE (R33). `owned` is the group-ownership test of R33. -/
def queueEnable (owned : State → Nat → Nat → Bool) (q : QueueId) (data : Word) (s : State) : State :=
  s.enableQueue q.val data (owned s)

/-- ENABLE written 0 (R33). -/
def queueDisable (q : QueueId) (data : Word) (s : State) : State :=
  if bits data.toNat 0 1 = 1 then s
  else (s.drainQueue q.val).wr (R.QUEUE_CTL_ENABLE q.val) 0

/-- QUEUE_DISABLE (R33). -/
def execQueueDisable (q : QueueId) (data : Word) : State → Host.Outcome State Fault Refusal := coreCmd (queueDisable q data)

/-- A doorbell write of SQ_TAIL (R38, R39). -/
def doorbellSqTail (q : QueueId) (data : Word) (strb : BitVec 4) (s : State) : State :=
  let st := s.qState q.val
  let v := data.toNat
  if ¬ s.running ∨ strb ≠ 15 ∨ st = 0 then s
  else if st = 3 then s.wr (R.QUEUE_SQ_TAIL_COUNT q.val) v
  else if subMod 32 v (s.rd (R.QUEUE_SQ_HEAD_COUNT q.val)) > 2 ^ s.rd (R.QUEUE_SQ_SIZE_LOG2 q.val) then
    s.stopQueue q.val (R.QUEUE_STATUS_DB_OVF q.val)
  else (s.wr (R.QUEUE_SQ_TAIL_COUNT q.val) v).post (.fetch q.val)

/-- DOORBELL_SQ_TAIL (R39). -/
def execDoorbellSqTail (q : QueueId) (data : Word) (strb : BitVec 4) : State → Host.Outcome State Fault Refusal :=
  portCmd (doorbellSqTail q data strb)

/-- A doorbell write of CQ_HEAD (R38, R39). -/
def doorbellCqHead (q : QueueId) (data : Word) (strb : BitVec 4) (s : State) : State :=
  let st := s.qState q.val
  let v := data.toNat
  if ¬ s.running ∨ strb ≠ 15 ∨ st = 0 then s
  else if subMod 32 (s.rd (R.QUEUE_CQ_TAIL_COUNT q.val)) v > 2 ^ s.rd (R.QUEUE_CQ_SIZE_LOG2 q.val) then
    if st = 3 then s.wr (R.QUEUE_STATUS_DB_OVF q.val) 1 else s.stopQueue q.val (R.QUEUE_STATUS_DB_OVF q.val)
  else (((s.wr (R.QUEUE_CQ_HEAD_COUNT q.val) v).post (.head q.val)).post (.record q.val)).post .events

/-- DOORBELL_CQ_HEAD (R39). -/
def execDoorbellCqHead (q : QueueId) (data : Word) (strb : BitVec 4) : State → Host.Outcome State Fault Refusal :=
  portCmd (doorbellCqHead q data strb)

/-- What a doorbell read returns (R38, R457): an aligned 32-bit read of a served offset its register, every other read zero; zero too
where the ports stand idle (R368, R374). The aperture's read data are a level of the port, so no command carries them (log entry 5). -/
def State.doorbellRead (s : State) (addr : Nat) (strb : BitVec 4) : Nat :=
  let q := addr / 0x1000
  let off := addr % 0x1000
  if s.idle ∨ strb ≠ 15 ∨ addr % 4 ≠ 0 ∨ 4096 ≤ q then 0
  else if off = 0x000 then s.rd (R.QUEUE_SQ_TAIL_COUNT q)
  else if off = 0x004 then s.rd (R.QUEUE_SQ_HEAD_COUNT q)
  else if off = 0x008 then s.rd (R.QUEUE_CQ_HEAD_COUNT q)
  else if off = 0x00C then s.rd (R.QUEUE_CQ_TAIL_COUNT q)
  else if off = 0x014 then (s.word false (R.QUEUE_STATUS_STATE q).addr).toNat
  else 0

/-- A RESUME (R33, R34, R38, R39): clears ERR and WAIT_TO; a STOPPED queue without cause runs on. -/
def resume (q : QueueId) (data : Word) (strb : BitVec 4) (s : State) : State :=
  let st := s.qState q.val
  if ¬ s.running ∨ strb ≠ 15 ∨ bits data.toNat 0 1 = 0 ∨ st = 0 ∨ st = 3 then s
  else
    let s := (s.wr (R.QUEUE_STATUS_ERR q.val) 0).wr (R.QUEUE_STATUS_WAIT_TO q.val) 0
    if st = 2 ∧ ¬ s.on (R.QUEUE_STATUS_DB_OVF q.val) ∧ ¬ s.on (R.QUEUE_STATUS_RING_FAULT q.val) then
      ((s.wr (R.QUEUE_STATUS_STATE q.val) 1).post (.fetch q.val)).post (.head q.val)
    else s

/-- RESUME (R34). -/
def execResume (q : QueueId) (data : Word) (strb : BitVec 4) : State → Host.Outcome State Fault Refusal := portCmd (resume q data strb)

/-! ## FENCE, WAIT, NOP, NOT_BEFORE -/

/-- NOP completes at issue (R51). -/
def issueNop (q : QueueId) (s : State) : State :=
  s.issueWith q.val 0x3F (fun _ => []) (fun _ => []) (fun s id _ => s.endOp id 0 0 0 0)

/-- NOP (R51). -/
def execNop (q : QueueId) : State → Host.Outcome State Fault Refusal := coreCmd (issueNop q)

/-- The unfinished write operations of a queue, in issue order (R96). -/
def State.writesOf (s : State) (q : Nat) : List (Nat × Op) :=
  s.core.rq.ops.filter (fun p => p.2.queue == q && isWriteOp (dOpcode p.2.desc))

/-- A FENCE issues and holds its queue until the writes before it are settled (R96). -/
def issueFence (q : QueueId) (s : State) : State :=
  s.issueWith q.val 0x06 (fun _ => []) (fun _ => []) (fun s id _ =>
    let ws := (s.writesOf q.val).map (·.1)
    let s := s.modQs q.val (fun x => { x with hold := some id })
    match s.op? id with
    | some o => (s.setOp id { o with waitsFor := ws }).post (.settle id)
    | none => s)

/-- FENCE (R96). -/
def execFence (q : QueueId) : State → Host.Outcome State Fault Refusal := coreCmd (issueFence q)

/-- The condition of a WAIT (R67). -/
def waitOk (count threshold : Nat) : Bool := decide (subMod 63 count threshold < 2 ^ 62)

/-- Complete the WAITs whose counters reached their thresholds (R67). -/
def State.waitsStep (s : State) : State :=
  s.core.rq.ops.foldl (fun s p =>
    let o := p.2
    if dOpcode o.desc = 0x08 ∧ o.done.isNone then
      match s.counterOf o.func (dWaitCounter o.desc) with
      | some i => if waitOk (s.sig i) (dThreshold o.desc) then s.endOp p.1 0 0 (s.sig i) 0 else s
      | none => s
    else s) s

/-- A WAIT issues and holds its queue until its counter allows (R67). -/
def issueWait (q : QueueId) (s : State) : State :=
  s.issueWith q.val 0x08 (fun _ => []) (fun _ => []) (fun s id _ =>
    (s.modQs q.val (fun x => { x with hold := some id })).post .waits)

/-- WAIT (R67). -/
def execWait (q : QueueId) : State → Host.Outcome State Fault Refusal := coreCmd (issueWait q)

/-- A WAIT's TIMEOUT elapses first: TIMEOUT, WHERE 0, REASON 0x00B, and WAIT_TO (R67, R391). A TIMEOUT of 0 has no limit. -/
def waitTimeout (q : QueueId) (s : State) : State :=
  match (s.qs q.val).hold with
  | none => s
  | some id => match s.op? id with
    | none => s
    | some o =>
      if dOpcode o.desc ≠ 0x08 ∨ o.done.isSome ∨ dTimeout o.desc = 0 then s
      else
        let v := match s.counterOf o.func (dWaitCounter o.desc) with
          | some i => s.sig i
          | none => 0
        if waitOk v (dThreshold o.desc) then s
        else (s.endOp id 0x02 (det 0 0x00B) v 0).stopQueue q.val (R.QUEUE_STATUS_WAIT_TO q.val)

/-- WAIT_TIMEOUT (R67). -/
def execWaitTimeout (q : QueueId) : State → Host.Outcome State Fault Refusal := coreCmd (waitTimeout q)

/-- Fabric time reaches the slot of the held descriptor (R46). -/
def notBeforeRelease (q : QueueId) (s : State) : State :=
  s.modQs q.val (fun x => match x.head with
    | some h => if dNb h.desc && s.nbReached (dNotBefore h.desc) then { x with head := some { h with nbOk := true } } else x
    | none => x)

/-- NOT_BEFORE_RELEASE (R46). -/
def execNotBeforeRelease (q : QueueId) : State → Host.Outcome State Fault Refusal := coreCmd (notBeforeRelease q)

end Sys2Proof.Machine
end

