-- ==== Sys2Proof/Machine/Route.lean ====
section
/-! DEFINITION. The router (chapters 11 and 12): virtual channels and credits, the routing procedure, queueing and arbitration, route
tables, and the rate cache. -/

namespace Sys2Proof.Machine

/-! ## Ports -/

def State.flow (s : State) (p : Nat) : Flow := SMap.getD s.core.router.flow p Flow.empty
def State.setFlow (s : State) (p : Nat) (f : Flow) : State :=
  { s with core.router.flow := SMap.putD s.core.router.flow p f Flow.empty }
def State.modFlow (s : State) (p : Nat) (g : Flow → Flow) : State := s.setFlow p (g (s.flow p))
def State.link (s : State) (p : Nat) : Link := SMap.getD s.core.links p Link.empty
def State.setLink (s : State) (p : Nat) (l : Link) : State := { s with core.links := SMap.putD s.core.links p l Link.empty }
def State.modLink (s : State) (p : Nat) (g : Link → Link) : State := s.setLink p (g (s.link p))

/-- GATE_STATUS.STATE or HINGE_STATUS.STATE (R342): 6 READY, 7 DEGRADE. -/
def State.portState (s : State) (p : Nat) : Nat := s.rd (R.GATE_STATUS_STATE p)

/-- The port carries traffic: READY, or DEGRADE, in which the gate stays READY (R339). -/
def State.portReady (s : State) (p : Nat) : Bool := s.portState p == 6 || s.portState p == 7

/-- The port exists in this build; G6 and G7 exist only when GATES is 8 (R467). -/
def State.portPresent (s : State) (p : Nat) : Bool :=
  if p < 6 then decide (p < s.build.gates) else if p < 8 then s.build.gates == 8 else decide (p < 8 + s.build.hinges)

/-- Set a bit of GLOBAL_READY; a change sets the same bit of GLOBAL_READY_CHG (R373). -/
def State.setReadyBit (s : State) (i : Nat) (v : Bool) : State :=
  let f : Fld := ⟨R.GLOBAL_READY_GATE.addr, i, 1, true⟩
  let g : Fld := ⟨R.GLOBAL_READY_CHG_CHG.addr, i, 1, true⟩
  if s.on f = v then s else (s.wr f (b2n v)).wr g 1

/-! ## Virtual channels and credits (R284-R288) -/

/-- The packet occupies a credit-flowed VC (R284). -/
def Packet.credited (p : Packet) : Bool := decide (p.cls < 5) && !p.tdm

/-- Flits of VC `c` held in port `p`'s receive buffer: being received, queued for an output, not yet taken by a local unit, or of a Nyesh block
that is not yet written and has not ended (R221, R288). -/
def State.vcHeld (s : State) (p c : Nat) : Nat :=
  let mine (k : Packet) : Bool := k.credited && k.cls == c
  let q := (s.core.router.queued.filter (fun o => o.inPort == p && mine o.pkt)).map (·.pkt.flits)
  let i := (s.core.resp.inbox.filter (fun o => o.port == p && mine o.pkt)).map (·.pkt.flits)
  let a := match (s.link p).asm with
    | some a => if mine ⟨a.hdr, []⟩ && !a.drop then 1 + a.got.length else 0
    | none => 0
  let n := (s.core.resp.arrivals.filter (fun a => a.2.port == p && a.2.pkt.type == 5 && a.2.la.isNone && mine a.2.pkt)).map (·.2.pkt.flits)
  q.sum + i.sum + a + n.sum

/-- FREED of VC `c` at this end (R286, R287). -/
def State.vcFreed (s : State) (p c : Nat) : Nat := subMod 16 (SMap.getD (s.flow p).rx c 0) (s.vcHeld p c)

/-- Credits held for the partner's VC `c` (R287). -/
def State.credits (s : State) (p c : Nat) : Nat :=
  let f := s.flow p
  SMap.getD f.pSize c 0 - subMod 16 (SMap.getD f.txc c 0) (SMap.getD f.pFreed c 0)

/-- The size a port advertises for VC `c`: at least 18; the reset sizes when the sum exceeds the buffer (R284, R296). -/
def State.vcSize (s : State) (p c : Nat) : Nat :=
  let own (c : Nat) : Nat := max 18 (s.rd (R.GATE_VC_SIZE_FLITS p c))
  let sum := own 0 + own 1 + own 2 + own 3 + own 4
  if sum > s.rd (R.GATE_RXBUF_SIZE p) * 1024 then resetWord s.build (R.GATE_VC_SIZE_FLITS p c).addr else own c

/-- The VC sizes of a port exceed its buffer (R284). -/
def State.vcOver (s : State) (p : Nat) : Bool :=
  let own (c : Nat) : Nat := max 18 (s.rd (R.GATE_VC_SIZE_FLITS p c))
  decide (own 0 + own 1 + own 2 + own 3 + own 4 > s.rd (R.GATE_RXBUF_SIZE p) * 1024)

/-- The BLT share of a port's buffer (R284). -/
def State.bltShare (s : State) (p : Nat) : Nat :=
  s.rd (R.GATE_RXBUF_SIZE p) * 1024 - (s.vcSize p 0 + s.vcSize p 1 + s.vcSize p 2 + s.vcSize p 3 + s.vcSize p 4)

/-- The port the packets are discarded for, and the cause whose code the spec does not give, in an error record of CLASS 9 (R388,
R400). -/
def State.logDiscard (s : State) (port out node : Nat) : State :=
  let (v, s) := s.draw
  s.logErr 9 0 0 port none 0 node (out % 16 + v % 16 * 16)

/-! ## Neighbours and auxiliary gates (R16, R302-R304) -/

/-- Extent of a dimension: 0 X, 1 Y, 2 Z, 3 D. -/
def State.extent (s : State) (dim : Nat) : Nat :=
  if dim = 0 then s.rd R.ROUTE_EXTENT_EX else if dim = 1 then s.rd R.ROUTE_EXTENT_EY
  else if dim = 2 then s.rd R.ROUTE_EXTENT_EZ else s.rd R.ROUTE_EXTENT_DIES

/-- Coordinate of a node in a dimension. -/
def nodePos (n dim : Nat) : Nat :=
  if dim = 0 then nodeX n else if dim = 1 then nodeY n else if dim = 2 then nodeZ n else nodeD n

/-- The node with a coordinate replaced. -/
def nodeSet (n dim v : Nat) : Nat :=
  pack [(14, 6, if dim = 0 then v else nodeX n), (8, 6, if dim = 1 then v else nodeY n), (3, 5, if dim = 2 then v else nodeZ n),
    (0, 3, if dim = 3 then v else nodeD n)]

/-- The node `k` steps up (`minus` false) or down a dimension from this block. -/
def State.neighbour (s : State) (dim : Nat) (minus : Bool) (k : Nat) : Nat :=
  let e := max 1 (s.extent dim)
  let x := nodePos s.self dim
  nodeSet s.self dim (if minus then (x + e - k % e) % e else (x + k) % e)

/-- Active ROUTE_AUX of gate 6 or 7. -/
def State.auxWord (s : State) (p : Nat) : Nat := if p = 6 then s.core.router.active.aux0 else s.core.router.active.aux1
def auxDim (w : Nat) : Nat := bits w 2 2
def auxMinus (w : Nat) : Bool := bit w 4
def auxStride (w : Nat) : Nat := bits w 5 6

/-- Mode of an auxiliary gate in effect (R302, R316): 0 UNUSED, 1 EXPRESS, 2 EDGE. -/
def State.auxMode (s : State) (p : Nat) : Nat :=
  let w := s.auxWord p
  if bits w 0 2 = 1 then
    if auxDim w ≠ 3 ∧ 2 ≤ auxStride w ∧ auxStride w < s.extent (auxDim w) then 1 else 0
  else if bits w 0 2 = 2 then 2 else 0

/-- Dimension of a regular port, and whether it is the minus side. -/
def regularDim (p : Nat) : Nat := if p < 6 then p / 2 else 3
def regularMinus (p : Nat) : Bool := p % 2 == 1
def isRegular (p : Nat) : Bool := decide (p < 6 ∨ p = 8 ∨ p = 9)

/-- The regular port of a dimension and direction. -/
def regularPort (dim : Nat) (minus : Bool) : Nat := (if dim = 3 then 8 else 2 * dim) + b2n minus

/-- The port is routable (R304): READY, its last ANNOUNCE matched, and not an UNUSED gate. -/
def State.routable (s : State) (p : Nat) : Bool :=
  s.portReady p && (s.flow p).ann == some true && (isRegular p || s.auxMode p != 0)

/-- The ANNOUNCE packet of a port (R304). -/
def State.announcePkt (s : State) (p : Nat) : Packet :=
  let w := s.auxWord p
  let mode := if isRegular p then 0 else s.auxMode p
  let ex := if mode = 1 then [hf 0x11 2 2 (auxDim w), hf 0x11 4 1 (b2n (auxMinus w)), hf 0x12 0 6 (auxStride w)] else []
  mkPacket 0 6 0 (if s.selfValid then s.self else 0) 0 0 0 ([hf 0x10 4 4 p, hf 0x11 0 2 mode,
    hf 0x14 0 32 (s.word false R.ROUTE_EXTENT_EX.addr).toNat, hf 0x18 0 11 (s.word false R.ROUTE_POD_PX_LOG2.addr).toNat,
    hf 0x1C 0 16 (s.rd R.ROUTE_STATUS_EPOCH)] ++ ex) []

/-- An ANNOUNCE received on a port matches what R304 expects of the partner. -/
def State.announceOk (s : State) (p : Nat) (k : Packet) : Bool :=
  let port := k.fld 0x10 4 4
  let mode := k.fld 0x11 0 2
  let same := k.fld 0x14 0 32 == (s.word false R.ROUTE_EXTENT_EX.addr).toNat
    && k.fld 0x18 0 11 == (s.word false R.ROUTE_POD_PX_LOG2.addr).toNat % 2 ^ 11
  if isRegular p then
    same && k.srcNode == s.neighbour (regularDim p) (regularMinus p) 1 && port == (if regularMinus p then p - 1 else p + 1)
      && mode == 0
  else
    let w := s.auxWord p
    if s.auxMode p = 1 then
      same && k.srcNode == s.neighbour (auxDim w) (auxMinus w) (auxStride w) && (port == 6 || port == 7) && mode == 1
        && k.fld 0x11 2 2 == auxDim w && (k.fld 0x11 4 1 == 1) != auxMinus w && k.fld 0x12 0 6 == auxStride w
    else s.auxMode p == 2 && (port == 6 || port == 7) && mode == 2

/-! ## The routing procedure (R305-R307) -/

/-- What the router does with a packet. -/
inductive Decision where
  /-- for the local port -/
  | deliver
  /-- out by a port; the move is a ring entry or continues its ring -/
  | out (port : Nat) (entry : Bool)
  /-- discarded, for that output port (R306); 15 for a destination beyond the extents -/
  | discard (port : Nat)
deriving DecidableEq, Repr

/-- Flip bit of a dimension for a target coordinate (R308). -/
def State.flip (s : State) (dim t : Nat) : Bool :=
  let a := s.core.router.active
  bit (if dim = 0 then a.flipX else if dim = 1 then a.flipY else if dim = 2 then a.flipZ else a.flipD) t

/-- The EXPRESS, routable gate of a dimension and direction. -/
def State.expressGate (s : State) (dim : Nat) (minus : Bool) : Option Nat :=
  [6, 7].find? (fun p => s.auxMode p == 1 && s.routable p && auxDim (s.auxWord p) == dim && auxMinus (s.auxWord p) == minus)

/-- R305 for a packet that came by `inPort` (10 local). -/
def State.routeOf (s : State) (inPort dest : Nat) : Decision :=
  let me := s.self
  if ¬ s.selfValid then .discard 15
  else if dest = me then .deliver
  else if nodeX dest ≥ s.extent 0 ∨ nodeY dest ≥ s.extent 1 ∨ nodeZ dest ≥ s.extent 2 ∨ nodeD dest ≥ s.extent 3 then .discard 15
  else
    let dim := if nodeX me ≠ nodeX dest then 0 else if nodeY me ≠ nodeY dest then 1 else if nodeZ me ≠ nodeZ dest then 2 else 3
    let e := s.extent dim
    let cur := nodePos me dim
    let tgt := nodePos dest dim
    let up := (tgt + e - cur) % e
    let w := s.auxWord inPort
    let onExpress := (inPort == 6 || inPort == 7) && s.auxMode inPort == 1 && auxDim w == dim
    let onRegular := isRegular inPort && regularDim inPort == dim
    let chosen := if e - up < up then true else false
    let minus := if onExpress then !auxMinus w else if onRegular then !regularMinus inPort
      else if s.flip dim tgt then !chosen else chosen
    let rem := if minus then (cur + e - tgt) % e else up
    let reg := regularPort dim minus
    let finish (p : Nat) (entry : Bool) : Decision := if s.routable p then .out p entry else .discard p
    if onRegular then finish reg false
    else match s.expressGate dim minus with
      | some x => if rem ≥ auxStride (s.auxWord x) then
                    finish x (!(onExpress && auxStride (s.auxWord x) == auxStride w))
                  else finish reg true
      | none => finish reg true

/-- Packets that R305 does not route (R307). -/
def Packet.pinned (p : Packet) : Bool := p.tdm || p.cls == 5 || (p.cls == 0 && [0, 1, 2, 5, 6].contains p.type)

/-! ## Queueing (R292, R311) -/

/-- Queue a packet for its output: congestion mark and peak (R292, R311). -/
def State.enqueue (s : State) (o : OutPkt) : State :=
  let c := o.pkt.cls
  let q := ((s.core.router.queued.filter (fun x => x.port == o.port && x.pkt.cls == c)).map (·.pkt.flits)).sum
  let mark := s.on (R.GATE_CM_ENABLE o.port) && decide (1 ≤ c ∧ c ≤ 3) && decide (q ≥ s.rd (R.GATE_CM_THRESH o.port)) && !o.pkt.cm
  let s := if mark then s.count o.port 12 else s
  let o := if mark then { o with pkt := o.pkt.set 1 4 1 1 } else o
  let s := s.wr (R.ROUTE_TELEM_PEAK_FLITS o.port) (max (s.rd (R.ROUTE_TELEM_PEAK_FLITS o.port)) (min 65535 (q + o.pkt.flits)))
  { s with core.router.queued := s.core.router.queued ++ [o] }

/-- A packet reaches the local units. -/
def State.deliver (s : State) (i : InPkt) : State := { s with core.resp.inbox := s.core.resp.inbox ++ [i] }

/-- The timer of a request starts (R389). -/
def State.startTimer (s : State) (tag : Option Nat) : State :=
  match tag with
  | none => s
  | some t => { s with core.rq.reqs := SMap.modify s.core.rq.reqs t (fun r =>
      if r.state = .queued then { r with state := .sent } else r) }

/-- A packet is discarded for an output port (R306). -/
def State.discardFor (s : State) (inPort port : Nat) (tag : Option Nat) (dest : Nat) : State :=
  let s := if port < 10 then s.wr (R.ROUTE_TELEM_DISCARD_COUNT port) (s.rd (R.ROUTE_TELEM_DISCARD_COUNT port) + 1) else s
  (s.startTimer tag).logDiscard (if inPort < 10 then inPort else 15) port dest

/-- Route a packet that came by a port or from the local units, and queue it, deliver it or discard it (R305, R306). -/
def State.routePacket (s : State) (inPort stamp : Nat) (func : Option Nat) (tag : Option Nat) (p : Packet) : State :=
  match s.routeOf inPort p.dest with
  | .deliver =>
    let s := s.startTimer tag
    let s := match func, tag with
      | some f, some _ => (if p.cls = 1 then s.count (funcSlot f) 2 else s).tracePkt R.TRACE_CTL_PKT 0x10 15 0 func p s.now 0
      | _, _ => s
    s.deliver ⟨inPort, stamp, p⟩
  | .out port entry => s.enqueue ⟨inPort, port, entry, stamp, func, tag, p, 0⟩
  | .discard port => s.discardFor inPort port tag p.dest

/-- A packet of the local units, routed by R305. -/
def State.inject (s : State) (func : Option Nat) (tag : Option Nat) (p : Packet) : State := s.routePacket 10 0 func tag p

/-- A packet's flits: its header, then its payload in 64-byte pieces, the last padded with zeros. -/
def Packet.flitList (p : Packet) : List Flit :=
  p.hdr :: (List.range p.plen).map (fun i => BitVec.ofNat 512 (leAt p.payload (64 * i) 64))

/-- A packet's flits as items for the frames of a port. -/
def txItems (o : OutPkt) : List TxItem :=
  match o.pkt.flitList with
  | [] => []
  | h :: t => ⟨1, h, some o, 0⟩ :: t.map (fun f => ⟨1, f, none, 0⟩)

/-- The move from one port to another enters a ring (R289, R303): all but the moves along one regular ring, from the side of its partner,
and along one express ring. -/
def State.entersRing (s : State) (inPort p : Nat) : Bool :=
  let w := s.auxWord inPort
  let v := s.auxWord p
  !((isRegular inPort && isRegular p && regularDim inPort == regularDim p && regularMinus inPort != regularMinus p)
    || (decide (inPort = 6 ∨ inPort = 7) && decide (p = 6 ∨ p = 7) && s.auxMode inPort == 1 && s.auxMode p == 1 && auxDim w == auxDim v
      && auxMinus w != auxMinus v && auxStride w == auxStride v))

/-- A packet that goes out by a named port: queued in service; before READY, LINK and KEYX go straight to the port's frames (R330). -/
def State.sendBy (s : State) (inPort p : Nat) (entry : Bool) (stamp : Nat) (k : Packet) : State :=
  let o : OutPkt := ⟨inPort, p, entry, stamp, none, none, k, 0⟩
  if s.portReady p then s.enqueue o
  else if s.portState p ≠ 0 ∧ s.portState p ≠ 8 ∧ k.cls = 0 ∧ (k.type = 0 ∨ k.type = 5) then
    s.modLink p (fun l => { l with tx := l.tx ++ txItems o })
  else s

/-- A packet of the local units by a named port (R307): it enters the port's ring. -/
def State.sendPort (s : State) (p : Nat) (k : Packet) : State := s.sendBy 10 p true 0 k

/-! ## Slots on a port (R254, R327, R340) -/

/-- Lane rate in Gb/s of a rate code (R317). -/
def rateGbps (r : Nat) : Nat := 56 * 2 ^ r

/-- Numerator and denominator of the code rate: 258/272 short, 514/544 long (R318). -/
def codeNum (short : Bool) : Nat := if short then 258 else 514
def codeDen (short : Bool) : Nat := if short then 272 else 544

/-- F of a port: body positions in one slot (R254, R327, R340). -/
def State.slotFlits (s : State) (p : Nat) : Nat :=
  if p ≥ 8 then 16 * (64 * s.core.time.khz / 10 ^ 6)
  else
    let w := if s.on (R.GATE_NEG_X4 p) then 4 else 8
    let short := s.on (R.GATE_NEG_SHORT p)
    w * rateGbps (s.rd (R.GATE_NEG_RATE p)) * 64 * codeNum short * 63 / (codeDen short * 512 * 64)

/-! ## The table of circuits -/

def State.circuit? (s : State) (k : Nat) : Option Circuit := SMap.get? s.core.bolts.table k
def State.setCircuit (s : State) (k : Nat) (c : Circuit) : State := { s with core.bolts.table := SMap.put s.core.bolts.table k c }
def State.delCircuit (s : State) (k : Nat) : State := { s with core.bolts.table := SMap.del s.core.bolts.table k }
def State.circuits (s : State) : List (Nat × Circuit) := s.core.bolts.table

/-- The circuit holds a reservation: PENDING, ACTIVE or CLOSING. -/
def Circuit.holds (c : Circuit) : Bool := c.state == 1 || c.state == 2 || c.state == 3

/-- The circuit sends by port `p`. -/
def Circuit.outBy (c : Circuit) (p : Nat) : Bool := c.role != 2 && c.outPort == p

/-- A slot number lies in a pattern. -/
def inPattern (start stride slot : Nat) : Bool := slot % 2 ^ stride == start % 2 ^ stride

/-- Packets reserved on an outgoing port in a slot. -/
def State.slotLoad (s : State) (p slot : Nat) : Nat :=
  ((s.circuits.filter (fun x => x.2.holds && x.2.outBy p && inPattern x.2.start x.2.stride slot)).map (·.2.pkts)).sum

/-- A packet started now ends before the first position reserved in the next slot: the slot in progress has positions left for it and for
what waits for the port's frames, or the next slot holds no reservation (R290). -/
def State.slotRoom (s : State) (o : OutPkt) : Bool :=
  let p := o.port
  s.slotLoad p ((s.now / 4096 + 1) % 1024) == 0
    || decide (((s.link p).tx.filter (fun i => i.kind != 3)).length + o.pkt.flits ≤ s.slotFlits p * (4096 - s.now % 4096) / 4096)

/-! ## Arbitration (R289-R291) -/

/-- The route state holds the packet's entry into a ring (R309). -/
def State.holdsEntry (s : State) (o : OutPkt) : Bool := s.rd R.ROUTE_STATUS_STATE != 0 && o.entry && !o.pkt.pinned

/-- The packet stands back: the route state holds its entry, or the port pauses all but LINK (R309, R339). It does not keep back the
packets behind it. -/
def State.barred (s : State) (o : OutPkt) : Bool :=
  s.holdsEntry o || !(s.portState o.port == 6 || (s.portState o.port == 7 && o.pkt.cls == 0 && o.pkt.type == 0))

/-- The packet may be sent now: credits for all of it (R285), 18 at a ring entry (R289), not barred, and time before the next slot's
reserved positions (R290). -/
def State.sendable (s : State) (o : OutPkt) : Bool :=
  let have_ := s.credits o.port o.pkt.cls
  decide (o.pkt.flits ≤ have_) && (!o.entry || decide (18 ≤ have_)) && !s.barred o && s.slotRoom o

/-- The first packet of each input port among those of a class that `f` picks, for an output. -/
def State.heads (s : State) (p : Nat) (f : OutPkt → Bool) : List OutPkt :=
  (s.core.router.queued.filter (fun o => o.port == p && f o)).foldl
    (fun acc o => if acc.any (fun x => x.inPort == o.inPort) then acc else acc ++ [o]) []

/-- The packet of a class the output serves next (R290): round robin over the input ports that hold eligible packets; while the guard of
R291 stands, the packet that has waited longest to enter the ring, once it has its credits, and none before it. A packet that the route
state holds is not waiting to enter. -/
def State.pickClass (s : State) (p c : Nat) (f : OutPkt → Bool) : Option OutPkt :=
  let hs := s.heads p (fun o => o.pkt.cls == c && f o && !s.barred o)
  let last := SMap.getD (s.flow p).lastIn c 10
  let key (o : OutPkt) : Nat := (o.inPort + 10 - last) % 11
  let entering := if (s.flow p).guard.contains c then hs.filter (·.entry) else []
  match entering, hs.filter s.sendable with
  | x :: t, _ => let o := t.foldl (fun b o => if b.wait < o.wait then o else b) x; if s.sendable o then some o else none
  | [], [] => none
  | [], x :: t => some (t.foldl (fun b o => if key o < key b then o else b) x)

/-- GATE_ARB weight of class 1 to 4; 0 acts as 1. -/
def State.arbWeight (s : State) (p c : Nat) : Nat :=
  max 1 (s.rd (if c = 1 then R.GATE_ARB_W_REQ p else if c = 2 then R.GATE_ARB_W_FWD p else if c = 3 then R.GATE_ARB_W_RSP p
    else R.GATE_ARB_W_COL p))

/-- The weights of classes 1 to 4 as the registers hold them; a round keeps those it began with (R290). -/
def State.arbWeights (s : State) (p : Nat) : List Nat := [1, 2, 3, 4].map (s.arbWeight p)

/-- Deficit round robin over REQ, FWD, RSP and COL (R290): the packet, and the turn, the deficit and the round's weights after it. -/
def State.drr (s : State) (p : Nat) : Nat → Nat → Nat → List Nat → Option (OutPkt × Nat × Nat × List Nat)
  | 0, _, _, _ => none
  | n + 1, turn, deficit, ws =>
    let turn' := (turn + 1) % 4
    let ws' := if turn' = 0 then s.arbWeights p else ws
    let next (_ : Unit) := s.drr p n turn' (9 * ws'.getD turn' (s.arbWeight p (turn' + 1))) ws'
    match s.pickClass p (turn + 1) (fun _ => true) with
    | some o => if o.pkt.flits ≤ deficit then some (o, turn, deficit - o.pkt.flits, ws) else next ()
    | none => next ()

/-- CTL_CAP in effect (R296). -/
def State.ctlCap (s : State) (p : Nat) : Nat := min 64 (max 1 (s.rd (R.GATE_ARB_CTL_CTL_CAP p)))

/-- Send a packet: it leaves its queue, takes its credits, starts its timer, and its flits go to the port's frames. -/
def State.sendPacket (s : State) (o : OutPkt) : State :=
  let p := o.port
  let c := o.pkt.cls
  let rest := match takeFirst (· == o) s.core.router.queued with
    | some (_, t) => t
    | none => s.core.router.queued
  let s := { s with core.router.queued := rest }
  let s := s.modFlow p (fun f => { f with
    txc := SMap.putD f.txc c ((SMap.getD f.txc c 0 + o.pkt.flits) % 2 ^ 16) 0,
    lastIn := SMap.put f.lastIn c o.inPort,
    guard := if o.entry then f.guard.filter (· ≠ c) else f.guard,
    ctlSent := if c = 0 ∧ o.pkt.type ≠ 2 then f.ctlSent ++ List.replicate o.pkt.flits 0 else f.ctlSent })
  let s := s.countN p (13 + c) o.pkt.flits
  let s := if c = 0 ∧ o.pkt.type = 2 then s.count p 22 else s
  let s := s.startTimer o.tag
  let s := match o.func, o.tag with
    | some f, some _ => if c = 1 then s.count (funcSlot f) 2 else s
    | _, _ => s
  s.modLink p (fun l => { l with tx := l.tx ++ txItems o })

/-- PACKET_SEND: the output chooses its next packet (R290). LCFs and reserved positions have commands of their own. -/
def packetSend (p : Port) (s : State) : State :=
  match s.pickClass p.val 0 (fun o => o.pkt.type == 2) with
  | some o => s.sendPacket o
  | none =>
    let f := s.flow p.val
    let ctl := s.pickClass p.val 0 (fun o => o.pkt.type != 2)
    let other := s.drr p.val 6 f.turn f.deficit f.weights
    match ctl, other with
    | some o, none => s.sendPacket o
    | some o, some (x, t, d, ws) =>
      if f.ctlSent.length + o.pkt.flits ≤ s.ctlCap p.val then s.sendPacket o
      else (s.sendPacket x).modFlow p.val (fun f => { f with turn := t, deficit := d, weights := ws })
    | none, some (x, t, d, ws) => (s.sendPacket x).modFlow p.val (fun f => { f with turn := t, deficit := d, weights := ws })
    | none, none => s

/-- PACKET_SEND (R290). -/
def execPacketSend (p : Port) : State → Host.Outcome State Fault Refusal := coreCmd (packetSend p)

/-- RING_ENTRY_GUARD: a packet has waited INJ_WAIT cycles to enter a ring (R291). -/
def ringEntryGuard (p : Port) (vc : Fin 5) (s : State) : State :=
  let waiting := s.core.router.queued.any (fun o => o.port == p.val && o.entry && o.pkt.cls == vc.val)
  if waiting ∧ ¬ (s.flow p.val).guard.contains vc.val then
    (s.modFlow p.val (fun f => { f with guard := f.guard ++ [vc.val] })).wr (R.ROUTE_TELEM_GUARD_COUNT p.val)
      (s.rd (R.ROUTE_TELEM_GUARD_COUNT p.val) + 1)
  else s

/-- RING_ENTRY_GUARD (R291). -/
def execRingEntryGuard (p : Port) (vc : Fin 5) : State → Host.Outcome State Fault Refusal := coreCmd (ringEntryGuard p vc)

/-- The LCF of a port (R286). -/
def State.lcfFlit (s : State) (p : Nat) : Flit :=
  BitVec.ofNat 512 (pack ((List.range 5).map (fun c => (32 * c, 16, SMap.getD (s.flow p).txc c 0))
    ++ (List.range 5).map (fun c => (32 * c + 16, 16, s.vcFreed p c))))

/-- LCF_SEND: an LCF falls due on a port in service (R286). -/
def lcfSend (p : Port) (s : State) : State :=
  if s.portReady p.val then s.modLink p.val (fun l => { l with tx := l.tx ++ [⟨2, s.lcfFlit p.val, none, 0⟩] }) else s

/-- LCF_SEND (R286). -/
def execLcfSend (p : Port) : State → Host.Outcome State Fault Refusal := coreCmd (lcfSend p)

/-- An LCF arrives: FREED is taken, and RX follows TXC; the flits it is behind are lost, but for those of torn packets, which were received
and freed as they came (R287). A torn flit does not name its VC, so they are set against the sum over the VCs (log entry 22). -/
def State.lcfReceive (s : State) (p : Nat) (f : Flit) : State :=
  let behind := ((List.range 5).map (fun c => subMod 16 (bits f.toNat (32 * c) 16) (SMap.getD (s.flow p).rx c 0))).sum
  let lost := behind - (s.flow p).torn
  let s := (List.range 5).foldl (fun s c =>
    s.modFlow p (fun x => { x with rx := SMap.putD x.rx c (bits f.toNat (32 * c) 16) 0,
                                   pFreed := SMap.putD x.pFreed c (bits f.toNat (32 * c + 16) 16) 0 })) s
  let s := s.modFlow p (fun x => { x with torn := 0 })
  if lost = 0 then s else (s.wr (R.GATE_FLOW_STATUS_LOST p) 1).countN p 10 lost

/-! ## Route commands (R298, R308-R311) -/

/-- ROUTE_SELF_WRITE (R298): a write with VALID 1 locks; identity outside the extents, or extents out of range, set SELF_ERR. -/
def routeSelfWrite (data : Word) (s : State) : State :=
  if s.on R.ROUTE_SELF_VALID then s
  else
    let n := bits data.toNat 0 20
    let s := s.wr R.ROUTE_SELF_NODE n
    if ¬ bit data.toNat 31 then s
    else
      let ex := s.extent 0
      let ey := s.extent 1
      let ez := s.extent 2
      let d := s.extent 3
      let bad := !(decide (1 ≤ ex ∧ ex ≤ 64 ∧ 1 ≤ ey ∧ ey ≤ 64 ∧ 1 ≤ ez ∧ ez ≤ 32 ∧ 2 ≤ d ∧ d ≤ 8)
        && decide (nodeX n < ex ∧ nodeY n < ey ∧ nodeZ n < ez ∧ nodeD n < d))
      let s := s.wr R.ROUTE_SELF_VALID 1
      if bad then s.wr R.ROUTE_STATUS_SELF_ERR 1 else s.setReadyBit 12 true

/-- ROUTE_SELF_WRITE (R298). -/
def execRouteSelfWrite (data : Word) : State → Host.Outcome State Fault Refusal := coreCmd (routeSelfWrite data)

/-- ROUTE_CMD HOLD (R309). -/
def routeHold (s : State) : State :=
  if s.rd R.ROUTE_STATUS_STATE = 0 then s.wr R.ROUTE_STATUS_STATE 1 else s.wr R.ROUTE_STATUS_CMD_ERR 1

/-- ROUTE_HOLD (R309). -/
def execRouteHold : State → Host.Outcome State Fault Refusal := coreCmd routeHold

/-- The drain timer ends in HOLDING (R309). -/
def routeDrainDone (s : State) : State :=
  if s.rd R.ROUTE_STATUS_STATE = 1 then s.wr R.ROUTE_STATUS_STATE 2 else s

/-- ROUTE_DRAIN_DONE (R309). -/
def execRouteDrainDone : State → Host.Outcome State Fault Refusal := coreCmd routeDrainDone

/-- ROUTE_CMD RELEASE (R309). -/
def routeRelease (s : State) : State := s.wr R.ROUTE_STATUS_STATE 0

/-- ROUTE_RELEASE (R309). -/
def execRouteRelease : State → Host.Outcome State Fault Refusal := coreCmd routeRelease

/-- The shadow set as it stands (R308). -/
def State.shadow (s : State) : RouteSet where
  flipX := s.rd2 R.ROUTE_FLIP_X_LO_FLIP R.ROUTE_FLIP_X_HI_FLIP
  flipY := s.rd2 R.ROUTE_FLIP_Y_LO_FLIP R.ROUTE_FLIP_Y_HI_FLIP
  flipZ := s.rd R.ROUTE_FLIP_Z_FLIP
  flipD := s.rd R.ROUTE_FLIP_D_FLIP
  aux0 := (s.word false (R.ROUTE_AUX_MODE 0).addr).toNat
  aux1 := (s.word false (R.ROUTE_AUX_MODE 1).addr).toNat

/-- The ports in service. -/
def State.readyPorts (s : State) : List Nat := (List.range 10).filter s.portReady

/-- Send ANNOUNCE on a port (R304). -/
def State.announce (s : State) (p : Nat) : State := s.sendPort p (s.announcePkt p)

/-- Packets held at a ring entry are routed under the new set (R309, R310); the messages of a circuit keep its path (R256). -/
def State.rerouteHeld (s : State) : State :=
  let held (o : OutPkt) : Bool := o.entry && !o.pkt.pinned && !(o.pkt.cls == 0 && o.pkt.type == 4)
  let q := s.core.router.queued
  (q.filter held).foldl (fun s o => s.routePacket o.inPort o.stamp o.func o.tag o.pkt)
    { s with core.router.queued := q.filter (fun o => !held o) }

/-- What R304 expects on gate 6 or 7: the mode in effect, and of an EXPRESS gate its dimension, direction and stride. -/
def State.auxRow (s : State) (p : Nat) : List Nat :=
  let w := s.auxWord p
  if s.auxMode p = 1 then [1, auxDim w, b2n (auxMinus w), auxStride w] else [s.auxMode p]

/-- The router's part of a COMMIT in DRAINED (R309). -/
def State.routeCommit (s : State) : State :=
  let old := (s.auxRow 6, s.auxRow 7)
  let s := { s with core.router.active := s.shadow }
  let s := if old.1 ≠ s.auxRow 6 then s.modFlow 6 (fun f => { f with ann := none }) else s
  let s := if old.2 ≠ s.auxRow 7 then s.modFlow 7 (fun f => { f with ann := none }) else s
  let s := (s.wr R.ROUTE_STATUS_EPOCH (s.rd R.ROUTE_STATUS_EPOCH + 1)).wr R.ROUTE_STATUS_STATE 0
  (s.readyPorts.foldl State.announce s).rerouteHeld

/-- CLEAR_PEAKS (R311). -/
def clearPeaks (s : State) : State := (List.range 10).foldl (fun s p => s.wr (R.ROUTE_TELEM_PEAK_FLITS p) 0) s

/-- CLEAR_PEAKS (R311). -/
def execClearPeaks : State → Host.Outcome State Fault Refusal := coreCmd clearPeaks

/-! ## Taking packets from the local stores -/

/-- Take the first waiting packet that `f` picks. -/
def State.takePkt (s : State) (f : InPkt → Bool) : Option (InPkt × State) :=
  (takeFirst f s.core.resp.inbox).map (fun r => (r.1, { s with core.resp.inbox := r.2 }))

/-- Run `f` on the first packet of a class and type that `g` picks; nothing happens when there is none (log entry 6). -/
def State.withPkt (s : State) (c t : Nat) (g : Packet → Bool) (f : InPkt → State → State) : State :=
  match s.takePkt (fun i => i.pkt.cls == c && i.pkt.type == t && g i.pkt) with
  | some (i, s) => f i s
  | none => s

/-- A ROUTE packet arrives: an ANNOUNCE matches or not (R304). -/
def announceArrival (s : State) : State :=
  s.withPkt 0 6 (fun _ => true) (fun i s =>
    if i.pkt.fld 0x10 0 4 ≠ 0 then s else s.modFlow i.port (fun f => { f with ann := some (s.announceOk i.port i.pkt) }))

/-- ANNOUNCE_ARRIVAL (R304). -/
def execAnnounceArrival : State → Host.Outcome State Fault Refusal := coreCmd announceArrival

/-! ## The rate cache (R293-R295) -/

/-- One µs of fabric time in LSB units. -/
def usLsb : Nat := 64000

/-- The rate entry of a (function, node). -/
def State.rateEntry (s : State) (f node : Nat) : Option RateEntry := s.core.rq.rates.find? (fun e => e.func == f && e.node == node)

/-- The set of a (function, node), one of 512 (R294). -/
def rateSet (f node : Nat) : Nat := Config.rateSet f node % 512

/-- Room for a new entry: a free way, or the way with the highest RATE, the least recently used among equals (R294). -/
def State.rateRoom (s : State) (f node : Nat) : State :=
  let rs := s.core.rq.rates
  if rs.length < 8 then s
  else
    let same := rs.filter (fun e => rateSet e.func e.node == rateSet f node)
    if same.length < 8 then s
    else match same with
      | [] => s
      | x :: t =>
        let v := t.foldl (fun b e => if e.rate > b.rate then e else b) x
        let s := { s with core.rq.rates := rs.filter (· ≠ v) }
        if v.rate < 1024 then (s.wr R.RATE_STATUS_EVICT 1).count blockSlot 17 else s

/-- Cut of a RATE (R294, R297). -/
def State.rateCut (s : State) (rate : Nat) : Nat :=
  let decr := max 1 (s.rd R.RATE_CURVE_DECR)
  let floor := min 1024 (max 1 (s.rd R.RATE_CTL_MIN_RATE))
  max floor (rate - (rate * decr + 255) / 256)

/-- An echo for a function and node (R293, R294): an entry is made if there is none, and cut unless it was within CUT_GAP. -/
def State.echo (s : State) (f node : Nat) : State :=
  let s := s.count (funcSlot f) 9
  if ¬ s.on R.RATE_CTL_ENABLE then s
  else
    let (e, s) := match s.rateEntry f node with
      | some e => (e, s)
      | none =>
        let s := s.rateRoom f node
        let (v, s) := s.draw
        ((⟨f, node, 1024, v % 4609, none⟩ : RateEntry), s)
    let gap := s.rd R.RATE_CURVE_CUT_GAP * usLsb
    let recent := match e.lastCut with
      | some t => decide (s.now < t + gap)
      | none => false
    let e' := if recent then e else { e with rate := s.rateCut e.rate, lastCut := some s.now }
    { s with core.rq.rates := s.core.rq.rates.filter (fun x => !(x.func == f && x.node == node)) ++ [e'] }

/-- RATE_RECOVERY: INTERVAL µs pass without echo; an entry that reaches 1,024 becomes free (R294). -/
def rateRecovery (f : FuncId) (node : BitVec 20) (s : State) : State :=
  { s with core.rq.rates := s.core.rq.rates.filterMap (fun e =>
      if e.func = f.val ∧ e.node = node.toNat then
        let r := e.rate + s.rd R.RATE_CURVE_INCR
        if r ≥ 1024 then none else some { e with rate := r }
      else some e) }

/-- RATE_RECOVERY (R294). -/
def execRateRecovery (f : FuncId) (node : BitVec 20) : State → Host.Outcome State Fault Refusal := coreCmd (rateRecovery f node)

/-- The router's and the requester's share of one core cycle: tokens grow (R294), CTL flits age (R290), entry waits are counted
(R311). -/
def State.routeTick (s : State) : State :=
  let grow (e : RateEntry) : RateEntry := { e with tokens := min 4608 (e.tokens + e.rate) }
  let age (x : Nat × Flow) : Nat × Flow := (x.1, { x.2 with ctlSent := (x.2.ctlSent.map (· + 1)).filter (· < 64) })
  let wait (o : OutPkt) : OutPkt := if o.entry then { o with wait := min (o.wait + 1) (2 ^ 32 - 1) } else o
  let s : State := { s with core.rq.rates := s.core.rq.rates.map grow, core.router.flow := s.core.router.flow.map age,
                            core.router.queued := s.core.router.queued.map wait }
  (List.range 10).foldl (fun s p =>
    if s.core.router.queued.any (fun o => o.port == p && o.entry && decide (s.credits p o.pkt.cls < 18)) then
      s.wr (R.ROUTE_TELEM_ENTRY_CYCLES p) (s.rd (R.ROUTE_TELEM_ENTRY_CYCLES p) + 1)
    else s) s

end Sys2Proof.Machine
end

