-- ==== Sys2Proof/Machine/Circuit.lean ====
section
/-! DEFINITION. Bolt circuits (R254-R260): slots on ports, admission, set-up and answer, teardown, release and break. -/

namespace Sys2Proof.Machine

/-! ## Slots on a port (R254, R327, R340) -/

/-- The most bolt packets one slot can carry (R254). -/
def slotPkts (f : Nat) : Nat := (f - 20) / 9

/-- Report F and PKTS in BOLT_PORT_CAP (R254). -/
def State.setPortCap (s : State) (p : Nat) : State :=
  let f := s.slotFlits p
  (s.wr (R.BOLT_PORT_CAP_FLITS p) f).wr (R.BOLT_PORT_CAP_PKTS p) (slotPkts f)

/-- The greatest load among the slots of a pattern: patterns nest or are disjoint, so it is met at one of their starts. -/
def State.patternLoad (s : State) (p start stride : Nat) : Nat :=
  let starts := start :: ((s.circuits.filter (fun x => x.2.holds && x.2.outBy p && inPattern start stride x.2.start)).map (·.2.start))
  (starts.map (s.slotLoad p)).foldl max 0

/-- Circuits that hold a port outbound. -/
def State.portCircuits (s : State) (p : Nat) : Nat := (s.circuits.filter (fun x => x.2.holds && x.2.outBy p)).length

/-- BOLT_PORT_USE.PEAK: most packets reserved in any one slot. -/
def State.portPeak (s : State) (p : Nat) : Nat :=
  ((s.circuits.filter (fun x => x.2.holds && x.2.outBy p)).map (fun x => s.slotLoad p x.2.start)).foldl max 0

/-- Flits of a port's BLT share that circuits coming by it hold (R259). -/
def State.shareUsed (s : State) (p : Nat) : Nat :=
  ((s.circuits.filter (fun x => x.2.holds && x.2.role == 1 && x.2.inPort == p)).map (fun x => (x.2.adv + 1) * x.2.pkts * 9)).sum

/-- Bytes of the staging pool held at sources (R262) and of the landing pool held at destinations (R258). -/
def State.stageUsed (s : State) : Nat :=
  ((s.circuits.filter (fun x => x.2.holds && x.2.role == 0)).map (fun x => 3 * x.2.pkts * 512)).sum
def State.landUsed (s : State) : Nat :=
  ((s.circuits.filter (fun x => x.2.holds && x.2.role == 2)).map (fun x => 4 * x.2.pkts * 512)).sum

/-- Packet-slots per superframe a function has reserved on a port (R258 check 7). -/
def State.shareOf (s : State) (p f : Nat) : Nat :=
  ((s.circuits.filter (fun x => x.2.holds && x.2.outBy p && x.2.func == f)).map (fun x => x.2.pkts * 2 ^ (10 - x.2.stride))).sum

/-- The advance of a hop whose circuit comes by port `p` (R259), in LSB units of fabric time throughout. A hinge port has no FEC; it
counts as short code. -/
def State.advance (s : State) (p pkts : Nat) : Nat :=
  let f := max 1 (s.slotFlits p)
  let tsw := if p < 8 ∧ ¬ s.on (R.GATE_NEG_SHORT p) then 72 else 38
  let num := (s.rd (R.TIME_PATH_DELAY p) + 64 * (tsw + 2)) * f + pkts * 9 * 4096
  (num + 4096 * f - 1) / (4096 * f)

/-- The first check of R258 that fails on an outgoing port: status and REASON. `room` is check 6.  Check 4 counts the circuits that
hold the port, and a BROKEN one keeps its index until it is released (log 33). -/
def State.admission (s : State) (p func start stride pkts : Nat) (room : Bool) : Option (Nat × Nat) :=
  if s.rd (R.GATE_NEG_VERSION p) < 2 then some (0x13, 0x077)
  else if ¬ (s.synced ∧ s.rd R.TIME_STATUS_STATE = 2) then some (0x05, 0x074)
  else if ¬ s.portReady p then some (0x05, 0x075)
  else if s.portCircuits p ≥ 256 ∨ (SMap.freeKey s.core.bolts.table 256 (p * 256)).isNone then some (0x05, 0x070)
  else if pkts = 0 ∨ s.patternLoad p start stride + pkts > min (slotPkts (s.slotFlits p)) (s.rd (R.BOLT_PORT_LIMIT_MAX_PKTS p)) then
    some (0x05, 0x071)
  else if ¬ room then some (0x05, 0x072)
  else if s.shareOf p func + pkts * 2 ^ (10 - stride) > s.rd (R.BOLT_FUNC_SHARE_MAX func) then some (0x05, 0x073)
  else none

/-- The least free index on an outgoing port. -/
def State.freeIndex (s : State) (p : Nat) : Nat := (SMap.freeKey s.core.bolts.table 256 (p * 256)).getD (p * 256) - p * 256

/-- A BOLT message on a circuit (R283); `fields` are the SUB's own. -/
def boltMsg (dest src sub kind idx pkts start stride func : Nat) (fields : List (Nat × Nat × Nat)) : Packet :=
  mkPacket 0 4 dest src 0 0 0 ([hf 0x0C 18 8 idx, hf 0x10 0 2 sub, hf 0x10 2 1 kind, hf 0x11 0 8 pkts, hf 0x12 0 10 start,
    hf 0x12 10 4 stride, hf 0x14 0 6 func] ++ fields) []

/-- A message of a circuit along its path (R280: the index on the link being crossed). -/
def Circuit.forward (c : Circuit) (sub : Nat) (fields : List (Nat × Nat × Nat)) : Packet :=
  boltMsg c.dest c.src sub c.kind c.outIndex c.pkts c.start c.stride c.func fields
def Circuit.backward (c : Circuit) (sub : Nat) (fields : List (Nat × Nat × Nat)) : Packet :=
  boltMsg c.src c.dest sub c.kind c.inIndex c.pkts c.inStart c.stride c.func fields

/-- A circuit entry that has just been held. -/
def newCircuit (role kind func dest src inPort inIndex outPort outIndex inStart start stride pkts adv rxSig order : Nat) (rev : Bool) :
    Circuit :=
  ⟨role, 1, kind, func, dest, src, inPort, inIndex, outPort, outIndex, inStart, start, stride, pkts, adv, rxSig, order, 0, 0, [],
    [], [], 0, [], rev⟩

/-! ## Set-up (R256-R258) -/

/-- The output port of a path from a port (R256, R305). -/
def State.pathPort (s : State) (inPort dest : Nat) : Option Nat :=
  match s.routeOf inPort dest with
  | .out p _ => some p
  | .discard p => if p < 10 then some p else none
  | .deliver => none

/-- A SETUP goes on by the port of its path, or is discarded there while the port is not routable (R305, R306). -/
def State.sendSetup (s : State) (inPort p stamp : Nat) (k : Packet) : State :=
  if s.routable p then s.sendBy inPort p (s.entersRing inPort p) stamp k else s.discardFor inPort p none k.dest

/-- A message of a circuit goes on along its path (R256, R257, R260). -/
def State.passOn (s : State) (i : InPkt) (p : Nat) (k : Packet) : State := s.sendBy i.port p (s.entersRing i.port p) i.stamp k

/-- Hold a circuit at its source and send SETUP, or the status and REASON of the refusal. -/
def State.sourceSetup (s : State) (kind func dest start stride pkts rxSig : Nat) (rev : Bool) : State × Option (Nat × Nat) :=
  if (s.routeReason dest).isSome ∨ dest / 8 = s.self / 8 then (s, some (0x11, 0))
  else if stride > 10 then (s, some (0x05, 0x071))
  else match s.pathPort 10 dest with
    | none => (s, some (0x11, 0))
    | some p =>
      match s.admission p func start stride pkts (decide (s.stageUsed + 3 * pkts * 512 ≤ s.build.boltStageKib * 1024)) with
      | some e => (s, some e)
      | none =>
        let i := s.freeIndex p
        let c := newCircuit 0 kind func dest s.self 10 0 p i 0 start stride pkts 0 rxSig s.core.bolts.order rev
        let s := { s with core.bolts.order := s.core.bolts.order + 1 }
        ((s.setCircuit (p * 256 + i) c).sendSetup 10 p 0 (c.forward 0 [hf 0x18 0 96 rxSig]), none)

/-- The driver's command ends (R257, R270). -/
def State.boltEnd (s : State) (status circuit node reason : Nat) : State :=
  let s := (s.wr R.BOLT_STATUS_BUSY 0).wr R.BOLT_STATUS_STATUS status
  if status = 0 then s.wr R.BOLT_STATUS_CIRCUIT circuit
  else if status = 0x05 ∨ status = 0x13 then (s.wr R.BOLT_FAIL_NODE node).wr R.BOLT_FAIL_REASON reason
  else s

/-- BOLT_CMD SETUP (R257). -/
def boltSetupCmd (data : Word) (s : State) : State :=
  if bits data.toNat 0 2 ≠ 1 then s
  else if s.on R.BOLT_STATUS_BUSY then s.wr R.BOLT_STATUS_CMD_LOST 1
  else
    let s := s.wr R.BOLT_STATUS_BUSY 1
    let sig := s.rd R.BOLT_SETUP_SIG0_PTR + s.rd R.BOLT_SETUP_SIG1_PTR * 2 ^ 32 + s.rd R.BOLT_SETUP_SIG2_PTR * 2 ^ 64
    match s.sourceSetup (s.rd R.BOLT_SETUP_DEST_KIND) (s.rd R.BOLT_SETUP_DEST_FUNC) (s.rd R.BOLT_SETUP_DEST_NODE)
        (s.rd R.BOLT_SETUP_PAT_START) (s.rd R.BOLT_SETUP_PAT_STRIDE_LOG2) (s.rd R.BOLT_SETUP_PAT_PKTS) sig false with
    | (s, none) => s
    | (s, some (st, r)) => s.boltEnd st 0 s.self r

/-- BOLT_SETUP_CMD (R257). -/
def execBoltSetupCmd (data : Word) : State → Host.Outcome State Fault Refusal := coreCmd (boltSetupCmd data)

/-- Answer a SETUP that came by a port. -/
def State.answer (s : State) (inPort inIndex dest kind pkts start stride func status reason : Nat) : State :=
  s.sendPort inPort (boltMsg dest s.self 1 kind inIndex pkts start stride func
    [hf 0x24 0 8 status, hf 0x25 0 12 reason, hf 0x28 0 20 (if status = 0 then 0 else s.self)])

/-- A SETUP arrives at a hop or at its destination (R257-R259). A block whose ROUTE_SELF is not valid sends no answer (R299). -/
def State.setupArrived (s : State) (i : InPkt) : State :=
  let k := i.pkt
  let kind := k.fld 0x10 2 1
  let pkts := k.fld 0x11 0 8
  let start := k.fld 0x12 0 10
  let stride := k.fld 0x12 10 4
  let func := k.fld 0x14 0 6
  let sig := k.fld 0x18 0 96
  let idx := k.circuit
  let refuse (s : State) (st r : Nat) : State := s.answer i.port idx k.srcNode kind pkts start stride func st r
  if ¬ s.selfValid then s
  else if k.dest = s.self then
    if s.landUsed + 4 * pkts * 512 > s.build.boltLandKib * 1024 then refuse s 0x05 0x076
    else
      let c := newCircuit 2 kind func k.dest k.srcNode i.port idx 10 0 start start stride pkts 0 sig s.core.bolts.order false
      let s := { s with core.bolts.order := s.core.bolts.order + 1 }
      let key := 4096 + i.port * 256 + idx
      let isRev := s.circuits.any (fun x => x.2.role == 0 && x.2.state == 1 && x.2.kind == 1 && !x.2.rev && x.2.dest == k.srcNode
        && x.2.func == func)
      if kind = 1 ∧ ¬ isRev then
        match s.sourceSetup 1 func k.srcNode start stride pkts 0 true with
        | (s, none) => s.setCircuit key c
        | (s, some (st, r)) => refuse s st r
      else
        (s.setCircuit key { c with state := 2, rev := isRev }).answer i.port idx k.srcNode kind pkts start stride func 0 0
  else match s.pathPort i.port k.dest with
    | none => refuse s 0x11 0
    | some p =>
      let a := s.advance i.port pkts
      match s.admission p func ((start + a) % 1024) stride pkts (decide (s.shareUsed i.port + (a + 1) * pkts * 9 ≤ s.bltShare i.port)) with
      | some (st, r) => refuse s st r
      | none =>
        let o := s.freeIndex p
        let c := newCircuit 1 kind func k.dest k.srcNode i.port idx p o start ((start + a) % 1024) stride pkts a 0 s.core.bolts.order false
        let s := { s with core.bolts.order := s.core.bolts.order + 1 }
        (s.setCircuit (p * 256 + o) c).sendSetup i.port p i.stamp (c.forward 0 [hf 0x18 0 96 sig])

/-- A BOLT message of a SUB waits. -/
def State.withBolt (s : State) (sub : Nat) (f : InPkt → State → State) : State := s.withPkt 0 4 (fun k => k.fld 0x10 0 2 == sub) f

/-- BOLT_SETUP_ARRIVAL (R258). -/
def boltSetupArrival (s : State) : State := s.withBolt 0 (fun i s => s.setupArrived i)

/-- BOLT_SETUP_ARRIVAL (R258). -/
def execBoltSetupArrival : State → Host.Outcome State Fault Refusal := coreCmd boltSetupArrival

/-- The destination circuit a reverse circuit answers for (R267). -/
def State.pairOf (s : State) (c : Circuit) : Option (Nat × Circuit) :=
  s.circuits.find? (fun x => x.2.kind == 1 && x.2.func == c.func && x.2.dest == c.src && x.2.src == c.dest && x.2.rev != c.rev
    && (x.2.role == 2) == (c.role == 0) && x.2.role != 1)

/-- An answer passes this hop (R257): success commits, a refusal releases. -/
def State.answered (s : State) (i : InPkt) : State :=
  let key := i.port * 256 + i.pkt.circuit
  let st := i.pkt.fld 0x24 0 8
  let reason := i.pkt.fld 0x25 0 12
  let node := i.pkt.fld 0x28 0 20
  match s.circuit? key with
  | none => s
  | some c =>
    if c.state ≠ 1 then s
    else
      let s := if st = 0 then s.setCircuit key { c with state := 2 } else s.delCircuit key
      if c.role = 1 then
        s.passOn i c.inPort (c.backward 1 [hf 0x24 0 8 st, hf 0x25 0 12 reason, hf 0x28 0 20 node])
      else if c.rev then
        match s.pairOf c with
        | some (fk, fc) =>
          let s := if st = 0 then s.setCircuit fk { fc with state := 2 } else s.delCircuit fk
          s.sendPort fc.inPort (fc.backward 1 [hf 0x24 0 8 st, hf 0x25 0 12 reason, hf 0x28 0 20 node])
        | none => s
      else s.boltEnd st (bits key 0 11) node reason

/-- BOLT_ANSWER_ARRIVAL (R257). -/
def boltAnswerArrival (s : State) : State := s.withBolt 1 (fun i s => s.answered i)

/-- BOLT_ANSWER_ARRIVAL (R257). -/
def execBoltAnswerArrival : State → Host.Outcome State Fault Refusal := coreCmd boltAnswerArrival

/-- No answer within 1 ms: a PENDING circuit is released (R260). The spec gives the driver's STATUS no code for it. -/
def boltSetupTimeout (c : HopId) (s : State) : State :=
  match s.circuit? c.val with
  | none => s
  | some x =>
    if x.state ≠ 1 then s
    else
      let s := s.delCircuit c.val
      if x.role = 0 ∧ ¬ x.rev then
        let (v, s) := s.draw
        s.boltEnd (v % 256) 0 0 0
      else s

/-- BOLT_SETUP_TIMEOUT (R260). -/
def execBoltSetupTimeout (c : HopId) : State → Host.Outcome State Fault Refusal := coreCmd (boltSetupTimeout c)

/-! ## Teardown, release, break (R260) -/

/-- A tag is free: operations that wait for one go on. -/
def State.freeTag (s : State) (t : Nat) : State :=
  match SMap.get? s.core.rq.reqs t with
  | none => s
  | some r =>
    let s := ({ s with core.rq.reqs := SMap.del s.core.rq.reqs t }).post (.func r.func)
    (s.core.rq.ops.filter (fun p => !p.2.cutDone && p.2.done.isNone)).foldl (fun s p => s.post (.cut p.1)) s

/-- Drop the reads of a transfer: those at the memory side and those that wait for the scratchpad. -/
def State.dropBoltReads (s : State) (tag : Nat) : State :=
  let s : State := { s with core.bolts.sspWait := s.core.bolts.sspWait.filter (fun r => r.pkt / 2 ^ 32 != tag) }
  s.dropJobs (fun j => match j.purpose with
    | .boltRead _ n => n / 2 ^ 32 == tag
    | _ => false)

/-- Complete transfers of a circuit with ABORTED and a REASON at WHERE 7. -/
def State.abortXfers (s : State) (reason : Nat) (xs : List Transfer) : State :=
  xs.foldl (fun s x => ((s.freeTag x.tag).dropBoltReads x.tag).endOp x.op 0x12 (det 7 reason) 0 0) s

/-- The reverse circuit of a pair is released from its own source when the forward circuit ends there (R267). -/
def State.endPair (s : State) (c : Circuit) : State :=
  if c.role = 2 ∧ c.kind = 1 then
    match s.pairOf c with
    | some (k, r) => if r.role = 0 then (s.delCircuit k).sendPort r.outPort (r.forward 2 []) else s
    | none => s
  else s

/-- A CLOSING circuit at its source with no transfer in progress sends RELEASE and is FREE. -/
def State.closeCheck (s : State) (key : Nat) : State :=
  match s.circuit? key with
  | some c => if c.state = 3 ∧ c.role = 0 ∧ c.xfers = [] ∧ c.pending_ = 0 then (s.delCircuit key).sendPort c.outPort (c.forward 2 []) else s
  | none => s

/-- A transfer is queued and its first slot has not passed: it has sent neither packets nor a marker (R260, R264). -/
def Transfer.queued (x : Transfer) : Bool := x.phase != .ackWait && !x.sent && x.slip == 0

/-- Teardown of a circuit at its source: queued transfers whose first slot has not passed end, the one in progress is waited for (R260). -/
def State.teardown (s : State) (key : Nat) : State :=
  match s.circuit? key with
  | none => s
  | some c =>
    if c.role ≠ 0 then s
    else if c.state = 4 then (s.delCircuit key).sendPort c.outPort (c.forward 2 [])
    else if c.state ≠ 2 then s
    else
      let s := s.setCircuit key { c with state := 3, xfers := c.xfers.filter (fun x => !x.queued) }
      (s.abortXfers 0x07B (c.xfers.filter Transfer.queued)).closeCheck key

/-- BOLT_CMD TEARDOWN (R260). -/
def boltTeardownCmd (data : Word) (s : State) : State :=
  if bits data.toNat 0 2 ≠ 2 then s
  else if s.on R.BOLT_STATUS_BUSY then s.wr R.BOLT_STATUS_CMD_LOST 1
  else (s.wr R.BOLT_STATUS_STATUS 0).teardown (bits data.toNat 4 11)

/-- BOLT_TEARDOWN_CMD (R260). -/
def execBoltTeardownCmd (data : Word) : State → Host.Outcome State Fault Refusal := coreCmd (boltTeardownCmd data)

/-- The circuit an incoming port and index name: at a hop, or at the destination. -/
def State.incoming (s : State) (p idx : Nat) : Option (Nat × Circuit) :=
  s.circuits.find? (fun x => x.2.role != 0 && x.2.inPort == p && x.2.inIndex == idx)

/-- A RELEASE passes this hop: the reservation is free (R260). -/
def boltReleaseArrival (s : State) : State :=
  s.withBolt 2 (fun i s => match s.incoming i.port i.pkt.circuit with
    | none => s
    | some (k, c) =>
      let s := s.delCircuit k
      if c.role = 1 then s.passOn i c.outPort (c.forward 2 []) else s.endPair c)

/-- BOLT_RELEASE_ARRIVAL (R260). -/
def execBoltReleaseArrival : State → Host.Outcome State Fault Refusal := coreCmd boltReleaseArrival

/-- An ACTIVE circuit is BROKEN at this block: its transfers end at the source, and an event record is written (R260).  TDM packets that
waited for its slots are dropped, and their requests time out (log 33). -/
def State.toBroken (s : State) (key : Nat) (c : Circuit) : State :=
  let s := s.setCircuit key { c with state := 4, xfers := [], buf := [], tdm := [], pending_ := 0, land := [] }
  let s := c.tdm.foldl (fun s o => s.startTimer o.tag) s
  let s := if c.role = 0 then s.abortXfers 0x078 c.xfers else s
  s.event 0x20 0 0

/-- A cause of R260 at this block breaks an ACTIVE circuit: BREAK goes to both ends. -/
def State.breakOne (s : State) (key : Nat) : State :=
  match s.circuit? key with
  | none => s
  | some c =>
    if c.state ≠ 2 then s
    else
      let s := s.toBroken key c
      let s := if c.role ≠ 2 then s.sendPort c.outPort (c.forward 3 []) else s
      if c.role ≠ 0 then s.sendPort c.inPort (c.backward 3 []) else s

/-- Break a circuit, and the other circuit of a TDM pair at an end. -/
def State.breakCircuit (s : State) (key : Nat) : State :=
  match s.circuit? key with
  | none => s
  | some c =>
    let pair := if c.kind = 1 ∧ c.role ≠ 1 then s.pairOf c else none
    let s := s.breakOne key
    match pair with
    | some (k, _) => s.breakOne k
    | none => s

/-- Break every circuit that `f` picks. -/
def State.breakWhere (s : State) (f : Circuit → Bool) : State :=
  ((s.circuits.filter (fun x => x.2.state == 2 && f x.2)).map (·.1)).foldl State.breakCircuit s

/-- Break every circuit with a hop at this block (R250). -/
def State.breakAll (s : State) : State := s.breakWhere (fun _ => true)

/-- Break the circuits that cross a port (R335). -/
def State.breakPort (s : State) (p : Nat) : State :=
  s.breakWhere (fun c => c.outBy p || (c.role != 0 && c.inPort == p))

/-- A BREAK reaches a hop or an end (R260): it goes on in its direction. -/
def boltBreakArrival (s : State) : State :=
  s.withBolt 3 (fun i s =>
    let k := i.pkt
    match s.incoming i.port k.circuit, s.circuit? (i.port * 256 + k.circuit) with
    | some (key, c), r =>
      if c.dest = k.dest then
        if c.state = 2 then
          let s := s.toBroken key c
          if c.role = 1 then s.passOn i c.outPort (c.forward 3 [])
          else if c.kind = 1 then (match s.pairOf c with
            | some (k, _) => s.breakOne k
            | none => s) else s
        else s
      else match r with
        | some b => if b.state = 2 ∧ b.src = k.dest then
            let s := s.toBroken (i.port * 256 + k.circuit) b
            if b.role = 1 then s.passOn i b.inPort (b.backward 3 []) else s
          else s
        | none => s
    | none, some b =>
      if b.state = 2 ∧ b.src = k.dest then
        let s := s.toBroken (i.port * 256 + k.circuit) b
        if b.role = 1 then s.passOn i b.inPort (b.backward 3 [])
        else if b.kind = 1 then (match s.pairOf b with
          | some (k, _) => s.breakOne k
          | none => s) else s
      else s
    | none, none => s)

/-- BOLT_BREAK_ARRIVAL (R260). -/
def execBoltBreakArrival : State → Host.Outcome State Fault Refusal := coreCmd boltBreakArrival

/-- The circuit of an outgoing port that was set up last and crosses a slot that holds more than `pkts`. -/
def State.overload (s : State) (p pkts : Nat) : Option (Nat × Circuit) :=
  let bad := s.circuits.filter (fun x => x.2.state == 2 && x.2.outBy p
    && s.circuits.any (fun y => y.2.holds && y.2.outBy p && inPattern x.2.start (min x.2.stride y.2.stride) y.2.start
        && decide (s.slotLoad p (if x.2.stride ≤ y.2.stride then y.2.start else x.2.start) > pkts)))
  match bad with
  | [] => none
  | x :: t => some (t.foldl (fun b y => if y.2.order > b.2.order then y else b) x)

/-- Break circuits of a port, newest first, until every slot fits (R260). -/
def State.fitPort (s : State) (p : Nat) : Nat → State
  | 0 => s
  | n + 1 => match s.overload p (slotPkts (s.slotFlits p)) with
    | some (k, _) => (s.breakCircuit k).fitPort p n
    | none => s

/-- F of a port has changed (R254, R260). -/
def State.capChanged (s : State) (p : Nat) : State :=
  let s := s.setPortCap p
  s.fitPort p s.circuits.length

/-- The path delay of a port has changed: hops whose advance would rise break (R259). -/
def State.pathChanged (s : State) (p : Nat) : State :=
  s.breakWhere (fun c => c.role == 1 && c.inPort == p && decide (s.advance p c.pkts > c.adv))

/-- Reserved positions (R255): a packet of a circuit index may end no later than this position of a slot, if the slot is one of an
ACTIVE circuit's coming by the port. -/
def State.reservedEnd (s : State) (p idx slot : Nat) : Option Nat :=
  let mine := s.circuits.filter (fun x => x.2.role != 0 && x.2.inPort == p && (x.2.state == 2 || x.2.state == 3)
    && inPattern x.2.inStart x.2.stride slot)
  if mine.any (fun x => x.2.inIndex == idx) then
    some (((mine.filter (fun x => x.2.inIndex ≤ idx)).map (fun x => x.2.pkts * 9)).sum)
  else none

end Sys2Proof.Machine
end

