-- ==== Sys2Proof/Machine/Nyesh.lean ====
section
/-! DEFINITION. Nyesh blocks (R202-R208, R213, R214, R219): headers, code tables, the checks and the decode. -/

namespace Sys2Proof.Machine

/-! ## Formats (R202) -/

/-- Bytes of an element of a block's format; none for a code outside R202. -/
def nySize (fmt : Nat) : Option Nat :=
  if fmt = 0 ∨ fmt = 4 ∨ fmt = 5 then some 1 else if fmt = 1 ∨ fmt = 6 ∨ fmt = 7 then some 2 else none

/-- Exponent width of a float format; none for an integer one. -/
def nyExp (fmt : Nat) : Option Nat :=
  if fmt = 4 then some 4 else if fmt = 5 ∨ fmt = 6 then some 5 else if fmt = 7 then some 8 else none

/-- Residual width of a float format. -/
def nyRes (fmt : Nat) : Nat := (nySize fmt).getD 1 * 8 - (nyExp fmt).getD 0

/-! ## Header fields (R204) -/

def nyKind (h : Nat) : Nat := bits h 0 3
def nyShape (h : Nat) : Bool := bit h 3
def nyFmt (h : Nat) : Nat := bits h 4 4
def nyTable (h : Nat) : Nat := bits h 8 6
def nyVersion (h : Nat) : Nat := bits h 14 4
def nyDecLen (h : Nat) : Nat := bits h 18 9
def nyNnz (h : Nat) : Nat := bits h 27 9
def nyBodyLen (h : Nat) : Nat := bits h 36 10
def nyMoved (h : Nat) : Bool := bit h 46
def nyTile (h : Nat) : Nat := bits h 48 40
def nyCheck (h : Nat) : Nat := bits h 96 32

/-- A header put together. -/
def nyHeader (kind fmt declen nnz bodyLen tile check : Nat) : Nat :=
  pack [(0, 3, kind), (4, 4, fmt), (18, 9, declen), (27, 9, nnz), (36, 10, bodyLen), (48, 40, tile), (96, 32, check)]

/-- The kind is coded. -/
def nyCoded (h : Nat) : Bool := nyKind h == 2 || nyKind h == 3

/-- Bytes the block occupies. -/
def nyBlockLen (h : Nat) : Nat := 16 + nyBodyLen h

/-! ## Check 1 (R214) -/

/-- Framing: everything check 1 asks but the payload length and, in a collective, DECLEN and TILE. -/
def nyFraming (h : Nat) : Bool :=
  let k := nyKind h
  let f := nyFmt h
  decide (k ≤ 4) && (nySize f).isSome && (!nyCoded h || (nyExp f).isSome) && !bit h 47 && bits h 88 8 == 0 && !nyMoved h
    && decide (1 ≤ nyDecLen h ∧ nyDecLen h ≤ 256) && decide (nyNnz h ≤ 256) && decide (nyBodyLen h ≤ 512)
    && (nyCoded h || (nyTable h == 0 && nyVersion h == 0)) && (k != 4 || (nyNnz h == 0 && nyBodyLen h == 0))
    && (!nyShape h || nyDecLen h == 256)

/-! ## CRC (R213) -/

/-- The CRC a block's CHECK must hold. -/
def nyCrc (h : Nat) (body : Bytes) : Nat := crc32c (toLE 12 h ++ toLE 4 0 ++ body)

/-! ## Code tables (R207, R208) -/

/-- A code: symbol, length and bits, most significant first. -/
structure Code where
  sym : Nat
  len : Nat
  val : Nat
deriving DecidableEq, Repr

/-- LEN(x) of a table image. -/
def tableLen (img : Bytes) (x : Nat) : Nat := bits (img.getD (16 + x) 0).toNat 0 4

/-- SYMBITS of a table image. -/
def tableBits (img : Bytes) : Nat := bits (img.getD 0 0).toNat 0 4

/-- Sum of 2^(15 - LEN) over the symbols with codes. -/
def tableSum (img : Bytes) : Nat :=
  ((List.range (2 ^ tableBits img)).map (fun x => if tableLen img x = 0 then 0 else 2 ^ (15 - tableLen img x))).sum

/-- The image is valid (R207). -/
def tableValid (img : Bytes) : Bool :=
  let w := tableBits img
  [4, 5, 8].contains w && img.length == 16 + 2 ^ w && bits (img.getD 0 0).toNat 4 4 == 0 && (slice img 1 15).all (· == 0)
    && (slice img 16 (2 ^ w)).all (fun b => bits b.toNat 4 4 == 0) && decide (0 < tableSum img ∧ tableSum img ≤ 2 ^ 15)

/-- The symbols that have a code of a length, in order. -/
def symsOf (img : Bytes) (l : Nat) : List Nat := (List.range (2 ^ tableBits img)).filter (fun x => tableLen img x == l)

/-- The canonical assignment of R208: lengths 1 to 15 in turn, `code` the last code of the length before plus its count. -/
def canonical (img : Bytes) : Nat → Nat → Nat → List Code
  | 0, _, _ => []
  | n + 1, l, code =>
    let first := 2 * code
    let ss := symsOf img l
    (ss.zipIdx.map (fun (x, i) => (⟨x, l, first + i⟩ : Code))) ++ canonical img n (l + 1) (first + ss.length)

/-- The codes of a table image. -/
def codesOf (img : Bytes) : List Code := canonical img 15 1 0

/-! ## Decode (R205, R206, R214 checks 5 and 6) -/

/-- Bit `i` of a byte string, least significant bit of byte 0 first. -/
def bitAt (bs : Bytes) (i : Nat) : Bool := bit (bs.getD (i / 8) 0).toNat (i % 8)

/-- Read one code from stream bit `pos`: its symbol and the position after it. -/
def readCode (cs : List Code) (bs : Bytes) (total : Nat) : Nat → Nat → Nat → Nat → Option (Nat × Nat)
  | 0, _, _, _ => none
  | n + 1, pos, len, val =>
    if pos ≥ total then none
    else
      let v := 2 * val + b2n (bitAt bs pos)
      match cs.find? (fun c => c.len == len + 1 && c.val == v) with
      | some c => some (c.sym, pos + 1)
      | none => readCode cs bs total n (pos + 1) (len + 1) v

/-- Read `n` codes: their symbols and the position after them. -/
def readCodes (cs : List Code) (bs : Bytes) (total : Nat) : Nat → Nat → Option (List Nat × Nat)
  | 0, pos => some ([], pos)
  | n + 1, pos => match readCode cs bs total 15 pos 0 0 with
    | none => none
    | some (x, pos') => (readCodes cs bs total n pos').map (fun r => (x :: r.1, r.2))

/-- The symbols of a code stream that holds exactly `n` codes and fewer than eight zero bits after them (check 6). -/
def streamSyms (img stream : Bytes) (n : Nat) : Option (List Nat) :=
  let total := 8 * stream.length
  match readCodes (codesOf img) stream total n 0 with
  | none => none
  | some (xs, pos) =>
    if total - pos < 8 ∧ (List.range (total - pos)).all (fun i => !bitAt stream (pos + i)) then some xs else none

/-- An element of a float format from its symbol and residual (R206). -/
def nyElement (fmt sym res : Nat) : Nat :=
  let w := (nyExp fmt).getD 0
  let r := nyRes fmt
  res % 2 ^ (r - 1) + sym * 2 ^ (r - 1) + res / 2 ^ (r - 1) * 2 ^ (r - 1 + w)

/-- Bitmap of kinds 1 and 2: the occupied positions in order. -/
def nyPositions (body : Bytes) : List Nat := (List.range 256).filter (bitAt body)

/-- Bytes of the residual area. -/
def resBytes (fmt n : Nat) : Nat := (n * nyRes fmt + 7) / 8

/-- Check 5 (lengths). -/
def nyLengths (h : Nat) (body : Bytes) : Bool :=
  let s := (nySize (nyFmt h)).getD 1
  let n := nyNnz h
  let map := if nyKind h = 2 then 32 else 0
  if nyKind h = 0 then nyBodyLen h == n * s
  else if nyKind h = 1 then nyBodyLen h == 32 + n * s && (nyPositions body).length == n
  else if nyCoded h then
    decide (nyBodyLen h ≥ map + resBytes (nyFmt h) n) && (nyKind h != 2 || (nyPositions body).length == n)
      && leAt body map (resBytes (nyFmt h) n) / 2 ^ (n * nyRes (nyFmt h)) == 0
  else true

/-- The values of the body's elements, in order; none when check 6 fails. -/
def nyValues (h : Nat) (img body : Bytes) : Option (List Nat) :=
  let f := nyFmt h
  let s := (nySize f).getD 1
  let n := nyNnz h
  if nyKind h = 0 then some ((List.range n).map (fun i => leAt body (i * s) s))
  else if nyKind h = 1 then some ((List.range n).map (fun i => leAt body (32 + i * s) s))
  else if nyCoded h then
    let map := if nyKind h = 2 then 32 else 0
    let area := leAt body map (resBytes f n)
    (streamSyms img (body.drop (map + resBytes f n)) n).map (fun xs =>
      xs.zipIdx.map (fun (x, i) => nyElement f x (bits area (i * nyRes f) (nyRes f))))
  else some []

/-- Produced count P (R205). -/
def nyProduced (h : Nat) (body : Bytes) : Nat :=
  if nyKind h = 0 ∨ nyKind h = 3 then nyNnz h
  else if nyKind h = 4 then nyDecLen h
  else ((nyPositions body).map (· + 1)).foldl max 0

/-- Elements 0 to P - 1 of the dense form (R205). -/
def nyDense (h : Nat) (body : Bytes) (vals : List Nat) : List Nat :=
  if nyKind h = 1 ∨ nyKind h = 2 then
    let m := (nyPositions body).zip vals
    (List.range (nyProduced h body)).map (fun i => SMap.getD m i 0)
  else if nyKind h = 4 then List.replicate (nyDecLen h) 0
  else vals

/-- The present elements of a block as (position, value). -/
def nyPresent (h : Nat) (body : Bytes) (vals : List Nat) : List (Nat × Nat) :=
  if nyKind h = 1 ∨ nyKind h = 2 then (nyPositions body).zip vals
  else if nyKind h = 4 then [] else (List.range vals.length).zip vals

/-- Checks 1, 2, 5 and 6 of R214 on a block, with the table image given for checks 3 and 4: the REASON of the first that fails, and
the status; none when all pass. `resident` is the image of the version the header names. -/
def nyChecks (h : Nat) (body : Bytes) (crc extra : Bool) (resident : Option Bytes) : Option (Nat × Nat) :=
  if ¬ (nyFraming h ∧ nyBodyLen h = body.length ∧ extra) then some (0x08, 0x050)
  else if crc ∧ nyCheck h ≠ nyCrc h body then some (0x08, 0x051)
  else if nyCoded h ∧ resident.isNone then some (0x07, 0x052)
  else if nyCoded h ∧ some (tableBits (resident.getD [])) ≠ nyExp (nyFmt h) then some (0x08, 0x053)
  else if ¬ nyLengths h body then some (0x08, 0x054)
  else if (nyValues h (resident.getD []) body).isNone then some (0x08, 0x055)
  else none

/-- Bytes of a list of elements of `s` bytes. -/
def elemBytes (s : Nat) (vs : List Nat) : Bytes := vs.flatMap (toLE s)

end Sys2Proof.Machine
end

