-- ==== Sys2Proof/Machine/Requester.lean ====
section
/-! DEFINITION. The requester (chapters 2 and 3): transfers cut into packets, tags, sending, responses, latches, releases, timeouts,
retries and the resolution of atomics. -/

namespace Sys2Proof.Machine

/-! ## Tags (R345, R390) -/

def State.req? (s : State) (t : Nat) : Option Req := SMap.get? s.core.rq.reqs t
def State.setReq (s : State) (t : Nat) (r : Req) : State := { s with core.rq.reqs := SMap.put s.core.rq.reqs t r }

/-- Tags a function holds: those in quarantine count until the function is DISABLED, when `func` becomes 64. -/
def State.funcTags (s : State) (f : Nat) : Nat := (s.core.rq.reqs.filter (fun r => r.2.func == f)).length

/-- Tags a queue holds. -/
def State.queueTags (s : State) (q : Nat) : Nat := (s.core.rq.reqs.filter (fun r => r.2.queue == q)).length

/-- QUEUE_TAGS.SHARE of a queue; 0 acts as 1 (R32). -/
def State.tagShare (s : State) (q : Nat) : Nat := max 1 (s.rd (R.QUEUE_TAGS_SHARE q))

/-- Tags that are held or reserved by a share: each queue's share, and what a queue holds beyond it (R345). -/
def State.tagsReserved (s : State) : Nat :=
  let dflt := getField (BitVec.ofNat 32 (resetWord s.build (R.QUEUE_TAGS_SHARE 0).addr)) 0 18
  let listed := s.core.regs.filter (fun r => r.1 ≥ 0x400000 && r.1 % 0x400 == 0x1C)
  let shares := (4096 - listed.length) * dflt + (listed.map (fun r => max 1 (getField r.2 0 18))).sum
  let qs := (s.core.rq.reqs.map (·.2.queue)).eraseDups
  shares + (qs.map (fun q => s.queueTags q - (if q < 4096 then s.tagShare q else 0))).sum

/-- The tag a queue of a function may take (R345): the lowest free one. -/
def State.allocTag (s : State) (q f : Nat) : Option Nat :=
  let total := 2 ^ s.build.tagsLog2
  let cap := min total (max 1 (s.rd (R.FUNC_TAGS_MAX f)))
  if s.queueTags q < s.tagShare q ∨ (s.funcTags f < cap ∧ s.tagsReserved < total) then SMap.freeKey s.core.rq.reqs total 0 else none

/-- COPY staging slots in use (R78). -/
def State.stagingUsed (s : State) : Nat := (s.core.rq.reqs.filter (fun r => r.2.staged)).length

/-- A tag enters quarantine (R390): it holds no data and serves only to discard late responses. -/
def State.quarantine (s : State) (t : Nat) : State :=
  match s.req? t with
  | none => s
  | some r => s.setReq t { r with state := .quarantine, payload := [], staged := false }

/-! ## Latch tables (R91) -/

/-- Take LINC and NSEQ for a counted write of a queue to a node; none when it goes uncounted. -/
def State.countWrite (s : State) (q node : Nat) : Option (Nat × Nat) × State :=
  let x := s.qs q
  let use (e : LatchEntry) (rest : List LatchEntry) (x : QState) : Option (Nat × Nat) × State :=
    (some (e.linc, e.nseq), s.setQs q { x with latches := rest ++ [{ e with nseq := (e.nseq + 1) % 2 ^ 32, outst := e.outst + 1 }] })
  let fresh (rest : List LatchEntry) : Option (Nat × Nat) × State :=
    use ⟨s.qFunc q, node, x.lincNext % 256, 0, 0⟩ rest { x with lincNext := x.lincNext + 1 }
  match takeFirst (fun (e : LatchEntry) => e.node == node) x.latches with
  | some (e, rest) => use e rest x
  | none =>
    if x.latches.length < 8 then fresh x.latches
    else match takeFirst (fun e => e.outst == 0) x.latches with
      | some (_, rest) => fresh rest
      | none => (none, s.setQs q { x with uncounted := x.uncounted + 1 })

/-- A counted or uncounted write has been acknowledged, has failed or has timed out. -/
def State.writeEnded (s : State) (r : Req) (failed : Bool) : State :=
  let s := if r.uncounted then s.modQs r.queue (fun x => { x with uncounted := x.uncounted - 1 }) else s
  match r.counted with
  | none => s
  | some _ => s.modQs r.queue (fun x =>
      let ls := x.latches.map (fun e =>
        if e.node = r.node then
          (if failed then { e with outst := e.outst - 1, linc := x.lincNext % 256, nseq := 0 } else { e with outst := e.outst - 1 })
        else e)
      { x with latches := ls, lincNext := if failed then x.lincNext + 1 else x.lincNext })

/-! ## Packets and the end of operations (R22, R74, R144) -/

/-- Bytes a packet delivers: for a Nyesh block, the bytes of its landing range (R217). -/
def Req.delivered (r : Req) (expand : Bool) : Nat :=
  if r.kind = .nyesh then (if expand then nyDecLen r.hdr * (nySize (nyFmt r.hdr)).getD 1 else nyBlockLen r.hdr) else r.len

/-- A packet of a TDM pair no longer counts against it (R268). -/
def State.tdmDone (s : State) (r : Req) : State :=
  match r.tdm with
  | none => s
  | some k => match s.circuit? k with
    | none => s
    | some c => (s.setCircuit k { c with pending_ := c.pending_ - 1 }).closeCheck k

/-- RESULT of a failed packet (R71), the bytes acknowledged of a TIMEOUT aside: OVERRUN and UNDERRUN give the length produced and the
block's offset from DST. -/
def Req.failResult (r : Req) (d : BitVec 1024) (status : Nat) : Nat :=
  if status = 0x10 ∨ status = 0x02 then r.node * 2 ^ 64
  else if status = 0x0D then r.jid.getD 0 + r.node * 2 ^ 64
  else if status = 0x09 ∨ status = 0x0A then
    nyProduced r.hdr r.payload * (nySize (nyFmt r.hdr)).getD 1
      + subMod 48 (ptrOffset r.ptr) (ptrOffset (dDstPtr d)) * 2 ^ 64
  else 0

/-- A packet of an operation has ended: the failure earliest in iteration order is kept (R22). -/
def State.opPacket (s : State) (r : Req) (status detail : Nat) : State :=
  match s.op? r.op with
  | none => s
  | some o =>
    let ff := if status = 0 then o.firstFail
      else match o.firstFail with
        | some (n, a, b, c) => if n ≤ r.pkt then some (n, a, b, c) else some (r.pkt, status, detail, r.failResult o.desc status)
        | none => some (r.pkt, status, detail, r.failResult o.desc status)
    let got := if status = 0 then r.delivered (dExpand o.desc) else 0
    (s.setOp r.op { o with open_ := o.open_ - 1, bytes := o.bytes + got, firstFail := ff }).post (.settle r.op)

/-- A request ends: its tag is free and its operation learns of it. -/
def State.reqEnd (s : State) (t : Nat) (r : Req) (status detail : Nat) : State :=
  let s := s.writeEnded r (status != 0)
  let s := if status = 0 ∧ [ReqKind.write, .nyesh, .copyWrite, .latch].contains r.kind then s.countN (funcSlot r.func) 4 (match s.op? r.op with
      | some o => r.delivered (dExpand o.desc)
      | none => r.len) else s
  ((s.tdmDone r).freeTag t).opPacket r status detail

/-- See whether an operation has ended (R74, R144). -/
def State.settle (s : State) (id : Nat) : State :=
  match s.op? id with
  | none => s
  | some o =>
    let op := dOpcode o.desc
    if o.done.isSome ∨ s.fatal then s
    else if op = 0x06 then (if o.waitsFor = [] then s.endOp id 0 0 0 0 else s)
    else if ¬ [0x01, 0x02, 0x03, 0x04, 0x05, 0x07].contains op ∨ o.open_ ≠ 0 ∨ o.prep ∨ ¬ (o.cutDone ∨ o.faultAt.isSome) then s
    else match o.firstFail with
      | some (_, st, de, res) =>
        let acked := if st = 0x02 ∧ [0x01, 0x02, 0x03].contains op then o.bytes % 2 ^ 64 else 0
        s.endOp id st de (res + acked) 0
      | none => match o.faultAt with
        | some (c, de) => s.endOp id 0x01 de (c.i0 % 2 ^ 32 + c.i1 * 2 ^ 32 + c.i2 * 2 ^ 64 + c.i3 * 2 ^ 96) 0
        | none =>
          if op = 0x04 then s.endOp id 0 0 o.result 0
          else if op = 0x07 then s.endOp id 0 0 0 0
          else s.endOp id 0 0 o.bytes 1

/-! ## Issue (R43, R299, R354, R370) -/

/-- An ACTIVE TDM pair of a function to a node (R267). -/
def State.tdmPair (s : State) (f node : Nat) : Option (Nat × Circuit) :=
  s.circuits.find? (fun x => x.2.role == 0 && x.2.state == 2 && x.2.kind == 1 && !x.2.rev && x.2.func == f && x.2.dest == node)

/-- A function's requests to a node may leave only through a TDM pair: the function is strict and the node outside the package (R354). -/
def State.strictTo (s : State) (f node : Nat) : Bool := s.on (R.FUNC_CTL_STRICT f) && node / 8 != s.self / 8

/-- A strict function has no ACTIVE pair to a node outside its package (R354). -/
def State.strictCut (s : State) (f node : Nat) : Bool := s.strictTo f node && (s.tdmPair f node).isNone

/-- The REASON at WHERE 2 of the first route check that a descriptor's destinations fail (R299, R354). -/
def State.issueRoute (s : State) (f : Nat) (nodes : List Nat) : Option Nat :=
  match nodes.findSome? s.routeReason with
  | some r => some r
  | none =>
    if nodes.any (s.strictCut f) then some 0x025 else none

/-- Issue a descriptor that sends requests to `nodes`: a transfer of LENGTH 0 ends at once, the request hold of R370 holds the
others, and the route checks come at issue. -/
def State.issueRemote (s : State) (q op : Nat) (nodes : BitVec 1024 → List Nat) (ranges : BitVec 1024 → List Range)
    (go : State → Nat → Op → State) : State :=
  match s.ready q op (fun _ => []) with
  | .no => s
  | .fails h r => s.completeHead q h 0x05 (det 0 r)
  | .ok h =>
    let empty := (decide (op ≤ 3) || op == 5) && dLength h.desc == 0
    let rs := if empty then [] else ranges h.desc
    if s.held q h rs ∨ (¬ empty ∧ s.on R.GLOBAL_START_STATUS_HOLDING) then s
    else
      let f := s.qFunc q
      let (id, s) := s.issue q h rs
      if empty then s.endOp id 0 0 0 1
      else match s.issueRoute f (nodes h.desc) with
        | some r => s.endOp id 0x11 (det 2 r) 0 0
        | none => match s.op? id with
          | some o => go s id o
          | none => s

/-- Start cutting an operation. -/
def startCut (s : State) (id : Nat) (_ : Op) : State := s.post (.cut id)

/-- PUT (R52, R74). -/
def issuePut (q : QueueId) (s : State) : State := s.issueRemote q.val 0x01 (fun d => [ptrNode (dDstPtr d)]) putRanges startCut

/-- PUT (R52). -/
def execPut (q : QueueId) : State → Host.Outcome State Fault Refusal := coreCmd (issuePut q)

/-- GET (R77). -/
def issueGet (q : QueueId) (s : State) : State := s.issueRemote q.val 0x02 (fun d => [ptrNode (dSrcPtr d)]) getRanges startCut

/-- GET (R77). -/
def execGet (q : QueueId) : State → Host.Outcome State Fault Refusal := coreCmd (issueGet q)

/-- COPY (R78). -/
def issueCopy (q : QueueId) (s : State) : State :=
  s.issueRemote q.val 0x03 (fun d => [ptrNode (dSrcPtr d), ptrNode (dDstPtr d)]) copyRanges startCut

/-- COPY (R78). -/
def execCopy (q : QueueId) : State → Host.Outcome State Fault Refusal := coreCmd (issueCopy q)

/-- ATOMIC (R85). -/
def issueAtomic (q : QueueId) (s : State) : State :=
  s.issueRemote q.val 0x04 (fun d => [ptrNode (dSrcPtr d)]) atomicRanges startCut

/-- ATOMIC (R85). -/
def execAtomic (q : QueueId) : State → Host.Outcome State Fault Refusal := coreCmd (issueAtomic q)

/-- LATCH_PUT (R90, R91). -/
def issueLatchPut (q : QueueId) (s : State) : State :=
  s.issueRemote q.val 0x05 (fun d => [ptrNode (dDstPtr d)]) putRanges startCut

/-- LATCH_PUT (R91). -/
def execLatchPut (q : QueueId) : State → Host.Outcome State Fault Refusal := coreCmd (issueLatchPut q)

/-- What a SIGNAL covers (R97): earlier unfinished writes within its scope that no SIGNAL covers, and whether one that is over failed. -/
def State.cover (s : State) (id : Nat) (o : Op) : State :=
  let sc := dSigScope o.desc
  let ws := (s.writesOf o.queue).filter (fun p => p.1 != id && !p.2.covered && s.inScope sc (opNode p.2.desc))
  let failed := (s.qs o.queue).failed
  let s := s.modQs o.queue (fun x => { x with failed := x.failed.filter (fun n => !s.inScope sc n) })
  let s := ws.foldl (fun s p => s.setOp p.1 { p.2 with covered := true }) s
  s.setOp id { o with waitsFor := ws.map (·.1), failedCover := failed.any (s.inScope sc) }

/-- SIGNAL: issues and is held (R97). -/
def issueSignal (q : QueueId) (s : State) : State :=
  s.issueRemote q.val 0x07 (fun d => [ptrNode (dSrcPtr d)]) (fun _ => []) (fun s id o => s.cover id o)

/-- SIGNAL (R97). -/
def execSignal (q : QueueId) : State → Host.Outcome State Fault Refusal := coreCmd (issueSignal q)

/-! ## Cutting (R48, R143, R216) -/

/-- A request of an operation under a new tag, before anything of it is read or sent. -/
def newReq (kind : ReqKind) (state : ReqState) (id : Nat) (o : Op) (len : Nat) (order : Nat) : Req :=
  ⟨kind, state, id, o.queue, o.func, o.pkts, len, 0, 0, 0, 0, 0, [], 0, 0, none, false, false, 0, 0, none, 0, 0, order, o.cursor, none, 0, .free, 0⟩

/-- A packet has been cut: the cursor goes on, or the cut is over. -/
def cutNext (o : Op) (n : Nat) (prep : Bool) : Op :=
  let o := { o with pkts := o.pkts + 1, open_ := o.open_ + 1, prep := prep }
  match advanceCursor o.desc o.cursor n with
  | some c => { o with cursor := c }
  | none => { o with cutDone := true }

/-- Put a request under a tag, taking its place in the order of sending. -/
def State.enterReq (s : State) (t : Nat) (r : Req) : State :=
  ({ s with core.rq.sendOrder := s.core.rq.sendOrder + 1 }).setReq t r

/-- Source of the reads of a request's data: a strict function's ride at the priority of a bolt prefetch (R354). -/
def State.sourcePrio (s : State) (f node : Nat) : Nat := if s.strictTo f node ∧ (s.tdmPair f node).isSome then 1 else 5

/-- The slots to come, at most two ahead, that a circuit has reserved at its source. -/
def Circuit.ahead (c : Circuit) (slot : Nat) : List Nat := [slot + 1, slot + 2].filter (inPattern c.start c.stride)

/-- The tagged requests of a function to a node. -/
def State.reqsTo (s : State) (f node : Nat) : List (Nat × Req) := s.core.rq.reqs.filter (fun x => x.2.func == f && x.2.node == node)

/-- The reserved slot of a pair whose prefetch has begun and has room for one packet more (R263, R354). -/
def State.slotFor (s : State) (f node : Nat) (c : Circuit) : Option Nat :=
  match s.core.bolts.slot with
  | none => none
  | some now => (c.ahead now).find? (fun k => decide (((s.reqsTo f node).filter (fun x => x.2.pre == .slot k)).length < c.pkts))

/-- Read the source of a request, or see its local destination translated (R23). -/
def State.prepRead (s : State) (t : Nat) (r : Req) : State :=
  match r.kind with
  | .write => s.virtJob r.func r.srcVa r.len .read [] (s.sourcePrio r.func r.node) r.queue (.reqSource t)
  | .latch => s.virtJob r.func r.srcVa r.len .read [] (s.sourcePrio r.func r.node) r.queue (.reqSource t)
  | .nyesh => s.virtJob r.func r.srcVa 16 .read [] (s.sourcePrio r.func r.node) r.queue (.reqNyHeader t)
  | .read => s.virtJob r.func r.dstVa r.len .probe [] 2 r.queue (.reqDest t)
  | _ => s

/-- The kind of request whose data is read at the source. -/
def ReqKind.hasSource (k : ReqKind) : Bool := k == .write || k == .latch || k == .nyesh

/-- Get a request's data. A strict function's is read as a bolt prefetch, two slots ahead of the pair's slot that carries it (R354). -/
def State.prepReq (s : State) (t : Nat) (r : Req) : State :=
  if ¬ (r.kind.hasSource ∧ s.strictTo r.func r.node) then s.prepRead t r
  else match s.tdmPair r.func r.node with
    | none => s.prepRead t r
    | some (_, c) => match s.slotFor r.func r.node c with
      | some k => (s.setReq t { r with pre := .slot k }).prepRead t r
      | none => s.setReq t { r with pre := .waits }

/-- The read for the next packet of a pair starts, if a slot has room for it. -/
def State.pairRead (s : State) (c : Circuit) : State :=
  match (s.reqsTo c.func c.dest).filter (fun x => x.2.pre == .waits), s.slotFor c.func c.dest c with
  | x :: xs, some k =>
    let (t, r) := xs.foldl (fun b x => if x.2.order < b.2.order then x else b) x
    (s.setReq t { r with pre := .slot k }).prepRead t r
  | _, _ => s

/-- Slot k - 2 has begun: the reads for the next packets of a pair start (R263, R354). -/
def State.pairPrefetch (s : State) (c : Circuit) : State := iterate (fun s => s.pairRead c) (2 * c.pkts) s

/-- A request of a pair read for a slot no later than `k` has its data still to come: the stream moves by one reserved slot (R264, R354). -/
def State.pairLate (s : State) (c : Circuit) (k : Nat) : Bool :=
  (s.reqsTo c.func c.dest).any (fun x => match x.2.pre with
    | .slot n => x.2.state == .prep && decide (n ≤ k)
    | _ => false)

/-- The stream of a pair moves by one reserved slot. -/
def State.pairSlip (s : State) (c : Circuit) : State :=
  { s with core.rq.reqs := s.core.rq.reqs.map (fun x =>
      if x.2.func = c.func ∧ x.2.node = c.dest ∧ x.2.state ≠ .sent then
        match x.2.pre with
        | .slot n => (x.1, { x.2 with pre := .slot (n + 2 ^ c.stride) })
        | _ => x
      else x) }

/-- Cut the next packet of an operation under tag `t`. -/
def State.cutPacket (s : State) (id : Nat) (o : Op) (t : Nat) : State :=
  let d := o.desc
  let op := dOpcode d
  let ord := s.core.rq.sendOrder
  let c := o.cursor
  let srcAt (b : Nat) : Nat := ofSigned 64 ((b : Int) + srcShift d c)
  let dstAt (b : Nat) : Nat := ofSigned 64 ((b : Int) + dstShift d c)
  if op = 0x01 ∧ dNyesh d then
    let va := ofSigned 64 ((dSrc d : Int) + o.nyOff)
    let r := { newReq .nyesh .prep id o 0 ord with srcVa := va, ptr := dDstPtr d, node := ptrNode (dDstPtr d), cur := ⟨o.nyOff, 0, 0, 0⟩ }
    ((s.setOp id { o with pkts := o.pkts + 1, open_ := o.open_ + 1, prep := true }).enterReq t r).prepReq t r
  else if op = 0x01 then
    let n := packetBytes d (dSrc d) (ptrOffset (dDstPtr d)) c
    let r := { newReq .write .prep id o n ord with srcVa := srcAt (dSrc d), ptr := ptrAdd (dDstPtr d) (dstShift d c), node := ptrNode (dDstPtr d) }
    ((s.setOp id (cutNext o n true)).enterReq t r).prepReq t r
  else if op = 0x02 then
    let n := packetBytes d (ptrOffset (dSrcPtr d)) (dDst d) c
    let r := { newReq .read .prep id o n ord with dstVa := dstAt (dDst d), ptr := ptrAdd (dSrcPtr d) (srcShift d c), node := ptrNode (dSrcPtr d) }
    ((s.setOp id (cutNext o n true)).enterReq t r).prepReq t r
  else if op = 0x03 then
    let n := packetBytes d (ptrOffset (dSrcPtr d)) (ptrOffset (dDstPtr d)) c
    let r := { newReq .copyRead .ready id o n ord with ptr := ptrAdd (dSrcPtr d) (srcShift d c), rptr := ptrAdd (dDstPtr d) (dstShift d c),
                                                       node := ptrNode (dSrcPtr d), staged := true }
    ((s.setOp id (cutNext o n false)).enterReq t r).post (.cut id)
  else if op = 0x04 then
    let r := { newReq .atomic .ready id o 32 ord with ptr := dSrcPtr d, node := ptrNode (dSrcPtr d), payload := toLE 16 (dOperand d) ++ toLE 16 (dCompare d) }
    (s.setOp id { o with pkts := 1, open_ := 1, cutDone := true }).enterReq t r
  else
    let r := { newReq .latch .prep id o (dLength d) ord with srcVa := dSrc d, ptr := dDstPtr d, node := ptrNode (dDstPtr d) }
    ((s.setOp id { o with pkts := 1, open_ := 1, cutDone := true, prep := true }).enterReq t r).prepReq t r

/-- The operation may cut its next packet. -/
def State.cutReady (s : State) (o : Op) : Bool :=
  o.done.isNone && !o.cutDone && !o.prep && o.faultAt.isNone && !s.fatal && [0x01, 0x02, 0x03, 0x04, 0x05].contains (dOpcode o.desc)

/-- The COPY that takes the next staging slot: queues with one to cut and a tag for it take turns (R78), each in issue order. -/
def State.stageNext (s : State) : Option (Nat × Op) :=
  let xs := s.core.rq.ops.filter (fun p => dOpcode p.2.desc == 0x03 && s.cutReady p.2 && (s.allocTag p.2.queue p.2.func).isSome)
  match nextAfter s.core.rq.stageTurn (xs.map (·.2.queue)) with
  | none => none
  | some q => xs.find? (fun p => p.2.queue == q)

/-- Give free staging slots to COPYs in turn. -/
def State.stageStep (s : State) : State :=
  if s.stagingUsed ≥ 2 ^ s.build.stagingLog2 then s
  else match s.stageNext with
    | none => s
    | some (id, o) => match s.allocTag o.queue o.func with
      | none => s
      | some t => ({ s with core.rq.stageTurn := o.queue }).cutPacket id o t

/-- Cut the next packet of an operation when it holds a tag for it; a COPY also needs a staging slot in its turn (R78). -/
def State.cutStep (s : State) (id : Nat) : State :=
  match s.op? id with
  | none => s
  | some o =>
    if ¬ s.cutReady o then s
    else if dOpcode o.desc = 0x03 then s.stageStep
    else match s.allocTag o.queue o.func with
      | none => s
      | some t => s.cutPacket id o t

/-- A request is ready to be sent; its operation goes on with the next packet. -/
def State.reqReady (s : State) (t : Nat) (r : Req) : State :=
  let s := s.setReq t { r with state := .ready }
  match s.op? r.op with
  | some o => if r.tries = 0 then (s.setOp r.op { o with prep := false }).post (.cut r.op) else s
  | none => s

/-- The local address of a packet failed translation (R143): the fault point of its operation, or for a reissue a failure whose
REASON the spec does not give. -/
def State.reqFault (s : State) (t : Nat) (r : Req) (detail : Nat) : State :=
  if r.tries > 0 then
    let (v, s) := s.draw
    s.reqEnd t r 0x02 (det 8 (v % 2 ^ 12))
  else match s.op? r.op with
    | none => s.freeTag t
    | some o =>
      ((s.setOp r.op { o with prep := false, open_ := o.open_ - 1, faultAt := some (r.cur, detail) }).freeTag t).post (.settle r.op)

/-- A packet ends before it is sent, with a failure of its own: the operation goes on with the next (R395). -/
def State.reqBad (s : State) (t : Nat) (r : Req) (status detail : Nat) : State :=
  let s := match s.op? r.op with
    | some o => if r.tries = 0 then (s.setOp r.op { o with prep := false }).post (.cut r.op) else s
    | none => s
  s.reqEnd t r status detail

/-- The source of a packet has been read (R395). -/
def State.sourceRead (s : State) (t : Nat) (x : JobResult) : State :=
  match s.req? t with
  | none => s
  | some r =>
    if r.state ≠ .prep then s
    else match x.fail with
      | some (.xlate _) => s.reqFault t r (det 1 1)
      | some (.msp _) => s.reqBad t r 0x0F (det 1 3)
      | none => s.reqReady t { r with payload := x.data }

/-- The header of a Nyesh block has been read (R216): its body follows, or a block that is bad at the source goes as a header alone.  Without its header no later block can be found (log 30). -/
def State.nyHeaderRead (s : State) (t : Nat) (x : JobResult) : State :=
  match s.req? t with
  | none => s
  | some r =>
    if r.state ≠ .prep then s
    else match x.fail with
      | some (.xlate _) => s.reqFault t r (det 1 1)
      | some (.msp _) =>
        let s := match s.op? r.op with
          | some o => if r.tries = 0 then s.setOp r.op { o with cutDone := true } else s
          | none => s
        s.reqBad t r 0x0F (det 1 3)
      | none => match s.op? r.op with
        | none => s
        | some o =>
          let h := ofLE x.data
          let off := r.cur.i0
          let good := nyFraming h && decide (off + nyBlockLen h ≤ dLength o.desc)
          let next := roundUp (off + nyBlockLen h) 16
          let o := if r.tries > 0 then o else if good then { o with nyOff := next, cutDone := decide (next ≥ dLength o.desc) } else { o with cutDone := true }
          let s := s.setOp r.op o
          let (land, s) := match dExpand o.desc, nySize (nyFmt h) with
            | false, _ => (off, s)
            | true, some z => (nyTile h * 256 * z, s)
            | true, none => s.draw
          let r := { r with hdr := h, ptr := ptrAdd (dDstPtr o.desc) land, len := if good then nyBodyLen h else 0 }
          if good ∧ nyBodyLen h > 0 then
            (s.setReq t r).virtJob r.func ((r.srcVa + 16) % 2 ^ 64) (nyBodyLen h) .read [] (s.sourcePrio r.func r.node) r.queue (.reqSource t)
          else s.reqReady t r

/-- The local destination of a GET packet has been translated (R23). -/
def State.destProbed (s : State) (t : Nat) (x : JobResult) : State :=
  match s.req? t with
  | none => s
  | some r =>
    if r.state ≠ .prep then s
    else if x.fail.isSome then s.reqFault t r (det 1 2)
    else s.reqReady t { r with pa := x.pa, ksel := x.ksel }

/-! ## Sending (R276, R285, R295, R345) -/

/-- Flits a request is charged (R295): a READ pays for the response it will draw. -/
def Req.cost (r : Req) : Nat :=
  if r.kind = .read ∨ r.kind = .copyRead then 1 + (r.len + 63) / 64 else 1 + (r.payload.length + 63) / 64

/-- The injection bucket holds `k` flits (R345). `inj` counts what is missing from a full bucket, in 1/khz flit. -/
def State.injOk (s : State) (f k : Nat) : Bool :=
  let cap := max 18 (max 1 (s.rd (R.FUNC_INJ_FLITS_PER_US f))) * s.core.time.khz
  decide (SMap.getD s.core.rq.inj f 0 + k * s.core.time.khz ≤ cap)

/-- Spend `k` flits of a function's bucket. -/
def State.injSpend (s : State) (f k : Nat) : State :=
  { s with core.rq.inj := SMap.putD s.core.rq.inj f (SMap.getD s.core.rq.inj f 0 + k * s.core.time.khz) 0 }

/-- The rate cache lets `k` flits go (R295). -/
def State.rateOk (s : State) (f node k : Nat) : Bool :=
  match s.rateEntry f node with
  | some e => decide (e.tokens ≥ 256 * k)
  | none => true

/-- Spend tokens of a rate entry. -/
def State.rateSpend (s : State) (f node k : Nat) : State :=
  { s with core.rq.rates := s.core.rq.rates.map (fun e => if e.func = f ∧ e.node = node then { e with tokens := e.tokens - 256 * k } else e) }

/-- A deadline as the 40-bit field of R276. -/
def deadlineField (d : Nat) : Nat := d / 2 ^ 8 % 2 ^ 40

/-- The packet of a request (R276). -/
def State.reqPacket (s : State) (t : Nat) (r : Req) (heldLatch : Bool) : Packet :=
  let o := (s.op? r.op).map (·.desc)
  let d := o.getD 0
  let ptr := if r.kind = .copyWrite then r.rptr else r.ptr
  let cnt := match r.counted with
    | some (linc, n) => [hf 0x1C 0 1 1, hf 0x1D 0 8 linc, hf 0x20 0 32 n]
    | none => []
  let base := hf 0x10 0 96 ptr
  let mk (type len : Nat) (fs : List (Nat × Nat × Nat)) (pl : Bytes) : Packet := mkPacket 1 type r.node s.self r.queue t len fs pl
  match r.kind with
  | .write => mk 0 r.payload.length (base :: cnt) r.payload
  | .copyWrite => mk 0 r.payload.length (base :: cnt) r.payload
  | .read => mk 1 r.len [base] []
  | .copyRead => mk 1 r.len [base] []
  | .atomic => mk 2 32 ([base, hf 0x1E 0 4 (dAop d), hf 0x1E 4 4 (dAtype d), hf 0x24 0 40 (deadlineField r.dline), hf 0x29 0 20 r.tout,
      hf 0x30 0 64 (r.jid.getD 0)] ++ cnt) r.payload
  | .latch => mk 3 r.payload.length ([base, hf 0x1C 1 1 (b2n heldLatch)] ++ (if heldLatch then [hf 0x24 0 40 (deadlineField r.dline)] else []) ++ cnt) r.payload
  | .signal => mk 4 0 [base, hf 0x38 0 64 (dAdd d)] []
  | .nyesh => mk 5 r.payload.length ([base, hf 0x1C 2 1 (b2n (dExpand d)), hf 0x1C 3 1 (s.rd (R.QUEUE_CTL_NYESH_CRC r.queue)),
      hf 0x30 0 128 r.hdr] ++ cnt) r.payload
  | .jquery => mk 6 0 [hf 0x24 0 40 (deadlineField r.dline), hf 0x29 0 20 r.tout, hf 0x30 0 64 (r.jid.getD 0)] []
  | .jservice => mk 6 0 [hf 0x24 0 40 (deadlineField r.dline), hf 0x29 0 20 r.tout, hf 0x30 0 64 (r.jid.getD 0)] []
  | .bolt => mk 0 0 [] []

/-- Hand a request's packet on: into its function's TDM pair, or to the router. -/
def State.handOver (s : State) (t : Nat) (r : Req) (p : Packet) : State :=
  match s.tdmPair r.func r.node with
  | some (k, c) =>
    let p := (p.set 0x0C 18 8 c.outIndex).set 0x0C 26 1 1
    let o : OutPkt := ⟨10, c.outPort, false, 0, some r.func, some t, p, 0⟩
    (s.setReq t { r with state := .queued, tdm := some k }).setCircuit k { c with tdm := c.tdm ++ [o], pending_ := c.pending_ + 1 }
  | none => (s.setReq t { r with state := .queued }).inject (some r.func) (some t) p

/-- Requests that are counted writes (R91). -/
def ReqKind.countable (k : ReqKind) : Bool := [ReqKind.write, .nyesh, .copyWrite, .atomic, .latch].contains k

/-- Send a request: T, and for an atomic its journal ID and deadline, are taken now (R85, R345); a counted write takes its place. -/
def State.sendReq (s : State) (t : Nat) (r : Req) (heldLatch : Bool) : State :=
  let tdm := (s.tdmPair r.func r.node).isSome
  let k := r.cost
  let s := if tdm ∨ r.kind = .jquery ∨ r.kind = .jservice then s else s.rateSpend r.func r.node k
  let s := if tdm then s else s.injSpend r.func k
  let tout := s.timeout r.func
  let query := r.kind == .jquery || r.kind == .jservice
  let r := if r.kind = .latch then { r with hdr := b2n heldLatch } else r
  let r := if query then r else { r with tout := tout, dline := s.now + tout * usLsb }
  let (r, s) := if r.kind = .atomic then
      let n := (s.qs r.queue).atomNext
      ({ r with jid := some (pack [(0, 32, n), (32, 12, r.queue), (44, 20, s.self)]) }, s.modQs r.queue (fun x => { x with atomNext := (x.atomNext + 1) % 2 ^ 32 }))
    else (r, s)
  let (r, s) := if r.kind.countable ∧ r.counted.isNone then
      if r.tries > 0 then ({ r with uncounted := true }, s.modQs r.queue (fun x => { x with uncounted := x.uncounted + 1 }))
      else match s.countWrite r.queue r.node with
        | (some c, s) => ({ r with counted := some c }, s)
        | (none, s) => ({ r with uncounted := true }, s)
    else (r, s)
  s.handOver t r (s.reqPacket t r heldLatch)

/-- What keeps a request from being sent: the rate cache, the injection ceiling, or a full TDM pair (R268). -/
inductive Held where
  /-- nothing -/
  | no
  /-- rate cache -/
  | rate
  /-- injection ceiling -/
  | inj
  /-- TDM pair -/
  | pair
  /-- a strict function has no pair to the node: the request cannot be sent (R354) -/
  | cut
deriving DecidableEq, Repr

/-- See what holds a request. -/
def State.reqHeld (s : State) (r : Req) : Held :=
  match s.tdmPair r.func r.node with
  | some (_, c) => if c.pending_ ≥ 4 * c.pkts then .pair else .no
  | none =>
    if s.strictTo r.func r.node then (if r.kind = .jquery ∨ r.kind = .jservice then .pair else .cut)
    else if r.kind ≠ .jquery ∧ r.kind ≠ .jservice ∧ ¬ s.rateOk r.func r.node r.cost then .rate
    else if ¬ s.injOk r.func r.cost then .inj
    else .no

/-- Count a hold once per packet; a reissue that waits on the injection ceiling sets WARD_CLAMP.INJ. -/
def State.noteHeld (s : State) (t : Nat) (r : Req) (h : Held) : State :=
  match h with
  | .rate => if bit r.heldBy 0 then s else (s.setReq t { r with heldBy := r.heldBy + 1 }).count (funcSlot r.func) 10
  | .inj =>
    let s := if r.tries > 0 then s.wr R.WARD_CLAMP_INJ 1 else s
    if bit r.heldBy 1 then s else (s.setReq t { r with heldBy := r.heldBy + 2 }).count (funcSlot r.func) 11
  | _ => s

/-- An earlier write of the queue to the node still has packets to send: a latch must follow them (R91, R100). -/
def State.latchBlocked (s : State) (r : Req) : Bool :=
  (s.writesOf r.queue).any (fun p => decide (p.1 < r.op) && opNode p.2.desc == r.node && dOpcode p.2.desc != 0x07 && p.2.done.isNone
    && dOpcode p.2.desc != 0x20
    && ((!p.2.cutDone && p.2.faultAt.isNone) || (SMap.vals s.core.rq.reqs).any (fun x => x.op == p.1
      && (x.state == .prep || x.state == .ready || (x.kind == .copyRead && (x.state == .sent || x.state == .queued))))))

/-- The latch's scope reaches its target (R95): it holds, at the target or at the requester. -/
def State.latchInScope (s : State) (r : Req) : Bool :=
  match s.op? r.op with
  | some o => s.inScope (dScope o.desc) r.node
  | none => false

/-- An earlier latch of the queue to the node waits at the requester without a number: a later one waits behind it (R100). -/
def State.latchAhead (s : State) (r : Req) : Bool :=
  (SMap.vals s.core.rq.reqs).any (fun x => x.queue == r.queue && x.node == r.node && x.state == .held && x.counted.isNone
    && decide (x.order < r.order))

/-- Send a latch that is ready (R91, R95): held at the target, held at the requester, or unheld. -/
def State.sendLatch (s : State) (t : Nat) (r : Req) : State :=
  if ¬ s.latchInScope r then s.sendReq t r false
  else if s.latchAhead r then s.setReq t { r with state := .held }
  else if (s.qs r.queue).latches.any (·.node == r.node) then s.sendReq t r true
  else if (s.qs r.queue).uncounted > 0 then s.setReq t { r with state := .held }
  else s.sendReq t r false

/-- The next request of a queue in the order of its packets that is ready; a latch that holds is passed over while writes before it are
unsent, one out of scope waits for none (R95). -/
def State.nextReady (s : State) (q : Nat) : Option (Nat × Req) :=
  let xs := s.core.rq.reqs.filter (fun p => p.2.queue == q && p.2.state == .ready && !(p.2.kind == .latch && s.latchInScope p.2 && s.latchBlocked p.2))
  match xs with
  | [] => none
  | x :: t => some (t.foldl (fun b p => if p.2.order < b.2.order then p else b) x)

/-- Requests that wait for a slot of a pair no longer ACTIVE end with NO_ROUTE; those of a function no longer strict are read (R354). -/
def State.strictTick (s : State) : State :=
  s.core.rq.reqs.foldl (fun s (t, r) =>
    if r.pre ≠ .waits then s
    else if s.strictCut r.func r.node then s.reqBad t r 0x11 (det 2 0x025)
    else if s.strictTo r.func r.node then s
    else (s.setReq t { r with pre := .free }).prepRead t { r with pre := .free }) s

/-- REQ_PACKET_SEND: the queue's next request leaves once nothing holds it (R285, R295, R345, R370). -/
def reqPacketSend (q : QueueId) (s : State) : State :=
  if s.on R.GLOBAL_START_STATUS_HOLDING ∨ s.fatal then s
  else match s.nextReady q.val with
    | none => s
    | some (t, r) => match s.reqHeld r with
      | .no => if r.kind = .latch then s.sendLatch t r else s.sendReq t r false
      | .cut => s.reqEnd t r 0x11 (det 2 0x025)
      | h => s.noteHeld t r h

/-- REQ_PACKET_SEND (R276). -/
def execReqPacketSend (q : QueueId) : State → Host.Outcome State Fault Refusal := coreCmd (reqPacketSend q)

/-- Earlier counted writes of the queue to the node are still out (R93): sent, or latches that the target did not take. -/
def State.earlierOut (s : State) (r : Req) : Bool :=
  (SMap.vals s.core.rq.reqs).any (fun x => x.queue == r.queue && x.node == r.node && x.counted.isSome && x.order < r.order
    && (x.state == .sent || x.state == .queued || x.state == .held))

/-- The first latch of a queue, in the order of its packets, that waits at the requester behind no earlier write to its node. -/
def State.nextHeld (s : State) (q : Nat) : Option (Nat × Req) :=
  match s.core.rq.reqs.filter (fun p => p.2.queue == q && p.2.state == .held && !s.earlierOut p.2) with
  | [] => none
  | x :: t => some (t.foldl (fun b p => if p.2.order < b.2.order then p else b) x)

/-- LATCH_RESEND: a latch held at the requester leaves unheld (R91, R93). -/
def latchResend (q : QueueId) (s : State) : State :=
  match s.nextHeld q.val with
  | none => s
  | some (t, r) =>
    if s.on R.GLOBAL_START_STATUS_HOLDING ∨ s.fatal ∨ (s.qs q.val).uncounted > 0 then s
    else match s.reqHeld r with
      | .no => s.sendReq t r false
      | .cut => s.reqEnd t r 0x11 (det 2 0x025)
      | h => s.noteHeld t r h

/-- LATCH_RESEND (R93). -/
def execLatchResend (q : QueueId) : State → Host.Outcome State Fault Refusal := coreCmd (latchResend q)

/-- SIGNAL_SEND: the writes a SIGNAL covers have completed, and its addition is sent (R97). One that something holds is ready under its
tag, for REQ_PACKET_SEND; one of a strict function without a pair ends as R354 says. -/
def signalSend (q : QueueId) (s : State) : State :=
  match s.core.rq.ops.find? (fun p => p.2.queue == q.val && dOpcode p.2.desc == 0x07 && p.2.done.isNone && p.2.pkts == 0 && p.2.waitsFor == []) with
  | none => s
  | some (id, o) =>
    if s.fatal then s
    else if o.failedCover then s.endOp id 0x12 (det 3 0x020) 0 0
    else if s.on R.GLOBAL_START_STATUS_HOLDING then s
    else match s.allocTag o.queue o.func with
      | none => s
      | some t =>
        let r := { newReq .signal .ready id o 0 s.core.rq.sendOrder with ptr := dSrcPtr o.desc, node := ptrNode (dSrcPtr o.desc) }
        let go := (s.setOp id { o with pkts := 1, open_ := 1, cutDone := true }).enterReq t r
        match s.reqHeld r with
        | .no => go.sendReq t r false
        | .cut => s.endOp id 0x11 (det 2 0x025) 0 0
        | h => go.noteHeld t r h

/-- SIGNAL_SEND (R97). -/
def execSignalSend (q : QueueId) : State → Host.Outcome State Fault Refusal := coreCmd (signalSend q)

/-! ## Responses (R74, R77, R78, R88, R278, R390) -/

def Packet.rspStatus (p : Packet) : Nat := p.fld 0x10 0 8
def Packet.rspDetail (p : Packet) : Nat := p.fld 0x11 0 16

/-- Take a response of a type and run `f` on the request it answers, if that still waits; the response of a quarantined tag is
discarded and counted (R390), one of a free tag discarded. Marks on the traffic of a TDM pair throttle nothing (R355). -/
def State.withRsp (s : State) (type : Nat) (f : Nat → Req → InPkt → State → State) : State :=
  s.withPkt 3 type (fun _ => true) (fun i s =>
    let t := i.pkt.tag
    match s.req? t with
    | none => s
    | some r =>
      if r.state = .quarantine ∨ r.state = .firmware then
        let s := s.count blockSlot 8
        if r.func < 64 then s.count (funcSlot r.func) 20 else s
      else if r.state ≠ .sent then s
      else
        let s := (s.count (funcSlot r.func) 3).tracePkt R.TRACE_CTL_PKT 0x14 (if i.port < 10 then i.port else 15) i.pkt.rspStatus (some r.func) i.pkt s.now i.stamp
        let s := if (i.pkt.cm ∨ i.pkt.ce) ∧ ¬ i.pkt.tdm then s.echo r.func r.node else s
        f t r i s)

/-- ACK: the packet has landed or failed (R74). -/
def ackReceive (s : State) : State :=
  s.withRsp 0 (fun t r i s =>
    if [ReqKind.write, .nyesh, .copyWrite, .latch, .signal].contains r.kind then s.reqEnd t r i.pkt.rspStatus i.pkt.rspDetail else s)

/-- ACK_RECEIVE (R74). -/
def execAckReceive : State → Host.Outcome State Fault Refusal := coreCmd ackReceive

/-- DATA: a GET writes its bytes, a COPY goes on with its write half (R77, R78). -/
def dataReceive (s : State) : State :=
  s.withRsp 1 (fun t r i s =>
    let st := i.pkt.rspStatus
    if r.kind = .read then
      if st ≠ 0 then s.reqEnd t r st i.pkt.rspDetail
      else (s.setReq t { r with state := .landing }).physJob r.func r.pa r.len r.ksel .write (padTo r.len i.pkt.payload) 2 (.reqLand t)
    else if r.kind = .copyRead then
      if st ≠ 0 then s.reqEnd t r st i.pkt.rspDetail
      else
        let s := s.tdmDone r
        s.setReq t { r with kind := .copyWrite, state := .ready, node := ptrNode r.rptr, payload := padTo r.len i.pkt.payload, tdm := none, heldBy := 0 }
    else s)

/-- DATA_RECEIVE (R77). -/
def execDataReceive : State → Host.Outcome State Fault Refusal := coreCmd dataReceive

/-- GET data has been written locally, or could not be (R77, R395). -/
def State.landed (s : State) (t : Nat) (x : JobResult) : State :=
  match s.req? t with
  | none => s
  | some r =>
    if r.state ≠ .landing then s
    else if x.fail.isSome then s.reqEnd t r 0x12 (det 1 4)
    else (s.countN (funcSlot r.func) 5 r.len).reqEnd t r 0 0

/-- An atomic has its old value: the record carries it, and the flags of a float operation (R81). -/
def State.atomicOk (s : State) (t : Nat) (r : Req) (old : Nat) : State :=
  let s := s.count (funcSlot r.func) 6
  let s := match s.op? r.op with
    | some o =>
      let w := 8 * atypeBytes (dAtype o.desc)
      s.setOp r.op { o with result := old % 2 ^ w, ieee := (atomicNew (dAop o.desc) (dAtype o.desc) (old % 2 ^ w) (dOperand o.desc) (dCompare o.desc)).2 }
    | none => s
  s.reqEnd t r 0 0

/-- ATOMIC_RSP (R88). -/
def atomicRspReceive (s : State) : State :=
  s.withRsp 2 (fun t r i s =>
    if r.kind ≠ .atomic then s
    else if i.pkt.rspStatus = 0 then s.atomicOk t r (i.pkt.fld 0x20 0 128)
    else (s.count (funcSlot r.func) 6).reqEnd t r i.pkt.rspStatus i.pkt.rspDetail)

/-- ATOMIC_RSP_RECEIVE (R88). -/
def execAtomicRspReceive : State → Host.Outcome State Fault Refusal := coreCmd atomicRspReceive

/-- NO_TRACK: the latch waits at the requester (R93). -/
def noTrackReceive (s : State) : State :=
  s.withRsp 4 (fun t r _ s => if r.kind = .latch then (s.tdmDone r).setReq t { r with state := .held, tdm := none } else s)

/-- NO_TRACK_RECEIVE (R93). -/
def execNoTrackReceive : State → Host.Outcome State Fault Refusal := coreCmd noTrackReceive

/-! ## Work items (R382) -/

/-- Policy is not paused: an image takes work items (R380). -/
def State.wardUp (s : State) : Bool := s.rd R.WARD_STATUS_STATE == 2 || s.rd R.WARD_STATUS_STATE == 3

/-- Post a work item, or keep it while the queue of 4,096 is full. -/
def State.workItem (s : State) (w : WorkItem) : State :=
  if s.core.ward.items.length < 4096 then
    (({ s with core.ward.items := s.core.ward.items ++ [w] }).wr R.WARD_STATUS_ITEMS (s.core.ward.items.length + 1)).count blockSlot 18
  else { s with core.ward.waiting := s.core.ward.waiting ++ [w] }

/-- WORK_ITEM_POST: room has appeared (R382). -/
def workItemPost (s : State) : State :=
  match s.core.ward.waiting with
  | [] => s
  | w :: t => if s.core.ward.items.length < 4096 then ({ s with core.ward.waiting := t }).workItem w else s

/-- WORK_ITEM_POST (R382). -/
def execWorkItemPost : State → Host.Outcome State Fault Refusal := coreCmd workItemPost

/-- The running image takes a work item. -/
def State.takeItem (s : State) (w : WorkItem) : State :=
  let rest := match takeFirst (· == w) s.core.ward.items with
    | some (_, t) => t
    | none => s.core.ward.items
  ({ s with core.ward.items := rest }).wr R.WARD_STATUS_ITEMS rest.length

/-- The item is posted and an image runs. -/
def State.itemDue (s : State) (w : WorkItem) : Bool := s.wardUp && s.core.ward.items.contains w

/-! ## Timeouts and retries (R389-R394) -/

/-- The request may be tried again: its queue permits it, its function is ENABLED (R348), and its descriptor has no fault point, since a
PARTIAL is never retried (R144, R392). -/
def State.mayRetry (s : State) (r : Req) : Bool :=
  s.on (R.QUEUE_CTL_RETRY_OK r.queue) && s.funcState r.func == 1 && (match s.op? r.op with
    | some o => o.faultAt.isNone
    | none => false)

/-- A packet fails and its tag goes, or stays, into quarantine. -/
def State.failQuarantine (s : State) (t : Nat) (r : Req) (status detail : Nat) : State :=
  ((s.quarantine t).post (.func r.func)).opPacket r status detail

/-- The error record of a timeout, once for each, when what follows from it is known; TIME is when the timer expired (R394, R400). -/
def State.logTimeout (s : State) (t : Nat) (r : Req) (detail : Nat) : State :=
  s.logErrAt r.expired 3 (if detail = det 8 0x084 then 0x0D else 0x02) detail 15 (some r.func) r.queue r.node t

/-- An atomic enters the list of those that ended with ATOMIC_UNKNOWN; it is kept until fabric time passes D + 4T, and the oldest goes
where 1,024 are held (R384). -/
def State.keepLost (s : State) (e : LostAtomic) : State :=
  let l := s.core.rq.lost.filter (fun x => decide (s.now ≤ x.dline + 4 * x.tout * usLsb))
  { s with core.rq.lost := (if l.length ≥ 1024 then l.drop 1 else l) ++ [e] }

/-- A query of an atomic had no answer, or an answer that counts as none: it is sent again, or the outcome is unresolved (R88, R384). -/
def State.unresolved (s : State) (t : Nat) (r : Req) (detail : Nat) : State :=
  ((s.keepLost ⟨r.jid.getD 0, r.node, r.dline, r.tout, r.op⟩).logTimeout t r detail).failQuarantine t r 0x0D detail

/-- A query had no answer that counts: it is sent again, at most three times (R88). -/
def State.noAnswer (s : State) (t : Nat) : State :=
  match s.req? t with
  | none => s
  | some r =>
    if r.state ≠ .firmware then s
    else if r.heldBy ≥ 3 then s.unresolved t r (det 8 0x084)
    else s.workItem (.atomic t)

/-- The driver's service request ends with an answer (R384). -/
def State.svcEnd (s : State) (answer old : Nat) : State :=
  let s := (s.wr R.WARD_SVC_STATUS_BUSY 0).wr R.WARD_SVC_STATUS_ANSWER answer
  (List.range 4).foldl (fun s i => s.wr (R.WARD_SVC_OLD_DATA i) (bits old (32 * i) 32)) ({ s with core.ward.svcTries := 0 })

/-- The driver's query had no answer: again, or UNKNOWN after the third. -/
def State.svcNoAnswer (s : State) : State :=
  if s.core.ward.svcTries ≥ 3 then s.svcEnd 2 0 else s.workItem .service

/-- REQUEST_TIMEOUT: a request's timer expires (R389, R391). A held latch times out at D + 16 ns of fabric time (R93). -/
def requestTimeout (tag : TagId) (s : State) : State :=
  let t := tag.val
  match s.req? t with
  | none => s
  | some r =>
    let heldEarly := r.kind == .latch && r.hdr == 1 && decide (s.now < r.dline + 1024)
    if r.state ≠ .sent ∨ r.kind = .atomic ∨ r.kind = .bolt ∨ heldEarly then s
    else
      let s := ((s.count (funcSlot r.func) 7).tracePkt R.TRACE_CTL_PKT 0x15 15 0x02 (some r.func) (s.reqPacket t r false) s.now r.tries)
      let s := (s.writeEnded r true).tdmDone r
      let r := { r with counted := none, uncounted := false, tdm := none, expired := s.now }
      let s := s.setReq t r
      if r.kind = .jquery then ((s.logTimeout t r 0).quarantine t).noAnswer r.pkt
      else if r.kind = .jservice then ((s.logTimeout t r 0).quarantine t).svcNoAnswer
      else if r.kind = .latch ∨ r.kind = .signal then (s.logTimeout t r (det 8 0x085)).failQuarantine t r 0x02 (det 8 0x085)
      else
        if s.mayRetry r then (s.setReq t { r with state := .firmware, payload := [], staged := false }).workItem (.retry t)
        else (s.logTimeout t r (det 8 0x081)).failQuarantine t r 0x02 (det 8 0x081)

/-- REQUEST_TIMEOUT (R389). -/
def execRequestTimeout (t : TagId) : State → Host.Outcome State Fault Refusal := coreCmd (requestTimeout t)

/-- ATOMIC_TIMEOUT: fabric time reaches D + 16 ns without a response; policy firmware resolves the atomic (R88). -/
def atomicTimeout (tag : TagId) (s : State) : State :=
  let t := tag.val
  match s.req? t with
  | none => s
  | some r =>
    if r.kind ≠ .atomic ∨ ¬ (r.state = .sent ∨ r.state = .queued) ∨ s.now < r.dline + 1024 then s
    else
      let s := ((s.count (funcSlot r.func) 7).writeEnded r true).tdmDone r
      let s := s.tracePkt R.TRACE_CTL_PKT 0x15 15 0x02 (some r.func) (s.reqPacket t r false) s.now r.tries
      (s.setReq t { r with state := .firmware, counted := none, uncounted := false, tdm := none, heldBy := 0, expired := s.now }).workItem (.atomic t)

/-- ATOMIC_TIMEOUT (R88). -/
def execAtomicTimeout (t : TagId) : State → Host.Outcome State Fault Refusal := coreCmd (atomicTimeout t)

/-- TAG_QUARANTINE_END: 4T have passed since the request was sent (R390). -/
def tagQuarantineEnd (tag : TagId) (s : State) : State :=
  match s.req? tag.val with
  | some r => if r.state = .quarantine then s.freeTag tag.val else s
  | none => s

/-- TAG_QUARANTINE_END (R390). -/
def execTagQuarantineEnd (t : TagId) : State → Host.Outcome State Fault Refusal := coreCmd (tagQuarantineEnd t)

/-- A timed-out request fails without another attempt: an atomic was not performed (R394). -/
def State.giveUp (s : State) (t : Nat) (r : Req) (reason : Nat) : State :=
  let reason := if r.kind = .atomic then 0x083 else reason
  (s.logTimeout t r (det 8 reason)).failQuarantine t r 0x02 (det 8 reason)

/-- Reissue a timed-out request under a new tag (R88, R392): its data is read again, and it goes uncounted. -/
def State.reissue (s : State) (t : Nat) (r : Req) (n : Nat) : State :=
  let kind := if r.kind = .copyWrite then ReqKind.copyRead else r.kind
  let instant := kind == .copyRead || kind == .atomic
  let node := if r.kind = .copyWrite then ptrNode r.ptr else r.node
  let x := { r with kind := kind, state := if instant then .ready else .prep, tries := r.tries + 1, counted := none, uncounted := false,
                    staged := kind == .copyRead, order := s.core.rq.sendOrder, node := node, heldBy := 0, tdm := none, pre := .free }
  let s := (s.quarantine t).enterReq n x
  let s := match s.op? r.op with
    | some o => s.setOp r.op { o with retried := true }
    | none => s
  let s := (s.logTimeout t r (det 8 0x082)).count (funcSlot r.func) 8
  s.prepReq n x

/-- Try to reissue: refused when the function drains or after seven reissues; it waits for a tag or a staging slot. -/
def State.tryReissue (s : State) (t : Nat) (r : Req) : State × Bool :=
  if ¬ s.mayRetry r then (s.giveUp t r 0x081, true)
  else if r.tries ≥ 7 then (s.giveUp t r 0x080, true)
  else match s.allocTag r.queue r.func with
    | none => (s.wr R.WARD_CLAMP_TAGS 1, false)
    | some n =>
      if (r.kind = .copyRead ∨ r.kind = .copyWrite) ∧ s.stagingUsed ≥ 2 ^ s.build.stagingLog2 then (s, false)
      else (s.reissue t r n, true)

/-- RETRY_REISSUE: policy firmware reissues a timed-out request (R392). -/
def retryReissue (tag : TagId) (s : State) : State :=
  let t := tag.val
  match s.req? t with
  | none => s
  | some r =>
    if r.state ≠ .firmware ∨ ¬ s.itemDue (.retry t) then s
    else if r.kind = .bolt then s
    else
      let (s, ended) := s.tryReissue t r
      if ended then s.takeItem (.retry t) else s

/-- Send a journal query under a new tag (R88). -/
def State.query (s : State) (kind : ReqKind) (link : Nat) (q f node jid dline tout : Nat) : Option State :=
  if s.on R.GLOBAL_START_STATUS_HOLDING then none
  else match s.allocTag q f with
    | none => none
    | some n =>
      let r : Req := ⟨kind, .ready, 0, q, f, link, 0, 0, 0, 0, 0, 0, [], 0, 0, none, false, false, tout, dline, some jid, 0, node, s.core.rq.sendOrder, ⟨0, 0, 0, 0⟩, none, 0, .free, 0⟩
      match s.reqHeld r with
      | .no => some ((s.enterReq n r).sendReq n r false)
      | _ => none

/-- The driver's request is decided: not listed, or a query once fabric time has passed D + 16 ns (R384). -/
def State.service (s : State) : State :=
  let (jid, node) := s.core.ward.svc
  match s.core.rq.lost.find? (fun e => e.jid == jid && e.node == node && decide (s.now ≤ e.dline + 4 * e.tout * usLsb)) with
  | none => (s.takeItem .service).svcEnd 3 0
  | some e =>
    if s.now ≤ e.dline + 1024 then s
    else match s.query .jservice 0 (bits jid 32 12) (s.qFunc (bits jid 32 12)) node jid e.dline e.tout with
      | none => s
      | some s => let s := s.takeItem .service; { s with core.ward.svcTries := s.core.ward.svcTries + 1 }

/-- JOURNAL_QUERY_SEND: policy firmware queries the journal for a timed-out atomic, or for the driver's service request when the tag
holds none (R88, R384; log entry 7). `heldBy` of the atomic's request counts its queries. -/
def journalQuerySend (tag : TagId) (s : State) : State :=
  let t := tag.val
  match s.req? t, s.itemDue (.atomic t) with
  | some r, true =>
    if r.state ≠ .firmware then s
    else if s.now ≥ r.dline + 3 * r.tout * usLsb then (s.takeItem (.atomic t)).unresolved t r (det 8 0x084)
    else match s.query .jquery t r.queue r.func r.node (r.jid.getD 0) r.dline r.tout with
      | none => s
      | some s => (s.takeItem (.atomic t)).setReq t { r with heldBy := r.heldBy + 1 }
  | _, _ => if s.itemDue .service && s.rd R.WARD_STATUS_STATE == 2 then s.service else s

/-- JOURNAL_QUERY_SEND (R88). -/
def execJournalQuerySend (t : TagId) : State → Host.Outcome State Fault Refusal := coreCmd (journalQuerySend t)

/-- JANSWER: the atomic is resolved, reissued or queried again (R88), or the driver's request is answered (R384). -/
def janswerReceive (s : State) : State :=
  s.withRsp 3 (fun n x i s =>
    let good := i.pkt.rspStatus == 0
    let ans := i.pkt.fld 0x13 0 2
    let old := i.pkt.fld 0x20 0 128
    if x.kind = .jservice then
      let s := (s.tdmDone x).freeTag n
      if ¬ good then s.svcNoAnswer else s.svcEnd ans (if ans = 0 then old else 0)
    else if x.kind ≠ .jquery then s
    else
      let s := (s.tdmDone x).freeTag n
      let t := x.pkt
      match s.req? t with
      | none => s
      | some r =>
        if r.state ≠ .firmware then s
        else if ¬ good then s.noAnswer t
        else if ans = 0 then
          let s := ((s.count (funcSlot r.func) 6).logTimeout t r 0).quarantine t
          match s.op? r.op with
          | some o =>
            let w := 8 * atypeBytes (dAtype o.desc)
            (s.setOp r.op { o with result := old % 2 ^ w, ieee := (atomicNew (dAop o.desc) (dAtype o.desc) (old % 2 ^ w) (dOperand o.desc) (dCompare o.desc)).2 }).opPacket r 0 0
          | none => s
        else if ans = 1 then
          if ¬ s.wardUp ∧ s.mayRetry r then s.workItem (.retry t)
          else
            let (s, ended) := s.tryReissue t r
            if ended then s else s.workItem (.retry t)
        else s.unresolved t r (det 8 0x084))

/-- JANSWER_RECEIVE (R88). -/
def execJanswerReceive : State → Host.Outcome State Fault Refusal := coreCmd janswerReceive

end Sys2Proof.Machine
end

