-- ==== Sys2Proof/Machine/Tumbler.lean ====
section
/-! DEFINITION. Code tables of the Tumbler expanders (R207-R212, R232). -/

namespace Sys2Proof.Machine

/-! ## Slots (R209, R232) -/

/-- State of version slot `k` of a table: 0 ABSENT, 1 LOADING, 2 RESIDENT, 3 DRAINING. -/
def State.tblState (s : State) (t k : Nat) : Nat := s.rd (if k = 0 then R.TUMBLER_TBL_STATE_A t else R.TUMBLER_TBL_STATE_B t)
def State.setTblState (s : State) (t k v : Nat) : State := s.wr (if k = 0 then R.TUMBLER_TBL_STATE_A t else R.TUMBLER_TBL_STATE_B t) v
def State.tblVer (s : State) (t k : Nat) : Nat := s.rd (if k = 0 then R.TUMBLER_TBL_VER_A t else R.TUMBLER_TBL_VER_B t)
def State.setTblVer (s : State) (t k v : Nat) : State := s.wr (if k = 0 then R.TUMBLER_TBL_VER_A t else R.TUMBLER_TBL_VER_B t) v
def State.tblRefs (s : State) (t k : Nat) : Nat := s.rd (if k = 0 then R.TUMBLER_REFS_REFS_A t else R.TUMBLER_REFS_REFS_B t)
def State.setTblRefs (s : State) (t k v : Nat) : State := s.wr (if k = 0 then R.TUMBLER_REFS_REFS_A t else R.TUMBLER_REFS_REFS_B t) v
def State.setTblBits (s : State) (t k v : Nat) : State :=
  s.wr (if k = 0 then R.TUMBLER_TBL_SYMBITS_A t else R.TUMBLER_TBL_SYMBITS_B t) v

/-- The slot that holds a version in a state that `f` picks. -/
def State.tblFind (s : State) (t v : Nat) (f : Nat → Bool) : Option Nat :=
  [0, 1].find? (fun k => f (s.tblState t k) && s.tblVer t k == v)

/-- Image of the version a header names, if it is RESIDENT (check 3 of R214), with its table x 2 + slot. -/
def State.resident (s : State) (h : Nat) : Option (Nat × Bytes) :=
  (s.tblFind (nyTable h) (nyVersion h) (· == 2)).map (fun k => (nyTable h * 2 + k, SMap.getD s.core.tables.images (nyTable h * 2 + k) []))

/-- A block takes a reference. -/
def State.takeRef (s : State) (key : Nat) : State := s.setTblRefs (key / 2) (key % 2) (s.tblRefs (key / 2) (key % 2) + 1)

/-- A block's reference ends; a draining slot may be free now. -/
def State.dropRef (s : State) (key : Nat) : State :=
  (s.setTblRefs (key / 2) (key % 2) (s.tblRefs (key / 2) (key % 2) - 1)).post (.table (key / 2))

/-! ## Loads and retires (R210, R211) -/

/-- A load or retire starts or ends: LOAD_BUSY follows. -/
def State.setLoads (s : State) (l : SMap TableLoad) : State :=
  ({ s with core.tables.loads := l }).wr R.TUMBLER_STATUS_LOAD_BUSY (b2n (!l.isEmpty))

/-- A slot starts LOADING a version: its image is read in F0's space. -/
def State.loadStart (s : State) (t k : Nat) (l : TableLoad) : State :=
  match s.op? l.op with
  | none => s
  | some o =>
    let d := o.desc
    let s := { s with core.tables.images := SMap.del s.core.tables.images (t * 2 + k) }
    let s := ((s.setTblState t k 1).setTblVer t k (dVersion d)).setLoads (SMap.put s.core.tables.loads t { l with waits := false })
    s.virtJob 0 (dSrc d) (dTblLength d) .read [] 5 o.queue (.tableImage t)

/-- The slot a load takes: a free one, else one without references, else the older (R210). -/
def State.loadSlot (s : State) (t : Nat) : Nat :=
  let older := s.rd (R.TUMBLER_TBL_OLDER t)
  if s.tblState t 0 = 0 then 0 else if s.tblState t 1 = 0 then 1
  else if s.tblRefs t 0 = 0 ∧ s.tblRefs t 1 = 0 then older
  else if s.tblRefs t 0 = 0 then 0 else if s.tblRefs t 1 = 0 then 1 else older

/-- A draining slot whose references are gone goes on (R210). -/
def State.tableStep (s : State) (t : Nat) : State :=
  match SMap.get? s.core.tables.loads t with
  | none => s
  | some l =>
    if ¬ l.waits ∨ s.tblRefs t l.slot ≠ 0 then s
    else if l.retire then
      let s := { s with core.tables.images := SMap.del s.core.tables.images (t * 2 + l.slot) }
      ((s.setTblState t l.slot 0).setLoads (SMap.del s.core.tables.loads t)).endOp l.op 0 0 0 0
    else s.loadStart t l.slot l

/-- The reason of R211 that refuses a TABLE_LOAD. -/
def State.tableRefusal (s : State) (d : BitVec 1024) : Option Nat :=
  let n := dTblLength d
  let t := dTable d
  if ¬ [0, 32, 48, 272].contains n then some 0x05A
  else if n ≠ 0 ∧ (s.tblFind t (dVersion d) (· != 0)).isSome then some 0x05B
  else if n = 0 ∧ (s.tblFind t (dVersion d) (· == 2)).isNone then some 0x05C
  else none

/-- TABLE_LOAD: a load or a retire of a version; a second one for a table holds its queue until the first ends (R210, R211). -/
def tableLoad (q : QueueId) (s : State) : State :=
  match s.ready q.val 0x30 (fun _ => []) with
  | .no => s
  | .fails h r => s.completeHead q.val h 0x05 (det 0 r)
  | .ok h =>
    let d := h.desc
    let t := dTable d
    if s.held q.val h (tableRanges d) ∨ (SMap.get? s.core.tables.loads t).isSome then s
    else
      let (id, s) := s.issue q.val h (tableRanges d)
      match s.tableRefusal d with
      | some r => s.endOp id 0x05 (det 5 r) 0 0
      | none =>
        let s := (s.wr R.TUMBLER_STATUS_LOAD_TABLE t).wr R.TUMBLER_STATUS_LOAD_VERSION (dVersion d)
        if dTblLength d = 0 then
          let k := (s.tblFind t (dVersion d) (· == 2)).getD 0
          ((s.setTblState t k 3).setLoads (SMap.put s.core.tables.loads t ⟨id, k, true, true, none⟩)).tableStep t
        else
          let k := s.loadSlot t
          if s.tblState t k = 2 ∧ s.tblRefs t k ≠ 0 then
            (s.setTblState t k 3).setLoads (SMap.put s.core.tables.loads t ⟨id, k, false, true, none⟩)
          else s.loadStart t k ⟨id, k, false, false, none⟩

/-- TABLE_LOAD (R210). -/
def execTableLoad (q : QueueId) : State → Host.Outcome State Fault Refusal := coreCmd (tableLoad q)

/-- The image of a load has been read, or could not be. -/
def State.tableRead (s : State) (t : Nat) (r : JobResult) : State :=
  { s with core.tables.loads := SMap.modify s.core.tables.loads t (fun l => { l with read := some r }) }

/-- A load whose image is read ends (R210, R395, R135); PARTIAL names the fault point (R71). -/
def State.loadEnd (s : State) (t : Nat) (l : TableLoad) (r : JobResult) : State :=
  let gone (s : State) : State := (s.setTblState t l.slot 0).setLoads (SMap.del s.core.tables.loads t)
  match r.fail with
  | some (.xlate _) => (gone s).endOp l.op 0x01 (det 1 1) r.pos 0
  | some (.msp _) => (gone s).endOp l.op 0x0F (det 5 0x05D) 0 0
  | none =>
    if tableValid r.data then
      let other := 1 - l.slot
      let s := (s.setTblState t l.slot 2).setTblBits t l.slot (tableBits r.data)
      let s := s.wr (R.TUMBLER_TBL_OLDER t) (if s.tblState t other = 2 then other else l.slot)
      (({ s with core.tables.images := SMap.put s.core.tables.images (t * 2 + l.slot) r.data }).setLoads
        (SMap.del s.core.tables.loads t)).endOp l.op 0 0 0 0
    else (gone s).endOp l.op 0x05 (det 5 0x05A) 0 0

/-- TABLE_LOAD_READ_DONE: the first load whose image has been read ends (log entry 7). -/
def tableLoadReadDone (s : State) : State :=
  match s.core.tables.loads.find? (fun l => l.2.read.isSome) with
  | some (t, l) => match l.read with
    | some r => if s.fatal then s else s.loadEnd t l r
    | none => s
  | none => s

/-- TABLE_LOAD_READ_DONE (R210). -/
def execTableLoadReadDone : State → Host.Outcome State Fault Refusal := coreCmd tableLoadReadDone

end Sys2Proof.Machine
end

