-- ==== Sys2Proof/Machine/Responder.lean ====
section
/-! DEFINITION. The responder, the latch tracker, the atomic unit and its journal (R20, R80-R95, R111-R121, R213-R219, R395, R396). -/

namespace Sys2Proof.Machine

/-! ## Arrivals -/

def State.arr? (s : State) (id : Nat) : Option Arrival := SMap.get? s.core.resp.arrivals id
def State.setArr (s : State) (id : Nat) (a : Arrival) : State := { s with core.resp.arrivals := SMap.put s.core.resp.arrivals id a }
def State.delArr (s : State) (id : Nat) : State := { s with core.resp.arrivals := SMap.del s.core.resp.arrivals id }

def State.win (s : State) (w : Nat) : Window := SMap.getD s.core.win.table w Window.empty
def State.setWin (s : State) (w : Nat) (x : Window) : State :=
  { s with core.win.table := SMap.putD s.core.win.table w x Window.empty }

/-- The fabric pointer of a request (R276). -/
def Packet.ptr (p : Packet) : Nat := p.fld 0x10 0 96
def Packet.counted (p : Packet) : Bool := p.fld 0x1C 0 1 == 1 && [0, 2, 3, 5].contains p.type && p.cls != 5
def Packet.heldLatch (p : Packet) : Bool := p.fld 0x1C 1 1 == 1
def Packet.expand (p : Packet) : Bool := p.fld 0x1C 2 1 == 1
def Packet.crcMode (p : Packet) : Bool := p.fld 0x1C 3 1 == 1
def Packet.linc (p : Packet) : Nat := p.fld 0x1D 0 8
def Packet.aop (p : Packet) : Nat := p.fld 0x1E 0 4
def Packet.atype (p : Packet) : Nat := p.fld 0x1E 4 4
def Packet.nseq (p : Packet) : Nat := p.fld 0x20 0 32
def Packet.deadline (p : Packet) : Nat := p.fld 0x24 0 40
def Packet.tout (p : Packet) : Nat := p.fld 0x29 0 20
def Packet.jid (p : Packet) : Nat := p.fld 0x30 0 64
def Packet.nyhdr (p : Packet) : Nat := p.fld 0x30 0 128

/-- The deadline has passed, as a 40-bit serial number (R276). -/
def State.pastDeadline (s : State) (d : Nat) : Bool := decide (subMod 40 (s.now / 2 ^ 8) d < 2 ^ 39)

/-! ## Responses (R267, R278, R293) -/

/-- Response type to a request type. -/
def rspType (t : Nat) : Nat := if t = 1 then 1 else if t = 2 then 2 else if t = 6 then 3 else 0

/-- Answer a request: its congestion mark is echoed, and a request of a TDM pair is answered in the reverse circuit. -/
def State.respond (s : State) (port : Nat) (req : Packet) (func : Option Nat) (type : Nat) (cm : Bool) (status detail : Nat)
    (fields : List (Nat × Nat × Nat)) (data : Bytes) : State :=
  let p := mkPacket 3 type req.srcNode s.self req.squeue req.tag data.length
    ([hf 1 5 1 (b2n cm), hf 0x10 0 8 status, hf 0x11 0 16 detail] ++ fields) data
  let pair := if req.tdm then (s.incoming port req.circuit).bind (fun x => s.pairOf x.2) else none
  match pair with
  | some (k, c) =>
    let p := (p.set 0x0C 18 8 c.outIndex).set 0x0C 26 1 1
    s.setCircuit k { c with tdm := c.tdm ++ [⟨10, c.outPort, false, 0, func, none, p, 0⟩] }
  | none =>
    let s := if req.srcNode = s.self then s.tracePkt R.TRACE_CTL_PKT 0x13 15 status func p s.now 0 else s
    s.inject func none p

/-! ## The latch tracker (R92) -/

def Track.isKey (e : Track) (p : Packet) : Bool := e.node == p.srcNode && e.queue == p.squeue && e.linc == p.linc

/-- A tracker entry holds a latch in a hold slot. -/
def State.holdsLatch (s : State) (e : Track) : Bool := (SMap.vals s.core.resp.holds).any (fun i => e.isKey i.pkt)

/-- A counted write arrives: number 0 creates or resets its entry, one beyond the map marks it untracked. -/
def State.trackIn (s : State) (p : Packet) : State :=
  if ¬ p.counted then s
  else
    let ts := s.core.resp.tracks
    let rest := ts.filter (fun e => !e.isKey p)
    let set (l : List Track) : State := ({ s with core.resp.tracks := l }).post .latches
    if p.nseq = 0 then
      let room := if rest.length < 4096 then rest else match takeFirst (fun e => !s.holdsLatch e) rest with
        | some (_, t) => t
        | none => rest
      set (room ++ [⟨p.srcNode, p.squeue, p.linc, 0, [], [], false⟩])
    else match ts.find? (·.isKey p) with
      | none => s
      | some e =>
        let d := subMod 32 p.nseq e.p
        set (rest ++ [if 256 ≤ d ∧ d < 2 ^ 31 then { e with untracked := true } else e])

/-- P passes each run of committed numbers. -/
def Track.run : Nat → Track → Track
  | 0, e => e
  | n + 1, e => if e.commits.contains e.p then Track.run n { e with p := (e.p + 1) % 2 ^ 32, commits := e.commits.filter (· ≠ e.p) } else e

/-- A counted write has committed, or has ended with another status than OK. -/
def State.trackEnd (s : State) (p : Packet) (ok : Bool) : State :=
  if ¬ p.counted then s
  else
    let upd (e : Track) : Track :=
      if ¬ e.isKey p then e
      else if ok then
        (if subMod 32 p.nseq e.p < 2 ^ 31 then Track.run 257 { e with commits := e.commits ++ [p.nseq] } else e)
      else { e with failed := e.failed ++ [p.nseq] }
    ({ s with core.resp.tracks := s.core.resp.tracks.map upd }).post .latches

/-- A counted write is forwarded (R121). -/
def State.trackAway (s : State) (p : Packet) : State :=
  if ¬ p.counted then s
  else ({ s with core.resp.tracks := s.core.resp.tracks.map (fun (e : Track) => if e.isKey p then { e with untracked := true } else e) }).post .latches

/-- Row of R93 that a held latch meets: 1 refused, 2 and 5 NO_TRACK, 3 committed, 4 held; `slot` says whether it has or can have a
hold slot. -/
def State.latchRow (s : State) (p : Packet) (slot : Bool) : Nat :=
  match s.core.resp.tracks.find? (·.isKey p) with
  | none => 2
  | some e =>
    let n := p.nseq
    if e.failed.any (fun x => x != n && decide (subMod 32 n x < 2 ^ 31)) then 1
    else if e.untracked then 2
    else if subMod 32 e.p n < 2 ^ 31 then 3
    else if slot then 4 else 5

/-! ## The window lookup (R20, R105-R113, R118) -/

/-- What checks 1 to 4 of R20 find. -/
inductive Lookup where
  /-- a check fails: status, REASON, and the owner the refusal counts for -/
  | fails (status reason : Nat) (owner : Option Nat)
  /-- open -/
  | ok (w : Window)
  /-- aliased -/
  | alias_ (w : Window)
deriving DecidableEq, Repr

/-- Permission bit an arrival needs (R112): READ 0, WRITE 1, ATOMIC 2, SIGNAL 3. -/
def needPerm (type : Nat) : Nat := if type = 1 then 0 else if type = 2 then 2 else if type = 4 then 3 else 1

/-- Length L of R112; none for a Nyesh block whose FMT is none of R202's. -/
def arrivalLen (p : Packet) : Option Nat :=
  if p.type = 2 then some (atypeBytes p.atype)
  else if p.type = 4 then some 8
  else if p.type = 5 then
    if p.expand then (nySize (nyFmt p.nyhdr)).map (fun z => nyDecLen p.nyhdr * z) else
      (nySize (nyFmt p.nyhdr)).map (fun _ => 16 + nyBodyLen p.nyhdr)
  else some p.len

/-- Checks 1 to 4 of R20 for an access of a permission and length at a pointer. -/
def State.lookup (s : State) (ptr perm : Nat) (len : Option Nat) : Lookup :=
  let w := s.win (ptrWindow ptr)
  let owned := w.state != .free && w.state != .quarantine
  let owner := if owned then some w.func else none
  if owned ∧ ¬ s.funcEnabled w.func then .fails 0x0C 0x010 owner
  else if w.state ≠ .opened ∧ w.state ≠ .aliased then .fails 0x03 0x011 owner
  else if ptrGen ptr ≠ w.gen then .fails 0x04 0x012 owner
  else if ¬ bit w.perm perm then .fails 0x05 0x013 owner
  else match len with
    | none => .fails 0x05 0x014 owner
    | some n =>
      if ptrOffset ptr + n > w.size ∨ (perm = 3 ∧ ptrOffset ptr % 8 ≠ 0) then .fails 0x05 0x014 owner
      else if w.state = .aliased then .alias_ w else .ok w

/-- The lookup of a request. -/
def State.lookupReq (s : State) (p : Packet) : Lookup := s.lookup p.ptr (needPerm p.type) (arrivalLen p)

/-- Count a refusal at a window for its owner (R409). -/
def State.countRefused (s : State) (owner : Option Nat) (status : Nat) : State :=
  match owner with
  | none => s
  | some f =>
    let e := if status = 0x0C then 22 else if status = 0x03 then 23 else if status = 0x04 then 24 else if status = 0x05 then 25 else 26
    s.count (funcSlot f) e

/-- The lookup is traced (R417). -/
def State.traceRecv (s : State) (port stamp : Nat) (func : Option Nat) (status : Nat) (p : Packet) : State :=
  s.tracePkt R.TRACE_CTL_PKT 0x12 (if port < 10 then port else 15) status func p s.now (if port < 10 then stamp else 0)

/-- A request is refused: a counted one sets FAILED (R92). -/
def State.refuse (s : State) (port : Nat) (p : Packet) (func : Option Nat) (cm : Bool) (status detail : Nat) : State :=
  (s.trackEnd p false).respond port p func (rspType p.type) cm status detail [] []

/-- Packets whose accesses the responder has accepted and not finished: its queue toward the MSPs (R292). -/
def State.respBacklog (s : State) : Nat := (s.core.resp.arrivals.filter (fun a => a.2.window.isSome)).length

/-- The congestion mark in the responder's view of an accepted request (R292); none arises from the traffic of a TDM pair (R355). -/
def State.respMark (s : State) (p : Packet) : Bool := !p.tdm && (p.cm || decide (s.respBacklog ≥ max 1 (s.rd R.RATE_CTL_RESP_THRESH)))

/-! ## Landing bolt transfers (R265) -/

def Packet.xferNo (p : Packet) : Nat := p.fld 0x1C 0 16
def Packet.boltPkt (p : Packet) : Nat := p.fld 0x20 0 32

/-- A landing is over: every packet committed or refused, or an ABORT marker, and nothing in progress. -/
def Landing.over (l : Landing) : Bool :=
  l.open_ == 0 && (l.aborted || (match l.last with
    | some n => decide (l.got ≥ n + 1)
    | none => false))

/-- Change the landing of a transfer. -/
def State.modLanding (s : State) (key num : Nat) (f : Landing → Landing) : State :=
  match s.circuit? key with
  | none => s
  | some c => s.setCircuit key { c with land := c.land.map (fun l => if l.num = num then f l else l) }

/-- RX_SIG rises for a transfer committed whole, passing R20 as a SIGNAL; SLOT_LATE follows its markers. At an ALIASED window it is
forwarded as R118 forwards a SIGNAL, in the name of the transfer's source and tag; FWD has no field for SLOT_LATE (log entry 33). -/
def State.rxSignal (s : State) (c : Circuit) (l : Landing) : State :=
  let sig := c.rxSig
  let markers := l.markers
  if sig = 0 then s
  else match s.lookup sig 3 (some 8) with
    | .ok w =>
      let i := (s.rd (R.FUNC_SIG_BASE_BASE w.func) + (w.base + ptrOffset sig) / 8) % 65536
      let s := (s.count (funcSlot w.func) 21).addSig i 1
      if markers = 0 then s else s.setSig i (s.sig i % 2 ^ 63 + 2 ^ 63)
    | .alias_ w =>
      let ptr := ptrAdd w.aliasTo (ptrOffset sig)
      s.inject none none (mkPacket 2 4 (ptrNode ptr) c.src l.queue l.tag 0 [hf 0x10 0 96 ptr, hf 0x38 0 64 1] [])
    | .fails st _ owner => s.countRefused owner st

/-- See whether a transfer has landed: the counter rises and the source is told. A packet that an alias has forwarded is finished here and
not known to be committed, so the counter stays (the model's choice, log entry 33). -/
def State.landingCheck (s : State) (key num : Nat) : State :=
  match s.circuit? key with
  | none => s
  | some c => match c.land.find? (·.num == num) with
    | none => s
    | some l =>
      if ¬ l.over then s
      else
        let s := s.setCircuit key { c with land := c.land.filter (·.num != num) }
        let (st, de) := if l.overflow then (0x12, 7 * 4096 + 0x079) else match l.fail with
          | some (_, a, b) => (a, b)
          | none => (0, 0)
        let s := if st = 0 ∧ ¬ l.aborted ∧ ¬ l.away then s.rxSignal c l else s
        s.inject (some c.func) none (mkPacket 3 5 c.src s.self l.queue l.tag 0
          [hf 0x10 0 8 st, hf 0x11 0 16 de, hf 0x14 0 32 l.markers, hf 0x18 0 64 l.bytes] [])

/-- A packet of a transfer has been committed or refused. -/
def State.boltLanded (s : State) (key : Nat) (p : Packet) (status detail : Nat) : State :=
  (s.modLanding key p.xferNo (fun l =>
    let n := p.boltPkt
    let fail := if status = 0 then l.fail else match l.fail with
      | some (m, a, b) => if m ≤ n then some (m, a, b) else some (n, status, detail)
      | none => some (n, status, detail)
    { l with open_ := l.open_ - 1, got := l.got + 1, bytes := l.bytes + (if status = 0 then p.len else 0), fail := fail })).landingCheck key p.xferNo

/-! ## The end of an accepted access (R114) -/

/-- A finished access leaves: ACCEPTED falls, a code table loses its reference, and what waits for it looks again. -/
def State.arrFinish (s : State) (id : Nat) (a : Arrival) : State :=
  let s := s.delArr id
  let s := match a.window with
    | some w => let x := s.win w; (s.setWin w { x with accepted := x.accepted - 1 }).post (.window w)
    | none => s
  let s := match a.tref with
    | some k => s.dropRef k
    | none => s
  let s := if a.la.isNone then s.post (.func a.func) else s
  let waiting := s.core.resp.arrivals.filter (fun x => x.2.phase == .turn)
  waiting.foldl (fun s x => s.post (.atomic x.1)) s

/-- Finish a write with a status and acknowledge it (R21). -/
def State.arrAck (s : State) (id : Nat) (a : Arrival) (status detail : Nat) : State :=
  let s := s.arrFinish id a
  match a.xfer with
  | some k => s.boltLanded k a.pkt status detail
  | none => (s.trackEnd a.pkt (status == 0)).respond a.port a.pkt (some a.func) (rspType a.pkt.type) a.cm status detail [] []

/-! ## Nyesh blocks (R214, R219, R221) -/

/-- The gate whose Tumbler expander holds a block (R221). -/
def State.tumblerOf (s : State) (port src : Nat) : Nat := if port < 8 then port else src % max 1 s.build.gates

/-- Blocks a Tumbler expander holds: of Nyesh PUTs, and of running collectives until they are written (R221). -/
def State.tumblerHeld (s : State) (g : Nat) : Nat :=
  ((SMap.vals s.core.col.groups).map (fun x => match x.coll with
    | some c => (c.deliv.filter (fun e => e.2.unit == some g)).length
    | none => 0)).sum
  + (s.core.resp.arrivals.filter (fun a => a.2.la.isNone && a.2.pkt.cls != 5 && a.2.pkt.type == 5 && s.tumblerOf a.2.port a.2.pkt.srcNode == g)).length

/-- Count a block that ended with a Tumbler status. -/
def State.countTumbler (s : State) (g : Nat) (func : Option Nat) (status : Nat) : State :=
  let s := if 7 ≤ status ∧ status ≤ 10 then s.count (unitSlot g) (2 + status) else s
  match func with
  | some f => s.count (funcSlot f) 16
  | none => s

/-- The bytes an accepted Nyesh block writes, its status and REASON (R219, R220). -/
def nyWrite (h : Nat) (body : Bytes) (img : Bytes) (expand : Bool) : Bytes × Nat × Nat :=
  let vals := (nyValues h img body).getD []
  let p := nyProduced h body
  let n := nyDecLen h
  if expand then
    let bytes := elemBytes ((nySize (nyFmt h)).getD 1) ((nyDense h body vals).take (min p n))
    if p > n then (bytes, 0x09, 0x056) else if p < n then (bytes, 0x0A, 0x057) else (bytes, 0, 0)
  else if p = n then (toLE 16 h ++ body, 0, 0) else ([], 0x08, 0x058)

/-! ## Acceptance (R111, R113) -/

/-- A page of the access beyond the first: the accesses that cross one are written in two parts. -/
def Arrival.space (a : Arrival) (r : JobResult) : Space :=
  let n := 4096 - a.va % 4096
  if n < a.len then .split n (r.pa / 4096 * 4096) r.ksel else .phys r.ksel

/-- Start the physical access of an accepted arrival (R114). -/
def State.arrJob (s : State) (id : Nat) (a : Arrival) (sp : Space) (len : Nat) (acc : Acc) (data : Bytes) : State :=
  s.startJob ⟨a.func, a.pa, len, sp, acc, data, 4, 1, 0, 0, 0, 0, 0, .arrAccess id⟩

/-- A request is accepted (R111, R114). -/
def State.accept (s : State) (id : Nat) (a : Arrival) (w : Window) (r : JobResult) : State :=
  let p := a.pkt
  let wid := ptrWindow p.ptr
  let s := ((s.traceRecv a.port a.stamp (some w.func) 0 p).count (funcSlot w.func) 21).setWin wid { w with accepted := w.accepted + 1 }
  let a := { a with window := some wid, func := w.func, pa := r.pa0, ksel := r.ksel, cm := s.respMark p, phase := .access }
  let s := s.setArr id a
  if p.type = 1 then s.arrJob id a (a.space r) p.len .read []
  else if p.type = 2 then (s.setArr id { a with phase := .turn }).post (.atomic id)
  else if p.type = 4 then
    let i := (s.rd (R.FUNC_SIG_BASE_BASE w.func) + (w.base + ptrOffset p.ptr) / 8) % 65536
    (s.addSig i (p.fld 0x38 0 64)).arrAck id a 0 0
  else if p.type = 5 then
    let img := match a.tref with
      | some k => SMap.getD s.core.tables.images k []
      | none => []
    let (bytes, st, re) := nyWrite p.nyhdr p.payload img p.expand
    let g := s.tumblerOf a.port p.srcNode
    let s := if st = 0x08 then s else ((s.count (unitSlot g) (if p.expand then 7 else 8))).count (funcSlot w.func) 15
    let s := if st ≠ 0 then s.countTumbler g (some w.func) st else s
    let a := { a with status := st, detail := if st = 0 then 0 else det 5 re }
    (s.setArr id a).arrJob id a (a.space r) bytes.length .write bytes
  else s.arrJob id a (a.space r) p.payload.length .write p.payload

/-- A request is refused at its lookup, and is gone. -/
def State.refuseArr (s : State) (id : Nat) (a : Arrival) (owner : Option Nat) (status detail : Nat) : State :=
  let s := (s.traceRecv a.port a.stamp owner status a.pkt).countRefused owner status
  let s := match a.tref with
    | some k => s.dropRef k
    | none => s
  match a.xfer with
  | some k => (s.delArr id).boltLanded k a.pkt status detail
  | none => (s.delArr id).refuse a.port a.pkt owner a.pkt.cm status detail

/-- An arrival at an alias that has passed checks 1 to 4: refused under R120, or forwarded (R118, R121, R277). -/
def State.forward (s : State) (id : Nat) (a : Arrival) (w : Window) : State :=
  let p := a.pkt
  let no (r : Nat) : State := s.refuseArr id a (some w.func) 0x05 (det 3 r)
  if p.type = 3 then no 0x021 else if p.type = 2 then no 0x023 else if p.cls = 2 then no 0x022
  else
    let target := w.aliasTo
    let ptr := ptrAdd target (ptrOffset p.ptr)
    let q := (((p.set 0x10 0 96 ptr).set 0 0 3 2).set 4 0 20 (ptrNode target)).set 0x0C 18 9 0
    let q := if a.xfer.isSome then q.set 0x1C 0 288 0 else q
    let s := s.traceRecv a.port a.stamp (some w.func) 0 p
    let s := match a.tref with
      | some k => s.dropRef k
      | none => s
    let s := ((s.delArr id).trackAway p).inject none none q
    match a.xfer with
    | some k => (s.modLanding k p.xferNo (fun l => { l with open_ := l.open_ - 1, got := l.got + 1, away := true })).landingCheck k p.xferNo
    | none => s

/-- Start check 5 of R20: the permission of R113 and the window's key selector. -/
def State.checkFive (s : State) (id : Nat) (a : Arrival) (w : Window) : State :=
  let p := a.pkt
  let va := (w.base + ptrOffset p.ptr) % 2 ^ 64
  let n := (arrivalLen p).getD 0
  (s.setArr id { a with va := va, len := n, func := w.func }).startJob
    ⟨w.func, va, n, .virt (p.type == 1 || p.type == 2) (p.type != 1) (some w.ksel), .probe, [], 4, 1, 0, 0, 0, 0, 0, .arrCheck id⟩

/-- A held latch that has passed R20 meets R93: it is committed, held, answered NO_TRACK or refused. -/
def State.latchGate (s : State) (id : Nat) (a : Arrival) (w : Window) (r : JobResult) : State :=
  let free := SMap.freeKey s.core.resp.holds (2 ^ s.build.holdLog2) 0
  let row := s.latchRow a.pkt free.isSome
  if ¬ a.pkt.heldLatch ∨ a.go ∨ row = 3 then s.accept id a w r
  else
    let s := s.traceRecv a.port a.stamp (some w.func) 0 a.pkt
    if row = 1 then (s.delArr id).refuse a.port a.pkt (some w.func) a.pkt.cm 0x12 (det 3 0x020)
    else if row = 4 then
      { s.delArr id with core.resp.holds := SMap.put s.core.resp.holds (free.getD 0) ⟨w.func, a.port, a.stamp, a.pkt⟩ }
    else ((s.delArr id).count blockSlot 19).respond a.port a.pkt (some w.func) 4 a.pkt.cm 0 0 [] []

/-- The lookup of an arrival: at first, and again in the cycle in which check 5 passes (R111). -/
def State.arrLook (s : State) (id : Nat) (a : Arrival) (r : Option JobResult) : State :=
  match s.lookupReq a.pkt with
  | .fails st re owner => s.refuseArr id a owner st (det 3 re)
  | .alias_ w => s.forward id a w
  | .ok w => match r with
    | none => if a.pkt.type = 4 then s.accept id a w ⟨none, [], 0, 0, 0, 0⟩ else s.checkFive id a w
    | some x =>
      if a.pkt.type = 3 then s.latchGate id a w x else s.accept id a w x

/-- Check 5 has ended. -/
def State.arrChecked (s : State) (id : Nat) (r : JobResult) : State :=
  match s.arr? id with
  | none => s
  | some a => match r.fail with
    | some (.xlate k) => s.refuseArr id a (some a.func) (if k = 6 then 0x05 else 0x06) (det 4 (0x040 + k))
    | some (.msp _) => s.refuseArr id a (some a.func) 0x06 (det 4 0x045)
    | none => s.arrLook id a (some r)

/-- A request enters the responder: in FATAL every arrival at a window is refused (R398). -/
def State.arrive (s : State) (i : InPkt) (go : Bool) : State :=
  if s.fatal then
    (s.traceRecv i.port i.stamp none 0x12 i.pkt).refuse i.port i.pkt none i.pkt.cm 0x12 (det 3 0x0F0)
  else
    let id := s.core.nextId
    let a : Arrival := ⟨i.pkt, i.port, i.stamp, .check, go, none, 0, 0, 0, 0, 0, false, 0, 0, 0, 0, 0, none, 0, 0, none, none⟩
    let s := { s with core.nextId := id + 1 }
    let s := (if go then s else s.trackIn i.pkt).setArr id a
    s.arrLook id a none

/-- A request of a type waits, of class REQ or FWD. -/
def State.withReq (s : State) (t : Nat) (f : InPkt → State → State) : State :=
  match s.takePkt (fun i => (i.pkt.cls == 1 || i.pkt.cls == 2) && i.pkt.type == t) with
  | some (i, s) => f i s
  | none => s

/-- WRITE_ARRIVAL (R20). -/
def writeArrival (s : State) : State := s.withReq 0 (fun i s => s.arrive i false)

/-- WRITE_ARRIVAL (R20). -/
def execWriteArrival : State → Host.Outcome State Fault Refusal := coreCmd writeArrival

/-- READ_ARRIVAL (R20). -/
def readArrival (s : State) : State := s.withReq 1 (fun i s => s.arrive i false)

/-- READ_ARRIVAL (R20). -/
def execReadArrival : State → Host.Outcome State Fault Refusal := coreCmd readArrival

/-- ATOMIC_ARRIVAL (R20, R87). -/
def atomicArrival (s : State) : State := s.withReq 2 (fun i s => s.arrive i false)

/-- ATOMIC_ARRIVAL (R87). -/
def execAtomicArrival : State → Host.Outcome State Fault Refusal := coreCmd atomicArrival

/-- LATCH_ARRIVAL (R93). -/
def latchArrival (s : State) : State := s.withReq 3 (fun i s => s.arrive i false)

/-- LATCH_ARRIVAL (R93). -/
def execLatchArrival : State → Host.Outcome State Fault Refusal := coreCmd latchArrival

/-- SIGNAL_ARRIVAL (R110). -/
def signalArrival (s : State) : State := s.withReq 4 (fun i s => s.arrive i false)

/-- SIGNAL_ARRIVAL (R110). -/
def execSignalArrival : State → Host.Outcome State Fault Refusal := coreCmd signalArrival

/-- A Nyesh block enters its Tumbler expander: at an alias it is looked up unchecked (R118), else checks 1 to 6 come before R20 (R214). -/
def State.nyArrive (s : State) (i : InPkt) : State :=
  let p := i.pkt
  let w := s.win (ptrWindow p.ptr)
  if s.fatal ∨ w.state = .aliased then s.arrive i false
  else
    let h := p.nyhdr
    let g := s.tumblerOf i.port p.srcNode
    let owner := if w.state = .free ∨ w.state = .quarantine then none else some w.func
    let res := if nyCoded h then s.resident h else none
    let s := (s.count (unitSlot g) 6).trackIn p
    match nyChecks h p.payload p.crcMode true (res.map (·.2)) with
    | some (st, re) =>
      ((s.traceRecv i.port i.stamp owner st p).countTumbler g owner st).refuse i.port p owner p.cm st (det 5 re)
    | none =>
      let id := s.core.nextId
      let a : Arrival := ⟨p, i.port, i.stamp, .check, true, none, 0, 0, 0, 0, 0, false, 0, 0, 0, 0, 0, none, 0, 0, res.map (·.1), none⟩
      let s := { s with core.nextId := id + 1 }
      let s := match res with
        | some (k, _) => s.takeRef k
        | none => s
      (s.setArr id a).arrLook id a none

/-- NYESH_ARRIVAL: a Tumbler expander holds at most 32 blocks (R221). -/
def nyeshArrival (s : State) : State :=
  s.withReq 5 (fun i s' => if s.tumblerHeld (s.tumblerOf i.port i.pkt.srcNode) ≥ 32 then s else s'.nyArrive i)

/-- NYESH_ARRIVAL (R214). -/
def execNyeshArrival : State → Host.Outcome State Fault Refusal := coreCmd nyeshArrival

/-- The access of an accepted write or read has ended (R114, R395). -/
def State.arrAccessed (s : State) (id : Nat) (r : JobResult) : State :=
  match s.arr? id with
  | none => s
  | some a =>
    let p := a.pkt
    if p.type = 1 then
      let s := s.arrFinish id a
      if r.fail.isSome then s.respond a.port p (some a.func) 1 a.cm 0x0F (det 3 0x018) [] []
      else s.respond a.port p (some a.func) 1 a.cm 0 0 [] r.data
    else if r.fail.isSome then s.arrAck id a 0x12 (det 3 0x01A)
    else s.arrAck id a a.status a.detail

/-! ## Held latches (R93, R115) -/

/-- Test every held latch again: one whose deadline has come is discarded, rows 1 and 2 answer it, row 3 looks it up again and commits
it. -/
def State.latchesStep (s : State) : State :=
  s.core.resp.holds.foldl (fun s (slot, i) =>
    let row := s.latchRow i.pkt true
    let freed : State := { s with core.resp.holds := SMap.del s.core.resp.holds slot }
    if s.pastDeadline i.pkt.deadline then freed
    else if row = 1 then freed.refuse i.port i.pkt (some i.func) i.pkt.cm 0x12 (det 3 0x020)
    else if row = 2 then (freed.count blockSlot 19).respond i.port i.pkt (some i.func) 4 i.pkt.cm 0 0 [] []
    else if row = 3 then freed.arrive ⟨i.port, i.stamp, i.pkt⟩ true
    else s) s

/-- LATCH_DEADLINE: the latch of a hold slot is discarded without response (R93). -/
def latchDeadline (slot : Fin 256) (s : State) : State :=
  match SMap.get? s.core.resp.holds slot.val with
  | none => s
  | some i =>
    if s.pastDeadline i.pkt.deadline then { s with core.resp.holds := SMap.del s.core.resp.holds slot.val } else s

/-- LATCH_DEADLINE (R93). -/
def execLatchDeadline (slot : Fin 256) : State → Host.Outcome State Fault Refusal := coreCmd (latchDeadline slot)

/-- Refuse every latch held for a window (R123). -/
def State.refuseHeld (s : State) (w : Nat) (owner : Nat) : State :=
  s.core.resp.holds.foldl (fun s (slot, i) =>
    if ptrWindow i.pkt.ptr = w then
      (({ s with core.resp.holds := SMap.del s.core.resp.holds slot }).countRefused (some owner) 0x03).refuse i.port i.pkt (some owner) i.pkt.cm
        0x03 (det 3 0x011)
    else s) s

/-! ## The atomic unit (R80, R81, R86, R87) -/

/-- Entries the journal holds when full. -/
def State.jSize (s : State) : Nat := let l := s.rd R.JOURNAL_SIZE_LOG2; if l = 0 then 0 else 2 ^ l

/-- Virtual address of a journal slot in F0's space. -/
def State.jSlot (s : State) (i : Nat) : Nat :=
  (s.rd R.JOURNAL_BASE_LO_BASE * 4096 + s.rd R.JOURNAL_BASE_HI_BASE * 2 ^ 32 + i % max 1 s.jSize * 32) % 2 ^ 64

/-- The 32 bytes of a journal entry (R84). -/
def jBytes (e : JEntry) : Bytes := toLE 32 (pack [(0, 64, e.jid), (64, 40, e.time), (104, 20, e.tout), (128, 128, e.old)])

/-- The atomic holds its granule: being read or written. -/
def ArrPhase.owns (p : ArrPhase) : Bool := p == .journal || p == .granule || p == .commit

/-- The atomic works with the journal. -/
def ArrPhase.journals (p : ArrPhase) : Bool := p.owns || p == .entry

/-- Another atomic goes first: it owns the granule, or, among fabric atomics, the journal; or it came earlier. -/
def State.atomicWaits (s : State) (id : Nat) (a : Arrival) : Bool :=
  s.core.resp.arrivals.any (fun x => x.1 != id && (x.2.phase.journals || x.2.phase == .turn)
    && ((x.2.pa / 16 == a.pa / 16 && (x.2.phase.owns || (x.2.phase == .turn && decide (x.1 < id))))
      || (a.la.isNone && x.2.la.isNone && (x.2.phase.journals || (x.2.phase == .turn && decide (x.1 < id))))))

/-- Read the granule, which no other write of the block may touch from now on (R80). -/
def State.atomicRead (s : State) (id : Nat) (a : Arrival) : State :=
  let s := { s with core.mem.locks := SMap.put s.core.mem.locks (a.pa / 16) s.core.nextId }
  (s.setArr id { a with phase := .granule }).physJob a.func a.pa a.len a.ksel .read [] 4 (.atomRead id)

/-- The granule is free again. -/
def State.atomicUnlock (s : State) (a : Arrival) : State :=
  ({ s with core.mem.locks := SMap.del s.core.mem.locks (a.pa / 16) }).mspPump (mspOf s.build a.pa)

/-- A fabric atomic is refused with JOURNAL_BUSY (R87). -/
def State.journalBusy (s : State) (id : Nat) (a : Arrival) (reason : Nat) : State :=
  ((s.wr R.JOURNAL_STATUS_BUSY_SEEN 1).count blockSlot 5).arrAck id a 0x10 (det 3 reason)

/-- An atomic takes its turn: the rows of R87 for a fabric atomic, whose entry is translated next. A translation failure there is recorded
with SIDE 0 and QUEUE 0 (R146 names neither for a journal entry; the model's choice, log entry 26). -/
def State.atomicStep (s : State) (id : Nat) : State :=
  match s.arr? id with
  | none => s
  | some a =>
    if a.phase ≠ .turn ∨ s.atomicWaits id a then s
    else if a.la.isSome then s.atomicRead id a
    else if ¬ s.synced then s.journalBusy id a 0x017
    else if s.jSize = 0 then s.journalBusy id a 0x016
    else if s.pastDeadline a.pkt.deadline then s.arrFinish id a
    else if s.core.resp.journal.length ≥ s.jSize then s.journalBusy id a 0x015
    else
      (s.setArr id { a with phase := .journal, time := s.now / 2 ^ 8 }).startJob
        ⟨0, s.jSlot (s.core.resp.jHead + s.core.resp.journal.length), 32, .virt true true none, .probe, [], 3, 0, 0, 0, 0, 0, 0, .journalProbe id⟩

/-- The journal entry has been translated. -/
def State.journalProbed (s : State) (id : Nat) (r : JobResult) : State :=
  match s.arr? id with
  | none => s
  | some a => if r.fail.isSome then s.journalBusy id a 0x01B else s.atomicRead id { a with epa := r.pa, eksel := r.ksel }

/-- An atomic ends with a memory error. -/
def State.atomicBad (s : State) (id : Nat) (a : Arrival) (status detail : Nat) : State :=
  let s := s.atomicUnlock a
  match a.la with
  | some q => (s.arrFinish id a).emit (.laRsp q.id.toNat 0 1 0)
  | none => s.arrAck id a status detail

/-- The granule has been read: the new value is written (R81, R86). -/
def State.atomicGot (s : State) (id : Nat) (r : JobResult) : State :=
  match s.arr? id with
  | none => s
  | some a =>
    if r.fail.isSome then s.atomicBad id a 0x0F (det 3 0x019)
    else
      let old := ofLE r.data
      let (aop, aty, opnd, cmp) := match a.la with
        | some q => (q.aop.toNat, q.atype.toNat, q.operand.toNat, q.compare.toNat)
        | none => (a.pkt.aop, a.pkt.atype, leAt a.pkt.payload 0 16, leAt a.pkt.payload 16 16)
      let (new, fl) := atomicNew aop aty old opnd cmp
      let s := { s with core.mem.locks := SMap.put s.core.mem.locks (a.pa / 16) s.core.nextId }
      (s.setArr id { a with phase := .commit, old := old, flags := fl }).physJob a.func a.pa a.len a.ksel .write (toLE a.len new) 4
        (.atomWrite id)

/-- The new value has been committed: the journal entry follows, or an aperture atomic is answered. -/
def State.atomicPut (s : State) (id : Nat) (r : JobResult) : State :=
  match s.arr? id with
  | none => s
  | some a =>
    if r.fail.isSome then s.atomicBad id a 0x12 (det 3 0x01A)
    else
      let s := (s.atomicUnlock a).count blockSlot 7
      match a.la with
      | some q => (s.arrFinish id a).emit (.laRsp q.id.toNat a.old 0 a.flags)
      | none =>
        let e : JEntry := ⟨a.pkt.jid, a.time % 2 ^ 40, a.pkt.tout, a.old⟩
        let s := (s.setArr id { a with phase := .entry }).physJob 0 a.epa 32 a.eksel .write (jBytes e) 3 (.journalWrite id)
        (s.core.resp.arrivals.filter (fun x => x.2.phase == .turn)).foldl (fun s x => s.post (.atomic x.1)) s

/-- COVER rises to an instant (R89). -/
def State.coverTo (s : State) (t : Nat) : State :=
  { s with core.resp.cover := s.core.resp.cover.map (fun c => max c t) }

/-- The journal entry has been written, or its write failed (R396); the response follows. -/
def State.journalWritten (s : State) (id : Nat) (r : JobResult) : State :=
  match s.arr? id with
  | none => s
  | some a =>
    let s := if r.fail.isSome then s.coverTo (a.time * 2 ^ 8 + 2 ^ 8)
      else { s with core.resp.journal := s.core.resp.journal ++ [⟨a.pkt.jid, a.time, a.pkt.tout, a.old⟩] }
    let s := (s.arrFinish id a).trackEnd a.pkt true
    s.respond a.port a.pkt (some a.func) 2 a.cm 0 0 [hf 0x20 0 128 a.old] []

/-- JOURNAL_RECLAIM: the oldest entry's retention has passed (R87, R89). -/
def journalReclaim (s : State) : State :=
  match s.core.resp.journal with
  | [] => s
  | e :: t =>
    if s.now ≥ e.time * 2 ^ 8 + 5 * e.tout * usLsb + 1024 then
      ({ s with core.resp.journal := t, core.resp.jHead := (s.core.resp.jHead + 1) % max 1 s.jSize }).coverTo (e.time * 2 ^ 8 + 2 ^ 8)
    else s

/-- JOURNAL_RECLAIM (R87). -/
def execJournalReclaim : State → Host.Outcome State Fault Refusal := coreCmd journalReclaim

/-- JOURNAL_SIZE written (R83): 10 to 24 is stored and locks the journal registers; coverage begins once the block is synchronised too. -/
def journalSizeWrite (data : Word) (s : State) : State :=
  let n := bits data.toNat 0 5
  if ¬ s.aonUp ∨ s.rd R.JOURNAL_SIZE_LOG2 ≠ 0 ∨ n < 10 ∨ n > 24 then s
  else
    let s := s.wr R.JOURNAL_SIZE_LOG2 n
    if s.synced then { s with core.resp.cover := some s.now } else s

/-- JOURNAL_SIZE_WRITE (R83). -/
def execJournalSizeWrite (data : Word) : State → Host.Outcome State Fault Refusal := aonCmd (journalSizeWrite data)

/-- An atomic of the local aperture: 2 for a combination R56 does not permit, 3 for an address not aligned to the operand (R446, R447). -/
def laAtomic (req : LocalAtomic) (s : State) : State :=
  let n := atypeBytes req.atype.toNat
  if s.fatal then s
  else if ¬ atomicDefined req.aop.toNat req.atype.toNat then s.emit (.laRsp req.id.toNat 0 2 0)
  else if req.addr.toNat % n ≠ 0 then s.emit (.laRsp req.id.toNat 0 3 0)
  else
    let id := s.core.nextId
    let a : Arrival := ⟨⟨0, []⟩, 10, 0, .turn, false, none, 0, req.addr.toNat, n, req.addr.toNat, req.key.toNat, false, 0, 0, 0, 0, 0,
      some req, 0, 0, none, none⟩
    (({ s with core.nextId := id + 1 }).setArr id a).atomicStep id

/-- LA_ATOMIC (R447). -/
def execLaAtomic (req : LocalAtomic) : State → Host.Outcome State Fault Refusal := portCmd (laAtomic req)

/-! ## Journal queries (R89) -/

/-- Answer a query: 0 FOUND, 1 NOT_FOUND, 2 UNKNOWN. -/
def State.answerQuery (s : State) (port : Nat) (p : Packet) (status ans old : Nat) : State :=
  (s.count blockSlot 6).respond port p none 3 p.cm status 0 ([hf 0x13 0 2 ans] ++ (if ans = 0 then [hf 0x20 0 128 old] else [])) []

/-- Search the journal for a query: the index of the entry its ID names among those of the interval, and the start of the interval. -/
def State.journalFind (s : State) (p : Packet) : Option Nat × Int :=
  let now4 : Nat := s.now / 2 ^ 8
  let d : Int := (now4 : Int) + toSigned 40 (subMod 40 p.deadline now4)
  let start : Int := d - p.tout * 250 - 4
  (s.core.resp.journal.findIdx? (fun e => decide (start ≤ e.time ∧ (e.time : Int) < d + 4) && e.jid == p.jid), start)

/-- An atomic of the journal ID has passed R20 and its entry is not written yet: a query for it waits, so that an atomic performed before its
deadline is always found (R89). -/
def State.jidBusy (s : State) (jid : Nat) : Bool :=
  (SMap.vals s.core.resp.arrivals).any (fun a => a.la.isNone && a.pkt.type == 2 && (a.phase == .turn || a.phase.journals) && a.pkt.jid == jid)

/-- JQUERY_ARRIVAL: the search finds the entry, whose bytes are then read, or answers at once. -/
def jqueryArrival (s : State) : State :=
  if s.fatal || (s.core.resp.inbox.find? (fun (i : InPkt) => i.pkt.cls == 1 && i.pkt.type == 6)).any (fun i => s.jidBusy i.pkt.jid) then s
  else s.withPkt 1 6 (fun _ => true) (fun i s =>
    let (hit, start) := s.journalFind i.pkt
    match hit with
    | some k =>
      let id := s.core.nextId
      let a : Arrival := ⟨i.pkt, i.port, i.stamp, .query, false, none, 0, 0, 32, 0, 0, i.pkt.cm, 0, 0, 0, 0, 0, none, 0, 0, none, none⟩
      (({ s with core.nextId := id + 1 }).setArr id a).startJob
        ⟨0, s.jSlot (s.core.resp.jHead + k), 32, .virt true true none, .read, [], 3, 0, 0, 0, 0, 0, 0, .journalRead id⟩
    | none =>
      let known : Bool := s.jSize != 0 && s.synced && (match s.core.resp.cover with
        | some c => decide ((c : Int) ≤ start * 2 ^ 8)
        | none => false)
      s.answerQuery i.port i.pkt 0 (if known then 1 else 2) 0)

/-- JQUERY_ARRIVAL (R89). -/
def execJqueryArrival : State → Host.Outcome State Fault Refusal := coreCmd jqueryArrival

/-- The entry of a query has been read: a translation failure answers UNKNOWN (R135); the spec gives no answer for a memory error. -/
def State.journalGot (s : State) (id : Nat) (r : JobResult) : State :=
  match s.arr? id with
  | none => s
  | some a =>
    let s := s.delArr id
    match r.fail with
    | some (.xlate _) => s.answerQuery a.port a.pkt 0 2 0
    | some (.msp _) => let (v, s) := s.draw; s.answerQuery a.port a.pkt (v % 256) (v / 256 % 4) 0
    | none => s.answerQuery a.port a.pkt 0 0 (leAt r.data 16 16)

/-- Hand a finished access of the responder, the atomic unit or the journal to its unit. -/
def State.arrDone (s : State) (p : Purpose) (r : JobResult) : State :=
  match p with
  | .arrCheck id => s.arrChecked id r
  | .arrAccess id => s.arrAccessed id r
  | .atomRead id => s.atomicGot id r
  | .atomWrite id => s.atomicPut id r
  | .journalProbe id => s.journalProbed id r
  | .journalWrite id => s.journalWritten id r
  | .journalRead id => s.journalGot id r
  | _ => s

end Sys2Proof.Machine
end

