-- ==== Sys2Proof/Machine/Bolt.lean ====
section
/-! DEFINITION. Bolt transfers (R261-R268): queueing, prefetch, slots, markers, landing, acknowledgement, retry; scratchpad reads. -/

namespace Sys2Proof.Machine

/-! ## Issue (R261-R263) -/

/-- Status and detail of the first row of R261 that holds. -/
def State.boltRefusal (s : State) (f : Nat) (d : BitVec 1024) : Option (Nat × Nat) :=
  let g := dCircuit d / 256
  if ¬ s.portPresent g ∨ s.rd (R.GATE_NEG_VERSION g) = 1 then some (0x13, det 7 0x077)
  else match s.circuit? (dCircuit d) with
    | none => some (0x05, det 0 0x00A)
    | some c =>
      if ¬ (c.role = 0 ∧ (c.state = 2 ∨ c.state = 4) ∧ c.func = f ∧ c.dest = ptrNode (dDstPtr d)) then some (0x05, det 0 0x00A)
      else if c.state = 4 then some (0x12, det 7 0x078)
      else none

/-- Reason 0x00A of R50, where row 2 of R261 is the first that holds. -/
def State.boltReasons (s : State) (f : Nat) (d : BitVec 1024) : List Nat :=
  match s.boltRefusal f d with
  | some (st, _) => if st = 0x05 then [0x00A] else []
  | none => []

/-- The first slot of a circuit that begins at least two slots from now (R263). -/
def State.firstSlot (s : State) (c : Circuit) : Nat :=
  let n := (s.now + 4095) / 4096 + 2
  n + (c.start % 2 ^ c.stride + 2 ^ c.stride - n % 2 ^ c.stride) % 2 ^ c.stride

/-- Queue a transfer on its circuit under a tag. -/
def State.queueXfer (s : State) (id : Nat) (o : Op) (t : Nat) : State :=
  let k := dCircuit o.desc
  match s.circuit? k with
  | none => s
  | some c =>
    let x : Transfer := ⟨id, c.nextXfer, t, s.firstSlot c, .waiting, some (startCursor o.desc), 0, false, [], 0, none⟩
    let r := { newReq .bolt .prep id o 0 s.core.rq.sendOrder with node := ptrNode (dDstPtr o.desc), ptr := dDstPtr o.desc }
    ((s.setOp id { o with slip := 0 }).enterReq t r).setCircuit k { c with xfers := c.xfers ++ [x], nextXfer := (c.nextXfer + 1) % 2 ^ 16 }

/-- BOLT_PUT: refused, ended at once, or queued on its circuit (R261, R263). -/
def boltPut (q : QueueId) (s : State) : State :=
  match s.ready q.val 0x20 (s.boltReasons (s.qFunc q.val)) with
  | .no => s
  | .fails h r => s.completeHead q.val h 0x05 (det 0 r)
  | .ok h =>
    let f := s.qFunc q.val
    let no := s.boltRefusal f h.desc
    let ends := no.isSome || dLength h.desc == 0
    if s.held q.val h (if ends then [] else boltRanges h.desc) then s
    else match no with
      | some (st, de) => let (id, s) := s.issue q.val h []; s.endOp id st de 0 0
      | none =>
        if dLength h.desc = 0 then let (id, s) := s.issue q.val h []; s.endOp id 0 0 0 2
        else match s.allocTag q.val f with
          | none => s
          | some t =>
            let (id, s) := s.issue q.val h (boltRanges h.desc)
            match s.op? id with
            | some o => s.queueXfer id o t
            | none => s

/-- BOLT_PUT (R261). -/
def execBoltPut (q : QueueId) : State → Host.Outcome State Fault Refusal := coreCmd (boltPut q)

/-! ## Reading (R262-R264, R449) -/

/-- Change a transfer of a circuit, by tag. -/
def State.modXfer (s : State) (k tag : Nat) (f : Transfer → Transfer) : State :=
  match s.circuit? k with
  | none => s
  | some c => s.setCircuit k { c with xfers := c.xfers.map (fun x => if x.tag = tag then f x else x) }

/-- The transfer of a circuit under a tag. -/
def State.xfer? (s : State) (k tag : Nat) : Option Transfer := (s.circuit? k).bind (fun c => c.xfers.find? (·.tag == tag))

/-- Start the read of a transfer's next packet. -/
def State.readPkt (s : State) (k tag : Nat) : State :=
  match s.xfer? k tag with
  | none => s
  | some x => match x.cursor, s.op? x.op with
    | some cur, some o =>
      let d := o.desc
      let n := packetBytes d (boltBase d) (ptrOffset (dDstPtr d)) cur
      let va := ofSigned 64 ((boltBase d : Int) + srcShift d cur)
      let next := advanceCursor d cur n
      let b : BoltRead := ⟨x.pkts, va, ptrAdd (dDstPtr d) (dstShift d cur), n, next.isNone, [], none⟩
      let s := s.modXfer k tag (fun x => { x with phase := .prefetch, cursor := next, pkts := x.pkts + 1, reads := x.reads ++ [b] })
      let key := tag * 2 ^ 32 + x.pkts
      if dScratch d then
        let lines := (List.range ((va % 2 ^ 40 + n - 1) / 128 - va % 2 ^ 40 / 128 + 1)).map (fun i =>
          (⟨bits (dSrc d) 60 2, (va % 2 ^ 40 / 128 + i) % 2 ^ 33, k, key⟩ : SspRead))
        { s with core.bolts.sspWait := s.core.bolts.sspWait ++ lines }
      else s.virtJob o.func va n .read [] 1 o.queue (.boltRead k key)
    | _, _ => s

/-- Start the reads of one slot's packets. -/
def State.readSlot (s : State) (k tag p : Nat) : State := iterate (fun s => s.readPkt k tag) p s

/-- Keep the prefetch two slots ahead of the stream: each slot to come has its packets read or being read (R263, R264). -/
def State.prefetch (s : State) (k slot : Nat) : State :=
  match s.circuit? k with
  | none => s
  | some c =>
    (c.xfers.foldl (fun (a : State × List Nat × Bool) x =>
      let (s, ks, stop) := a
      if stop ∨ x.phase = .ackWait ∨ x.phase = .abort then a
      else
        let ks := ks.dropWhile (fun n => decide (n < x.first))
        let have_ := (x.reads.length + c.pkts - 1) / max 1 c.pkts
        let want := ks.drop have_
        let s := want.foldl (fun s _ => s.readSlot k x.tag c.pkts) s
        let groups := match s.xfer? k x.tag with
          | some y => (y.reads.length + c.pkts - 1) / max 1 c.pkts
          | none => 0
        let more := match s.xfer? k x.tag with
          | some y => y.cursor.isSome
          | none => false
        (s, ks.drop groups, more)) (s, c.ahead slot, false)).1

/-- Reading ends with an error or a timeout: an ABORT marker goes out in the next reserved slot (R264). -/
def State.readFails (s : State) (k tag reason : Nat) : State :=
  (s.dropBoltReads tag).modXfer k tag (fun x =>
    { x with phase := .abort, cursor := none, reads := [], fail := some (0x0F, det 7 reason, 0) })

/-- A transfer is over: its tag is free, and a CLOSING circuit may go. -/
def State.xferOver (s : State) (k : Nat) (x : Transfer) : State :=
  match s.circuit? k with
  | none => s.freeTag x.tag
  | some c => ((s.freeTag x.tag).setCircuit k { c with xfers := c.xfers.filter (·.tag != x.tag) }).closeCheck k

/-- A source address failed translation: packets before it still go, then the transfer ends PARTIAL (R135, R144). -/
def State.readStops (s : State) (k tag pkt : Nat) : State :=
  match s.xfer? k tag with
  | none => s
  | some x =>
    let done := ((x.reads.filter (fun b => decide (b.pkt ≥ pkt))).map (·.va)).foldl min (2 ^ 64)
    let i0 := match s.op? x.op with
      | some o => done - boltBase o.desc
      | none => 0
    let s := s.dropJobs (fun j => match j.purpose with
      | .boltRead _ n => n / 2 ^ 32 == tag && decide (n % 2 ^ 32 ≥ pkt)
      | _ => false)
    let reads := x.reads.filter (fun b => decide (b.pkt < pkt))
    let x := { x with cursor := none, reads := reads, fail := some (0x01, det 1 1, i0 % 2 ^ 32) }
    if reads = [] ∧ ¬ x.sent then ((s.modXfer k tag (fun _ => x)).xferOver k x).endOp x.op 0x01 (det 1 1) (i0 % 2 ^ 32) 0
    else s.modXfer k tag (fun _ => if reads = [] then { x with phase := .abort } else x)

/-- A prefetch read from the memory side has ended. -/
def State.boltRead (s : State) (k key : Nat) (r : JobResult) : State :=
  let tag := key / 2 ^ 32
  let pkt := key % 2 ^ 32
  match r.fail with
  | some (.msp _) => s.readFails k tag 0x07C
  | some (.xlate _) => s.readStops k tag pkt
  | none => s.modXfer k tag (fun x => { x with reads := x.reads.map (fun b => if b.pkt = pkt then { b with data := some r.data } else b) })

/-- SCRATCHPAD_SLOT_OFFER: the first read that waits for this SSP is made; without one the slot lapses (R449). -/
def scratchpadSlotOffer (i : SspId) (s : State) : State :=
  if s.fatal then s
  else match takeFirst (fun r => r.ssp == i.val) s.core.bolts.sspWait with
    | none => s
    | some (r, rest) =>
      ({ s with core.bolts.sspWait := rest, core.bolts.sspOut := s.core.bolts.sspOut ++ [r] }).emit (.sspRead i.val r.line)

/-- SCRATCHPAD_SLOT_OFFER (R449). -/
def execScratchpadSlotOffer (i : SspId) : State → Host.Outcome State Fault Refusal := portCmd (scratchpadSlotOffer i)

/-- A scratchpad line joins its packet, whose data is whole once every line is there. -/
def BoltRead.line (b : BoltRead) (line : Bytes) : BoltRead :=
  let got := b.got ++ line
  let a := b.va % 128
  if got.length ≥ ((a + b.len - 1) / 128 + 1) * 128 then { b with got := [], data := some (slice got a b.len) } else { b with got := got }

/-- SSP_READ_RETURN: reads return in the order they were made (R449). -/
def sspReadReturn (i : SspId) (line : BitVec 1024) (err : Bool) (s : State) : State :=
  match takeFirst (fun r => r.ssp == i.val) s.core.bolts.sspOut with
  | none => s
  | some (r, rest) =>
    let tag := r.pkt / 2 ^ 32
    let s : State := { s with core.bolts.sspOut := rest }
    if (s.xfer? r.circ tag).isNone then s
    else if err then
      let f := (s.circuit? r.circ).map (·.func)
      let (queue, node) := match s.req? tag with
        | some x => (x.queue, x.node)
        | none => (0, 0)
      (s.logErr 4 0x0F (det 7 0x07C) 15 f queue node (r.line * 128)).readFails r.circ tag 0x07C
    else s.modXfer r.circ tag (fun x => { x with reads := x.reads.map (fun b => if b.pkt = r.pkt % 2 ^ 32 then b.line (toLE 128 line.toNat) else b) })

/-- SSP_READ_RETURN (R449). -/
def execSspReadReturn (i : SspId) (line : BitVec 1024) (err : Bool) : State → Host.Outcome State Fault Refusal :=
  portCmd (sspReadReturn i line err)

/-! ## Slots (R249, R255, R263, R264, R267) -/

/-- Put packets into a port's stream, counting their flits with BLT and TDM. -/
def State.slotSend (s : State) (p : Nat) (os : List OutPkt) : State :=
  let s := os.foldl (fun s (o : OutPkt) =>
    let s := (s.countN p 18 o.pkt.flits).startTimer o.tag
    match o.func, o.tag with
    | some f, some _ => if o.pkt.cls = 1 then s.count (funcSlot f) 2 else s
    | _, _ => s) s
  s.modLink p (fun l => { l with tx := l.tx ++ os.flatMap txItems })

/-- A packet of a transfer (R280). -/
def State.bltPkt (s : State) (c : Circuit) (x : Transfer) (type : Nat) (fs : List (Nat × Nat × Nat)) (data : Bytes) : OutPkt :=
  let q := match s.req? x.tag with
    | some r => r.queue
    | none => 0
  ⟨10, c.outPort, false, 0, some c.func, none,
    mkPacket 5 type c.dest s.self q x.tag data.length ([hf 0x0C 18 8 c.outIndex, hf 0x1C 0 16 x.num] ++ fs) data, 0⟩

/-- Send a marker of a transfer; SLIP and the counters follow (R264, R409, R417). -/
def State.sendMarker (s : State) (k : Nat) (c : Circuit) (x : Transfer) (slot : Nat) (abort : Bool) : State :=
  let s := s.slotSend c.outPort [s.bltPkt c x 1 [hf 0x24 1 1 (b2n abort)] []]
  let s := (s.count c.outPort 20).count (funcSlot c.func) 19
  let s := s.traceEv (some R.TRACE_CTL_BOLT) 0x30 15 0 0 (some c.func) 0 0 0 0 0 0 s.now (bits k 0 11 + slot % 1024 * 2 ^ 16)
  match s.circuit? k with
  | some c => s.setCircuit k { c with slip := (c.slip + 1) % 2 ^ 32 }
  | none => s

/-- A slot of a source circuit: the next p packets, a marker, an ABORT marker, or nothing (R264). -/
def State.slotSource (s : State) (k : Nat) (c : Circuit) (slot : Nat) : State × Bool :=
  match c.xfers.find? (fun x => x.phase != .ackWait) with
  | none => (s, false)
  | some x =>
    if x.phase = .abort then
      ((s.sendMarker k c x slot true).modXfer k x.tag (fun x => { x with phase := .ackWait }), true)
    else if slot < x.first ∨ x.reads = [] then (s, false)
    else
      let now_ := x.reads.take c.pkts
      let rest := x.reads.drop c.pkts
      if now_.all (·.data.isSome) then
        let pkts := now_.map (fun b => s.bltPkt c x 0 [hf 0x10 0 96 b.ptr, hf 0x20 0 32 b.pkt, hf 0x24 0 1 (b2n b.last)] (b.data.getD []))
        let s := (s.slotSend c.outPort pkts).count c.outPort 19
        let s : State := { s with core.rq.reqs := SMap.modify s.core.rq.reqs x.tag (fun r => { r with state := .sent, tout := s.timeout r.func }) }
        let ended := rest.isEmpty && x.cursor.isNone
        let ph : XferPhase := if !ended then .prefetch else if x.fail.isSome then .abort else .ackWait
        (s.modXfer k x.tag (fun x => { x with sent := true, reads := rest, phase := ph }), true)
      else
        let s := (s.sendMarker k c x slot false).modXfer k x.tag (fun x => { x with slip := x.slip + 1 })
        (match s.op? x.op with
          | some o => s.setOp x.op { o with slip := x.slip + 1 }
          | none => s, true)

/-- A slot of one circuit on its outgoing port: at the source its transfers or the packets of its pair, at a hop what it holds. -/
def State.slotCircuit (s : State) (k slot : Nat) : State :=
  match s.circuit? k with
  | none => s
  | some c =>
    if ¬ (c.state = 2 ∨ c.state = 3) ∨ ¬ inPattern c.start c.stride slot then s
    else if c.role = 1 then
      let due := c.buf.filter (fun b => b.1 == slot % 1024)
      let marks := (due.filter (fun b => b.2.2.cls == 5 && b.2.2.type == 1)).length
      let data := due.any (fun b => b.2.2.cls == 5 && b.2.2.type == 0)
      let s := s.setCircuit k { c with buf := c.buf.filter (fun b => b.1 != slot % 1024), slip := (c.slip + marks) % 2 ^ 32 }
      let s := s.slotSend c.outPort (due.map (fun b => ⟨c.inPort, c.outPort, false, b.2.1, none, none, b.2.2.set 0x0C 18 8 c.outIndex, 0⟩))
      let s := s.countN c.outPort 20 marks
      if data then s.count c.outPort 19 else s
    else
      let (s, used) := s.slotSource k c slot
      if used then s
      else match s.circuit? k with
        | none => s
        | some c =>
          if ¬ c.rev ∧ s.pairLate c slot then s.pairSlip c
          else (s.slotSend c.outPort (c.tdm.take c.pkts)).setCircuit k { c with tdm := c.tdm.drop c.pkts }

/-- A port begins a slot: its mark, then the packets reserved for it in ascending circuit index (R255, R326). -/
def State.slotPort (s : State) (p slot : Nat) : State :=
  if ¬ s.portReady p then s
  else
    let s := s.modLink p (fun l => { l with tx := l.tx ++ [⟨3, 0, none, slot % 1024⟩] })
    ((s.circuits.filter (fun x => x.2.outBy p)).map (·.1)).foldl (fun s k => s.slotCircuit k slot) s

/-- Start the reads whose slot comes two slots on: of a circuit's transfers (R263), or of the requests of a strict pair (R354). -/
def State.prefetchCircuit (s : State) (k slot : Nat) : State :=
  match s.circuit? k with
  | none => s
  | some c => if c.kind = 1 ∧ ¬ c.rev ∧ c.state = 2 ∧ s.strictTo c.func c.dest then s.pairPrefetch c else s.prefetch k slot

/-- SLOT_BEGIN: the slot that fabric time is in begins, once (R249). -/
def slotBegin (s : State) : State :=
  let slot := s.now / 4096
  if s.core.bolts.slot = some slot then s
  else
    let s : State := { s with core.bolts.slot := some slot }
    let s := (List.range 10).foldl (fun s p => s.slotPort p slot) s
    if s.fatal then s
    else ((s.circuits.filter (fun x => x.2.role == 0 && (x.2.state == 2 || x.2.state == 3))).map (·.1)).foldl (fun s k => s.prefetchCircuit k slot) s

/-- SLOT_BEGIN (R249). -/
def execSlotBegin : State → Host.Outcome State Fault Refusal := portCmd slotBegin

/-! ## Landing (R265) -/

/-- The landing of a transfer, new if this is its first packet. -/
def Circuit.landing (c : Circuit) (p : Packet) : Landing :=
  match c.land.find? (·.num == p.xferNo) with
  | some l => l
  | none => ⟨p.xferNo, p.tag, p.squeue, 0, 0, none, 0, 0, none, false, false, false⟩

/-- A bolt packet reaches the landing area of its circuit. -/
def State.boltLand (s : State) (i : InPkt) (k : Nat) (c : Circuit) : State :=
  let p := i.pkt
  let l := c.landing p
  let put (l : Landing) (s : State) (slip : Nat) : State :=
    s.setCircuit k { c with land := c.land.filter (·.num != l.num) ++ [l], slip := (c.slip + slip) % 2 ^ 32 }
  if p.type = 1 then
    (put { l with markers := l.markers + 1, aborted := l.aborted || p.fld 0x24 1 1 == 1 } s 1).landingCheck k l.num
  else
    let l := if p.fld 0x24 0 1 = 1 then { l with last := some p.boltPkt } else l
    let held := (c.land.map (·.open_)).sum
    if l.overflow ∨ held ≥ 4 * c.pkts then
      let s := if l.overflow then s else s.count i.port 21
      (put { l with overflow := true, got := l.got + 1 } s 0).landingCheck k l.num
    else
      let id := s.core.nextId
      let a : Arrival := ⟨p, i.port, i.stamp, .check, true, none, 0, 0, 0, 0, 0, false, 0, 0, 0, 0, 0, none, 0, 0, none, some k⟩
      let s := put { l with open_ := l.open_ + 1 } s 0
      let s : State := { s with core.nextId := id + 1 }
      if s.fatal then s.boltLanded k p 0x12 (det 3 0x0F0)
      else (s.setArr id a).arrLook id a none

/-- BLT_ARRIVAL (R265). -/
def bltArrival (s : State) : State :=
  match s.takePkt (fun i => i.pkt.cls == 5) with
  | none => s
  | some (i, s) => match s.circuits.find? (fun x => x.2.role == 2 && x.2.inPort == i.port && x.2.inIndex == i.pkt.circuit) with
    | some (k, c) => s.boltLand i k c
    | none => s

/-- BLT_ARRIVAL (R265). -/
def execBltArrival : State → Host.Outcome State Fault Refusal := coreCmd bltArrival

/-! ## The end of a transfer (R264, R266) -/

/-- Write the record of a transfer (R71, R266). `ack` holds status, detail and bytes of the acknowledgement. -/
def State.xferRecord (s : State) (x : Transfer) (ack : Nat × Nat × Nat) : State :=
  let (st, de, bytes) := ack
  match s.op? x.op with
  | none => s
  | some o =>
    let s := s.countN (funcSlot o.func) 18 bytes
    match x.fail with
    | some (0x0F, d, r) => s.endOp x.op 0x0F d r 0
    | f =>
      if st ≠ 0 then s.endOp x.op st de 0 0
      else match f with
        | some (a, d, r) => s.endOp x.op a d r 0
        | none => s.endOp x.op (if x.slip ≤ dSlack o.desc then 0 else 0x14) 0 (bytes + x.slip % 2 ^ 32 * 2 ^ 64) 2

/-- The circuit of a transfer and the transfer, by tag. -/
def State.xferOf (s : State) (tag : Nat) : Option (Nat × Transfer) :=
  s.circuits.findSome? (fun c => (c.2.xfers.find? (·.tag == tag)).map (fun x => (c.1, x)))

/-- BOLT_ACK_RECEIVE (R266). -/
def boltAckReceive (s : State) : State :=
  s.withRsp 5 (fun t r i s =>
    if r.kind ≠ .bolt then s
    else match s.xferOf t with
      | none => s
      | some (k, x) =>
        if x.phase ≠ .ackWait then s
        else (s.xferOver k x).xferRecord x (i.pkt.rspStatus, i.pkt.rspDetail, i.pkt.fld 0x18 0 64))

/-- BOLT_ACK_RECEIVE (R266). -/
def execBoltAckReceive : State → Host.Outcome State Fault Refusal := coreCmd boltAckReceive

/-- BOLT_READ_TIMEOUT: a read of the transfer being sent has been out for one request timeout (R264). -/
def boltReadTimeout (c : CircuitId) (s : State) : State :=
  match s.circuit? c.val with
  | none => s
  | some x => match x.xfers.find? (fun x => x.phase == .prefetch && x.reads.any (·.data.isNone)) with
    | some y => if x.role = 0 then s.readFails c.val y.tag 0x07D else s
    | none => s

/-- BOLT_READ_TIMEOUT (R264). -/
def execBoltReadTimeout (c : CircuitId) : State → Host.Outcome State Fault Refusal := coreCmd (boltReadTimeout c)

/-- End a transfer that timed out, its tag in quarantine (R390, R394). -/
def State.xferTimeout (s : State) (op t : Nat) (r : Req) (reason : Nat) : State :=
  ((s.logTimeout t r (det 8 reason)).quarantine t).endOp op 0x02 (det 8 reason) (r.node * 2 ^ 64) 0

/-- BOLT_ACK_TIMEOUT: one request timeout in ACK_WAIT (R264, R266, R391). A transfer that a source translation fault stopped ends with
TIMEOUT, since nothing says that its prefix was delivered, and is not retried (R73, R144). -/
def boltAckTimeout (c : CircuitId) (s : State) : State :=
  match s.circuit? c.val with
  | none => s
  | some y => match y.xfers.find? (fun x => x.phase == .ackWait) with
    | none => s
    | some x => match s.req? x.tag with
      | none => s
      | some r =>
        let s := (s.setCircuit c.val { y with xfers := y.xfers.filter (·.tag != x.tag) }).closeCheck c.val
        let s := s.count (funcSlot r.func) 7
        let r := { r with expired := s.now }
        match x.fail with
        | some (0x0F, d, res) => (s.quarantine x.tag).endOp x.op 0x0F d res 0
        | some _ => s.xferTimeout x.op x.tag r 0x081
        | none =>
          if s.mayRetry r then (s.setReq x.tag { r with state := .firmware }).workItem (.retry x.tag)
          else s.xferTimeout x.op x.tag r 0x081

/-- BOLT_ACK_TIMEOUT (R264). -/
def execBoltAckTimeout (c : CircuitId) : State → Host.Outcome State Fault Refusal := coreCmd (boltAckTimeout c)

/-- Policy firmware retries a bolt transfer as a whole, as a new transfer on the same circuit (R266, R392). -/
def State.retryBolt (s : State) (t : Nat) (r : Req) : State :=
  match s.op? r.op with
  | none => (s.takeItem (.retry t)).quarantine t
  | some o =>
    let k := dCircuit o.desc
    let st := match s.circuit? k with
      | some c => if c.role = 0 ∧ c.func = o.func then c.state else 0
      | none => 0
    if ¬ s.mayRetry r then (s.takeItem (.retry t)).xferTimeout r.op t r 0x081
    else if r.tries ≥ 7 then (s.takeItem (.retry t)).xferTimeout r.op t r 0x080
    else if st ≠ 2 then ((s.takeItem (.retry t)).quarantine t).endOp r.op 0x12 (det 7 (if st = 4 then 0x078 else 0x07B)) 0 0
    else match s.allocTag r.queue r.func with
      | none => s.wr R.WARD_CLAMP_TAGS 1
      | some n =>
        let s := (s.takeItem (.retry t)).quarantine t
        let s := ((s.setOp r.op { o with retried := true }).logTimeout t r (det 8 0x082)).count (funcSlot r.func) 8
        let s := s.queueXfer r.op o n
        { s with core.rq.reqs := SMap.modify s.core.rq.reqs n (fun x => { x with tries := r.tries + 1 }) }

/-- RETRY_REISSUE: policy firmware reissues a timed-out request, or retries a bolt transfer (R266, R392). -/
def retryItem (tag : TagId) (s : State) : State :=
  match s.req? tag.val with
  | some r => if r.kind = .bolt ∧ r.state = .firmware ∧ s.itemDue (.retry tag.val) then s.retryBolt tag.val r else retryReissue tag s
  | none => s

/-- RETRY_REISSUE (R392). -/
def execRetryReissue (t : TagId) : State → Host.Outcome State Fault Refusal := coreCmd (retryItem t)

end Sys2Proof.Machine
end

