-- ==== Sys2Proof/Machine/Group.lean ====
section
/-! DEFINITION. Keyring groups (chapter 6): access, member indices, activation, group messages, epoch faults. -/

namespace Sys2Proof.Machine

/-! ## Access -/

def State.group? (s : State) (g : Nat) : Option Group := SMap.get? s.core.col.groups g
def State.setGroup (s : State) (g : Nat) (x : Group) : State := { s with core.col.groups := SMap.put s.core.col.groups g x }
def State.modGroup (s : State) (g : Nat) (f : Group → Group) : State :=
  match s.group? g with
  | some x => s.setGroup g (f x)
  | none => s

/-- A group queue may be enabled for a group and function (R33, R150). -/
def State.groupOwned (s : State) (g f : Nat) : Bool :=
  match s.group? g with
  | some x => x.func == f
  | none => false

/-- QUEUE_ENABLE (R33). -/
def execQueueEnable (q : QueueId) (data : Word) : State → Host.Outcome State Fault Refusal :=
  coreCmd (queueEnable State.groupOwned q data)

/-! ## Member indices (R148, R166) -/

def Group.n2 (x : Group) : Nat := x.n / (x.n0 * x.n1)

/-- Extent and value of a digit of a member index. -/
def Group.extent (x : Group) (j : Nat) : Nat := if j = 0 then x.n0 else if j = 1 then x.n1 else x.n2
def Group.digit (x : Group) (j m : Nat) : Nat :=
  if j = 0 then m % x.n0 else if j = 1 then m / x.n0 % x.n1 else m / (x.n0 * x.n1)

/-- The index with digit `j` set to `v`. -/
def Group.setDigit (x : Group) (j m v : Nat) : Nat :=
  let w := if j = 0 then 1 else if j = 1 then x.n0 else x.n0 * x.n1
  m - x.digit j m * w + v * w

/-- Place of the lowest set bit; 21 for 0, which has every lower place. -/
def lowPlace (i : Nat) : Nat := ((List.range 21).find? (fun k => bit i k)).getD 21

/-- Parent of a node of the binomial tree over 0 to n - 1, none at the root, and its children in increasing order (R166). -/
def treeParent (i : Nat) : Option Nat := if i = 0 then none else some (i - 2 ^ lowPlace i)
def treeChildren (n i : Nat) : List Nat := ((List.range (lowPlace i)).map (fun k => i + 2 ^ k)).filter (· < n)

/-- Index `m` lies in the subtree of `i`. -/
def inSubtree (i m : Nat) : Bool := decide (i ≤ m) && (i == 0 || decide (m < i + 2 ^ lowPlace i))

/-- The neighbour set of a member (R151), the Pintle neighbours aside. -/
def Group.neighbours (x : Group) : List Nat :=
  let me := x.self
  let ring := [0, 1, 2].flatMap (fun j =>
    let l := x.extent j
    if l ≤ 1 then [] else [x.setDigit j me ((x.digit j me + 1) % l), x.setDigit j me ((x.digit j me + l - 1) % l)])
  let t := me / x.n0
  let up (i : Nat) : List Nat := match treeParent i with
    | some p => [p]
    | none => []
  let hyb := (up t ++ treeChildren (x.n / x.n0) t).map (fun u => x.digit 0 me + x.n0 * u)
  (ring ++ up me ++ treeChildren x.n me ++ hyb).eraseDups

/-- Node and group ID of a member of the neighbour set, and the index of the neighbour on a node. -/
def Group.node (x : Group) (m : Nat) : Nat := (SMap.getD x.cache m (0, 0)).1
def Group.gid (x : Group) (m : Nat) : Nat := (SMap.getD x.cache m (0, 0)).2
def Group.member (x : Group) (node : Nat) : Option Nat := (x.cache.find? (fun e => e.2.1 == node)).map (·.1)

/-- Parent and children over member order, by which sweeps and aborts go (R158, R172). -/
def Group.treeUp (x : Group) : Option Nat := treeParent x.self
def Group.treeDown (x : Group) : List Nat := treeChildren x.n x.self

/-! ## Boxes and arcs (R233, R234) -/

/-- The arc that a set of positions of a ring of extent `e` forms, if it is one. -/
def arcOf (e : Nat) (ps : List Nat) : Option Arc :=
  let ps := ps.eraseDups
  let l := ps.length
  if ps.any (· ≥ e) then none
  else if l = e then some ⟨0, e⟩
  else match ps.filter (fun p => !ps.contains ((p + e - 1) % e)) with
    | [a] => some ⟨a, l⟩
    | _ => none

/-- The arcs of a member list, if the group is a box. -/
def State.boxOf (s : State) (nodes : List Nat) : Option (List Arc) :=
  let arc (dim : Nat) : Option Arc := arcOf (s.extent dim) (nodes.map (nodePos · dim))
  match arc 0, arc 1, arc 2, arc 3 with
  | some x, some y, some z, some d =>
    if x.len * y.len * z.len * d.len = nodes.length ∧ nodes.eraseDups.length = nodes.length then some [x, y, z, d] else none
  | _, _, _, _ => none

/-- Slots a group's arcs need (R243). -/
def slotsFor (arcs : List Arc) : Nat := 2 * (arcs.map (fun a => a.len - 1)).sum

/-- The arc of a dimension. -/
def Group.arc (x : Group) (dim : Nat) : Arc := (x.arcs.getD []).getD dim ⟨0, 1⟩

/-- This member's position within its arc, 0 at the arc start. -/
def State.arcPos (s : State) (a : Arc) (dim : Nat) : Nat :=
  let e := max 1 (s.extent dim)
  (nodePos s.self dim + e - a.start % e) % e

/-- Hops of this member's own flit in the plus or the minus direction (R234). -/
def State.arcHops (s : State) (a : Arc) (dim : Nat) (minus : Bool) : Nat :=
  if a.len = s.extent dim then (if minus then (a.len - 1) / 2 else a.len / 2)
  else if minus then s.arcPos a dim else a.len - 1 - s.arcPos a dim

/-- The ports R234 uses at this member: by which it sends a flit of its own or receives one. -/
def State.arcPorts (s : State) (arcs : List Arc) : List Nat :=
  (arcs.zipIdx).flatMap (fun (a, dim) =>
    if a.len ≤ 1 then []
    else if a.len = s.extent dim then [regularPort dim false, regularPort dim true]
    else (if s.arcHops a dim false > 0 then [regularPort dim false] else []) ++ (if s.arcHops a dim true > 0 then [regularPort dim true] else []))

/-- The first failing condition of R236, or 0. -/
def State.pintleCause (s : State) (x : Group) : Nat :=
  match x.arcs with
  | none => 1
  | some arcs =>
    if x.slots < slotsFor arcs then 2
    else if (s.arcPorts arcs).any (fun p => !s.portReady p) then 3
    else if (s.arcPorts arcs).any (fun p => decide (s.rd (R.GATE_NEG_VERSION p) < 2)) then 4
    else 0

/-- Sample the locally-ready bit. -/
def State.sampleReady (s : State) (g : Nat) (x : Group) : Bool × State :=
  let c := s.pintleCause x
  (c == 0, s.setGroup g { x with localOk := c == 0, cause := c })

/-! ## Activation (R147-R151, R165) -/

/-- The checks of CAUSE 2 on an entry's bytes. -/
def entryOk (e : Nat) : Bool :=
  let n := bits e 0 21
  let n0 := bits e 64 21
  let n1 := bits e 96 21
  bit e 199 && bits e 21 11 == 0 && bits e 53 11 == 0 && bits e 85 11 == 0 && bits e 117 11 == 0 && bits e 200 24 == 0
    && bits e 256 256 == 0 && decide (1 ≤ n ∧ n ≤ 1048576) && decide (bits e 32 21 < n) && decide (0 < n0 ∧ 0 < n1)
    && n % (n0 * n1) == 0 && bits e 128 64 % 64 == 0

/-- The value in effect of TREE_MAX_LOG2 and of RING_MIN_LOG2 (R177). -/
def State.treeMax (s : State) : Nat := min 40 (max 12 (s.rd R.KEYRING_ALGO_TREE_MAX_LOG2))
def State.ringMin (s : State) : Nat := max s.treeMax (min 40 (max 12 (s.rd R.KEYRING_ALGO_RING_MIN_LOG2)))

/-- A group as its entry and list describe it, at IDLE; the thresholds of R165 are captured when it becomes active. -/
def State.newGroup (s : State) (e : Nat) (list : Bytes) : Group :=
  let n := bits e 0 21
  let member (i : Nat) : Nat × Nat := (bits (leAt list (4 * i) 4) 0 20, bits (leAt list (4 * i) 4) 20 12)
  let nodes := (List.range n).map (fun i => (member i).1)
  let arcs := s.boxOf nodes
  let x : Group := {
    n := n, n0 := bits e 64 21, n1 := bits e 96 21, self := bits e 32 21, func := bits e 192 6, wide := bit e 198,
    listVa := bits e 128 64, listCrc := bits e 224 32, treeMax := 0, ringMin := 0, cache := [], state := 1, fresh := true, epoch := 0,
    run := 0, seq := 0, target := none, issued := [], coll := none, readies := [], ups := [], sweep := none, slowNs := 0,
    slowNode := 0, latNs := 0, latNode := 0, faultEpoch := 0, faultReason := 0, faultNode := 0, aborts := [], released := 0,
    faults := 0, probed := false, paths := [], pstate := 0, arcs := arcs, localOk := false, cause := 0, slots := 0, pflits := [],
    prun := none }
  let near := match arcs with
    | none => []
    | some as => (as.zipIdx).flatMap (fun (a, dim) => if a.len ≤ 1 then [] else
        (List.range n).filter (fun i => (member i).1 == s.neighbour dim false 1 || (member i).1 == s.neighbour dim true 1))
  { x with cache := (x.neighbours ++ near).foldl (fun c i => SMap.put c i (member i)) [] }

/-- KEYRING_CMD ACTIVATE (R150). -/
def keyringActivate (k : GroupId) (s : State) : State :=
  if s.on R.KEYRING_STATUS_BUSY then s.wr R.KEYRING_STATUS_CMD_LOST 1
  else if (s.group? k.val).isSome then s.wr R.KEYRING_STATUS_CAUSE 5
  else
    let s := { s with core.col.act := some ⟨k.val, [], none⟩ }
    let base := s.rd R.KEYRING_BASE_LO_BASE * 4096 + s.rd R.KEYRING_BASE_HI_BASE * 2 ^ 32
    (s.wr R.KEYRING_STATUS_BUSY 1).virtJob 0 ((base + k.val * 64) % 2 ^ 64) 64 .read [] 5 0 (.keyEntry k.val)

/-- KEYRING_ACTIVATE (R150). -/
def execKeyringActivate (k : GroupId) : State → Host.Outcome State Fault Refusal := coreCmd (keyringActivate k)

/-- An activation's reads and checks have ended. -/
def State.actEnd (s : State) (a : Activation) (cause : Nat) (x : Option Group) : State :=
  let s := { s with core.col.act := some { a with ended := some (cause, x) } }
  if cause = 0 then s.workItem (.activation a.group) else s

/-- The entry has been read: it is checked, and the list is read (R150 steps 1 to 3). -/
def State.keyEntryRead (s : State) (g : Nat) (r : JobResult) : State :=
  match s.core.col.act with
  | none => s
  | some a =>
    if a.group ≠ g ∨ a.ended.isSome then s
    else if r.fail.isSome then s.actEnd a 1 none
    else if ¬ entryOk (ofLE r.data) then s.actEnd a 2 none
    else
      let e := ofLE r.data
      ({ s with core.col.act := some { a with entry := r.data } }).virtJob 0 (bits e 128 64) (4 * bits e 0 21) .read [] 5 0 (.keyList g)

/-- The list has been read: CRC and entry SELF are checked (R150 steps 4 and 5). -/
def State.keyListRead (s : State) (g : Nat) (r : JobResult) : State :=
  match s.core.col.act with
  | none => s
  | some a =>
    let e := ofLE a.entry
    if a.group ≠ g ∨ a.ended.isSome then s
    else if r.fail.isSome then s.actEnd a 1 none
    else if crc32c r.data ≠ bits e 224 32 then s.actEnd a 3 none
    else if leAt r.data (4 * bits e 32 21) 4 ≠ s.self + g * 2 ^ 20 then s.actEnd a 4 none
    else s.actEnd a 0 (some (s.newGroup e r.data))

/-- Pintle slots that active groups hold. -/
def State.slotsUsed (s : State) : Nat := (s.core.col.groups.map (·.2.slots)).sum

/-- The counts of active groups and of Pintle slots show in their registers. -/
def State.countGroups (s : State) : State :=
  let gs := s.core.col.groups
  ((s.wr R.KEYRING_STATUS_ACTIVE gs.length).wr R.KEYRING_PINTLE_STATUS_SLOTS_USED s.slotsUsed).wr R.KEYRING_PINTLE_STATUS_BOXES
    (gs.filter (fun x => x.2.slots != 0)).length

/-- A group becomes active: the thresholds in effect are captured (R165, R382), and Pintle slots are allocated if the pool has room (R243). -/
def State.enterGroup (s : State) (g : Nat) (x : Group) : State :=
  let need := match x.arcs with
    | some as => slotsFor as
    | none => 0
  let fits := decide (s.slotsUsed + need ≤ s.build.pintleSlots)
  let s := if fits then s else s.wr R.KEYRING_PINTLE_STATUS_POOL_SHORT 1
  let x := { x with slots := if fits then need else 0, treeMax := s.treeMax, ringMin := s.ringMin }
  let (_, s) := s.sampleReady g x
  s.countGroups

/-- KEYRING_ACTIVATE_DONE: the reads have ended, and for a group that can be active policy firmware acknowledges (R150, R382). -/
def keyringActivateDone (s : State) : State :=
  match s.core.col.act with
  | none => s
  | some a => match a.ended with
    | none => s
    | some (cause, x) =>
      let fin (s : State) : State := ({ s with core.col.act := none }).wr R.KEYRING_STATUS_BUSY 0
      match x with
      | none => (fin s).wr R.KEYRING_STATUS_CAUSE cause
      | some x =>
        if s.itemDue (.activation a.group) then (((fin s).takeItem (.activation a.group)).wr R.KEYRING_STATUS_CAUSE 0).enterGroup a.group x else s

/-- KEYRING_ACTIVATE_DONE (R150). -/
def execKeyringActivateDone : State → Host.Outcome State Fault Refusal := coreCmd keyringActivateDone

/-- A group queue that names the group is not DISABLED. -/
def State.groupQueued (s : State) (g : Nat) : Bool :=
  s.liveQueues.any (fun q => s.rd (R.QUEUE_CTL_KIND q) == 1 && s.rd (R.QUEUE_CTL_GROUP q) == g)

/-- KEYRING_CMD DEACTIVATE (R150). -/
def keyringDeactivate (k : GroupId) (s : State) : State :=
  if s.on R.KEYRING_STATUS_BUSY then s.wr R.KEYRING_STATUS_CMD_LOST 1
  else if (s.group? k.val).isNone ∨ s.groupQueued k.val then s.wr R.KEYRING_STATUS_CAUSE 5
  else (({ s with core.col.groups := SMap.del s.core.col.groups k.val }).wr R.KEYRING_STATUS_CAUSE 0).countGroups

/-- KEYRING_DEACTIVATE (R150). -/
def execKeyringDeactivate (k : GroupId) : State → Host.Outcome State Fault Refusal := coreCmd (keyringDeactivate k)

/-! ## Group messages (R282) -/

/-- The common names of a COL, GROUP or PINTLE packet: receiver's group ID, run, SEQ, epoch, signature. -/
def groupFields (gid run seq epoch sig : Nat) : List (Nat × Nat × Nat) :=
  [hf 0x10 0 12 gid, hf 0x10 12 4 run, hf 0x12 0 16 seq, hf 0x14 0 32 epoch, hf 0x18 0 32 sig]

def Packet.grp (p : Packet) : Nat := p.fld 0x10 0 12
def Packet.run (p : Packet) : Nat := p.fld 0x10 12 4
def Packet.seqNo (p : Packet) : Nat := p.fld 0x12 0 16
def Packet.epoch (p : Packet) : Nat := p.fld 0x14 0 32
def Packet.sig (p : Packet) : Nat := p.fld 0x18 0 32

/-- Send a GROUP message to a node. -/
def State.sendGroup (s : State) (node queue sub gid run seq epoch sig : Nat) (fields : List (Nat × Nat × Nat)) : State :=
  s.inject none none (mkPacket 0 3 node s.self queue 0 0 (groupFields gid run seq epoch sig ++ [hf 0x1C 0 4 sub] ++ fields) [])

/-- Send one to a member of the neighbour set. -/
def State.sendMember (s : State) (x : Group) (m queue sub run seq epoch sig : Nat) (fields : List (Nat × Nat × Nat)) : State :=
  s.sendGroup (x.node m) queue sub (x.gid m) run seq epoch sig fields

/-! ## Serial numbers -/

/-- Epoch `a` is newer than `b` (chapter 6). -/
def epochNewer (a b : Nat) : Bool := let d := subMod 32 a b; decide (1 ≤ d ∧ d < 2 ^ 31)
/-- Run `a` is newer than `b`: RUN counts modulo 16 (R157), and the model takes a difference of 1 to 7 as newer (DESIGN CHOICE, log entry
43). -/
def runNewer (a b : Nat) : Bool := let d := subMod 4 a b; decide (1 ≤ d ∧ d < 8)

/-! ## Faults (R157, R160, R172, R173) -/

/-- The access belongs to a group's collectives. -/
def Purpose.ofGroup (p : Purpose) (g : Nat) : Bool :=
  match p with
  | .countPeer h _ => h == g
  | .colSource h _ _ => h == g
  | .colResult h _ => h == g
  | .countSend h _ => h == g
  | .countRecv h _ => h == g
  | .pintleSrc h => h == g
  | .pintleDst h => h == g
  | _ => false

/-- Send an abort over the tree, but not to the node it came from (R172). -/
def State.sendAbort (s : State) (x : Group) (epoch run reason chunk node : Nat) (came : Option Nat) : State :=
  let tos := ((match x.treeUp with
    | some p => [p]
    | none => []) ++ x.treeDown).filter (fun m => came != some (x.node m))
  tos.foldl (fun s m => s.sendMember x m 0 1 run 0 epoch 0
    [hf 0x1E 0 12 reason, hf 0x20 0 32 chunk, hf 0x24 0 20 node]) s

/-- RESULT of an EPOCH_FAULT record (R71). -/
def faultResult (epoch chunk node : Nat) : Nat := epoch + chunk * 2 ^ 32 + node * 2 ^ 64

/-- No chunk applies (R173). -/
def noChunk : Nat := 0xFFFFFFFF

/-- The abort of an (epoch, run) has been sent or relayed; those that a wrap of RUN would take for newer ones are forgotten. -/
def Group.noteAbort (x : Group) (epoch run : Nat) : Group :=
  { x with aborts := x.aborts.filter (fun a => !(a.1 == epoch && (a.2 == run || runNewer a.2 run))) ++ [(epoch, run)] }

/-- Fault the current epoch of a group: the abort goes out, the issued collectives end with `status`, and held operands are dropped. What a
peer sent of a handover under way is dropped too: it reaches the handover again after its re-run. -/
def State.epochFault (s : State) (g run reason chunk node : Nat) (came : Option Nat) (status : Nat) : State :=
  match s.group? g with
  | none => s
  | some x =>
    let s := s.sendAbort x x.epoch run reason chunk node came
    let x := x.noteAbort x.epoch run
    let s := (s.dropJobs (fun j => j.purpose.ofGroup g)).setGroup g { x with
      state := 4, fresh := false, target := none, issued := [], coll := none, readies := x.readies.filter (fun r => r.epoch == x.epoch && runNewer r.run x.run),
      ups := x.ups.filter (fun u => u.epoch == x.epoch && runNewer u.run x.run), sweep := none, faultEpoch := x.epoch,
      faultReason := reason, faultNode := node, faults := (x.faults + 1) % 2 ^ 32, pstate := 0, pflits := [], prun := none }
    let s := s.traceEv (some R.TRACE_CTL_COL) 0x21 15 0 status (some x.func) 0 0 0 0 0 0 s.now (reason + x.epoch * 2 ^ 32)
    x.issued.foldl (fun s (i : Nat × List Stage) =>
      if status = 0x12 then s.endOp i.1 0x12 (det 6 0x068) 0 0 else s.endOp i.1 0x0E (det 6 reason) (faultResult x.epoch chunk node) 0) s

/-- A fault cause arises at this member. -/
def State.localFault (s : State) (g reason chunk : Nat) : State :=
  match s.group? g with
  | some x => s.epochFault g x.run reason chunk s.self none 0x0E
  | none => s

/-- Reason of a failed local access (R173, R395): translation, or the memory side. -/
def failReason (f : Fail) (mspReason : Nat) : Nat :=
  match f with
  | .xlate _ => 0x061
  | .msp _ => mspReason

end Sys2Proof.Machine
end

