-- ==== Sys2Proof/Machine/Knuckle.lean ====
section
/-! DEFINITION. Knuckle arithmetic (chapter 7): partials, folds, fused chains, the final pass, summaries, and the chain registers. -/

namespace Sys2Proof.Machine

/-! ## Partials (R184, R187, R188) -/

/-- The data of a format code are of the float class. -/
def floatClass (fmt : Nat) : Bool := decide (4 ≤ fmt)

/-- Format of partials (R188). -/
def partialFmt (wide : Bool) (inFmt outFmt : Nat) : Nat := if wide then (if floatClass inFmt then 9 else 3) else outFmt

/-- Working format of a class, as a code: binary64 or INT64 (R190). -/
def workFmt (float : Bool) : Nat := if float then 9 else 3

/-- An MX element under its scale byte (R183, R184). -/
def mxDecode (fmt code scale : Nat) : FVal :=
  if scale = 255 then .nan
  else match floatFmt fmt with
    | some f => fScale (f.decode code) ((scale : Int) - 127)
    | none => .nan

/-- Fold two codes of a partial format: the operator, then the encoding (R187). -/
def foldCodes (op pf a b : Nat) : Nat × Nat :=
  let (v, f1) := numOp op (numDecode pf a) (numDecode pf b)
  let (c, f2) := numEncode pf v
  (c, flOr f1 f2)

/-- Lanes: element, code, flags. -/
abbrev Lanes := List (Nat × Nat × Nat)

/-- Fold two operands by element (R181, R224): an element that only one holds meets +0 or integer 0, the earlier operand on the left. -/
def foldLanes (op pf : Nat) (a b : List (Nat × Nat)) : Lanes :=
  let keys := a.map (·.1) ++ (b.filter (fun y => (SMap.get? a y.1).isNone)).map (·.1)
  let one (k : Nat) : Nat × Nat × Nat :=
    let (c, fl) := foldCodes op pf (SMap.getD a k 0) (SMap.getD b k 0)
    (k, c, fl)
  (keys.foldl (fun (m : SMap (Nat × Nat)) k => SMap.put m k (one k).2) []).map (fun e => (e.1, e.2.1, e.2.2))

/-- OR of the flags of lanes. -/
def lanesFlags (l : Lanes) : Nat := l.foldl (fun f e => flOr f e.2.2) 0

/-- Elements of lanes without their flags. -/
def lanesVals (l : Lanes) : List (Nat × Nat) := l.map (fun e => (e.1, e.2.1))

/-! ## The fused chain (R191-R195) -/

/-- A stage fits the class of the data (R191, R192). -/
def Stage.fits (st : Stage) (float : Bool) : Bool :=
  if st.op = 11 then float
  else if st.op = 2 ∨ st.op = 4 ∨ st.op = 10 then floatClass st.fmt == float
  else true

/-- A stage reads a vector. -/
def Stage.vector (st : Stage) : Bool := st.op == 2 || st.op == 4

/-- A value rounded into the working format (R185, R192). -/
def workRound (v : Num) : Num × Nat :=
  match v with
  | .f x => let (c, fl) := numEncode 9 (.f x); (numDecode 9 c, fl)
  | .i x => let (y, fl) := satInt 64 x; (.i y, fl)

/-- Product, sum, magnitude and negation of working values. -/
def numMul (a b : Num) : Num × Nat :=
  match a, b with
  | .f x, .f y => let (v, fl) := fMul x y; (.f v, fl)
  | .i x, .i y => (.i (x * y), 0)
  | x, _ => (x, 0)
def numAbs (a : Num) : Num :=
  match a with
  | .f x => .f (fAbs x)
  | .i x => .i x.natAbs
def numNeg (a : Num) : Num :=
  match a with
  | .f x => .f (fNeg x)
  | .i x => .i (-x)

/-- |x| is below s. -/
def numBelow (x s : Num) : Bool :=
  match numAbs x, s with
  | .f a, .f b => a != .nan && b != .nan && fLt a b && !(fZero a && fZero b)
  | .i a, .i b => decide (a < b)
  | _, _ => false

/-- Zero of a class: +0 or integer 0. -/
def numNil (a : Num) : Num :=
  match a with
  | .f _ => .f (.fin false 0 0)
  | .i _ => .i 0

/-- A stage on one element, QUANT_MX aside; `v` is the scalar or the vector's element. -/
def Stage.apply (st : Stage) (v x : Num) : Num × Nat :=
  let wr (r : Num × Nat) : Num × Nat := let (y, fl) := workRound r.1; (y, flOr r.2 fl)
  if st.op = 1 ∨ st.op = 2 then wr (numMul x v)
  else if st.op = 3 ∨ st.op = 4 then wr (numOp 0 x v)
  else if st.op = 5 then numOp 1 x v
  else if st.op = 6 then numOp 2 x v
  else if st.op = 7 then wr (numAbs x, 0)
  else if st.op = 8 then wr (numNeg x, 0)
  else if st.op = 9 then wr (numMul x x)
  else if st.op = 10 then let (c, fl) := numEncode st.fmt x; (numDecode st.fmt c, fl)
  else if st.op = 12 then (if numBelow x v then (numNil x, 0) else (x, 0))
  else (x, 0)

/-- emax of an MX element format (R194). -/
def mxEmax (fmt : Nat) : Int := if fmt = 0xA then 8 else if fmt = 0xB then 15 else if fmt = 0xC then 4 else 2

/-- One element of QUANT_MX under exponent `e`. A NaN in a format without one is a free value (log entry 9). -/
def quantEl (fmt : Nat) (e : Int) (fr : Nat) (x : FVal) : FVal × Nat :=
  match floatFmt fmt with
  | none => (x, 0)
  | some f =>
    if x = .nan then (if f.inf ∨ f.oneNan then .nan else fFp64.decode fr, 0)
    else
      let (c, fl) := f.encode (fScale x (-e))
      let big := bit fl 1
      let neg := match x with
        | .fin n _ _ => n
        | .inf n => n
        | .nan => false
      let y := if big then FVal.fin neg f.maxFin.1 f.maxFin.2 else f.decode c
      let (z, fl2) := fFp64.round (fScale y e)
      (z, flOr (if big then flInexact else fl) fl2)

/-- QUANT_MX on the elements of one block of 32 (R194). -/
def quantBlock (fmt fr : Nat) (xs : List FVal) : List (FVal × Nat) :=
  let amax := xs.foldl (fun a x => fMax a (fAbs x)) (.fin false 0 0)
  match amax with
  | .nan => xs.map (fun x => (x, 0))
  | .inf _ => xs.map (fun _ => (.nan, flInvalid))
  | .fin _ m e =>
    if m = 0 then xs.map (fun x => (x, 0))
    else
      let k : Int := e + bitLen m - 1 - mxEmax fmt
      let k := max (-127) (min 127 k)
      xs.map (quantEl fmt k fr)

/-- Working lanes: element, value, flags. -/
abbrev WLanes := List (Nat × Num × Nat)

/-- A QUANT_MX stage on lanes: block by block. -/
def quantLanes (fmt fr : Nat) (l : WLanes) : WLanes :=
  let blocks := (l.map (fun e => e.1 / 32)).eraseDups
  blocks.flatMap (fun b =>
    let es := l.filter (fun e => e.1 / 32 == b)
    let xs := es.map (fun e => match e.2.1 with
      | .f x => x
      | .i _ => FVal.nan)
    (es.zip (quantBlock fmt fr xs)).map (fun (e, r) => (e.1, Num.f r.1, flOr e.2.2 r.2)))

/-- A chain on lanes (R192-R194). `vec` gives the element of a stage's vector, by stage and element. -/
def runChain (float : Bool) (vec : Nat → Nat → Num) (fr : Nat) : Nat → List Stage → WLanes → WLanes
  | _, [], l => l
  | i, st :: rest, l =>
    let l' := if st.op = 11 then quantLanes st.fmt fr l
      else l.map (fun e =>
        let v := if st.vector then vec i e.1 else numDecode (workFmt float) st.opnd
        let (y, fl) := st.apply v e.2.1
        (e.1, y, flOr e.2.2 fl))
    runChain float vec fr (i + 1) rest l'

/-- The end of a final pass (R190 steps 2 to 4): decode, chain, encode. -/
def finalLanes (fmtIn fmtOut : Nat) (stages : List Stage) (vec : Nat → Nat → Num) (fr : Nat) (l : List (Nat × Num)) : Lanes :=
  (runChain (floatClass fmtIn) vec fr 0 stages (l.map (fun e => (e.1, e.2, 0)))).map (fun e =>
    let (c, fl) := numEncode fmtOut e.2.1
    (e.1, c, flOr e.2.2 fl))

/-! ## Summaries (R200) -/

/-- Add values pairwise. -/
def pairSum (wf : Nat) : List Nat → List Nat
  | a :: b :: t => (foldCodes 0 wf a b).1 :: pairSum wf t
  | l => l

/-- The tree over the lanes of a beat: eight levels. -/
def beatSum (wf : Nat) (lanes : List (Nat × Nat)) : Nat :=
  (iterate (pairSum wf) 8 ((List.range 256).map (fun i => SMap.getD lanes i 0))).headD 0

/-- A summary over no lanes. -/
def Summary.empty (float : Bool) : Summary := ⟨0, [], 0, 0, if float then 0xFFF0000000000000 else 2 ^ 63, 0, 0⟩

/-- Add the beat gathered so far into the accumulators. -/
def Summary.flush (x : Summary) (float : Bool) : Summary :=
  if x.lanes = [] then x
  else
    let wf := workFmt float
    let sq := x.lanes.map (fun l =>
      let v := numDecode wf l.2
      (l.1, (numEncode wf (numMul v v).1).1))
    { x with lanes := [], sum := (foldCodes 0 wf x.sum (beatSum wf x.lanes)).1, sumsq := (foldCodes 0 wf x.sumsq (beatSum wf sq)).1 }

/-- Enter a written value, in the working format, at its element. -/
def Summary.add (x : Summary) (float : Bool) (el code : Nat) : Summary :=
  let x := if x.beat = el / 256 then x else { x.flush float with beat := el / 256 }
  let wf := workFmt float
  { x with lanes := SMap.put x.lanes (el % 256) code, max := (foldCodes 2 wf x.max code).1, absmax := (foldCodes 3 wf x.absmax code).1,
           nnz := x.nnz + b2n (!numZero (numDecode wf code)) }

/-- Enter lanes as written in OUT_FMT. -/
def Summary.addLanes (x : Summary) (fmtOut : Nat) (l : List (Nat × Nat)) : Summary :=
  let float := floatClass fmtOut
  l.foldl (fun x e => x.add float e.1 (numEncode (workFmt float) (numDecode fmtOut e.2)).1) x

/-! ## Counters (R409) -/

/-- Flags, of the four, that some lane of a beat raised. -/
def beatFlags (rel beat : Nat) (l : Lanes) : Nat := lanesFlags (l.filter (fun e => (rel + e.1) / 256 == beat))

/-- Count one pass over a piece of `n` elements that begins `rel` elements into its chunk: the beats it opens (R178), the beats in which some
lane raised a flag, not again those `seen` in a beat begun earlier, and the pass when the piece is its last. Answers the flags seen in the
beat the piece ends in. -/
def State.countPass (s : State) (unit rel n : Nat) (last sparse : Bool) (seen : Nat) (l : Lanes) : Nat × State :=
  let b0 := rel / 256
  let b1 := (rel + n + 255) / 256
  let old (b : Nat) : Nat := if b = b0 ∧ rel % 256 ≠ 0 then seen else 0
  let s := s.countN (unitSlot unit) 1 (b1 - (rel + 255) / 256)
  let s := if last then s.count (unitSlot unit) 0 else s
  let s := if sparse then s.count (unitSlot unit) 14 else s
  let s := (List.range (b1 - b0)).foldl (fun s k =>
    let f := beatFlags rel (b0 + k) l
    (List.range 4).foldl (fun s i => if bit f i ∧ ¬ bit (old (b0 + k)) i then s.count (unitSlot unit) (2 + i) else s) s) s
  (flOr (old (b1 - 1)) (beatFlags rel (b1 - 1) l), s)

/-- Count the passes of a combine, `ls` what each raised; `seen` is what R409 counts once a beat for each of them. -/
def State.countPasses (s : State) (unit rel n : Nat) (last sparse : Bool) : List Nat → List Lanes → List Nat × State
  | _, [] => ([], s)
  | seen, l :: ls =>
    let r := s.countPass unit rel n last sparse (seen.headD 0) l
    let rest := r.2.countPasses unit rel n last sparse seen.tail ls
    (r.1 :: rest.1, rest.2)

/-! ## Chain programs (R201) -/

/-- A stage's FMT is permitted for its OP. -/
def stageFmtOk (op fmt : Nat) : Bool :=
  if op = 2 ∨ op = 4 ∨ op = 10 then decide (fmt ≤ 9)
  else if op = 11 then decide (0xA ≤ fmt ∧ fmt ≤ 0xE)
  else fmt == 0

/-- Stage `i` of program `p`. -/
def State.stage (s : State) (p i : Nat) : Stage :=
  ⟨s.rd (R.KNUCKLE_STAGE_CTL_OP p i), s.rd (R.KNUCKLE_STAGE_CTL_FMT p i),
    s.rd (R.KNUCKLE_STAGE_OPND_LO_DATA p i) + s.rd (R.KNUCKLE_STAGE_OPND_HI_DATA p i) * 2 ^ 32⟩

/-- The stages of a program. -/
def State.chain (s : State) (p : Nat) : List Stage := (List.range (s.rd (R.KNUCKLE_CHAIN_HDR_STAGES p))).map (s.stage p)

/-- The program passes validation (R201). -/
def State.chainOk (s : State) (p : Nat) : Bool :=
  let n := s.rd (R.KNUCKLE_CHAIN_HDR_STAGES p)
  decide (1 ≤ n ∧ n ≤ 8) && (List.range 8).all (fun i =>
    let st := s.stage p i
    if i < n then decide (1 ≤ st.op ∧ st.op ≤ 12) && stageFmtOk st.op st.fmt else st.op == 0 && st.fmt == 0 && st.opnd == 0)

/-- A write of KNUCKLE_CHAIN_HDR(p) (R201). Program 0 has no register. -/
def chainValidate (p : Fin 256) (data : Word) (s : State) : State :=
  let p := p.val
  if p = 0 then s
  else if s.on (R.KNUCKLE_CHAIN_HDR_VALID p) then (if bits data.toNat 0 1 = 0 then s.wr (R.KNUCKLE_CHAIN_HDR_VALID p) 0 else s)
  else
    let s := (s.wr (R.KNUCKLE_CHAIN_HDR_STAGES p) (bits data.toNat 1 4)).wr (R.KNUCKLE_CHAIN_HDR_FUNC p) (bits data.toNat 8 6)
    if bits data.toNat 0 1 = 0 then s
    else if s.chainOk p then s.wr (R.KNUCKLE_CHAIN_HDR_VALID p) 1
    else (s.wr R.KNUCKLE_STATUS_PROG_ERR 1).wr R.KNUCKLE_STATUS_PROG_ERR_ID p

/-- CHAIN_VALIDATE (R201). -/
def execChainValidate (p : Fin 256) (data : Word) : State → Host.Outcome State Fault Refusal := coreCmd (chainValidate p data)

/-! ## Descriptor reasons (R161-R163, R186, R191, R222) -/

/-- The (half and OP, IN_FMT, OUT_FMT) combination is permitted (R186). -/
def formatsOk (rs : Bool) (op inF outF : Nat) : Bool :=
  let float := floatClass inF
  decide (inF ≤ 0xE) && (if float then isFloatFmt outF else isIntFmt outF)
    && (if rs then (if op ≤ 3 then true else decide (op ≤ 6) && !float && inF == outF) else op == 0)

/-- A format has Nyesh blocks (R202). -/
def nyFormat (f : Nat) : Bool := [0, 1, 4, 5, 6, 7].contains f

/-- Bytes of DST of a dense collective, or the bytes its sparse tiles stand for (R161, R231), of `n` members. -/
def dstBytes (rs : Bool) (n e outF : Nat) : Nat := (if rs then e / n else n * e) * fmtSize outF

/-- Reasons of R50 that RS and AG add, for a group of `n` members and function `f`. -/
def State.colReasons (s : State) (n f : Nat) (d : BitVec 1024) : List Nat :=
  let rs := dOpcode d == 0x10
  let inF := dInFmt d
  let outF := dOutFmt d
  let e := elementsOf inF (dBytes d)
  let el := e.getD 0
  let span := dstBytes rs n el outF
  let chunks := (span + 2 ^ dChunkLog2 d - 1) / 2 ^ dChunkLog2 d
  let ch := dChain d
  let slots := dSparse d && (rs || !dColExpand d)
  let dst := if slots then (if rs then el / n else n * el) / 256 * dTileCap d else span
  (if ¬ formatsOk rs (dColOp d) inF outF then [7] else [])
    ++ (if ¬ rs ∧ dSrc2 d ≠ 0 then [1] else [])
    ++ (if ch ≠ 0 ∧ (¬ s.on (R.KNUCKLE_CHAIN_HDR_VALID ch) ∨ s.rd (R.KNUCKLE_CHAIN_HDR_FUNC ch) ≠ f
          ∨ (s.chain ch).any (fun st => !st.fits (floatClass inF))) then [7] else [])
    ++ (if dBytes d = 0 ∨ dBytes d > 2 ^ 40 ∨ e.isNone ∨ (rs ∧ el % n ≠ 0) ∨ (isMxFmt inF ∧ (if rs then el / n else el) % 32 ≠ 0)
          ∨ dChunkLog2 d < 12 ∨ dChunkLog2 d > 24 ∨ dst > 2 ^ 48 ∨ chunks > 2 ^ 32 then [4] else [])
    ++ (if dMaskZero d ∧ f ≠ 0 ∧ ¬ s.on (R.FUNC_CTL_ZERO f) then [8] else [])
    ++ (if dChunkSigCount d ≠ 0 ∧ dChunkSigBase d + dChunkSigCount d > s.rd (R.FUNC_SIG_COUNT_COUNT f) then [6] else [])
    ++ (if dSparse d then
          (if ¬ nyFormat inF ∨ ¬ nyFormat outF then [7] else [])
            ++ (if dSrc2 d ≠ 0 ∨ dMask d ≠ 0 ∨ dMaskZero d ∨ (rs ∧ dColExpand d)
                  ∨ (¬ rs ∧ dColExpand d ∧ (dOvf d ≠ 0 ∨ dTileCap d ≠ 0)) then [1] else [])
            ++ (if (if rs then el / n else el) % 256 ≠ 0 ∨ (slots ∧ (dTileCap d % 16 ≠ 0 ∨ dTileCap d < 16 ∨ dTileCap d > 528)) then [4] else [])
            ++ (if dOvf d % 16 ≠ 0 then [5] else [])
        else [])

end Sys2Proof.Machine
end

