-- ==== Sys2Proof/Machine/Plan.lean ====
section
/-! DEFINITION. The plan of a collective (R161-R166): which member folds, sends, keeps and writes which piece, in what order. -/

namespace Sys2Proof.Machine

/-- One action of a member on one piece: ring digit or 3 for a tree; phase of R279; the member whose slice or contribution the piece belongs
to; the peers whose operands it takes, in order; whether its own operand takes part and whether that comes first; the peers it sends to;
whether the piece is kept for a later action; whether it is this member's result to write; and whether 3 grants are needed (R314). -/
structure Act where
  stage  : Nat
  phase  : Nat
  item   : Nat
  froms  : List Nat
  own    : Bool
  ownFirst : Bool
  tos    : List Nat
  keep   : Bool
  final  : Bool
  three  : Bool
deriving DecidableEq, Repr

/-- Algorithms of R165. -/
def algTree : Nat := 0
def algRing : Nat := 1
def algHybrid : Nat := 2
/-- The choice of R165. -/
def Group.alg (x : Group) (bytes : Nat) : Nat :=
  if bytes ≤ 2 ^ x.treeMax then algTree else if bytes > 2 ^ x.ringMin then algRing else algHybrid

/-- Ring digits an algorithm uses, lowest first; those of extent 1 are skipped (R166). -/
def Group.digits (x : Group) (alg : Nat) : List Nat :=
  (if alg = algRing then [0, 1, 2] else if alg = algHybrid then [0] else []).filter (fun j => decide (x.extent j > 1))

/-- The tree of an algorithm as (base, step): node t is member base + step x t; none for a ring. -/
def Group.tree (x : Group) (alg : Nat) : Option (Nat × Nat) :=
  if alg = algTree then some (0, 1) else if alg = algHybrid then some (x.digit 0 x.self, x.n0) else none

/-- Members that share this member's digits below `j`, by what their digits above `j` are. -/
def Group.fixedBelow (x : Group) (j : Nat) : List Nat :=
  (List.range x.n).filter (fun m => x.digit j m == 0 && (List.range j).all (fun i => x.digit i m == x.digit i x.self))

/-- Ring neighbours of this member in digit `j`. -/
def Group.right (x : Group) (j : Nat) : Nat := x.setDigit j x.self ((x.digit j x.self + 1) % x.extent j)
def Group.left (x : Group) (j : Nat) : Nat := x.setDigit j x.self ((x.digit j x.self + x.extent j - 1) % x.extent j)

/-! ## Reduce-scatter -/

/-- The ring of digit `j` (R166): the part of position q is reduced from position q + 1 around to q. -/
def Group.ringReduce (x : Group) (j : Nat) (last : Bool) : List Act :=
  let l := x.extent j
  let p := x.digit j x.self
  (x.fixedBelow j).flatMap (fun w => (List.range l).map (fun i =>
    let q := (p + l - 1 - i) % l
    let m := x.setDigit j w q
    ({ stage := j, phase := 0, item := m, froms := if i = 0 then [] else [x.left j], own := true, ownFirst := false,
       tos := if i + 1 = l then [] else [x.right j], keep := i + 1 == l && !last, final := i + 1 == l && last,
       three := i == 0 } : Act)))

/-- Child of tree node `t` whose subtree holds node `u`. -/
def childToward (n t u : Nat) : Option Nat := (treeChildren n t).find? (fun c => inSubtree c u)

/-- The tree of RS (R166): every slice is reduced to the root, which scatters the slices down. -/
def Group.treeReduce (x : Group) (base step : Nat) (carried : Bool) : List Act :=
  let n := x.n / step
  let t := x.self / step
  let mem (u : Nat) : Nat := base + step * u
  let kids := treeChildren n t
  let parent := (treeParent t).map mem
  let up := (List.range n).map (fun u =>
    ({ stage := 3, phase := 0, item := mem u, froms := kids.map mem, own := true, ownFirst := true, tos := parent.toList,
       keep := parent.isNone, final := false, three := carried && kids.isEmpty } : Act))
  let down := ((List.range n).filter (inSubtree t)).map (fun u =>
    ({ stage := 3, phase := 1, item := mem u, froms := parent.toList, own := parent.isNone, ownFirst := true,
       tos := ((childToward n t u).map mem).toList, keep := false, final := u == t, three := parent.isNone && u != t } : Act))
  up ++ down

/-- The plan of RS. -/
def Group.planRs (x : Group) (alg : Nat) : List Act :=
  let ds := x.digits alg
  let rings := (ds.zipIdx).flatMap (fun (j, i) => x.ringReduce j (i + 1 == ds.length && (x.tree alg).isNone))
  match x.tree alg with
  | some (b, st) => rings ++ x.treeReduce b st (!ds.isEmpty)
  | none => if ds.isEmpty then
      [⟨0, 0, x.self, [], true, true, [], false, true, false⟩]
    else rings

/-! ## Gather-to-all: the stages in reverse -/

/-- The ring of digit `j`: the contributions of position q travel from q around. -/
def Group.ringGather (x : Group) (j : Nat) (last : Bool) : List Act :=
  let l := x.extent j
  let p := x.digit j x.self
  (x.fixedBelow j).flatMap (fun w => (List.range l).map (fun i =>
    let q := (p + l - i) % l
    let m := x.setDigit j w q
    ({ stage := j, phase := 2, item := m, froms := if i = 0 then [] else [x.left j], own := i == 0, ownFirst := true,
       tos := if i + 1 = l then [] else [x.right j], keep := !last, final := i != 0, three := i == 0 } : Act)))

/-- The tree of AG: contributions go up to the root, and down into the subtrees that do not hold them. -/
def Group.treeGather (x : Group) (base step : Nat) (last : Bool) : List Act :=
  let n := x.n / step
  let t := x.self / step
  let mem (u : Nat) : Nat := base + step * u
  let parent := (treeParent t).map mem
  let up := ((List.range n).filter (inSubtree t)).map (fun u =>
    ({ stage := 3, phase := 2, item := mem u, froms := if u = t then [] else ((childToward n t u).map mem).toList, own := u == t, ownFirst := true,
       tos := parent.toList, keep := true, final := u != t, three := false } : Act))
  let down := (List.range n).map (fun u =>
    let inside := inSubtree t u
    ({ stage := 3, phase := 2, item := mem u, froms := if inside then [] else parent.toList, own := inside, ownFirst := true,
       tos := ((treeChildren n t).filter (fun c => !inSubtree c u)).map mem, keep := inside || !last, final := !inside, three := false } : Act))
  (up ++ down).filter (fun a => !(a.froms.isEmpty && a.tos.isEmpty))

/-- The plan of AG: first this member's own contribution, then tree and rings, digits 2, 1, 0. -/
def Group.planAg (x : Group) (alg : Nat) : List Act :=
  let ds := (x.digits alg).reverse
  let stage := if alg = algRing then ds.headD 0 else 3
  let own : Act := ⟨stage, 2, x.self, [], true, true, [], true, true, false⟩
  let tree := match x.tree alg with
    | some (b, st) => x.treeGather b st ds.isEmpty
    | none => []
  own :: tree ++ (ds.zipIdx).flatMap (fun (j, i) => x.ringGather j (i + 1 == ds.length))

/-- The plan of a collective. The parts of a stage pass in turn, each in increasing chunks (R164, R166): a member works through the slices
or contributions in member order, each piece by piece, and runs the actions on a piece in the order of the plan. -/
def Group.plan (x : Group) (rs : Bool) (alg : Nat) : List Act := if rs then x.planRs alg else x.planAg alg

/-- Peers a plan takes operands from, and all its peers. -/
def planSources (p : List Act) : List Nat := (p.flatMap (·.froms)).eraseDups
def planPeers (p : List Act) : List Nat := (p.flatMap (fun a => a.froms ++ a.tos)).eraseDups

/-! ## Pieces -/

/-- What a descriptor and its group fix about the pieces of a collective: half, members, elements of a slice or contribution, formats,
bytes of a partial and of a result element, chunk size, sparse. -/
structure Shape where
  rs     : Bool
  n      : Nat
  elems  : Nat
  inF    : Nat
  pf     : Nat
  outF   : Nat
  ps     : Nat
  so     : Nat
  chunk  : Nat
  sparse : Bool
deriving DecidableEq, Repr

/-- The shape of a descriptor in a group. -/
def Group.shape (x : Group) (d : BitVec 1024) : Shape :=
  let rs := dOpcode d == 0x10
  let e := (elementsOf (dInFmt d) (dBytes d)).getD 0
  let pf := if rs then partialFmt x.wide (dInFmt d) (dOutFmt d) else dOutFmt d
  ⟨rs, x.n, if rs then e / x.n else e, dInFmt d, pf, dOutFmt d, fmtSize pf, fmtSize (dOutFmt d), 2 ^ dChunkLog2 d, dSparse d⟩

/-- Bytes of DST, as dense elements, and the tiles of a chunk. -/
def Shape.span (h : Shape) : Nat := (if h.rs then h.elems else h.n * h.elems) * h.so
def Shape.tilesPerChunk (h : Shape) : Nat := h.chunk / (256 * h.so)

/-- Pieces of the slice or contribution of `item`. -/
def Shape.pieces (h : Shape) (item : Nat) : Nat :=
  if h.sparse then h.elems / 256
  else if h.rs then (h.elems + 512 / h.ps - 1) / (512 / h.ps)
  else if h.elems = 0 then 0
  else (item * h.elems * h.so + h.elems * h.so - 1) / 512 - item * h.elems * h.so / 512 + 1

/-- First element, within its slice or contribution, and element count of piece `u` of `item`; none after the last. -/
def Shape.piece (h : Shape) (item u : Nat) : Option (Nat × Nat) :=
  if h.sparse then (if u * 256 < h.elems then some (u * 256, 256) else none)
  else if h.rs then
    let a := u * (512 / h.ps)
    if a < h.elems then some (a, min (512 / h.ps) (h.elems - a)) else none
  else
    let b := item * h.elems * h.so
    let lo := max b (512 * (b / 512 + u))
    let hi := min (b + h.elems * h.so) (512 * (b / 512 + u + 1))
    if lo < hi then some ((lo - b) / h.so, (hi - lo) / h.so) else none

/-- Element of DST at which a piece of `item` begins (R162). -/
def Shape.dstEl (h : Shape) (item a : Nat) : Nat := if h.rs then a else item * h.elems + a

/-- Chunk of DST a piece lies in (R164, R231), its number on the wire and its EOFF (R279; log entry 10). -/
def Shape.chunkOf (h : Shape) (item a : Nat) : Nat := h.dstEl item a * h.so / h.chunk
def Shape.wireChunk (h : Shape) (item a : Nat) : Nat :=
  if h.rs then item * ((h.elems * h.so + h.chunk - 1) / h.chunk) + h.chunkOf item a else h.chunkOf item a
def Shape.eoff (h : Shape) (item a : Nat) : Nat := h.dstEl item a - h.chunkOf item a * (h.chunk / h.so)

/-- The piece (a, n) ends its chunk, or its slice or contribution. -/
def Shape.endsChunk (h : Shape) (item a n : Nat) : Bool := a + n == h.elems || (h.dstEl item a + n) * h.so % h.chunk == 0

/-- Bytes of a chunk (R164). -/
def Shape.chunkBytes (h : Shape) (k : Nat) : Nat := min h.chunk (h.span - k * h.chunk)

end Sys2Proof.Machine
end

