-- ==== Sys2Proof/Machine/Collective.lean ====
section
/-! DEFINITION. The data phase of RS and AG (chapters 6 to 8): local reads, the landing store, folds, sends, result writes, chunk
signals. -/

namespace Sys2Proof.Machine

/-! ## Signatures (R155) -/

/-- The signature: CRC-32C over the fields R155 lists, in the bytes the block gives them (log entry 9). -/
def signature (fields : List Nat) : Nat := crc32c (Config.signatureBytes fields)

/-- The fields of R155 for a collective; BYTES, formats and algorithm as R244 codes them for PINTLE. COUNTX has none of them. -/
def Group.sigFields (x : Group) (d : BitVec 1024) (alg seq : Nat) : List Nat :=
  let op := dOpcode d
  let own := if op = 0x13 then [dPop d, dPtype d, dPtype d, 8 * dLanes d, 0, 0, 0]
    else if op = 0x12 then [0, 0, 0, 0, 0, 0, 0]
    else [dColOp d, dInFmt d, dOutFmt d, dBytes d, dChunkLog2 d, b2n (dSparse d), b2n (dColExpand d)]
  [x.listCrc, x.n0, x.n1, b2n x.wide, op] ++ own ++ [alg, dEpoch d, seq]

/-! ## The running collective -/

/-- A group, its running collective and that collective's operation. -/
def State.running? (s : State) (g : Nat) : Option (Group × Coll × Op) :=
  match s.group? g with
  | none => none
  | some x => match x.coll with
    | none => none
    | some c => (s.op? c.op).map (fun o => (x, c, o))

/-- Put the running collective back. -/
def State.setColl (s : State) (g : Nat) (x : Group) (c : Coll) : State := s.setGroup g { x with coll := some c }
def State.modColl (s : State) (g : Nat) (f : Coll → Coll) : State :=
  s.modGroup g (fun x => { x with coll := x.coll.map f })

/-- The captured chain of an issued collective. -/
def Group.stages (x : Group) (id : Nat) : List Stage := ((x.issued.find? (fun i => i.1 == id)).map (·.2)).getD []

/-- The running collective ends at this member: its record is due, its READYs are over, the next may start (R152, R154). -/
def State.collEnd (s : State) (g status detail result : Nat) : State :=
  match s.running? g with
  | none => s
  | some (x, c, _) =>
    let s := s.setGroup g { x with coll := none, issued := x.issued.filter (fun i => i.1 != c.op),
                                   readies := x.readies.filter (fun r => !(r.epoch == x.epoch && r.run == x.run && r.seq == c.seq)) }
    (s.endOp c.op status detail result 0).post (.coll g)

/-- Drop a table reference, if there is one. -/
def State.dropRef? (s : State) (t : Option Nat) : State :=
  match t with
  | some t => s.dropRef t
  | none => s

/-- Drop the table references a collective holds: of its source block and of blocks being written (R209). -/
def State.dropRefs (s : State) (c : Coll) : State :=
  (c.srcRef :: c.deliv.map (·.2.tref)).foldl State.dropRef? s

/-! ## The next action (R164, R166) -/

/-- The actions on the slice or contribution a collective is at, and the next of them. -/
def Group.acts (x : Group) (c : Coll) (h : Shape) : List Act := (x.plan h.rs c.alg).filter (fun a => a.item == c.item)
def Group.act? (x : Group) (c : Coll) (h : Shape) : Option Act := (x.acts c h)[c.step]?

/-- The action is over: the next one comes. -/
def Coll.next (c : Coll) : Coll := { c with step := c.step + 1, opnds := [], srcRef := none }

/-- Every action on the piece is done, or there is no such piece: the next piece, or the next slice or contribution, comes. -/
def Coll.skip (c : Coll) (x : Group) (h : Shape) : Coll :=
  if (h.piece c.item c.unit).isNone ∨ x.acts c h = [] then { c with item := c.item + 1, unit := 0, step := 0, held := [], opnds := [], beats := [] }
  else if (x.act? c h).isNone then { c with unit := c.unit + 1, step := 0, held := [], opnds := [] }
  else c

/-- A fault cause of the running collective arises here (R157). -/
def State.collFault (s : State) (g reason chunk node : Nat) : State :=
  match s.group? g with
  | none => s
  | some x =>
    let s := match x.coll with
      | some c => s.dropRefs c
      | none => s
    s.epochFault g x.run reason chunk node none 0x0E

/-! ## Landing grants (R313, R314) -/

/-- Packets of the landing store that no group's reserve takes. -/
def State.landShared (s : State) : Nat := s.build.landKib * 1024 / 576 - 4 * s.core.col.groups.length

/-- Shared room that a collective's grants take. -/
def Coll.shared (c : Coll) : Nat := (c.grants.map (·.2)).sum - (c.resv.map (·.2)).getD 0

/-- Shared room in use. -/
def State.colLandUsed (s : State) : Nat :=
  ((SMap.vals s.core.col.groups).map (fun x => match x.coll with
    | some c => c.shared
    | none => 0)).sum

/-- Send a READY to a peer. -/
def State.sendReady (s : State) (x : Group) (c : Coll) (q m : Nat) : State :=
  s.sendMember x m q 0 x.run c.seq x.epoch c.sig []

/-- Parts the packets of an action's piece will have at most. -/
def actParts (h : Shape) : Nat := if h.sparse ∧ h.rs then 4 else 1

/-- Packets that a peer may still send in this collective, at most: no more are granted (log entry 28). -/
def Group.expects (x : Group) (c : Coll) (h : Shape) (m : Nat) : Nat :=
  (((x.plan h.rs c.alg).filter (fun a => a.froms.contains m && decide (c.item ≤ a.item))).map (fun a =>
    (h.pieces a.item - (if a.item = c.item then c.unit else 0)) * actParts h)).sum

/-- Grant a peer 4 packets, up to 2 more than it may still send, so that its last pass can hold 3: from shared room while room remains, else
from the group's reserve, where the peer's data is what the member needs next and the reserve is free, or has left the peer 1 or 2, fewer than
a starting pass needs (R314, log entry 28). -/
def State.grantPeer (s : State) (g q : Nat) (needed : Option Nat) (m : Nat) : State :=
  match s.running? g with
  | none => s
  | some (x, c, o) =>
    let held := SMap.getD c.grants m 0
    let fromShared := decide (s.colLandUsed + 4 ≤ s.landShared)
    let due := x.expects c (x.shape o.desc) m
    if due = 0 ∨ held ≥ due + 2 ∨ ¬ (fromShared ∨ (needed = some m ∧ c.resv.all (fun r => r.1 == m && decide (r.2 ≤ 2)))) then s
    else
      let c := { c with grants := SMap.put c.grants m (held + 4), resv := if fromShared then c.resv else some (m, (c.resv.map (·.2)).getD 0 + 4) }
      (s.setColl g x c).sendReady x c q m

/-- Grant what may be granted to the peers of a plan, four packets each at a time (log entry 28). -/
def State.grantAll (s : State) (g q : Nat) (plan : List Act) (needed : Option Nat) : State :=
  (planSources plan).foldl (fun s m => s.grantPeer g q needed m) s

/-- A packet of a peer has left the landing store: its grant is over, the reserve's first. -/
def Coll.ungrant (c : Coll) (m : Nat) : Coll :=
  { c with grants := SMap.put c.grants m (SMap.getD c.grants m 0 - 1),
           resv := match c.resv with
             | some (p, k) => if p = m then (if k ≤ 1 then none else some (p, k - 1)) else some (p, k)
             | none => none }

/-- Grants this member holds from a peer: 4 for each READY after the first, less what it has sent (R313); none before a READY. -/
def Group.credit (x : Group) (c : Coll) (m : Nat) : Nat :=
  match x.readies.find? (fun r => r.node == x.node m && r.epoch == x.epoch && r.run == x.run && r.seq == c.seq) with
  | some r => 4 * (r.count - 1) - SMap.getD c.spent m 0
  | none => 0

/-! ## Incoming operands -/

/-- The packet's STAGE and PHASE (R279), and its other names. -/
def Packet.colStage (p : Packet) : Nat := p.fld 0x26 0 2
def Packet.colPhase (p : Packet) : Nat := p.fld 0x24 14 2
def Packet.colChunk (p : Packet) : Nat := p.fld 0x1C 0 32
def Packet.colEoff (p : Packet) : Nat := p.fld 0x20 0 32
def Packet.colCount (p : Packet) : Nat := p.fld 0x24 0 10
def Packet.colFlags (p : Packet) : Nat := p.fld 0x24 10 4
def Packet.colPart (p : Packet) : Nat := p.fld 0x26 4 4
def Packet.colParts (p : Packet) : Nat := p.fld 0x27 0 4
def Packet.colTile (p : Packet) : Nat := p.fld 0x28 0 40

/-- A landed packet belongs to the piece of an action that begins at element `a`. -/
def Landed.fits (l : Landed) (h : Shape) (act : Act) (src a : Nat) : Bool :=
  l.src == src && l.pkt.colStage == act.stage && l.pkt.colPhase == act.phase && l.pkt.colChunk == h.wireChunk act.item a
    && (if h.sparse then l.pkt.colTile == a / 256 else l.pkt.colEoff == h.eoff act.item a)

/-- The parts of an operand, in order, once all are there. -/
def operandParts (h : Shape) (act : Act) (src a : Nat) (landed : List Landed) : Option (List Packet) :=
  let ps := (landed.filter (fun l => l.fits h act src a)).map (·.pkt)
  match ps with
  | [] => none
  | p :: _ =>
    let n := if h.sparse ∧ h.rs then max 1 p.colParts else 1
    let parts := (List.range n).map (fun i => ps.find? (fun k => !(h.sparse && h.rs) || k.colPart == i))
    if parts.all (·.isSome) then some (parts.filterMap id) else none

/-- The operand of its parts: dense values, a partial tile (R225), or a Nyesh block. -/
def operandPiece (h : Shape) (ps : List Packet) : Piece :=
  let fl := ps.foldl (fun f p => flOr f p.colFlags) 0
  let data := ps.flatMap (fun p => p.payload.take p.len)
  let p := ps.headD ⟨0, []⟩
  let vals (bs : Bytes) (n : Nat) : List Nat := (List.range n).map (fun i => leAt bs (i * h.ps) h.ps)
  if h.sparse ∧ ¬ h.rs then ⟨0, [], p.fld 0x30 0 128, data⟩
  else if h.sparse then
    if p.fld 0x26 3 1 = 1 then ⟨fl, (nyPositions data).zip (vals (data.drop 32) (nyPositions data).length), 0, []⟩
    else ⟨fl, ((List.range 256).zip (vals data 256)).filter (fun e => !numZero (numDecode h.pf e.2)), 0, []⟩
  else ⟨fl, (List.range p.colCount).zip (vals data p.colCount), 0, []⟩

/-! ## Local operands -/

/-- A local read an action needs: its number, address and length. -/
abbrev LocalRead := Nat × Nat × Nat

/-- Reads of a region's elements [lo, hi) in a format: the elements, and an MX region's scales (R183). -/
def regionReads (which base fmt total lo hi : Nat) : List LocalRead :=
  if isMxFmt fmt then
    let b := mxBits fmt
    [(which, (base + lo * b / 8) % 2 ^ 64, (hi - lo) * b / 8), (which + 1, (base + total * b / 8 + lo / 32) % 2 ^ 64, (hi - lo + 31) / 32)]
  else [(which, (base + lo * fmtSize fmt) % 2 ^ 64, (hi - lo) * fmtSize fmt)]

/-- The code elements of a region read, decoded, by element. -/
def regionNums (fmt lo hi : Nat) (elems scales : Bytes) : List (Nat × Num) :=
  (List.range (hi - lo)).map (fun i =>
    if isMxFmt fmt then
      let b := mxBits fmt
      (lo + i, Num.f (mxDecode fmt (bits (ofLE (slice elems (i * b / 8) 2)) (i * b % 8) b) (scales.getD (i / 32) 0).toNat))
    else (lo + i, numDecode fmt (leAt elems (i * fmtSize fmt) (fmtSize fmt))))

/-- The elements of its contribution that a member reads for a piece: for AG whole blocks of 32, so that MX blocks and those of R194
are whole. -/
def Shape.window (h : Shape) (a n : Nat) : Nat × Nat :=
  if h.rs then (a, a + n) else (a / 32 * 32, min h.elems (roundUp (a + n) 32))

/-- The action takes the member's contribution, which no earlier action kept. -/
def Coll.needsOwn (c : Coll) (act : Act) : Bool := act.own && (SMap.get? c.held act.item).isNone

/-- The action is a pass of a Knuckle unit: the combines and the final passes of RS, and for AG the pass of the member's own contribution
(R190). Slices that travel on in the scatter and contributions that come are only handed on. -/
def Act.knuckle (act : Act) (h : Shape) (c : Coll) : Bool := if h.rs then act.phase == 0 || act.final else c.needsOwn act

/-- The local reads of an action on the piece (a, n), the sparse source aside. -/
def localReads (h : Shape) (d : BitVec 1024) (stages : List Stage) (c : Coll) (act : Act) (a n : Nat) : List LocalRead :=
  let src := if c.needsOwn act ∧ ¬ h.sparse then
      let total := if h.rs then h.n * h.elems else h.elems
      let off := if h.rs then act.item * h.elems else 0
      let (lo, hi) := h.window a n
      regionReads 0 (dSrc d) h.inF total (off + lo) (off + hi) ++ (if dSrc2 d = 0 then [] else regionReads 2 (dSrc2 d) h.inF total (off + lo) (off + hi))
    else []
  let mask := if act.final ∧ dMask d ≠ 0 then
      let e := h.dstEl act.item a
      [(4, (dMask d + e / 8) % 2 ^ 64, (e + n + 7) / 8 - e / 8)]
    else []
  let chained := if h.rs then act.final else c.needsOwn act
  let vecs := if chained then (stages.zipIdx).filterMap (fun (st, i) =>
      let (lo, hi) := h.window a n
      if st.vector then some (8 + i, (st.opnd + lo * fmtSize st.fmt) % 2 ^ 64, (hi - lo) * fmtSize st.fmt) else none)
    else []
  src ++ mask ++ vecs

/-- The tile of its source sequence that an action takes. -/
def Shape.sourceTile (h : Shape) (item a : Nat) : Nat := if h.rs then (item * h.elems + a) / 256 else a / 256

/-- The next local read to make: a missing one, or a step of the walk along the source sequence (R203, R223): header 16 of the last tile
known, header 17 and body 18 of the tile wanted. -/
def nextRead (h : Shape) (d : BitVec 1024) (stages : List Stage) (c : Coll) (act : Act) (a n : Nat) : Option LocalRead :=
  match (localReads h d stages c act a n).find? (fun r => (SMap.get? c.opnds r.1).isNone) with
  | some r => some r
  | none =>
    if ¬ (c.needsOwn act ∧ h.sparse) then none
    else
      let t := h.sourceTile act.item a
      if c.tiles.length ≤ t then some (16, (dSrc d + c.tiles.getLastD 0) % 2 ^ 64, 16)
      else
        let at_ := (dSrc d + c.tiles.getD t 0) % 2 ^ 64
        match SMap.get? c.opnds 17 with
        | none => some (17, at_, 16)
        | some hd =>
          let n := nyBodyLen (ofLE hd)
          if n = 0 ∨ (SMap.get? c.opnds 18).isSome then none else some (18, (at_ + 16) % 2 ^ 64, n)

/-- A header of a source sequence is framed and names the tile expected (check 1 of R214). -/
def sourceHeaderOk (h : Nat) (t : Nat) : Bool := nyFraming h && nyDecLen h == 256 && nyTile h == t

/-! ## Folding -/

/-- Lanes of a piece, without flags. -/
def Piece.lanes (p : Piece) : Lanes := p.vals.map (fun e => (e.1, e.2, 0))

/-- An operand of a combine: its elements with the flags they raised here, the flags it came with, its streams (R178), and what forming
it here raised. -/
structure Opnd where
  lanes   : Lanes
  flags   : Nat
  streams : Nat
  raised  : Lanes
deriving DecidableEq, Repr

/-- Flags of an element. -/
def Lanes.flags (l : Lanes) (i : Nat) : Nat := ((SMap.get? l i).map (·.2)).getD 0

/-- The elements that are there, and the flags of those that a sparse result omits (R224). -/
def present (h : Shape) (fmt : Nat) (l : Lanes) : Lanes × Nat :=
  if h.sparse then
    let zero (e : Nat × Nat × Nat) : Bool := numZero (numDecode fmt e.2.1)
    (l.filter (fun e => !zero e), lanesFlags (l.filter zero))
  else (l, 0)

/-- Fold an operand onto what has been folded. -/
def Opnd.fold (h : Shape) (op : Nat) (a b : Opnd) : Opnd :=
  let r := foldLanes op h.pf (lanesVals a.lanes) (lanesVals b.lanes)
  let k := present h h.pf (r.map (fun e => (e.1, e.2.1, flOr e.2.2 (flOr (Lanes.flags a.lanes e.1) (Lanes.flags b.lanes e.1)))))
  ⟨k.1, flOr k.2 (flOr a.flags b.flags), 1, a.raised ++ b.raised ++ r⟩

/-- Operands that the streams of one pass hold, at least one. -/
def fitStreams : Nat → List Opnd → Nat
  | _, [] => 0
  | room, o :: t => if o.streams ≤ room then 1 + fitStreams (room - o.streams) t else 0

/-- The passes of a combine (R181): three streams, then the held partial and two more each time. Answers the result, and what each pass
raised. -/
def runPasses (h : Shape) (op : Nat) : Nat → Option Opnd → List Opnd → Opnd × List Lanes
  | _, acc, [] => (acc.getD ⟨[], 0, 1, []⟩, [])
  | 0, acc, _ => (acc.getD ⟨[], 0, 1, []⟩, [])
  | k + 1, acc, ops =>
    let n := max 1 (fitStreams (if acc.isSome then 2 else 3) ops)
    let r := match acc, ops.take n with
      | some a, l => l.foldl (Opnd.fold h op) a
      | none, [] => ⟨[], 0, 1, []⟩
      | none, y :: t => t.foldl (Opnd.fold h op) y
    let rest := runPasses h op k (some { r with raised := [] }) (ops.drop n)
    (rest.1, r.raised :: rest.2)

/-- The member's contribution to a piece of RS in partial width (R162, R181, R188). -/
def rsOwn (h : Shape) (d : BitVec 1024) (c : Coll) (n : Nat) (img : Bytes) : Opnd :=
  let enc (l : List (Nat × Num)) : Opnd :=
    let r : Lanes := l.map (fun e => let (x, fl) := numEncode h.pf e.2; (e.1, x, fl))
    let k := present h h.pf r
    ⟨k.1, k.2, 1, r⟩
  let o (i : Nat) : Bytes := SMap.getD c.opnds i []
  if h.sparse then
    let hd := ofLE (o 17)
    enc ((nyPresent hd (o 18) ((nyValues hd img (o 18)).getD [])).map (fun e => (e.1, numDecode h.inF e.2)))
  else
    let x := enc (regionNums h.inF 0 n (o 0) (o 1))
    if dSrc2 d = 0 then x else { Opnd.fold h (dColOp d) x (enc (regionNums h.inF 0 n (o 2) (o 3))) with streams := 2 }

/-- Element of a stage's vector (R193). -/
def vecNum (stages : List Stage) (c : Coll) (i k : Nat) : Num :=
  let f := (stages.getD i ⟨0, 0, 0⟩).fmt
  numDecode f (leAt (SMap.getD c.opnds (8 + i) []) (k * fmtSize f) (fmtSize f))

/-- The block a sparse encoder forms from the present elements of a tile (R226). -/
def encodeTile (fmt tile : Nat) (vals : List (Nat × Nat)) : Nat × Bytes :=
  let s := (nySize fmt).getD 1
  let n := vals.length
  let dense : Bytes := elemBytes s ((List.range 256).map (fun i => SMap.getD vals i 0))
  let map : Bytes := toLE 32 ((vals.map (fun e => 2 ^ e.1)).sum)
  let (kind, nnz, body) := if n = 0 then (4, 0, []) else if n ≤ (if s = 1 then 224 else 240) then (1, n, map ++ elemBytes s (vals.map (·.2)))
    else (0, 256, dense)
  let h := nyHeader kind fmt 256 nnz body.length tile 0
  (h + nyCrc h body * 2 ^ 96, body)

/-- The member's contribution to a piece of AG (R161, R190, R230): its elements in OUT_FMT, for a sparse one the block to send, and what the
pass raised. -/
def agOwn (h : Shape) (stages : List Stage) (c : Coll) (a n : Nat) (img : Bytes) (fr : Nat) : Opnd × Nat × Bytes :=
  let o (i : Nat) : Bytes := SMap.getD c.opnds i []
  if h.sparse then
    let hd := ofLE (o 17)
    let vals := nyPresent hd (o 18) ((nyValues hd img (o 18)).getD [])
    if stages = [] ∧ h.inF = h.outF then (⟨vals.map (fun e => (e.1, e.2, 0)), 0, 1, []⟩, hd, o 18)
    else
      let r := finalLanes h.inF h.outF stages (vecNum stages c) fr (vals.map (fun e => (e.1, numDecode h.inF e.2)))
      let k := present h h.outF r
      let b := encodeTile h.outF (a / 256) (lanesVals k.1)
      (⟨k.1, k.2, 1, r⟩, b.1, b.2)
  else
    let (lo, hi) := h.window a n
    let vec (i k : Nat) : Num := vecNum stages c i (k - lo)
    let r := finalLanes h.inF h.outF stages vec fr (regionNums h.inF lo hi (o 0) (o 1))
    let l : Lanes := (r.filter (fun e => decide (a ≤ e.1 ∧ e.1 < a + n))).map (fun e => (e.1 - a, e.2))
    (⟨l, 0, 1, l⟩, 0, [])

/-! ## Sending (R225, R279, R313) -/

/-- The payloads of a piece's packets: (payload, elements, first value, BITMAP, header). -/
def piecePayloads (h : Shape) (p : Piece) (n : Nat) : List (Bytes × Nat × Nat × Bool) :=
  if h.sparse ∧ ¬ h.rs then [(p.body, 256, 0, false)]
  else if h.sparse then
    let k := p.vals.length
    let map := decide (32 + k * h.ps ≤ 256 * h.ps)
    let vals := if map then p.vals.map (·.2) else (List.range 256).map (fun i => SMap.getD p.vals i 0)
    let bytes : Bytes := (if map then toLE 32 ((p.vals.map (fun e => 2 ^ e.1)).sum) else []) ++ elemBytes h.ps vals
    let first := if map then (512 - 32) / h.ps else 512 / h.ps
    let parts := max 1 ((bytes.length + 511) / 512)
    (List.range parts).map (fun i =>
      let before := if i = 0 then 0 else first + (i - 1) * (512 / h.ps)
      (slice bytes (512 * i) 512, min (if i = 0 then first else 512 / h.ps) (vals.length - before), before, map && i == 0))
  else [(elemBytes h.ps ((List.range n).map (fun i => SMap.getD p.vals i 0)), n, 0, false)]

/-- A piece's packets to a peer, put where they wait for grants (R313): 3 for a pass that starts or carries over, else 1 (R314). An empty
partial tile names one element, the least that ECOUNT allows (log entry 43). -/
def Coll.queuePiece (c : Coll) (self : Nat) (x : Group) (o : Op) (h : Shape) (act : Act) (a n : Nat) (p : Piece) (m : Nat) : Coll :=
  let pls := piecePayloads h p n
  let tile := h.sparse
  let out : List ColOut := (pls.zipIdx).map (fun ((pl, cnt, before, map), i) =>
    let eoff := if tile ∧ h.rs then before else h.eoff act.item a
    let fs := groupFields (x.gid m) x.run c.seq x.epoch c.sig ++ [hf 0x1C 0 32 (h.wireChunk act.item a), hf 0x20 0 32 eoff,
      hf 0x24 0 10 (max 1 cnt), hf 0x24 10 4 p.flags, hf 0x24 14 2 act.phase, hf 0x26 0 2 act.stage, hf 0x26 2 1 (b2n tile), hf 0x26 3 1 (b2n map)]
      ++ (if tile ∧ h.rs then [hf 0x26 4 4 i, hf 0x27 0 4 pls.length] else [])
      ++ (if tile then [hf 0x28 0 40 (a / 256)] else []) ++ (if tile ∧ ¬ h.rs then [hf 0x30 0 128 p.hdr] else [])
    ⟨m, if act.three then 3 else 1, mkPacket 4 0 (x.node m) self o.queue 0 pl.length fs pl, false⟩)
  { c with outq := c.outq ++ out }

/-- Send what waits, each peer's packets in order: while grants toward the peer are held (R313, R314), and the function's bucket has the
flits (R345). `stuck` are the peers whose packets wait. -/
def State.sendOuts (s : State) (g : Nat) : List Nat → List ColOut → State
  | _, [] => s
  | stuck, e :: t =>
    match s.running? g with
    | none => s
    | some (x, c, o) =>
      let stay (e : ColOut) (s : State) : State := (s.setColl g x { c with outq := c.outq ++ [e] }).sendOuts g (e.peer :: stuck) t
      if stuck.contains e.peer ∨ x.credit c e.peer < e.need then stay e s
      else if ¬ s.injOk o.func e.pkt.flits then stay { e with noted := true } (if e.noted then s else s.count (funcSlot o.func) 11)
      else
        let s := (s.setColl g x { c with spent := SMap.put c.spent e.peer (SMap.getD c.spent e.peer 0 + 1) }).injSpend o.func e.pkt.flits
        ((s.countN (funcSlot o.func) 12 e.pkt.len).inject (some o.func) none e.pkt).sendOuts g stuck t

/-- Send what waits of a group; the group goes on when a packet has left. -/
def State.sendOut (s : State) (g : Nat) : State :=
  match s.running? g with
  | some (x, c, _) =>
    if c.outq = [] then s
    else
      let s := (s.setColl g x { c with outq := [] }).sendOuts g [] c.outq
      if ((s.group? g).bind (·.coll)).any (fun y => decide (y.outq.length < c.outq.length)) then s.post (.coll g) else s
  | none => s

/-! ## Delivery (R61, R164, R190, R197, R219, R227, R230) -/

/-- The whole of a delivery is committed: its bytes count toward the chunk, which is signalled when it is complete, and what it held is free:
its table reference (R209), and its packet's landing room (R221, R313). -/
def State.delivered (s : State) (g : Nat) (e : Delivery) : State :=
  match s.running? g with
  | none => s
  | some (x, c, o) =>
    let h := x.shape o.desc
    let have_ := SMap.getD c.done e.chunk 0 + e.bytes
    let c := { c with done := SMap.put c.done e.chunk have_ }
    let s := (s.setColl g x (match e.src with
      | some m => c.ungrant m
      | none => c)).dropRef? e.tref
    let n := dChunkSigCount o.desc
    let s := if have_ = h.chunkBytes e.chunk ∧ n ≠ 0 then
        let s := match s.counterOf o.func (dChunkSigBase o.desc + e.chunk % n) with
          | some i => s.addSig i 1
          | none => s
        (s.count (funcSlot o.func) 13).traceEv (some R.TRACE_CTL_COL) 0x20 15 0 0 (some o.func) 0 0 0 0 0 0 s.now (e.chunk % 2 ^ 32 + x.epoch * 2 ^ 32)
      else s
    s.post (.coll g)

/-- Write parts of a result, (address, bytes) each, for a delivery. -/
def State.deliver_ (s : State) (g : Nat) (e : Delivery) (parts : List (Nat × Bytes)) : State :=
  match s.running? g with
  | none => s
  | some (x, c, o) =>
    let parts := parts.filter (fun p => !p.2.isEmpty)
    if parts = [] then s.delivered g e
    else
      let id := s.core.nextId
      let s := { s with core.nextId := id + 1 }
      let s := s.setColl g x { c with deliv := SMap.put c.deliv id { e with writes := parts.length } }
      parts.foldl (fun s p => s.virtJob o.func (p.1 % 2 ^ 64) p.2.length .write p.2 4 o.queue (.colResult g id)) s

/-- Runs of contiguous elements to write: address and bytes. -/
def runsOf (base so : Nat) : List (Nat × Option Nat) → Option (Nat × Bytes) → List (Nat × Bytes)
  | [], none => []
  | [], some r => [r]
  | (_, none) :: t, none => runsOf base so t none
  | (_, none) :: t, some r => r :: runsOf base so t none
  | (el, some v) :: t, none => runsOf base so t (some (base + el * so, toLE so v))
  | (_, some v) :: t, some (a, bs) => runsOf base so t (some (a, bs ++ toLE so v))

/-- Bit of the MASK for the i-th element of a piece; without a mask every element is written. -/
def maskBit (d : BitVec 1024) (h : Shape) (c : Coll) (act : Act) (a i : Nat) : Bool :=
  dMask d == 0 || bitAt (SMap.getD c.opnds 4 []) (h.dstEl act.item a % 8 + i)

/-- Write a dense piece under the mask. -/
def State.deliverDense (s : State) (g : Nat) (h : Shape) (d : BitVec 1024) (c : Coll) (act : Act) (a n : Nat) (vals : List (Nat × Nat))
    (src : Option Nat) : State :=
  let e0 := h.dstEl act.item a
  let els := (List.range n).map (fun i =>
    (e0 + i, if maskBit d h c act a i then some (SMap.getD vals i 0) else if dMaskZero d then some 0 else none))
  s.deliver_ g ⟨h.chunkOf act.item a, n * h.so, 0, none, none, src⟩ (runsOf (dColDst d) h.so els none)

/-- A block ended with a status at offset `off` of DST: the first in DST order is kept (R176). -/
def Coll.note (c : Coll) (off status detail result : Nat) : Coll :=
  match c.fail with
  | some (o, a, b, r) => if o ≤ off then { c with fail := some (o, a, b, r) } else { c with fail := some (off, status, detail, result) }
  | none => { c with fail := some (off, status, detail, result) }

/-- Write a result block into its slot, in its kind 0 form, or into the overflow region with its moved header in the slot (R227): results come
in tile order. -/
def State.deliverSlot (s : State) (g unit : Nat) (h : Shape) (d : BitVec 1024) (act : Act) (a hdr : Nat) (body img : Bytes) (e : Delivery) : State :=
  let tile := h.dstEl act.item a / 256
  let cap := dTileCap d
  let slot := tile * cap
  let sz := (nySize (nyFmt hdr)).getD 1
  if 16 + body.length ≤ cap then s.deliver_ g e [(dColDst d + slot, toLE 16 hdr ++ body)]
  else if 16 + 256 * sz ≤ cap then
    let dense := nyDense hdr body ((nyValues hdr img body).getD [])
    let b0 : Bytes := elemBytes sz ((List.range 256).map (fun i => dense.getD i 0))
    let h0 := nyHeader 0 (nyFmt hdr) (nyDecLen hdr) 256 b0.length (nyTile hdr) 0 + b2n (nyShape hdr) * 8
    s.deliver_ g e [(dColDst d + slot, toLE 16 (h0 + nyCrc h0 b0 * 2 ^ 96) ++ b0)]
  else
    let s := (s.count (unitSlot unit) 13).count (funcSlot (((s.group? g).map (·.func)).getD 0)) 17
    let end_ := ((((s.group? g).bind (·.coll)).map (·.ovfEnd))).getD 0
    let off := roundUp end_ 16
    let moved := hdr % 2 ^ 96 + 2 ^ 46 + off / 16 % 2 ^ 32 * 2 ^ 96
    let data : Bytes := List.replicate (off - end_) 0 ++ toLE 16 hdr ++ body
    (s.modColl g (fun c => { c with ovfEnd := off + 16 + body.length, ovfFirst := some (c.ovfFirst.getD slot) })).deliver_ g e
      [(dOvf d + end_, data), (dColDst d + slot, toLE 16 moved)]

/-- Check and write a block of a sparse AG as its receiver does (R27, R214, R219, R230). Of a block that ends UNDERRUN only the elements
produced are committed, so its chunk is not signalled (R164, R176). -/
def State.deliverBlock (s : State) (g unit : Nat) (h : Shape) (o : Op) (act : Act) (a : Nat) (p : Piece) (src : Option Nat) : State :=
  let d := o.desc
  let s := s.count (unitSlot unit) 6
  let res := if nyFraming p.hdr ∧ nyCoded p.hdr then s.resident p.hdr else none
  let img := (res.map (·.2)).getD []
  let crc := s.on (R.QUEUE_CTL_NYESH_CRC o.queue)
  let exp_ := dColExpand d
  let off := if exp_ then h.dstEl act.item a * h.so else h.dstEl act.item a / 256 * dTileCap d
  let e : Delivery := ⟨h.chunkOf act.item a, 256 * h.so, 0, res.map (·.1), some unit, src⟩
  let note (s : State) (st re result : Nat) : State :=
    (s.countTumbler unit (some o.func) st).modColl g (fun c => c.note off st (det 5 re) result)
  let endBad (s : State) (st re : Nat) : State := (note s st re 0).deliver_ g { e with bytes := 0, tref := none } []
  match nyChecks p.hdr p.body crc (decide (nyDecLen p.hdr = 256 ∧ nyTile p.hdr = a / 256 ∧ nyFmt p.hdr = h.outF)) (res.map (·.2)) with
  | some (st, re) => endBad s st re
  | none =>
    let (bytes, st, re) := nyWrite p.hdr p.body img exp_
    if st = 0x08 then endBad s st re
    else
      let s := match e.tref with
        | some t => s.takeRef t
        | none => s
      let s := s.count (funcSlot o.func) 15
      if exp_ then
        let s := s.count (unitSlot unit) 7
        if st = 0 then s.deliver_ g e [(dColDst d + off, bytes)]
        else (note s st re (nyProduced p.hdr p.body * h.so + off * 2 ^ 64)).deliver_ g { e with bytes := bytes.length } [(dColDst d + off, bytes)]
      else (s.count (unitSlot unit) 8).deliverSlot g unit h d act a p.hdr p.body img e

/-! ## Performing an action -/

/-- The gate toward a node, if the route leaves by one. -/
def State.gateToward (s : State) (node : Nat) : Option Nat :=
  match s.routeOf 10 node with
  | .out p _ => if p < 8 then some p else none
  | _ => none

/-- The Knuckle unit of the gate toward a node (R25); 0 where the route leaves by no gate (log entry 29). -/
def State.unitToward (s : State) (node : Nat) : Nat := (s.gateToward node).getD 0

/-- The parent of this member in the tree of an algorithm. -/
def Group.treeParent (x : Group) (alg : Nat) : Option Nat :=
  match x.tree alg with
  | some (b, st) => (Sys2Proof.Machine.treeParent (x.self / st)).map (fun u => b + st * u)
  | none => none

/-- The unit of an action: toward where the piece goes on, or would; in a tree toward the parent, at its root the lowest gate that the
collective uses (R25). -/
def State.unitOf (s : State) (x : Group) (rs : Bool) (alg : Nat) (act : Act) : Nat :=
  if act.stage < 3 then s.unitToward (x.node (act.tos.headD (x.right act.stage)))
  else match x.treeParent alg with
    | some p => s.unitToward (x.node p)
    | none => match (planPeers (x.plan rs alg)).filterMap (fun m => s.gateToward (x.node m)) with
      | [] => 0
      | p :: t => t.foldl min p

/-- Take the packets of an action's operands out of the landing store; one that is to be written keeps its room until the write is
committed. -/
def Coll.consume (c : Coll) (h : Shape) (act : Act) (a : Nat) (hold : Bool) : Coll :=
  let gone (l : Landed) : Bool := act.froms.any (fun m => l.fits h act m a)
  let c' := { c with landed := c.landed.filter (fun l => !gone l) }
  if hold then c' else (c.landed.filter gone).foldl (fun c l => c.ungrant l.src) c'

/-- Summaries and flags of what the member writes (R199, R200). -/
def Coll.enter (c : Coll) (h : Shape) (a n flags : Nat) (mask : Nat → Bool) (l : Lanes) : Coll :=
  let un := l.filter (fun e => mask e.1)
  let anyOn := decide (un ≠ []) || (List.range n).any mask
  let seen := if h.sparse then ((List.range 256).map (fun i => (a + i, ((SMap.get? l i).map (·.1)).getD 0))) else un.map (fun e => (a + e.1, e.2.1))
  { c with flags := flOr c.flags (flOr (lanesFlags un) (if anyOn then flags else 0)), sums := c.sums.addLanes h.outF seen }

/-- Keep a piece for later actions, and put it where it is sent on. -/
def Coll.handOn (c : Coll) (self : Nat) (x : Group) (o : Op) (h : Shape) (act : Act) (a n : Nat) (p : Piece) : Coll :=
  act.tos.foldl (fun c m => c.queuePiece self x o h act a n p m) (if act.keep then { c with held := SMap.put c.held act.item p } else c)

/-- Count the passes of a piece, and note what R409 counts once a beat. -/
def State.passesOf (s : State) (c : Coll) (unit : Nat) (h : Shape) (act : Act) (a n : Nat) (raised : List Lanes) : Coll × State :=
  let r := s.countPasses unit (h.eoff act.item a) n (h.endsChunk act.item a n) (h.sparse && h.rs) (SMap.getD c.beats c.step []) raised
  ({ c with beats := SMap.put c.beats c.step r.1 }, r.2)

/-- A combine of RS, or its final pass (R181, R190): the operands fold, and the piece goes on, or becomes this member's result. -/
def State.combine (s : State) (g : Nat) (x : Group) (c : Coll) (o : Op) (h : Shape) (act : Act) (a n : Nat) (img : Bytes) (fr : Nat) : State :=
  let d := o.desc
  let unit := s.unitOf x true c.alg act
  let ins : List Opnd := act.froms.filterMap (fun m => (operandParts h act m a c.landed).map (fun ps =>
    let p := operandPiece h ps
    ⟨p.lanes, p.flags, 1, []⟩))
  let own : Opnd := match SMap.get? c.held act.item with
    | some p => ⟨p.lanes, p.flags, 1, []⟩
    | none => rsOwn h d c n img
  let ops := if act.own then (if act.ownFirst then own :: ins else ins ++ [own]) else ins
  let (f, raised) := runPasses h (dColOp d) ops.length none ops
  if act.final then
    let stages := x.stages c.op
    let mask (i : Nat) : Bool := maskBit d h c act a i
    let r := finalLanes h.inF h.outF stages (vecNum stages c) fr (f.lanes.map (fun e => (e.1, numDecode h.pf e.2.1)))
    let k := present h h.outF (r.map (fun e => (e.1, e.2.1, flOr e.2.2 (Lanes.flags f.lanes e.1))))
    let last := ((raised.getLastD []) ++ r).filter (fun e => mask e.1)
    let (c, s) := s.passesOf c unit h act a n (raised.dropLast ++ [last])
    let s := s.setColl g x (((c.consume h act a false).next).enter h a n (flOr f.flags k.2) mask k.1)
    if h.sparse then
      let b := encodeTile h.outF (a / 256) (lanesVals k.1)
      s.deliverSlot g unit h d act a b.1 b.2 [] ⟨h.chunkOf act.item a, 256 * h.so, 0, none, none, none⟩
    else s.deliverDense g h d c act a n (lanesVals k.1) none
  else
    let (c, s) := s.passesOf c unit h act a n raised
    let p : Piece := ⟨flOr f.flags (lanesFlags f.lanes), lanesVals f.lanes, 0, []⟩
    s.setColl g x (((c.consume h act a false).next).handOn s.self x o h act a n p)

/-- The pass of the member's own contribution of AG (R190): it goes out in OUT_FMT and is written here too. -/
def State.ownPass (s : State) (g : Nat) (x : Group) (c : Coll) (o : Op) (h : Shape) (act : Act) (a n : Nat) (img : Bytes) (fr : Nat) : State :=
  let d := o.desc
  let (w, hdr, body) := agOwn h (x.stages c.op) c a n img fr
  let mask (i : Nat) : Bool := maskBit d h c act a i
  let (c', s) := s.passesOf c (s.unitOf x false c.alg act) h act a n [w.raised.filter (fun e => mask e.1)]
  let p : Piece := ⟨0, lanesVals w.lanes, hdr, body⟩
  let s := s.setColl g x ((c'.next.handOn s.self x o h act a n p).enter h a n w.flags mask w.lanes)
  if h.sparse then s.deliverBlock g (s.tumblerOf 10 s.self) h o act a p none else s.deliverDense g h d c act a n p.vals none

/-- The Tumbler expander that checks the block an action receives: that of the gate it came by, else that of its source node (R221). -/
def State.tumblerFor (s : State) (c : Coll) (h : Shape) (act : Act) (a : Nat) : Nat :=
  match c.landed.find? (fun l => act.froms.any (fun m => l.fits h act m a)) with
  | some l => s.tumblerOf l.port l.pkt.srcNode
  | none => s.tumblerOf 10 s.self

/-- A slice that travels on in the scatter, or a contribution that comes: no arithmetic (R190). -/
def State.relay (s : State) (g : Nat) (x : Group) (c : Coll) (o : Op) (h : Shape) (act : Act) (a n : Nat) : State :=
  let p := match SMap.get? c.held act.item, act.froms with
    | some p, [] => p
    | _, fs => ((fs.findSome? (fun m => operandParts h act m a c.landed)).map (operandPiece h)).getD ⟨0, [], 0, []⟩
  let unit := s.tumblerFor c h act a
  let s := s.setColl g x ((c.consume h act a act.final).next.handOn s.self x o h act a n p)
  if ¬ act.final then s
  else if h.sparse then s.deliverBlock g unit h o act a p act.froms.head?
  else s.deliverDense g h o.desc c act a n p.vals act.froms.head?

/-- The operands are all here: fold, send, keep, write (R24, R190). The source block's table reference ends with the pass (R209). -/
def State.perform (s : State) (g : Nat) (x : Group) (c : Coll) (o : Op) (h : Shape) (act : Act) (a n : Nat) : State :=
  let img := (c.srcRef.map (fun t => SMap.getD s.core.tables.images t [])).getD []
  let (fr, s) := if (x.stages c.op).any (fun st => st.op == 11) then s.draw else (0, s)
  let s := if act.knuckle h c then (if h.rs then s.combine g x c o h act a n img fr else s.ownPass g x c o h act a n img fr)
    else s.relay g x c o h act a n
  (s.dropRef? c.srcRef).sendOut g

/-! ## Going on with the data phase -/

/-- Where the next action of a collective stands. -/
inductive Next where
  /-- every action is done -/
  | over
  /-- the piece is empty, or its unit is done -/
  | skip
  /-- a local read is to be made -/
  | read (r : LocalRead)
  /-- an operand of the peer is missing -/
  | operand (peer : Nat)
  /-- a local read is out, or a peer has not granted room -/
  | wait
  /-- everything is there -/
  | go (act : Act) (a n : Nat)
deriving DecidableEq, Repr

/-- See where the next action stands (R24): it waits while packets of the one before wait to be sent, and while the Tumbler expander that is
to write its block holds 32 (R221). -/
def State.colNext (s : State) (x : Group) (c : Coll) (d : BitVec 1024) : Next :=
  let h := x.shape d
  if c.item ≥ x.n then (if c.outq = [] then .over else .wait)
  else match x.act? c h with
    | none => .skip
    | some act => match h.piece act.item c.unit with
      | none => .skip
      | some (a, n) =>
        match nextRead h d (x.stages c.op) c act a n with
        | some r => if c.asked.isSome then .wait else .read r
        | none => match act.froms.find? (fun m => (operandParts h act m a c.landed).isNone) with
          | some m => .operand m
          | none =>
            if c.outq ≠ [] then .wait
            else if h.sparse && !h.rs && act.final && decide (s.tumblerHeld (s.tumblerFor c h act a) ≥ 32) then .wait
            else .go act a n

/-- The chunk a collective is at (R172, R422). -/
def Group.chunkAt (x : Group) (c : Coll) (d : BitVec 1024) : Nat :=
  let h := x.shape d
  match h.piece c.item c.unit with
  | some (a, _) => h.chunkOf c.item a
  | none => 0

/-- The peer whose operand the next action still misses (R171). -/
def Group.missing (x : Group) (c : Coll) (d : BitVec 1024) : Option Nat :=
  let h := x.shape d
  match x.act? c h with
  | none => none
  | some act => match h.piece act.item c.unit with
    | none => none
    | some (a, _) => act.froms.find? (fun m => (operandParts h act m a c.landed).isNone)

/-- What R170 takes as one chunk: a chunk of one slice or contribution in one stage and phase. -/
def colKey (stage phase wireChunk : Nat) : Nat := wireChunk + stage * 2 ^ 32 + phase * 2 ^ 34

/-- That of the next action. -/
def Group.lateKey (x : Group) (c : Coll) (d : BitVec 1024) : Option Nat :=
  let h := x.shape d
  match x.act? c h with
  | none => none
  | some act => (h.piece act.item c.unit).map (fun p => colKey act.stage act.phase (h.wireChunk act.item p.1))

/-- Every piece has been handled: the record comes once everything is committed (R176, R228). -/
def State.dataOver (s : State) (g : Nat) (c : Coll) (o : Op) : State :=
  if c.deliv ≠ [] then s
  else
    let sums := c.sums.flush (floatClass (dOutFmt o.desc))
    let s := s.setOp c.op { o with ieee := c.flags, ext := if dSummary o.desc then some (sums.max, sums.absmax, sums.nnz) else none }
    let ok := if dSummary o.desc then sums.sum + sums.sumsq * 2 ^ 64 else 0
    let capacity := c.ovfEnd + (c.ovfFirst.getD 0) * 2 ^ 64
    match c.fail, c.ovfFirst with
    | some (off, st, de, res), some f => if f < off then s.collEnd g 0x0B (det 6 0x06A) capacity else s.collEnd g st de res
    | some (_, st, de, res), none => s.collEnd g st de res
    | none, some _ => s.collEnd g 0x0B (det 6 0x06A) capacity
    | none, none => s.collEnd g 0 0 ok

/-- Go on with the data phase: what needs no Knuckle pass runs, one action at a time (log entry 27). -/
def State.dataStep (s : State) (g : Nat) (x : Group) (c : Coll) (o : Op) : State :=
  let h := x.shape o.desc
  let grant (s : State) (needed : Option Nat) : State := s.grantAll g o.queue (x.plan h.rs c.alg) needed
  match s.colNext x c o.desc with
  | .over => s.dataOver g c o
  | .skip => (s.setColl g x (c.skip x h)).post (.coll g)
  | .read (w, va, n) => (s.setColl g x { c with asked := some w }).virtJob o.func va n .read [] 4 o.queue (.colSource g c.op w)
  | .operand m => (grant s (some m)).sendOut g
  | .wait => (grant s none).sendOut g
  | .go act a n => if act.knuckle h c then grant s none else (grant (s.perform g x c o h act a n) none).post (.coll g)

/-- The group's next action is a pass of a Knuckle unit whose operands are all present: the unit, and the pass. -/
def State.readyPass (s : State) (g : Nat) : Option (Nat × Act × Nat × Nat) :=
  match s.running? g with
  | none => none
  | some (x, c, o) =>
    if c.phase ≠ .data ∨ ¬ (dOpcode o.desc = 0x10 ∨ dOpcode o.desc = 0x11) then none
    else match s.colNext x c o.desc with
      | .go act a n => if act.knuckle (x.shape o.desc) c then some (s.unitOf x (dOpcode o.desc == 0x10) c.alg act, act, a, n) else none
      | _ => none

/-- The groups with a pass in progress in a unit: all its operands are present (R24, R201). -/
def State.unitPasses (s : State) (u : Nat) : List Nat :=
  (s.core.col.groups.map (·.1)).filter (fun g => (s.readyPass g).any (fun r => r.1 == u))

/-- KNUCKLE_PASS: a unit serves the next of the passes whose operands are all present, in round robin (R24, R180): the beats of one packet's
elements, or of one tile (log entry 27). -/
def knucklePass (u : Gate) (s : State) : State :=
  match if s.fatal then none else nextAfter (SMap.getD s.core.col.served u.val 4096) (s.unitPasses u.val) with
  | none => s
  | some g =>
    match s.running? g, s.readyPass g with
    | some (x, c, o), some (_, act, a, n) =>
      let s := { s with core.col.served := SMap.put s.core.col.served u.val g }
      let h := x.shape o.desc
      ((s.perform g x c o h act a n).grantAll g o.queue (x.plan h.rs c.alg) none).post (.coll g)
    | _, _ => s

/-- KNUCKLE_PASS (R24). -/
def execKnucklePass (u : Gate) : State → Host.Outcome State Fault Refusal := coreCmd (knucklePass u)

/-! ## Accesses done -/

/-- An operand of a chunk arrives, with its first packet or read (log entry 43): its lateness, 0 for the first (R170). -/
def State.lateness (s : State) (g key node : Nat) : State :=
  match s.running? g with
  | none => s
  | some (x, c, _) =>
    match SMap.get? c.late key with
    | none => s.setColl g x { c with late := SMap.put c.late key (s.now, [node]) }
    | some (t, seen) =>
      if seen.contains node then s
      else
        let ns := min (2 ^ 32 - 1) ((s.now - t) / 64)
        let c := { c with late := SMap.put c.late key (t, node :: seen) }
        if ns > x.slowNs then s.setColl g { x with slowNs := ns, slowNode := node } c else s.setColl g x c

/-- A local read of a collective has ended (R173, R193, R223, R395). -/
def State.colSourceRead (s : State) (g task which : Nat) (r : JobResult) : State :=
  match s.running? g with
  | none => s
  | some (x, c, o) =>
    if c.op ≠ task ∨ c.asked ≠ some which then s
    else match r.fail with
      | some f => s.collFault g (failReason f 0x060) (x.chunkAt c o.desc) s.self
      | none =>
        let h := x.shape o.desc
        let c := { c with asked := none }
        let bad : State := s.collFault g 0x060 (x.chunkAt c o.desc) s.self
        let hd := ofLE r.data
        let kept : State := s.setColl g x { c with opnds := SMap.put c.opnds which r.data }
        let keep : State := (match x.lateKey c o.desc, decide (which < 4 ∨ which = 17) with
          | some k, true => kept.lateness g k s.self
          | _, _ => kept).post (.coll g)
        let check (body : Bytes) (hd : Nat) (res : Option Nat) : Bool :=
          (nyChecks hd body (s.on (R.QUEUE_CTL_NYESH_CRC o.queue)) (nyFmt hd == h.inF) (res.map (fun t => SMap.getD s.core.tables.images t []))).isNone
        if which = 16 then
          if sourceHeaderOk hd (c.tiles.length - 1) then
            (s.setColl g x { c with tiles := c.tiles ++ [roundUp (c.tiles.getLastD 0 + nyBlockLen hd) 16] }).post (.coll g)
          else bad
        else if which = 17 then
          let t := match x.act? c h with
            | some act => h.sourceTile act.item (c.unit * 256)
            | none => 0
          let ref := if nyCoded hd then (s.resident hd).map (·.1) else none
          if ¬ sourceHeaderOk hd t ∨ (nyBodyLen hd = 0 ∧ ¬ check [] hd ref) then bad
          else match ref with
            | some k => (keep.takeRef k).modColl g (fun c => { c with srcRef := ref })
            | none => keep
        else if which = 18 then (if check r.data (ofLE (SMap.getD c.opnds 17 [])) c.srcRef then keep else bad)
        else keep

/-- A write of a result has been committed or has failed (R395). -/
def State.colResultDone (s : State) (g id : Nat) (r : JobResult) : State :=
  match s.running? g with
  | none => s
  | some (x, c, _) => match SMap.get? c.deliv id with
    | none => s
    | some e => match r.fail with
      | some f => s.collFault g (failReason f 0x069) e.chunk s.self
      | none =>
        if e.writes > 1 then s.setColl g x { c with deliv := SMap.put c.deliv id { e with writes := e.writes - 1 } }
        else
          (s.setColl g x { c with deliv := SMap.del c.deliv id }).delivered g e

end Sys2Proof.Machine
end

