-- ==== Sys2Proof/Machine/Pintle.lean ====
section
/-! DEFINITION. The Pintle path (chapter 9): flits of a stage, their arrival and forwarding, the fold, resends and timeouts. -/

namespace Sys2Proof.Machine

/-- The node at a position of this member's arc in a dimension. -/
def State.arcNode (s : State) (a : Arc) (dim pos : Nat) : Nat := nodeSet s.self dim ((a.start + pos) % max 1 (s.extent dim))

/-- Descriptor of the running Pintle work: none for a handover. -/
def State.pintleDesc (s : State) (x : Group) (r : PRun) : Option (BitVec 1024) :=
  if r.hand then none else (x.coll.bind (fun c => s.op? c.op)).map (·.desc)

/-- The fields of a Pintle flit beside its group's names (R282). Every member raises the same flags (R241), so a flit carries those its stage
value has raised, where COL packets carry theirs (log entry 43). -/
def pintleFields (stage org hops pop ptype lanes flags : Nat) (barrier hand : Bool) : List (Nat × Nat × Nat) :=
  [hf 0x1C 0 2 stage, hf 0x1C 2 1 (b2n barrier), hf 0x1C 3 1 (b2n hand), hf 0x1D 0 6 org, hf 0x1E 0 4 pop, hf 0x1E 4 1 ptype,
    hf 0x1F 0 4 lanes, hf 0x20 0 6 hops, hf 0x24 10 4 flags]

/-- The signature of a handover's flits, as R244 codes that of a barrier. -/
def Group.handSig (x : Group) (e : Nat) : Nat := signature ([x.listCrc, x.n0, x.n1, b2n x.wide, 0x13, 0, 0, 0, 0, 0, 0, 0, 3, e, 0])

/-- Send this member's own flit of its stage in one direction (R234, R244). -/
def State.sendFlit (s : State) (x : Group) (r : PRun) (minus : Bool) : State :=
  let a := x.arc r.stage
  let hops := s.arcHops a r.stage minus
  if hops = 0 then s
  else
    let port := regularPort r.stage minus
    let next := s.neighbour r.stage minus 1
    let last := s.neighbour r.stage minus hops
    let gid := ((x.member next).map x.gid).getD 0
    let d := s.pintleDesc x r
    let lanes := match d with
      | some d => if dOpcode d = 0x13 then dLanes d else 0
      | none => 0
    let barrier := lanes == 0
    let (pop, pt) := match d with
      | some d => if dOpcode d = 0x13 then (dPop d, dPtype d) else (0, 0)
      | none => (0, 0)
    let (q, sig) := match x.coll with
      | some c => if r.hand then (0, x.handSig r.epoch) else (((s.op? c.op).map (·.queue)).getD 0, c.sig)
      | none => (0, if r.hand then x.handSig r.epoch else 0)
    let run := if r.hand then 0 else x.run
    let p := mkPacket 0 2 last s.self q 0 r.value.length
      (groupFields gid run r.seq r.epoch sig ++ pintleFields r.stage (s.arcPos a r.stage) hops pop pt lanes r.flags barrier r.hand) r.value
    s.sendPort port p

/-- Send it in both directions. -/
def State.sendFlits (s : State) (x : Group) (r : PRun) : State := (s.sendFlit x r false).sendFlit x r true

/-- The stored flit of an origin for the running stage. -/
def Group.flit? (x : Group) (r : PRun) (org : Nat) : Option PFlit :=
  x.pflits.find? (fun f => f.epoch == r.epoch && f.seq == r.seq && f.hand == r.hand && f.stage == r.stage && f.org == org)

/-- Fold a lane of two stage values (R241): int64 SUM wraps. -/
def pintleLane (pop ptype a b : Nat) : Nat × Nat :=
  if pop = 0 then (0, 0)
  else if ptype = 1 then foldCodes (pop - 1) 9 a b
  else if pop = 1 then ((a + b) % 2 ^ 64, 0)
  else if pop = 2 then (if toSigned 64 b < toSigned 64 a then b else a, 0)
  else if pop = 3 then (if toSigned 64 a < toSigned 64 b then b else a, 0)
  else if pop = 4 then (Nat.land a b, 0)
  else (Nat.lor a b, 0)

/-- Fold two stage values lane by lane. -/
def pintleFold (pop ptype lanes : Nat) (acc : Bytes × Nat) (b : Bytes) : Bytes × Nat :=
  (List.range lanes).foldl (fun (r : Bytes × Nat) i =>
    let (v, fl) := pintleLane pop ptype (leAt acc.1 (8 * i) 8) (leAt b (8 * i) 8)
    (r.1 ++ toLE 8 v, flOr r.2 fl)) ([], acc.2)

/-- Every position's value of the running stage, in arc order, if all are held. -/
def State.stageValues (s : State) (x : Group) (r : PRun) : Option (List Bytes) :=
  let a := x.arc r.stage
  let me := s.arcPos a r.stage
  let vs := (List.range a.len).map (fun k => if k = me then some r.value else (x.flit? r k).map (·.data))
  if vs.all (·.isSome) then some (vs.filterMap id) else none

/-- One move of the running Pintle work: a stage of length 1 is passed, this member's flits go out, or the stage folds (R234, R240,
R242). -/
def State.pintleMove (g : Nat) (s : State) : State :=
  match s.group? g with
  | none => s
  | some x => match x.prun with
    | none => s
    | some r =>
      if r.stage ≥ 4 then s
      else if (x.arc r.stage).len ≤ 1 then s.setGroup g { x with prun := some { r with stage := r.stage + 1, sent := false } }
      else
        let s := if r.sent then s else (s.setGroup g { x with prun := some { r with sent := true } }).sendFlits x r
        match s.stageValues x r with
        | none => s
        | some vs =>
          let (pop, pt, lanes) := match s.pintleDesc x r with
            | some d => if dOpcode d = 0x13 then (dPop d, dPtype d, dLanes d) else (0, 0, 0)
            | none => (0, 0, 0)
          let carried := (x.pflits.filter (fun f => f.epoch == r.epoch && f.seq == r.seq && f.hand == r.hand && f.stage == r.stage)).foldl
            (fun n f => flOr n f.flags) r.flags
          let (v, fl) := match vs with
            | [] => ([], carried)
            | a :: t => t.foldl (pintleFold pop pt lanes) (a, carried)
          s.setGroup g { x with prun := some { r with stage := r.stage + 1, sent := false, value := v, flags := fl } }

/-- Go on with the running Pintle work as far as the values held allow. -/
def State.pintleRun (s : State) (g : Nat) : State := iterate (State.pintleMove g) 8 s

/-- A stored flit, or a READY that has come, of the running collective carries another signature (R155, R244). -/
def Group.clash (x : Group) (c : Coll) : Bool :=
  x.pflits.any (fun f => !f.hand && f.epoch == x.epoch && f.seq == c.seq && f.sig != c.sig)
    || x.readies.any (fun r => r.epoch == x.epoch && r.run == x.run && r.seq == c.seq && r.sig != c.sig)

/-- A stored flit of the handover carries another signature. -/
def Group.handClash (x : Group) : Bool :=
  x.pflits.any (fun f => f.hand && x.target == some f.epoch && f.sig != x.handSig f.epoch)

/-- The flits of a collective that is over are gone: their slots are free (R243). -/
def Group.dropFlits (x : Group) (seq : Nat) : Group :=
  { x with pflits := x.pflits.filter (fun f => !(f.epoch == x.epoch && f.seq == seq && !f.hand)) }

/-! ## Arrival (R234, R235, R243, R244) -/

/-- The port opposite the one a flit came by, in its dimension. -/
def onward (port : Nat) : Nat := if port % 2 = 0 then port + 1 else port - 1

/-- The flit came along its own dimension: by one of that dimension's regular ports (R234). -/
def alongRing (i : InPkt) : Bool := decide (i.port < 10) && isRegular i.port && regularDim i.port == i.pkt.fld 0x1C 0 2

/-- Forward a flit while hops remain: out of the other port of its own dimension, to the next position (R234). It goes on in its ring, and stays
in the buffer it came into until it has left (R235, R288, R289). -/
def State.forwardFlit (s : State) (x : Group) (i : InPkt) : State :=
  let hops := i.pkt.fld 0x20 0 6
  if hops ≤ 1 ∨ ¬ alongRing i then s
  else
    let port := onward i.port
    let next := s.neighbour (regularDim port) (regularMinus port) 1
    let p := (i.pkt.set 0x10 0 12 (((x.member next).map x.gid).getD 0)).set 0x20 0 6 (hops - 1)
    (s.sendBy i.port port (s.entersRing i.port port) i.stamp p).count blockSlot 9

/-- The flit is of work this group may be in: a handover to come or in progress, or the collective in progress or the next (R153, R243). -/
def Group.flitDue (x : Group) (p : Packet) : Bool :=
  let hand := p.fld 0x1C 3 1 == 1
  let base := match x.coll with
    | some c => c.seq
    | none => x.seq
  if hand then x.state != 4 && (x.fresh || epochNewer p.epoch x.epoch)
  else if x.state = 2 ∧ x.target = some p.epoch then p.run == 0 && decide (p.seqNo ≤ 1)
  else x.state == 3 && p.epoch == x.epoch && p.run == x.run && decide (subMod 16 p.seqNo base ≤ 1)

/-- The flit comes from the position of the arc that it names, along its own dimension. -/
def State.flitPlaced (s : State) (x : Group) (i : InPkt) : Bool :=
  let dim := i.pkt.fld 0x1C 0 2
  let a := x.arc dim
  let org := i.pkt.fld 0x1D 0 6
  alongRing i && x.arcs.isSome && decide (org < a.len) && org != s.arcPos a dim
    && i.pkt.srcNode == s.arcNode a dim org

/-- An older epoch or run, discarded without effect (R156). -/
def Group.stale (x : Group) (p : Packet) : Bool :=
  !x.fresh && (epochNewer x.epoch p.epoch || (p.epoch == x.epoch && runNewer x.run p.run))

/-- PINTLE_FLIT_ARRIVAL: the flit is forwarded, and a copy is kept in its slot (R240). -/
def pintleFlitArrival (s : State) : State :=
  s.withPkt 0 2 (fun _ => true) (fun i s =>
    let g := i.pkt.grp
    match s.group? g with
    | none => s.count blockSlot 10
    | some x =>
      let s := s.forwardFlit x i
      let hand := i.pkt.fld 0x1C 3 1 == 1
      let f : PFlit := ⟨i.pkt.seqNo, i.pkt.epoch, i.pkt.sig, hand, i.pkt.fld 0x1C 0 2, i.pkt.fld 0x1D 0 6, i.pkt.fld 0x24 10 4, i.pkt.payload⟩
      let same (y : PFlit) : Bool := y.epoch == f.epoch && y.seq == f.seq && y.hand == f.hand && y.stage == f.stage && y.org == f.org
      if ¬ s.flitPlaced x i then s.count blockSlot 10
      else if x.flitDue i.pkt then
        if x.pflits.any same then s else (s.setGroup g { x with pflits := x.pflits ++ [f] }).post (.coll g)
      else if hand ∨ x.stale i.pkt then s
      else s.count blockSlot 10)

/-- PINTLE_FLIT_ARRIVAL (R240). -/
def execPintleFlitArrival : State → Host.Outcome State Fault Refusal := coreCmd pintleFlitArrival

/-- The first position in arc order whose flit of the running stage is missing (R245). -/
def State.pintleMissing (s : State) (x : Group) (r : PRun) : Option Nat :=
  let a := x.arc r.stage
  ((List.range a.len).find? (fun k => k != s.arcPos a r.stage && (x.flit? r k).isNone)).map (s.arcNode a r.stage)

/-- PINTLE_STAGE_TIMEOUT: a stage waits past WAIT_US (R245). A handover barrier has no timeout (R246). -/
def pintleStageTimeout (k : GroupId) (s : State) : State :=
  match s.running? k.val with
  | none => s
  | some (x, _, _) => match x.prun with
    | none => s
    | some r =>
      if r.hand ∨ ¬ r.sent ∨ r.stage ≥ 4 ∨ s.fatal then s
      else match s.pintleMissing x r with
        | none => s
        | some node => s.collFault k.val 0x062 noChunk node

/-- PINTLE_STAGE_TIMEOUT (R245). -/
def execPintleStageTimeout (k : GroupId) : State → Host.Outcome State Fault Refusal := coreCmd (pintleStageTimeout k)

/-- PINTLE_HANDOVER_RESEND (R246). -/
def pintleHandoverResend (k : GroupId) (s : State) : State :=
  match s.group? k.val with
  | none => s
  | some x => match x.prun with
    | none => s
    | some r => if r.hand ∧ r.sent ∧ r.stage < 4 ∧ ¬ s.fatal then s.sendFlits x r else s

/-- PINTLE_HANDOVER_RESEND (R246). -/
def execPintleHandoverResend (k : GroupId) : State → Host.Outcome State Fault Refusal := coreCmd (pintleHandoverResend k)

end Sys2Proof.Machine
end

