-- ==== Sys2Proof/Machine/Epoch.lean ====
section
/-! DEFINITION. The collective engine (chapters 6 and 9): issue, turns, handovers, sweeps, probes, COUNTX, group messages, drains. -/

namespace Sys2Proof.Machine

/-! ## Issue (R43, R51, R152, R191) -/

/-- An issued collective joins its group's engine; its chain is captured (R152, R191). -/
def State.joinGroup (s : State) (q id : Nat) (d : BitVec 1024) : State :=
  let ch := if dOpcode d = 0x10 ∨ dOpcode d = 0x11 then dChain d else 0
  let st := if ch = 0 then [] else s.chain ch
  (s.modGroup (s.qGroup q) (fun x => { x with issued := x.issued ++ [(id, st)] })).post (.coll (s.qGroup q))

/-- Peers of a collective's algorithm: those of the plan of an RS or AG; of a COUNTX or PINTLE those over the group's binomial tree. -/
def Group.peersOf (x : Group) (d : BitVec 1024) (alg : Nat) : List Nat :=
  if dOpcode d = 0x10 ∨ dOpcode d = 0x11 then planPeers (x.plan (dOpcode d == 0x10) alg)
  else (match x.treeUp with
    | some p => [p]
    | none => []) ++ x.treeDown

/-- The members whose nodes a collective checks when it issues (R299): the peers of an RS or AG, and every cached member for the others. Other
receivers of a COUNTX are checked when their entries are read. -/
def Group.checked (x : Group) (d : BitVec 1024) : List Nat :=
  if dOpcode d = 0x10 ∨ dOpcode d = 0x11 then x.peersOf d (x.alg (dBytes d)) else (x.cache.map (·.1)).filter (· != x.self)

/-- Issue a collective of an opcode: a destination that fails a route check ends it with NO_ROUTE, and nothing is sent (R299). -/
def State.issueCol (s : State) (q op : Nat) (extra : BitVec 1024 → List Nat) (ranges : BitVec 1024 → List Range) : State :=
  s.issueWith q op extra ranges (fun s id h =>
    match (s.group? (s.qGroup q)).bind (fun x => ((x.checked h.desc).map x.node).findSome? s.routeReason) with
    | some r => s.endOp id 0x11 (det 2 r) 0 0
    | none => s.joinGroup q id h.desc)

/-- RS (R162). -/
def issueRs (q : QueueId) (s : State) : State :=
  s.issueCol q.val 0x10 (s.colReasons (s.qMembers q.val) (s.qFunc q.val)) (colRanges (s.qMembers q.val))

/-- RS (R162). -/
def execRs (q : QueueId) : State → Host.Outcome State Fault Refusal := coreCmd (issueRs q)

/-- AG (R162). -/
def issueAg (q : QueueId) (s : State) : State :=
  s.issueCol q.val 0x11 (s.colReasons (s.qMembers q.val) (s.qFunc q.val)) (colRanges (s.qMembers q.val))

/-- AG (R162). -/
def execAg (q : QueueId) : State → Host.Outcome State Fault Refusal := coreCmd (issueAg q)

/-- COUNTX (R168): SEND and RECV are 8-byte aligned. -/
def issueCountx (q : QueueId) (s : State) : State :=
  s.issueCol q.val 0x12 (fun d => if dSrc d % 8 ≠ 0 ∨ dColDst d % 8 ≠ 0 then [5] else []) (countRanges (s.qMembers q.val))

/-- COUNTX (R168). -/
def execCountx (q : QueueId) : State → Host.Outcome State Fault Refusal := coreCmd (issueCountx q)

/-- PINTLE (R240). -/
def issuePintle (q : QueueId) (s : State) : State := s.issueCol q.val 0x13 (fun _ => []) pintleRanges

/-- PINTLE (R240). -/
def execPintle (q : QueueId) : State → Host.Outcome State Fault Refusal := coreCmd (issuePintle q)

/-! ## Sweeps (R158, R237) -/

/-- The up message of a child for a sweep. -/
def Group.upOf (x : Group) (w : Sweep) (m : Nat) : Option UpMsg :=
  x.ups.find? (fun u => u.node == x.node m && u.epoch == w.epoch && u.run == w.run && u.seq == w.seq && u.confirm == w.confirm)

/-- Fields of a sweep message. -/
def sweepFields (w : Sweep) (v : Bool) : List (Nat × Nat × Nat) := [hf 0x1D 2 1 (b2n (w.confirm && v)), hf 0x1D 3 1 (b2n w.confirm)]

/-- Send the down message to the children. -/
def State.sweepDown (s : State) (x : Group) (w : Sweep) (v : Bool) : State :=
  x.treeDown.foldl (fun s m => s.sendMember x m 0 3 w.run w.seq w.epoch 0 (sweepFields w v)) s

/-- A handover to `target` completes (R157, R158, R170). Where a message of the new epoch completes it, the confirmation sweep it ran as is still
on its way down: this member takes its result, and passes it on, when it comes (R237). -/
def State.handoverDone (s : State) (g : Nat) : State :=
  match s.group? g with
  | none => s
  | some x => match x.target with
    | none => s
    | some e =>
      (s.setGroup g { x with
        state := 3, fresh := false, epoch := e, run := 0, seq := 0, target := none, sweep := x.sweep.filter (·.upSent), prun := none,
        released := if x.fresh then x.released else (x.released + 1) % 2 ^ 32, latNs := x.slowNs, latNode := x.slowNode, slowNs := 0, slowNode := 0,
        readies := x.readies.filter (fun r => r.epoch == e), ups := x.ups.filter (fun u => u.epoch == e && !(u.run == 0 && u.seq == 0 && u.confirm)),
        pflits := x.pflits.filter (fun f => !f.hand && f.epoch == e) }).post (.coll g)

/-- A sweep has come down: a confirmation's result stands, a handover completes, or the collective goes on (R237). -/
def State.sweepDone (s : State) (g : Nat) (w : Sweep) (v : Bool) : State :=
  let used (u : UpMsg) : Bool := u.epoch == w.epoch && u.run == w.run && u.seq == w.seq && u.confirm == w.confirm
  let pst (x : Group) : Nat := if w.confirm then (if v then 1 else 2) else x.pstate
  let s := s.modGroup g (fun x => { x with sweep := none, pstate := pst x, ups := x.ups.filter (fun u => !used u) })
  match s.group? g with
  | none => s
  | some x => if x.state = 2 then s.handoverDone g else s.post (.coll g)

/-- Go on with a sweep: once every child's up message is here, this member's goes up, or the root turns it round. -/
def State.sweepStep (s : State) (g : Nat) (x : Group) : State :=
  match x.sweep with
  | none => s
  | some w =>
    if w.upSent ∨ x.treeDown.any (fun m => (x.upOf w m).isNone) then s
    else
      let (mine, s) := if w.confirm then s.sampleReady g x else (true, s)
      let v := mine && x.treeDown.all (fun m => ((x.upOf w m).map (·.and_)).getD false)
      match x.treeUp with
      | some p => (s.modGroup g (fun x => { x with sweep := some { w with upSent := true } })).sendMember x p 0 2 w.run w.seq w.epoch 0 (sweepFields w v)
      | none => (s.sweepDown x w v).sweepDone g w v

/-- Start a sweep. -/
def State.startSweep (s : State) (g : Nat) (w : Sweep) : State := (s.modGroup g (fun x => { x with sweep := some w })).post (.coll g)

/-! ## Turns (R157) -/

/-- Start the handover to an epoch: a Pintle barrier where the group is CONFIRMED and PINTLE_HANDOVER is 1, else a confirmation sweep
(R158, R237). -/
def State.startHandover (s : State) (g : Nat) (x : Group) (e : Nat) : State :=
  let x := { x with state := 2, target := some e }
  if x.pstate = 1 ∧ s.on R.KEYRING_CTL_PINTLE_HANDOVER then
    (s.setGroup g { x with prun := some ⟨true, e, 0, 0, [], false, 0⟩ }).post (.coll g)
  else (s.setGroup g x).startSweep g ⟨e, 0, 0, true, false⟩

/-- A collective that has just started. -/
def newColl (id seq alg sig : Nat) (float : Bool) : Coll where
  op := id
  seq := seq
  alg := alg
  phase := .probe
  sig := sig
  item := 0
  unit := 0
  step := 0
  held := []
  opnds := []
  asked := none
  srcRef := none
  tiles := [0]
  landed := []
  grants := []
  resv := none
  spent := []
  outq := []
  late := []
  beats := []
  probes := []
  sums := Summary.empty float
  flags := 0
  deliv := []
  done := []
  ovfEnd := 0
  ovfFirst := none
  fail := none
  ended := false
  sent := 0
  got := []
  peers := []
  sum := 0

/-- Begin the data phase: READYs go to the peers of an RS or AG whose data this member takes, and what may be granted is granted (R154, R313). -/
def State.startData (s : State) (g : Nat) : State :=
  match s.running? g with
  | none => s
  | some (x, c, o) =>
    let s := s.setColl g x { c with phase := .data }
    if dOpcode o.desc ≠ 0x10 ∧ dOpcode o.desc ≠ 0x11 then s.post (.coll g)
    else
      let plan := x.plan (dOpcode o.desc == 0x10) c.alg
      (((planSources plan).foldl (fun s m => s.sendReady x c o.queue m) s).grantAll g o.queue plan none).post (.coll g)

/-- A member's probe of a peer (R174): every router on the way marks it, this one first. -/
def State.markProbe (s : State) (inPort : Nat) (p : Packet) : Packet :=
  match s.routeOf inPort p.dest with
  | .out port _ =>
    let v := s.rd (R.GATE_NEG_VERSION port)
    (p.set 0x1D 0 1 (max (p.fld 0x1D 0 1) (b2n (decide (v < 2))))).set 0x1D 1 1 (max (p.fld 0x1D 1 1) (b2n (decide (v < 3))))
  | _ => p

/-- A collective needs Lyard 3 on its paths: wide partials and sparse merge (R174). -/
def needsV3 (x : Group) (d : BitVec 1024) : Bool := dOpcode d == 0x10 && (x.wide || dSparse d)

/-- A PINTLE or COUNTX runs a confirmation sweep while its group is UNCONFIRMED, and waits for one that is still on its way down (R237). -/
def State.startConfirm (s : State) (g : Nat) : State :=
  match s.running? g with
  | none => s
  | some (x, c, _) =>
    let s := s.setColl g x { c with phase := .confirm }
    if x.pstate = 0 ∧ x.sweep.isNone then s.startSweep g ⟨x.epoch, x.run, c.seq, true, false⟩ else s.post (.coll g)

/-- The paths to the collective's peers are known: go on, or complete with FEATURE and fault the epoch for the others (R174). -/
def State.probed (s : State) (g : Nat) : State :=
  match s.running? g with
  | none => s
  | some (x, c, o) =>
    if needsV3 x o.desc && (x.peersOf o.desc c.alg).any (fun m => SMap.get? x.paths m != some true) then
      let s := s.setGroup g { x with coll := none, issued := x.issued.filter (fun i => i.1 != c.op) }
      (s.endOp c.op 0x13 (det 6 0x065) 0 0).collFault g 0x065 noChunk s.self
    else if dOpcode o.desc = 0x10 ∨ dOpcode o.desc = 0x11 then s.startData g
    else s.startConfirm g

/-- Probe the peers of the collective's algorithm whose paths have not been probed since activation or the last route-table load (R174). -/
def State.startProbe (s : State) (g : Nat) : State :=
  match s.running? g with
  | none => s
  | some (x, c, o) =>
    let peers := (x.peersOf o.desc c.alg).filter (fun m => (SMap.get? x.paths m).isNone)
    if peers = [] then (s.setGroup g { x with probed := true }).probed g
    else
      let s := s.setColl g x { c with probes := peers }
      peers.foldl (fun s m =>
        let p := mkPacket 0 3 (x.node m) s.self o.queue 0 0 (groupFields (x.gid m) x.run c.seq x.epoch 0 ++ [hf 0x1C 0 4 5]) []
        s.inject none none (s.markProbe 10 p)) s

/-- COUNTX's opening barrier (R169): on the Pintle path where that is available, else a sweep. -/
def State.startBarrier (s : State) (g : Nat) : State :=
  match s.running? g with
  | none => s
  | some (x, c, _) =>
    if x.pstate = 1 ∧ s.on R.KEYRING_CTL_PINTLE_HANDOVER then
      (s.setGroup g { x with coll := some { c with phase := .barrier }, prun := some ⟨false, x.epoch, c.seq, 0, [], false, 0⟩ }).post (.coll g)
    else (s.setColl g x { c with phase := .barrier }).startSweep g ⟨x.epoch, x.run, c.seq, false, false⟩

/-- The work of a PINTLE or COUNTX proceeds in the group's Pintle state (R237, R238). -/
def State.afterConfirm (s : State) (g : Nat) : State :=
  match s.running? g with
  | none => s
  | some (x, _, o) =>
    if dOpcode o.desc = 0x12 then s.startBarrier g
    else if x.pstate = 2 then s.collEnd g 0x13 (det 6 0x065) 0
    else s.startData g

/-- The first issued collective starts (R152). -/
def State.startColl (s : State) (g : Nat) (x : Group) (id : Nat) (o : Op) : State :=
  let d := o.desc
  let op := dOpcode d
  let alg := if op = 0x10 ∨ op = 0x11 then x.alg (dBytes d) else 3
  let c := newColl id x.seq alg (signature (x.sigFields d alg x.seq)) (floatClass (dOutFmt d))
  (s.setGroup g { x with seq := (x.seq + 1) % 2 ^ 16, coll := some c }).startProbe g

/-- A collective reaches its turn (R157). -/
def State.colTurn (s : State) (g : Nat) (x : Group) : State :=
  match x.issued with
  | [] => s
  | (id, _) :: rest => match s.op? id with
    | none => (s.setGroup g { x with issued := rest }).post (.coll g)
    | some o =>
      let e := dEpoch o.desc
      let next := x.state == 1 || (x.state == 3 && e != x.epoch && epochNewer e x.epoch)
      if next ∧ x.sweep.isSome then s
      else if x.state = 1 then s.startHandover g x e
      else if x.state = 3 then
        if e = x.epoch then s.startColl g x id o
        else if epochNewer e x.epoch then s.startHandover g x e
        else s.collFault g 0x063 noChunk s.self
      else if e = x.epoch then
        let run := (x.run + 1) % 16
        let keep (r : ReadyMsg) : Bool := r.epoch == x.epoch && r.run == run
        let x := { x with state := 3, run := run, seq := 0, readies := x.readies.filter keep, ups := x.ups.filter (fun u => u.epoch == x.epoch && u.run == run) }
        (s.setGroup g x).startColl g x id o
      else ((s.setGroup g { x with issued := rest }).endOp id 0x0E (det 6 0x066) (faultResult x.epoch noChunk s.self) 0).post (.coll g)

/-! ## COUNTX (R168, R169) -/

/-- Go on with the count phase: serve the next member, or complete once every entry is committed. -/
def State.countStep (s : State) (g : Nat) (x : Group) (c : Coll) (o : Op) : State :=
  let j := c.sent
  if j ≥ x.n then (if c.got.length = x.n then s.collEnd g 0 0 (c.sum % 2 ^ 64) else s)
  else if c.asked.isSome then s
  else
    let peer := match SMap.get? x.cache j with
      | some p => some p
      | none => SMap.get? c.peers j
    if j ≠ x.self ∧ peer.isNone then
      (s.setColl g x { c with asked := some 0 }).virtJob 0 ((x.listVa + 4 * j) % 2 ^ 64) 4 .read [] 5 0 (.countPeer g j)
    else (s.setColl g x { c with asked := some 1, peers := match peer with
      | some p => SMap.put c.peers j p
      | none => c.peers }).virtJob o.func ((dSrc o.desc + 8 * j) % 2 ^ 64) 8 .read [] 4 o.queue (.countSend g j)

/-- The list entry of a COUNTX receiver has been read (R151), and its node is checked (R299). -/
def State.countPeerRead (s : State) (g j : Nat) (r : JobResult) : State :=
  match s.running? g with
  | none => s
  | some (x, c, _) =>
    if c.asked ≠ some 0 ∨ c.sent ≠ j then s
    else if r.fail.isSome then s.collFault g 0x067 noChunk s.self
    else match s.routeReason (leAt r.data 0 4 % 2 ^ 20) with
      | some re => s.collEnd g 0x11 (det 2 re) 0
      | none => (s.setColl g x { c with asked := none, peers := SMap.put c.peers j (leAt r.data 0 4 % 2 ^ 20, leAt r.data 0 4 / 2 ^ 20) }).post (.coll g)

/-- Write a count into RECV. -/
def State.putCount (s : State) (g : Nat) (x : Group) (c : Coll) (o : Op) (j v : Nat) : State :=
  (s.setColl g x { c with deliv := SMap.put c.deliv j ⟨0, 8, 1, none, none, none⟩, sum := c.sum + v }).virtJob o.func ((dColDst o.desc + 8 * j) % 2 ^ 64) 8 .write (toLE 8 v)
    4 o.queue (.countRecv g j)

/-- An entry of SEND has been read: it is copied, or sent to its member. -/
def State.countSendRead (s : State) (g j : Nat) (r : JobResult) : State :=
  match s.running? g with
  | none => s
  | some (x, c, o) =>
    if c.asked ≠ some 1 ∨ c.sent ≠ j then s
    else match r.fail with
      | some f => s.collFault g (failReason f 0x060) noChunk s.self
      | none =>
        let c := { c with asked := none, sent := j + 1 }
        let v := leAt r.data 0 8
        if j = x.self then (s.putCount g x c o j v).post (.coll g)
        else
          let p := SMap.getD c.peers j (0, 0)
          ((s.setColl g x c).sendGroup p.1 o.queue 4 p.2 x.run c.seq x.epoch 0 [hf 0x28 0 64 v, hf 0x30 0 21 x.self]).post (.coll g)

/-- An entry of RECV has been committed, or could not be. -/
def State.countRecvDone (s : State) (g j : Nat) (r : JobResult) : State :=
  match s.running? g with
  | none => s
  | some (x, c, _) =>
    if (SMap.get? c.deliv j).isNone then s
    else match r.fail with
      | some f => s.collFault g (failReason f 0x069) noChunk s.self
      | none => (s.setColl g x { c with deliv := SMap.del c.deliv j, got := c.got ++ [j] }).post (.coll g)

/-! ## PINTLE (R240-R245) -/

/-- Go on with a PINTLE: the operand read, the stages, the result write. -/
def State.pintleStep (s : State) (g : Nat) (x : Group) (c : Coll) (o : Op) : State :=
  let d := o.desc
  match x.prun with
    | none =>
      if dPop d = 0 then (s.setGroup g { x with prun := some ⟨false, x.epoch, c.seq, 0, [], false, 0⟩ }).post (.coll g)
      else if c.asked.isSome then s
      else (s.setColl g x { c with asked := some 0 }).virtJob o.func (dSrc d) (8 * dLanes d) .read [] 4 o.queue (.pintleSrc g)
    | some _ =>
      let s := s.pintleRun g
      match (s.group? g).bind (·.prun) with
      | none => s
      | some r =>
        if r.stage < 4 ∨ c.ended then s
        else
          let s := s.modGroup g (fun x => x.dropFlits c.seq)
          let s := s.setOp c.op { o with ieee := r.flags }
          if dPop d = 0 then ((s.modGroup g (fun x => { x with prun := none })).collEnd g 0 0 0)
          else (s.modColl g (fun c => { c with ended := true })).virtJob o.func (dColDst d) (8 * dLanes d) .write r.value 4 o.queue (.pintleDst g)

/-- The operand block has been read (R245). -/
def State.pintleSrcRead (s : State) (g : Nat) (r : JobResult) : State :=
  match s.running? g with
  | none => s
  | some (x, c, _) =>
    if c.asked ≠ some 0 ∨ x.prun.isSome then s
    else match r.fail with
      | some f => s.collFault g (failReason f 0x060) noChunk s.self
      | none => (s.setGroup g { x with coll := some { c with asked := none }, prun := some ⟨false, x.epoch, c.seq, 0, r.data, false, 0⟩ }).post (.coll g)

/-- The result block has been committed (R245). -/
def State.pintleDstDone (s : State) (g : Nat) (r : JobResult) : State :=
  match s.running? g with
  | none => s
  | some (_, c, _) =>
    if ¬ c.ended then s
    else match r.fail with
      | some f => s.collFault g (failReason f 0x069) noChunk s.self
      | none => (s.modGroup g (fun x => { x with prun := none })).collEnd g 0 0 0

/-! ## The engine's step -/

/-- A queue of the group enters DRAINING: every collective issued and not completed ends, and the epoch faults elsewhere (R160). -/
def State.colDrain (s : State) (g : Nat) : State :=
  match s.group? g with
  | none => s
  | some x =>
    if x.issued = [] then s
    else
      let s := match x.coll with
        | some c => s.dropRefs c
        | none => s
      s.epochFault g x.run 0x068 noChunk s.self none 0x12

/-- Go on with a collective. -/
def State.collStep (s : State) (g : Nat) (x : Group) (c : Coll) (o : Op) : State :=
  if x.clash c then s.collFault g 0x064 noChunk s.self
  else match c.phase with
  | .confirm => if x.sweep.isSome then s.sweepStep g x else s.afterConfirm g
  | .barrier =>
    match x.prun with
      | some _ =>
        let s := s.pintleRun g
        match (s.group? g).bind (·.prun) with
        | some r => if r.stage < 4 then s else (s.modGroup g (fun x => { x.dropFlits c.seq with prun := none })).startData g
        | none => s
      | none => if x.sweep.isSome then s.sweepStep g x else s.startData g
  | .probe => s
  | .data =>
    if dOpcode o.desc = 0x12 then s.countStep g x c o
    else if dOpcode o.desc = 0x13 then s.pintleStep g x c o
    else s.dataStep g x c o

/-- Go on with a group (R152, R157). -/
def State.colStep (s : State) (g : Nat) : State :=
  match s.group? g with
  | none => s
  | some x =>
    if x.state = 2 then
      if x.handClash then s.collFault g 0x064 noChunk s.self
      else match x.prun with
      | some _ =>
        let s := s.pintleRun g
        match (s.group? g).bind (·.prun) with
        | some r => if r.stage < 4 then s else s.handoverDone g
        | none => s
      | none => s.sweepStep g x
    else match x.coll with
      | none => s.colTurn g x
      | some c => match s.op? c.op with
        | some o => s.collStep g x c o
        | none => (s.setGroup g { x with coll := none }).post (.coll g)

/-! ## Arrivals (R154-R158, R169, R172, R174) -/

/-- Take a GROUP message of a kind for an active group. A message that names the epoch being handed over to completes the handover
(R157). -/
def State.withGroup (s : State) (sub : Nat) (completes : Bool) (f : InPkt → Nat → Group → State → State) : State :=
  s.withPkt 0 3 (fun k => k.fld 0x1C 0 4 == sub) (fun i s =>
    let g := i.pkt.grp
    let s := match s.group? g with
      | some x => if completes && x.state == 2 && x.target == some i.pkt.epoch then s.handoverDone g else s
      | none => s
    match s.group? g with
    | some x => f i g x s
    | none => s)

/-- A newer run of the current epoch is running elsewhere (R157). -/
def Group.rerun (x : Group) (p : Packet) : Bool := (x.state == 2 || x.state == 3) && p.epoch == x.epoch && runNewer p.run x.run

/-- READY_ARRIVAL (R154, R155, R313). -/
def readyArrival (s : State) : State :=
  s.withGroup 0 true (fun i g x s =>
    let p := i.pkt
    if x.rerun p then s.collFault g 0x06B noChunk p.srcNode
    else if p.epoch ≠ x.epoch ∨ ¬ ((x.state = 3 ∧ p.run = x.run) ∨ (x.state = 4 ∧ runNewer p.run x.run)) then s
    else
      let same (r : ReadyMsg) : Bool := r.node == p.srcNode && r.epoch == p.epoch && r.run == p.run && r.seq == p.seqNo
      let rs := if x.readies.any same then x.readies.map (fun r => if same r then { r with count := r.count + 1 } else r)
        else x.readies ++ [⟨p.srcNode, p.epoch, p.run, p.seqNo, p.sig, 1⟩]
      let s := (s.setGroup g { x with readies := rs }).post (.coll g)
      match x.coll with
      | some c => if x.state = 3 ∧ c.seq = p.seqNo ∧ c.sig ≠ p.sig then s.collFault g 0x064 noChunk s.self else s
      | none => s)

/-- READY_ARRIVAL (R154). -/
def execReadyArrival : State → Host.Outcome State Fault Refusal := coreCmd readyArrival

/-- The member whose slice or contribution a COL packet's elements belong to (R164, R279). -/
def colItem (h : Shape) (p : Packet) : Nat :=
  if h.rs then p.colChunk / max 1 ((h.elems * h.so + h.chunk - 1) / h.chunk) else (p.colChunk * (h.chunk / h.so) + p.colEoff) / max 1 h.elems

/-- A COL packet may be accepted for an action of the running collective: the peer the plan assigns, for its chunk, stage and phase, against a
grant (R156, R313). -/
def colAccepts (x : Group) (c : Coll) (o : Op) (p : Packet) (m : Nat) : Bool :=
  let h := x.shape o.desc
  c.phase == .data && (dOpcode o.desc == 0x10 || dOpcode o.desc == 0x11) && c.seq == p.seqNo
    && (x.plan h.rs c.alg).any (fun a => a.froms.contains m && a.stage == p.colStage && a.phase == p.colPhase && a.item == colItem h p)
    && decide (0 < SMap.getD c.grants m 0)

/-- COL_ARRIVAL (R156). -/
def colArrival (s : State) : State :=
  s.withPkt 4 0 (fun _ => true) (fun i s =>
    let p := i.pkt
    let g := p.grp
    let s := match s.group? g with
      | some x => if x.state = 2 ∧ x.target = some p.epoch then s.handoverDone g else s
      | none => s
    match s.group? g with
    | none => s.count blockSlot 11
    | some x =>
      if x.rerun p then s.collFault g 0x06B noChunk p.srcNode
      else if x.stale p then s
      else match s.running? g, x.member p.srcNode with
        | some (x, c, o), some m =>
          if x.state ≠ 3 ∨ p.epoch ≠ x.epoch ∨ p.run ≠ x.run ∨ ¬ colAccepts x c o p m then s.count blockSlot 11
          else if p.sig ≠ c.sig then s.collFault g 0x064 noChunk s.self
          else
            let held := (c.landed.filter (fun l => l.src == m)).length + (c.deliv.filter (fun e => e.2.src == some m && e.2.writes != 0)).length
            if held ≥ SMap.getD c.grants m 0 then s.count blockSlot 11
            else
              ((s.setColl g x { c with landed := c.landed ++ [⟨m, i.port, p⟩] }).lateness g (colKey p.colStage p.colPhase p.colChunk) p.srcNode).post (.coll g)
        | _, _ => s.count blockSlot 11)

/-- COL_ARRIVAL (R156). -/
def execColArrival : State → Host.Outcome State Fault Refusal := coreCmd colArrival

/-- ABORT_ARRIVAL: an abort of the current epoch faults it; any other is only relayed, where it is the first of its (epoch, run) (R157, R172). -/
def abortArrival (s : State) : State :=
  s.withGroup 1 true (fun i g x s =>
    let p := i.pkt
    let reason := p.fld 0x1E 0 12
    let chunk := p.fld 0x20 0 32
    let node := p.fld 0x24 0 20
    if (x.state = 2 ∨ x.state = 3) ∧ ¬ x.fresh ∧ p.epoch = x.epoch ∧ (p.run = x.run ∨ runNewer p.run x.run) then
      let s := match x.coll with
        | some c => s.dropRefs c
        | none => s
      s.epochFault g p.run reason chunk node (some p.srcNode) 0x0E
    else if x.aborts.contains (p.epoch, p.run) then s
    else (s.setGroup g (x.noteAbort p.epoch p.run)).sendAbort x p.epoch p.run reason chunk node (some p.srcNode))

/-- ABORT_ARRIVAL (R172). -/
def execAbortArrival : State → Host.Outcome State Fault Refusal := coreCmd abortArrival

/-- A SWEEP_UP is kept until this member's sweep takes it; one of a handover is dropped in FAULTED, since its sender reaches that handover again
after the re-run. -/
def State.upArrived (s : State) (i : InPkt) (g : Nat) (x : Group) : State :=
  let p := i.pkt
  let u : UpMsg := ⟨p.srcNode, p.epoch, p.run, p.seqNo, p.fld 0x1D 3 1 == 1, p.fld 0x1D 2 1 == 1⟩
  let same (v : UpMsg) : Bool := v.node == u.node && v.epoch == u.epoch && v.run == u.run && v.seq == u.seq && v.confirm == u.confirm
  if x.treeDown.all (fun m => x.node m != p.srcNode) ∨ x.ups.any same ∨ x.stale p ∨ (x.state = 4 ∧ p.epoch ≠ x.epoch) then s
  else (s.setGroup g { x with ups := x.ups ++ [u] }).post (.coll g)

/-- SWEEP_ARRIVAL: the up and the down message of a handover, a COUNTX barrier or a confirmation (R158). -/
def sweepArrival (s : State) : State :=
  s.withPkt 0 3 (fun k => k.fld 0x1C 0 4 == 2 || k.fld 0x1C 0 4 == 3) (fun i s =>
    let p := i.pkt
    let g := p.grp
    match s.group? g with
    | none => s
    | some x =>
      if p.fld 0x1C 0 4 = 2 then s.upArrived i g x
      else match x.sweep with
        | none => s
        | some w =>
          let from_ := match x.treeUp with
            | some m => x.node m == p.srcNode
            | none => false
          if from_ && w.upSent && w.epoch == p.epoch && w.run == p.run && w.seq == p.seqNo && w.confirm == (p.fld 0x1D 3 1 == 1) then
            let v := p.fld 0x1D 2 1 == 1
            (s.sweepDown x w v).sweepDone g w v
          else s)

/-- SWEEP_ARRIVAL (R158). -/
def execSweepArrival : State → Host.Outcome State Fault Refusal := coreCmd sweepArrival

/-- COUNT_ARRIVAL (R169). -/
def countArrival (s : State) : State :=
  s.withGroup 4 false (fun i g x s =>
    let p := i.pkt
    match s.running? g with
    | none => s
    | some (_, c, o) =>
      let j := p.fld 0x30 0 21
      if x.state ≠ 3 ∨ dOpcode o.desc ≠ 0x12 ∨ p.epoch ≠ x.epoch ∨ p.run ≠ x.run ∨ p.seqNo ≠ c.seq ∨ j ≥ x.n ∨ j = x.self
          ∨ c.got.contains j ∨ (SMap.get? c.deliv j).isSome then s
      else s.putCount g x c o j (p.fld 0x28 0 64))

/-- COUNT_ARRIVAL (R169). -/
def execCountArrival : State → Host.Outcome State Fault Refusal := coreCmd countArrival

/-- PROBE_ARRIVAL: marked and sent on, or answered at its target (R174). -/
def probeArrival (s : State) : State :=
  s.withPkt 0 3 (fun k => k.fld 0x1C 0 4 == 5) (fun i s =>
    let p := i.pkt
    if p.dest ≠ s.self then s.routePacket i.port i.stamp none none (s.markProbe i.port p)
    else match s.group? p.grp with
      | none => s
      | some x => match x.member p.srcNode with
        | none => s
        | some m => s.sendMember x m p.squeue 6 p.run p.seqNo p.epoch 0 [hf 0x1D 0 1 (p.fld 0x1D 0 1), hf 0x1D 1 1 (p.fld 0x1D 1 1)])

/-- PROBE_ARRIVAL (R174). -/
def execProbeArrival : State → Host.Outcome State Fault Refusal := coreCmd probeArrival

/-- PROBE_ANSWER_ARRIVAL (R174). -/
def probeAnswerArrival (s : State) : State :=
  s.withGroup 6 false (fun i g x s =>
    let p := i.pkt
    match x.coll, x.member p.srcNode with
    | some c, some m =>
      if c.phase ≠ .probe ∨ ¬ c.probes.contains m ∨ p.epoch ≠ x.epoch ∨ p.run ≠ x.run ∨ p.seqNo ≠ c.seq then s
      else
        let c := { c with probes := c.probes.filter (· != m) }
        let x := { x with coll := some c, paths := SMap.put x.paths m (p.fld 0x1D 1 1 == 0) }
        if c.probes = [] then (s.setGroup g { x with probed := true }).probed g else s.setGroup g x
    | _, _ => s)

/-- PROBE_ANSWER_ARRIVAL (R174). -/
def execProbeAnswerArrival : State → Host.Outcome State Fault Refusal := coreCmd probeAnswerArrival

/-! ## Timeouts and route loads -/

/-- The peer whose operand or count the running collective waits for, and the chunk (R171); one whose block was lost is waited for too
(R397). -/
def awaited (x : Group) (c : Coll) (o : Op) : Option (Nat × Nat) :=
  if c.phase ≠ .data then none
  else if dOpcode o.desc = 0x12 then
    if c.sent < x.n then none
    else ((List.range x.n).find? (fun j => !c.got.contains j && (SMap.get? c.deliv j).isNone)).map (fun j => ((SMap.getD c.peers j (0, 0)).1, noChunk))
  else if dOpcode o.desc = 0x13 then none
  else match x.missing c o.desc with
    | some m => some (x.node m, x.chunkAt c o.desc)
    | none => (c.deliv.find? (fun e => e.2.writes == 0)).map (fun e => (x.node (e.2.src.getD x.self), e.2.chunk))

/-- PROGRESS_TIMEOUT (R171). -/
def progressTimeout (k : GroupId) (s : State) : State :=
  match s.running? k.val with
  | none => s
  | some (x, c, o) =>
    if s.fatal then s
    else match awaited x c o with
      | some (node, chunk) => s.collFault k.val 0x062 chunk node
      | none => s

/-- PROGRESS_TIMEOUT (R171). -/
def execProgressTimeout (k : GroupId) : State → Host.Outcome State Fault Refusal := coreCmd (progressTimeout k)

/-- ROUTE_CMD COMMIT: in DRAINED it loads the active set; in any other state it sets CMD_ERR (R309). Groups probe again (R174). -/
def routeCommitCmd (s : State) : State :=
  if s.rd R.ROUTE_STATUS_STATE ≠ 2 then s.wr R.ROUTE_STATUS_CMD_ERR 1
  else
    let s := s.routeCommit
    { s with core.col.groups := s.core.col.groups.map (fun e => (e.1, { e.2 with probed := false, paths := [] })) }

/-- ROUTE_COMMIT (R309). -/
def execRouteCommit : State → Host.Outcome State Fault Refusal := coreCmd routeCommitCmd

end Sys2Proof.Machine
end

