-- ==== Sys2Proof/Machine/Cipher.lean ====
section
/-! DEFINITION. AES-256-GCM, which R323 names for the frames. The spec gives no text of it: PRESUMED as published (FIPS 197 and
NIST SP 800-38D), log entry 42. -/

namespace Sys2Proof.Machine

/-! ## AES-256 -/

/-- Twice a byte in GF(2^8) modulo x^8 + x^4 + x^3 + x + 1. -/
def aesDouble (x : Nat) : Nat := if x < 128 then 2 * x else Nat.xor (2 * x) 0x11B

/-- Product in GF(2^8): the bits of `a` from the lowest of eight select the doublings of `b`. -/
def aesMul (a b : Nat) : Nat :=
  ((List.range 8).foldl (fun (acc : Nat × Nat) i => (if a.testBit i then Nat.xor acc.1 acc.2 else acc.1, aesDouble acc.2)) (0, b)).1

/-- The inverse in GF(2^8), as the 254th power; 0 of 0. -/
def aesInv (x : Nat) : Nat :=
  let x2 := aesMul x x
  let x4 := aesMul x2 x2
  let x8 := aesMul x4 x4
  let x16 := aesMul x8 x8
  let x32 := aesMul x16 x16
  let x64 := aesMul x32 x32
  let x128 := aesMul x64 x64
  aesMul x128 (aesMul x64 (aesMul x32 (aesMul x16 (aesMul x8 (aesMul x4 x2)))))

/-- The substitution of a byte: its inverse, the sum with four rotations, and 0x63. -/
def aesSub (x : Nat) : Nat :=
  let b := aesInv x
  let rot (n : Nat) : Nat := (b * 2 ^ n + b / 2 ^ (8 - n)) % 256
  Nat.xor 0x63 (Nat.xor b (Nat.xor (rot 1) (Nat.xor (rot 2) (Nat.xor (rot 3) (rot 4)))))

/-- The substitution of every byte value, in order. -/
def aesTable : List Nat := (List.range 256).map aesSub

/-- `n` numbers of a list from place `i`. -/
def cutNats (xs : List Nat) (i n : Nat) : List Nat := (xs.drop i).take n

/-- Sums of two byte lists. -/
def xorBytes (a b : List Nat) : List Nat := List.zipWith Nat.xor a b

/-- The next words of the key schedule from the last eight, `i` the number of the next word. -/
def aesNextWord (sub : Nat → Nat) (rcon i : Nat) (ws : List (List Nat)) : List Nat :=
  let last := ws.getLastD []
  let t := if i % 8 = 0 then xorBytes ((last.drop 1 ++ last.take 1).map sub) [rcon, 0, 0, 0]
    else if i % 8 = 4 then last.map sub else last
  xorBytes (ws.getD (i - 8) []) t

/-- The 60 words of the key schedule of a 32-byte key. -/
def aesSchedule (sub : Nat → Nat) (key : List Nat) : List (List Nat) :=
  let first := (List.range 8).map (fun i => cutNats key (4 * i) 4)
  ((List.range 52).foldl (fun (acc : List (List Nat) × Nat) j =>
    let i := j + 8
    (acc.1 ++ [aesNextWord sub acc.2 i acc.1], if i % 8 = 0 then aesDouble acc.2 else acc.2)) (first, 1)).1

/-- The round keys, 16 bytes each. -/
def aesRoundKeys (sub : Nat → Nat) (key : List Nat) : List (List Nat) :=
  let ws := aesSchedule sub key
  (List.range 15).map (fun r => ((ws.drop (4 * r)).take 4).flatten)

/-- Row r of the state, kept by columns, moves r places. -/
def aesShiftRows (s : List Nat) : List Nat := (List.range 16).map (fun i => s.getD ((i + 4 * (i % 4)) % 16) 0)

/-- Each column times the fixed matrix. -/
def aesMixColumns (s : List Nat) : List Nat :=
  (List.range 16).map (fun i =>
    let c := i / 4 * 4
    let x (k : Nat) : Nat := s.getD (c + (i + k) % 4) 0
    Nat.xor (aesDouble (x 0)) (Nat.xor (Nat.xor (aesDouble (x 1)) (x 1)) (Nat.xor (x 2) (x 3))))

/-- One block under the round keys. -/
def aesBlock (sub : Nat → Nat) (rks : List (List Nat)) (blk : List Nat) : List Nat :=
  let mid := (rks.drop 1).take 13
  let s := mid.foldl (fun s k => xorBytes (aesMixColumns (aesShiftRows (s.map sub))) k) (xorBytes blk (rks.headD []))
  xorBytes (aesShiftRows (s.map sub)) (rks.getLastD [])

/-! ## GCM -/

/-- Sixteen bytes as a number whose bit 127 - i is the i-th bit of the block. -/
def beNat (bs : List Nat) : Nat := bs.foldl (fun n b => n * 256 + b) 0

/-- The `n` bytes of a number, the most significant first. -/
def beBytes (n x : Nat) : List Nat := (List.range n).map (fun i => x / 2 ^ (8 * (n - 1 - i)) % 256)

/-- Product in GF(2^128) as GCM numbers its bits. -/
def gcmMul (x y : Nat) : Nat :=
  ((List.range 128).foldl (fun (acc : Nat × Nat) i =>
    (if x.testBit (127 - i) then Nat.xor acc.1 acc.2 else acc.1,
     if acc.2 % 2 = 0 then acc.2 / 2 else Nat.xor (acc.2 / 2) (0xE1 * 2 ^ 120))) (0, y)).1

/-- A byte string in blocks of 16, the last filled with zeros. -/
def blocks16 (bs : List Nat) : List (List Nat) :=
  (List.range ((bs.length + 15) / 16)).map (fun i => let b := cutNats bs (16 * i) 16; b ++ List.replicate (16 - b.length) 0)

/-- GHASH of additional data and ciphertext under the hash key. -/
def ghash (h : Nat) (aad ct : List Nat) : Nat :=
  let lens := beBytes 8 (8 * aad.length) ++ beBytes 8 (8 * ct.length)
  (blocks16 aad ++ blocks16 ct ++ [lens]).foldl (fun y b => gcmMul (Nat.xor y (beNat b)) h) 0

/-- What a key and a 12-byte IV give: the key stream for `n` blocks, the hash key, and the mask of the tag. -/
def gcmKey (key iv : List Nat) (n : Nat) : List Nat × Nat × Nat :=
  let tbl := aesTable
  let sub (x : Nat) : Nat := tbl.getD x 0
  let rks := aesRoundKeys sub key
  let ctr (i : Nat) : List Nat := aesBlock sub rks (iv ++ beBytes 4 i)
  (((List.range n).map (fun i => ctr (i + 2))).flatten, beNat (aesBlock sub rks (List.replicate 16 0)), beNat (ctr 1))

/-- Seal: the ciphertext and the tag. -/
def gcmSealBytes (key iv aad pt : List Nat) : List Nat × List Nat :=
  let (ks, h, mask) := gcmKey key iv ((pt.length + 15) / 16)
  let ct := xorBytes pt ks
  (ct, beBytes 16 (Nat.xor (ghash h aad ct) mask))

/-- Open: the plaintext if the tag verifies. -/
def gcmOpenBytes (key iv aad ct tag : List Nat) : Option (List Nat) :=
  let (ks, h, mask) := gcmKey key iv ((ct.length + 15) / 16)
  if beBytes 16 (Nat.xor (ghash h aad ct) mask) = tag then some (xorBytes ct ks) else none

/-! ## As the frames use it (R323): byte 0 of every field first -/

/-- Bytes of a number, the least significant first. -/
def leNats (n x : Nat) : List Nat := (List.range n).map (fun i => x / 2 ^ (8 * i) % 256)

/-- Flits of a byte string. -/
def flitsOf (bs : List Nat) : List Flit :=
  (List.range ((bs.length + 63) / 64)).map (fun i => BitVec.ofNat 512 (beNat (cutNats bs (64 * i) 64).reverse))

/-- AES-256-GCM of a frame's body: key, 96-bit IV, additional data, plaintext; the ciphertext and the 128-bit tag. -/
def gcmSeal (key : BitVec 256) (iv : BitVec 96) (aad : Bytes) (body : List Flit) : List Flit × BitVec 128 :=
  let (ct, tag) := gcmSealBytes (leNats 32 key.toNat) (leNats 12 iv.toNat) (aad.map BitVec.toNat) (body.flatMap (fun f => leNats 64 f.toNat))
  (flitsOf ct, BitVec.ofNat 128 (beNat tag.reverse))

/-- Opening of a frame's body: the plaintext if the tag verifies. -/
def gcmOpen (key : BitVec 256) (iv : BitVec 96) (aad : Bytes) (body : List Flit) (tag : BitVec 128) : Option (List Flit) :=
  (gcmOpenBytes (leNats 32 key.toNat) (leNats 12 iv.toNat) (aad.map BitVec.toNat) (body.flatMap (fun f => leNats 64 f.toNat))
    (leNats 16 tag.toNat)).map flitsOf

end Sys2Proof.Machine
end

