-- ==== Sys2Proof/Machine/Link.lean ====
section
/-! DEFINITION. Gates and hinge ports (chapter 13): lanes, frames, training, sparing, leaving READY; and the session keys of chapter 14
that frames use. -/

namespace Sys2Proof.Machine

/-! ## Lanes (R317, R337) -/

/-- Lanes whose bits are set, ascending. -/
def lanesOf (m : Nat) : List Nat := (List.range 9).filter (bit m)
def maskOf (ls : List Nat) : Nat := ls.foldl (fun n l => Nat.lor n (2 ^ l)) 0
/-- The bit taken out of a mask. -/
def maskDel (m l : Nat) : Nat := if bit m l then m - 2 ^ l else m

/-- Lanes of a gate's receivers that are locked. -/
def State.locked (s : State) (g : Nat) : Nat := bits s.pins.lock (9 * g) 9

/-- The active lanes, in logical order, and the spare of a direction: the lowest healthy lanes, the next one spare (R337). -/
def assign (healthy : Nat) (x4 : Bool) : List Nat × Nat :=
  let ls := lanesOf healthy
  let w := if x4 then 4 else 8
  (ls.take w, (ls.drop w).headD 15)

/-- The lanes a spare rotates over: all, or the lowest five at x4 (R337). -/
def rotation (healthy : Nat) (x4 : Bool) : List Nat := if x4 then (lanesOf healthy).take 5 else lanesOf healthy

/-- Set the receive side's lane registers. -/
def State.setRxLanes (s : State) (g healthy : Nat) (active : List Nat) (spare : Nat) : State :=
  let s := (s.wr (R.GATE_LANES_RX_GOOD g) healthy).wr (R.GATE_LANES_RX_SPARE g) spare
  let s := s.wr (R.GATE_STATUS_NO_SPARE_RX g) (b2n (spare == 15))
  (List.range 9).foldl (fun s l =>
    let ok := bit healthy l
    let pos := active.findIdx? (· == l)
    let s := (s.wr (R.GATE_LANE_RX_OK g l) (b2n ok)).wr (R.GATE_LANE_RX_SPARE g l) (b2n (l == spare))
    (s.wr (R.GATE_LANE_LOGICAL g l) (pos.getD 15)).wr (R.GATE_LANE_RX_IDLE g l) (b2n (ok && pos.isNone && l != spare))) s

/-- Set the transmit side's lane registers and map. -/
def State.setTxLanes (s : State) (g healthy : Nat) (active : List Nat) (spare : Nat) : State :=
  let s := (s.wr (R.GATE_LANES_TX_GOOD g) healthy).wr (R.GATE_LANES_TX_SPARE g) spare
  let s := s.wr (R.GATE_STATUS_NO_SPARE_TX g) (b2n (spare == 15))
  let s := (List.range 9).foldl (fun s l => s.wr (R.GATE_LANE_TX_OK g l) (b2n (bit healthy l))) s
  s.modLink g (fun l => { l with txMap := active })

/-- The lanes that carry the frames of training, in both directions (R330). -/
def State.trainLanes (s : State) (g : Nat) (active : List Nat) : State :=
  ((List.range 9).foldl (fun s l => s.wr (R.GATE_LANE_LOGICAL g l) ((active.findIdx? (· == l)).getD 15)) s).modLink g (fun l =>
    { l with txMap := active, txFec := (0, 0), rxFec := [] })

/-- Physical lane of each logical lane of the receive direction. -/
def State.rxMap (s : State) (g : Nat) : List Nat :=
  ((List.range 8).map (fun k => (List.range 9).find? (fun l => s.rd (R.GATE_LANE_LOGICAL g l) == k))).filterMap id

/-! ## Equalization requests (R434, R435) -/

/-- Present the first request. -/
def State.cfgPresent (s : State) (g : Nat) : State :=
  match (s.link g).cfg with
  | [] => s
  | c :: _ => s.emit (.phyCfg g c.lane c.op c.wdata)

/-- Queue requests; the first is presented when none is outstanding. -/
def State.cfgPush (s : State) (g : Nat) (cs : List CfgReq) : State :=
  let idle := (s.link g).cfg.isEmpty
  let s := s.modLink g (fun l => { l with cfg := l.cfg ++ cs })
  if idle then s.cfgPresent g else s

/-! ## The key port (R358-R360, R459, R460) -/

/-- A message to the root-of-trust; a KEYX_IN that does not fit in the 16 KiB is dropped whole. -/
def State.keySend (s : State) (type port cause : Nat) (payload : Bytes) : State :=
  let hdr := pack [(0, 8, type), (8, 4, port), (16, 4, cause), (32, 13, payload.length)]
  let n := (payload.length + 7) / 8
  let beats := (List.range n).map (fun i => (leAt payload (8 * i) 8, i + 1 == n))
  if type = 2 ∧ s.core.keyPort.out.length + n + 1 > 2048 then s
  else { s with core.keyPort.out := s.core.keyPort.out ++ (hdr, n == 0) :: beats }

/-- KEY_NEED (R358): the partner as its DISCOVER named it. -/
def State.keyNeed (s : State) (p cause : Nat) : State :=
  let (ident, part, rel) := match (s.link p).peer with
    | some k => (k.fld 0x30 0 64, k.fld 0x14 0 16, k.fld 0x16 0 16)
    | none => (0, 0, 0)
  s.keySend 1 p cause (toLE 16 (pack [(0, 64, ident), (64, 16, part), (80, 16, rel)]))

/-- Erase a port's key slots (R357). -/
def State.eraseKeys (s : State) (p : Nat) : State :=
  let s := s.modLink p (fun l => { l with txKeys := [], rxKeys := [], txSwitch := none, rxSwitch := none })
  let s := ((s.wr (R.SECURITY_TX_CUR_VALID p) 0).wr (R.SECURITY_TX_KPH p) 0).wr (R.SECURITY_TX_NEXT_LOADED p) 0
  let s := ((s.wr (R.SECURITY_TX_ARMED p) 0).wr (R.SECURITY_TX_ROLL_PEND p) 0).wr (R.SECURITY_TX_CLEAR p) 0
  let s := (s.wr (R.SECURITY_TX_FSEQ_HI p) 0).wr (R.SECURITY_RX_CUR_VALID p) 0
  (s.wr (R.SECURITY_RX_KPH p) 0).wr (R.SECURITY_RX_NEXT_LOADED p) 0

/-! ## LINK packets (R329) -/

/-- A LINK packet of a port. -/
def State.linkPkt (s : State) (p sub : Nat) (fields : List (Nat × Nat × Nat)) : Packet :=
  mkPacket 0 0 0 (if s.selfValid then s.self else 0) 0 0 0 ([hf 0x10 0 4 sub, hf 0x10 4 4 p] ++ fields) []

/-- A field of the port's CTL register as it left DISABLED or BACKOFF (R481). -/
def State.ctl (s : State) (p : Nat) (f : Fld) : Nat := getField (s.link p).ctl f.lo f.width

/-- GATE_CTL.VERSIONS; 0 acts as Lyard 1 alone (R342). -/
def State.versions (s : State) (p : Nat) : Nat := let v := s.ctl p (R.GATE_CTL_VERSIONS p); if v = 0 then 1 else v

/-- MAXRATE a gate advertises (R437). -/
def State.maxRate (s : State) (g : Nat) : Nat :=
  min (s.ctl g (R.GATE_CTL_MAX_RATE g)) (if s.core.time.khz ≥ 1670000 then 3 else 2)

/-- Stored rate and width of a gate's coefficients (R334). -/
def State.storedMode (s : State) (g : Nat) : Nat := (SMap.getD s.aon.coefs (g * 16 + 9) 0).toNat

/-- The DISCOVER packet of a port. -/
def State.discoverPkt (s : State) (p : Nat) (warm : Bool) : Packet :=
  let gate := if p < 8 then [hf 0x11 3 2 (s.maxRate p), hf 0x11 5 1 (s.ctl p (R.GATE_CTL_SHORT_OK p)), hf 0x11 7 1 (s.ctl p (R.GATE_CTL_X4_ONLY p)),
      hf 0x12 0 9 (s.locked p), hf 0x18 0 1 (b2n warm), hf 0x18 1 2 (bits (s.storedMode p) 0 2), hf 0x18 3 1 (bits (s.storedMode p) 2 1)]
    else []
  s.linkPkt p 0 ([hf 0x11 0 3 (s.versions p), hf 0x11 6 1 (s.ctl p (R.GATE_CTL_CLEAR_OK p)), hf 0x14 0 16 (s.rd R.GLOBAL_ID_PART),
    hf 0x16 0 16 (s.rd R.GLOBAL_ID_RELEASE), hf 0x30 0 32 (s.rd (R.GATE_IDENT_LO_IDENT p)), hf 0x34 0 32 (s.rd (R.GATE_IDENT_HI_IDENT p))]
    ++ (List.range 5).map (fun c => hf (0x20 + 2 * c) 0 16 (s.vcSize p c)) ++ gate)

/-! ## Frames (R320-R328) -/

/-- Frame time of a port in LSB units times 64, and the stamp of a body position: position x 1/64 of the frame time, rounded down
(R418). -/
def State.posTime (s : State) (p pos : Nat) : Nat :=
  if p ≥ 8 then pos * 4 * 10 ^ 6 / max 1 s.core.time.khz
  else
    let w := if s.on (R.GATE_NEG_X4 p) then 4 else 8
    let short := s.on (R.GATE_NEG_SHORT p)
    pos * 32768 * codeDen short / (w * rateGbps (s.rd (R.GATE_NEG_RATE p)) * codeNum short)

/-- The stamp of a frame (R436, R439, R440): the fabric time of the cycle in which its first beat was taken or given, with the phase and the
bit's place in the beat, rounded to the nearest LSB. A cycle is the time unit's increment, in 2^-24 LSB; a unit interval is 128 / r LSB at
r Gb/s. A hinge's beats cross whole, and one sent has no phase. -/
def State.crossTime (s : State) (p : Nat) (c : Crossing) (rx : Bool) : Nat :=
  let gate := decide (p < 8)
  let r := if gate then rateGbps (s.rd (R.GATE_NEG_RATE p)) else 1
  let den := 2 ^ 30 * r
  let cycle := s.core.time.inc * r
  let frac : Int := if gate ∨ rx then c.frac.toNat * cycle else 0
  let x : Int := (s.now * den : Nat) - (c.ago.toNat * 64 * cycle : Nat) + (if rx then -frac else frac)
    + (if gate then c.ui.toNat * 128 * 2 ^ 30 else 0 : Nat)
  ofSigned 64 ((2 * x + den) / (2 * den))

/-- Body positions of a port's frame. -/
def bodyLen (p : Nat) : Nat := if p < 8 then 63 else 64

/-- The port may send and receive frames. -/
def State.framing (s : State) (p : Nat) : Bool :=
  if p < 8 then [2, 3, 4, 5, 6, 7].contains (s.portState p) && (s.link p).rateAck else [3, 5, 6].contains (s.portState p)

/-- Trailer bytes 0x00-0x2F, with the frame's tag zero (R321). -/
def trailerHead (enc kph x4 spare nextsp fseq countdown bpos0 bslot0 bpos1 bslot1 kinds : Nat) : Nat :=
  pack [(0, 16, 0x4C59), (16, 1, enc), (17, 1, kph), (18, 1, x4), (24, 4, spare), (28, 4, nextsp), (32, 32, fseq), (64, 8, countdown),
    (96, 6, bpos0), (102, 10, bslot0), (112, 6, bpos1), (118, 10, bslot1), (128, 128, kinds)]

/-- The bytes of a list of flits. -/
def flitBytes (fs : List Flit) : Bytes := fs.flatMap (fun f => toLE 64 f.toNat)

/-- Take the items that fill a frame: flits with their positions, slot marks with the position they precede, and what is left.  A mark
cannot name position 63 (R321). -/
def fillFrame (cap : Nat) : Nat → List TxItem → List (Nat × TxItem) × List (Nat × Nat) × List TxItem
  | _, [] => ([], [], [])
  | pos, i :: t =>
    if i.kind = 3 then
      if pos < 63 then let (a, m, r) := fillFrame cap pos t; (a, (pos, i.mark) :: m, r) else ([], [], i :: t)
    else if pos < cap then let (a, m, r) := fillFrame cap (pos + 1) t; ((pos, i) :: a, m, r)
    else ([], [], i :: t)

/-- A TIME packet's stamp is the crossing of its frame (R251): SYNC carries t1, DELAY_REQ t3. -/
def State.stampItem (s : State) (p stamp : Nat) (i : TxItem) : State × TxItem :=
  match i.head with
  | some o =>
    if o.pkt.cls = 0 ∧ o.pkt.type = 1 ∧ (o.pkt.fld 0x10 0 2 = 0 ∨ o.pkt.fld 0x10 0 2 = 1) then
      let k := o.pkt.set 0x18 0 64 stamp
      let s := if o.pkt.fld 0x10 0 2 = 1 then
          { s with core.time.exch := SMap.modify s.core.time.exch p (fun e => { e with t3 := stamp }) }
        else s
      (s, { i with flit := k.hdr })
    else (s, i)
  | none => (s, i)

/-- Trace the header flits a frame carries (R417, R418). -/
def State.traceHead (s : State) (p stamp pos : Nat) (i : TxItem) : State :=
  match i.head with
  | none => s
  | some o =>
    let time := stamp + s.posTime p pos
    if o.inPort ≠ 10 then s.tracePkt R.TRACE_CTL_HOP 0x11 p 0 none o.pkt time o.stamp
    else if o.pkt.cls = 1 then s.tracePkt R.TRACE_CTL_PKT 0x10 p 0 o.func o.pkt time 0
    else if o.pkt.cls = 3 then s.tracePkt R.TRACE_CTL_PKT 0x13 p (o.pkt.fld 0x10 0 8) o.func o.pkt time 0
    else s

/-- The transmit key switch falls on the frame about to be sent (R325, R361). -/
def State.txKeySwitch (s : State) (p : Nat) : State :=
  let l := s.link p
  match l.txSwitch with
  | some (start, ph) =>
    if l.txFseq = start then
      let s := s.setLink p { l with txFseq := 0, txSwitch := none, txKeys := SMap.del l.txKeys (1 - ph) }
      let s := ((s.wr (R.SECURITY_TX_CUR_VALID p) 1).wr (R.SECURITY_TX_KPH p) ph).wr (R.SECURITY_TX_NEXT_LOADED p) 0
      (s.wr (R.SECURITY_TX_ARMED p) 0).wr (R.SECURITY_TX_ROLL_PEND p) 0
    else s
  | none => s

/-- The transmit lanes that are healthy once WIDTH has named the lowest five, or all four, of them (R337, R339). -/
def widthGood (good named : Nat) : Nat :=
  let ls := lanesOf named
  maskOf ((lanesOf good).filter (fun x => ls.contains x || (ls.length == 5 && ls.all (fun y => decide (y < x)))))

/-- The direction's key has reached the frame that is never sent under it (R324). -/
def State.keySpent (s : State) (p : Nat) : Bool := s.on (R.SECURITY_TX_CUR_VALID p) && (s.link p).txFseq == 2 ^ 32 - 1

/-- A frame number has reached a named one, as 32-bit serial numbers. -/
def fseqReached (fseq named : Nat) : Bool := decide (subMod 32 fseq named < 2 ^ 31)

/-- Changes of lane map that fall on the frame about to be sent: takeover (R338), width (R339). -/
def State.txLaneSwitch (s : State) (g : Nat) : State :=
  let l := s.link g
  let s := match l.failSwitch with
    | some (start, lane) =>
      if l.txFseq = start then
        let sp := s.rd (R.GATE_LANES_TX_SPARE g)
        let good := maskDel (s.rd (R.GATE_LANES_TX_GOOD g)) lane
        let active := l.txMap.map (fun x => if x = lane then sp else x)
        let next := ((rotation good (s.on (R.GATE_NEG_X4 g))).filter (fun x => !active.contains x)).headD 15
        (s.setTxLanes g good active next).modLink g (fun l => { l with failSwitch := none })
      else s
    | none => s
  match l.txWidth with
  | some (start, lanes) =>
    if fseqReached l.txFseq start then
      let (a, sp) := assign lanes true
      (s.setTxLanes g (widthGood (s.rd (R.GATE_LANES_TX_GOOD g)) lanes) a sp).modLink g (fun l => { l with txWidth := none, countdown := 0 })
    else s
  | none => s

/-- The countdown of a rotation after a frame (R336). -/
def State.txCountdown (s : State) (g : Nat) : State :=
  let l := s.link g
  if l.countdown = 0 then s
  else if l.countdown = 1 then
    let sp := s.rd (R.GATE_LANES_TX_SPARE g)
    let active := l.txMap.map (fun x => if x = l.nextSp then sp else x)
    ((s.setTxLanes g (s.rd (R.GATE_LANES_TX_GOOD g)) active l.nextSp).modLink g (fun l => { l with countdown := 0, nextSp := 15 })).count g 7
  else s.setLink g { l with countdown := l.countdown - 1 }

/-- `n` symbols of PRBS31 from a place of its generator, and the place after them (R336; x^31 + x^28 + 1, log entry 40). -/
def prbsSyms (n g : Nat) : List Nat × Nat :=
  (List.range n).foldl (fun (acc : List Nat × Nat) _ =>
    let (v, g) := iterate (fun (x : Nat × Nat) =>
      let b := (x.2 / 2 ^ 30 + x.2 / 2 ^ 27) % 2
      (x.1 / 2 + b * 2 ^ 9, x.2 * 2 % 2 ^ 31 + b)) 10 (0, acc.2)
    (acc.1 ++ [v], g)) ([], g)

/-- The symbols of a code word that go on logical lane k of w. -/
def laneSyms (w k : Nat) (word : List Nat) : List Nat := (word.zipIdx.filter (fun x => x.2 % max 1 w == k)).map (·.1)

/-- The code words that a gate's frame fills, and what the spare lane carries meanwhile: the mirrored symbols of NEXTSP in a countdown,
else PRBS31 (R318, R336). -/
def State.sendWords (s : State) (g : Nat) (frame : List Flit) : State :=
  let l := s.link g
  let short := s.on (R.GATE_NEG_SHORT g)
  let v := pack (frame.zipIdx.map (fun x => (512 * x.2, 512, x.1.toNat)))
  let (ws, left) := fillWords short 13 (l.txFec.1 + v * 2 ^ l.txFec.2, l.txFec.2 + 32768)
  let w := l.txMap.length
  let spare := s.rd (R.GATE_LANES_TX_SPARE g)
  let (onSpare, prbs) :=
    if spare = 15 then ([], l.prbs)
    else if l.countdown ≠ 0 then (ws.map (laneSyms w ((l.txMap.findIdx? (· == l.nextSp)).getD 15)), l.prbs)
    else ws.foldl (fun (acc : List (List Nat) × Nat) _ => let (x, p) := prbsSyms (codeLen short / max 1 w) acc.2; (acc.1 ++ [x], p)) ([], l.prbs)
  (s.emit (.words g l.txMap spare ws onSpare)).modLink g (fun l => { l with txFec := left, prbs := prbs })

/-- A frame's item is the header of this end's TRAIN_RESULT (R330). -/
def TxItem.isResult (i : TxItem) : Bool := i.head.any (fun o => o.pkt.cls == 0 && o.pkt.type == 0 && o.pkt.fld 0x10 0 4 == 1)

/-- The four beats of a hinge's frame (R439). -/
def hingeBeats (f : Frame) : List HingeBeat :=
  (List.range 4).map (fun b => ⟨BitVec.ofNat 2 b, BitVec.ofNat 8192 (pack ((List.range 16).map (fun j => (512 * j, 512, (f.body.getD (16 * b + j) 0).toNat)))),
    BitVec.ofNat 128 (bits f.trailer.toNat (128 * b) 128)⟩)

/-- The frame that four beats carry. -/
def beatsFrame (bs : List HingeBeat) : Frame :=
  ⟨bs.flatMap (fun b => (List.range 16).map (fun j => BitVec.ofNat 512 (bits b.data.toNat (512 * j) 512))),
    BitVec.ofNat 512 (pack (bs.zipIdx.map (fun x => (128 * x.2, 128, x.1.side.toNat)))), false, 0⟩

/-- Put together and send the next frame of a port, whose stamp is `stamp` (R320, R321, R323). -/
def State.sendFrame (s : State) (p stamp : Nat) : State :=
  let s := s.txKeySwitch p
  let s := if p < 8 then s.txLaneSwitch p else s
  let l := s.link p
  let cap := bodyLen p
  let (items, marks, rest) := fillFrame cap 0 l.tx
  let (s, items) := items.foldl (fun (acc : State × List (Nat × TxItem)) x =>
    let (s, i) := acc.1.stampItem p stamp x.2
    (s.traceHead p stamp x.1 i, acc.2 ++ [(x.1, i)])) (s, [])
  let body := (List.range cap).map (fun k => match items.find? (fun x => x.1 == k) with
    | some x => x.2.flit
    | none => 0)
  let kinds := pack (items.map (fun x => (2 * x.1, 2, x.2.kind)))
  let (b0, s0) := marks.headD (63, 0)
  let (b1, s1) := (marks.drop 1).headD (63, 0)
  let enc := s.rd (R.SECURITY_TX_CUR_VALID p)
  let kph := s.rd (R.SECURITY_TX_KPH p)
  let gate := decide (p < 8)
  let head := trailerHead enc kph (if gate then b2n (l.txMap.length == 4) else 0) (if gate then s.rd (R.GATE_LANES_TX_SPARE p) else 0)
    (if gate then (if l.countdown = 0 then 15 else l.nextSp) else 0) l.txFseq (if gate then l.countdown else 0) b0 s0 b1 s1 kinds
  let aad := toLE 48 head
  let (body, tag) := if enc = 1 then
      let k := SMap.getD l.txKeys kph ⟨0, 0⟩
      let r := gcmSeal k.key (BitVec.ofNat 96 (l.txFseq + k.salt.toNat * 2 ^ 32)) aad body
      (r.1, r.2.toNat)
    else (body, crc32c (aad ++ flitBytes body))
  let f : Frame := ⟨body ++ List.replicate (64 - cap) 0, BitVec.ofNat 512 (head + tag * 2 ^ 384), false, 0⟩
  let s := (s.emit (.frame p f)).count p 0
  let s := if gate then s.sendWords p (body ++ [f.trailer]) else s.emit (.beats (p - 8) (hingeBeats f))
  let n := (l.txFseq + 1) % 2 ^ 32
  let s := s.modLink p (fun l => { l with tx := rest, txFseq := n, resultOut := l.resultOut || items.any (fun x => x.2.isResult) })
  let s := if enc = 1 then s.wr (R.SECURITY_TX_FSEQ_HI p) (n / 256) else s
  let s := if enc = 1 ∧ n ≥ 2 ^ max 16 (s.rd R.SECURITY_CTL_ROLL_AT_LOG2) ∧ ¬ s.on (R.SECURITY_TX_ROLL_PEND p) then
      (s.wr (R.SECURITY_TX_ROLL_PEND p) 1).keyNeed p 1
    else s
  if gate then s.txCountdown p else s

/-! ## Port states (R330, R335, R340, R341) -/

/-- A port's state changes: trace (R417). -/
def State.setPortState (s : State) (p st : Nat) : State :=
  let s := s.wr (R.GATE_STATUS_STATE p) st
  s.traceEv (some R.TRACE_CTL_PORT) 0x40 p 0 0 none 0 0 0 0 0 0 s.now (st + s.rd (R.GATE_STATUS_CAUSE p) * 16)

/-- The event record of a port that enters or leaves READY (R373). -/
def State.portEvent (s : State) (p : Nat) : State :=
  s.event 0 0 (p + s.portState p * 16 + s.rd (R.GATE_STATUS_CAUSE p) * 256)

/-- What READY gave a port is dropped (R335): frames in flight, routing, queued packets, circuits, time exchanges. Packets of the port
that local units hold stay, and no longer count against its buffers. -/
def State.dropReady (s : State) (p : Nat) : State :=
  let mine := s.core.router.queued.filter (fun o => o.port == p)
  let oneHop (k : Packet) : Bool := k.cls == 0 || k.cls == 5 || k.tdm
  let s : State := { s with
    core.router.queued := (s.core.router.queued.filter (fun o => o.port != p)).map (fun (o : OutPkt) =>
      if o.inPort = p then { o with inPort := p + 16 } else o),
    core.resp.inbox := (s.core.resp.inbox.filter (fun (i : InPkt) => !(i.port == p && oneHop i.pkt))).map (fun (i : InPkt) =>
      if i.port = p then { i with port := p + 16 } else i),
    core.time.exch := SMap.del (SMap.del s.core.time.exch p) (p + 16) }
  let s := mine.foldl (fun s o => ((s.wr (R.ROUTE_TELEM_DISCARD_COUNT p) (s.rd (R.ROUTE_TELEM_DISCARD_COUNT p) + 1)).startTimer o.tag).logDiscard
    (if o.inPort < 10 then o.inPort else 15) p o.pkt.dest) s
  ((s.setFlow p Flow.empty).breakPort p).setReadyBit p false

/-- DOWN goes out in one more frame, after the rest of the packet that the last frame cut; a spent key sends none (R324, R341). -/
def State.sendDown (s : State) (p cause : Nat) : State :=
  let s := s.txKeySwitch p
  if ¬ s.framing p ∨ s.keySpent p then s
  else (s.modLink p (fun l => { l with tx := l.tx.takeWhile (fun i => i.head.isNone) ++ txItems ⟨10, p, true, 0, none, none,
      s.linkPkt p 6 [hf 0x11 0 4 cause], 0⟩ })).sendFrame p s.now

/-- A port leaves its state for `next` with a cause: DOWN first when asked, then R335 if it was READY, keys erased, PORT_DOWN. -/
def State.exitPort (s : State) (p cause next : Nat) (down : Bool) : State :=
  let was := s.portState p
  let wasReady := s.portReady p
  let s := if down then s.sendDown p cause else s
  let s := s.wr (R.GATE_STATUS_CAUSE p) cause
  let s := if wasReady then (s.count p 9).logErr 2 0 0 p none 0 0 (cause * 16) else s
  let s := if wasReady then (s.wr (R.GATE_STATUS_STATE p) next).dropReady p else s
  let s := if wasReady ∨ was = 5 then (s.eraseKeys p).keySend 3 p cause [] else s
  let s := s.modLink p (fun l => { Link.empty with msgOut := l.msgOut, rateAck := l.rateAck, rate := l.rate })
  let s := if p < 8 then (s.setRxLanes p 0 [] 15).setTxLanes p 0 [] 15 else s
  let s := s.setPortState p next
  if wasReady then s.portEvent p else s

/-- The gate's rate changes; no beat passes until the PHY acknowledges (R433), and the stream of code words begins anew. -/
def State.setRate (s : State) (g r : Nat) : State :=
  s.modLink g (fun l => if l.rate = r then l else { l with rate := r, rateAck := false, txFec := (0, 0), rxFec := [] })

/-- Queue the port's DISCOVER, and keep the RX_GOOD it carries (R331). -/
def State.sendDiscover (s : State) (p : Nat) (warm : Bool) : State :=
  (s.sendPort p (s.discoverPkt p warm)).modLink p (fun l => { l with sentGood := s.locked p })

/-- PROBE: training at 56 Gb/s on all lanes. -/
def State.toProbe (s : State) (g : Nat) : State :=
  let s := s.modLink g (fun l => { Link.empty with msgOut := l.msgOut, rateAck := l.rateAck, rate := l.rate, ctl := l.ctl })
  (s.setRate g 0).setPortState g 1

/-- FAST: the stored coefficients at the stored rate and width (R330, R334). -/
def State.toFast (s : State) (g : Nat) : State :=
  let m := s.storedMode g
  let s := s.modLink g (fun l => { Link.empty with msgOut := l.msgOut, rateAck := l.rateAck, rate := l.rate, ctl := l.ctl })
  let s := (s.setRate g (bits m 0 2)).setPortState g 2
  let s := ((s.wr (R.GATE_NEG_RATE g) (bits m 0 2)).wr (R.GATE_NEG_X4 g) (bits m 2 1)).wr (R.GATE_NEG_SHORT g) 0
  let s := (s.setPortCap g).trainLanes g (assign 0x1FF (bits m 2 1 == 1)).1
  let s := s.cfgPush g ((List.range 9).map (fun l => ⟨l, 0, (SMap.getD s.aon.coefs (g * 16 + l) 0).toNat⟩))
  s.sendDiscover g true

/-- DISCOVER of a gate, on the lowest four lanes that are locked, or of a hinge port (R330, R340). -/
def State.toDiscover (s : State) (p : Nat) : State :=
  let s := s.setPortState p 3
  let s := if p < 8 then
      (((s.wr (R.GATE_NEG_RATE p) 0).wr (R.GATE_NEG_X4 p) 1).wr (R.GATE_NEG_SHORT p) 0).trainLanes p (assign (s.locked p) true).1
    else s
  (s.setPortCap p).sendDiscover p false

/-- A self-test keeps the port DISABLED (R403). -/
def State.stHoldsPort (s : State) (p : Nat) : Bool :=
  s.rd R.GLOBAL_ST_STATUS_STATE == 2 && s.aon.selfTest.kind == 0 && s.aon.selfTest.target == p

/-- Start control permits training on a port (R367-R369, R463). -/
def State.permits (s : State) (p : Nat) : Bool :=
  s.running && s.portPresent p && !s.pins.tst && !s.stHoldsPort p
    && (if p < 8 then !bit (s.rd R.GLOBAL_BIST_GATE_FAIL) p else !bit (s.rd R.GLOBAL_BIST_HINGE_FAIL) (p - 8))

/-- Train a port as from DISABLED (R330, R340). -/
def State.train (s : State) (p : Nat) : State :=
  if p < 8 then
    let s := s.modLink p (fun l => { l with rateAck := if l.rate = 0 then bit s.pins.rateAck p else l.rateAck,
                                            ctl := s.word false (R.GATE_CTL_ENABLE p).addr })
    if s.on (R.GATE_CTL_WARM_OK p) ∧ s.on (R.GATE_STATUS_COEF_VALID p) then s.toFast p else s.toProbe p
  else
    let s := (s.modLink p (fun l => { Link.empty with msgOut := l.msgOut, ctl := s.word false (R.GATE_CTL_ENABLE p).addr })).setPortState p 9
    if bit s.pins.linkUp (p - 8) then s.toDiscover p else s

/-- A DISABLED port whose ENABLE is 1 trains once start control permits it. -/
def State.tryTrain (s : State) (p : Nat) : State :=
  if s.portState p = 0 ∧ s.on (R.GATE_CTL_ENABLE p) ∧ s.permits p then s.train p else s

/-- READY (R330, R335): credit counts from zero, the partner's IDENT kept, ANNOUNCE sent. The place at which PRBS31 begins is free. -/
def State.toReady (s : State) (p : Nat) : State :=
  let sizes := match (s.link p).peer with
    | some k => (List.range 5).map (fun c => (c, max 18 (k.fld (0x20 + 2 * c) 0 16)))
    | none => []
  let s := match (s.link p).peer with
    | some k => (s.wr (R.GATE_PARTNER_LO_IDENT p) (k.fld 0x30 0 32)).wr (R.GATE_PARTNER_HI_IDENT p) (k.fld 0x34 0 32)
    | none => s
  let s := (s.wr (R.GATE_STATUS_ATTEMPTS p) 0).setPortState p 6
  let s := if p < 8 then s.wr (R.GATE_STATUS_DEGRADED p) 0 else s
  let (v, s) := s.draw
  let s := s.modLink p (fun l => { l with prbs := v % 2 ^ 31 })
  let s := (s.setFlow p { Flow.empty with pSize := sizes }).setPortCap p
  ((s.setReadyBit p true).portEvent p).announce p

/-- KEYS: READY at once where cleartext is agreed, else the root-of-trust is asked (R330, R331, R360). -/
def State.toKeys (s : State) (p : Nat) : State :=
  let s := s.setPortState p 5
  if s.on (R.GATE_NEG_CLEAR p) then
    let s := (s.modLink p (fun l => { l with txFseq := 0, rxSync := false })).wr (R.SECURITY_TX_CLEAR p) 1
    s.toReady p
  else s.keyNeed p 0

/-! ## Lane failure (R337-R339) -/

/-- Move to x4 when both directions have switched (R330 DEGRADE row, R339). -/
def State.widthCheck (s : State) (g : Nat) : State :=
  let l := s.link g
  if s.portState g = 7 ∧ l.txWidth.isNone ∧ l.rxWidth.isNone then
    let s := ((s.wr (R.GATE_NEG_X4 g) 1).wr (R.GATE_STATUS_DEGRADED g) 1).count g 8
    let s := (s.setPortState g 6).logErr 2 0 0 g none 0 0 0
    s.capChanged g
  else s

/-- The WIDTH packet of a pending change (R339). -/
def State.widthPkt (s : State) (g : Nat) (sw own : Nat) : Packet :=
  s.linkPkt g 3 [hf 0x11 0 1 1, hf 0x12 0 9 (maskOf ((lanesOf (s.rd (R.GATE_LANES_RX_GOOD g))).take 5)), hf 0x14 0 32 sw, hf 0x18 0 32 own]

/-- Report a failed lane (R338). -/
def State.sendLaneFail (s : State) (g lane sw : Nat) : State := s.sendPort g (s.linkPkt g 2 [hf 0x11 0 4 lane, hf 0x14 0 32 sw])

/-- A receive lane fails in service (R337-R339). -/
def State.laneFail (s : State) (g lane : Nat) : State :=
  let good := s.rd (R.GATE_LANES_RX_GOOD g)
  if ¬ s.portReady g ∨ ¬ bit good lane then s
  else
    let spare := s.rd (R.GATE_LANES_RX_SPARE g)
    let active := s.rxMap g
    let good' := maskDel good lane
    let s := (s.count g 6).logErr 2 0 0 g none 0 0 lane
    if (lanesOf good').length < 4 then s.exitPort g 6 8 true
    else if active.contains lane then
      if spare ≠ 15 then
        let sw := ((s.link g).rxFseq + 32) % 2 ^ 32
        let s := s.wr (R.GATE_LANES_RX_GOOD g) good'
        let s := (s.wr (R.GATE_LANE_RX_OK g lane) 0).modLink g (fun l => { l with failSent := some (lane, spare) })
        s.sendLaneFail g lane sw
      else
        let l := s.link g
        let sw := (l.rxFseq + 32) % 2 ^ 32
        let own := (l.txFseq + 32) % 2 ^ 32
        let s := (s.wr (R.GATE_LANES_RX_GOOD g) good').wr (R.GATE_LANE_RX_OK g lane) 0
        let txl := maskOf ((lanesOf (s.rd (R.GATE_LANES_TX_GOOD g))).take 5)
        let s := s.modLink g (fun l => { l with rxWidth := some sw, txWidth := some (own, txl) })
        (s.setPortState g 7).sendPort g (s.widthPkt g sw own)
    else
      let next := ((rotation good' (s.on (R.GATE_NEG_X4 g))).filter (fun x => !active.contains x)).headD 15
      let s := s.setRxLanes g good' active (if lane = spare then next else spare)
      (s.modLink g (fun l => { l with failSent := if lane = spare then some (lane, spare) else l.failSent })).sendLaneFail g lane 0

/-! ## Receiving frames (R322-R325, R341) -/

/-- The types each class defines (R275-R281). -/
def typeDefined (c t : Nat) : Bool :=
  decide (t < (if c = 0 then 7 else if c = 1 then 7 else if c = 2 then 7 else if c = 3 then 6 else if c = 4 then 1 else if c = 5 then 2
    else 0))

/-- The common header is well formed (R272, R275). -/
def headerOk (k : Packet) : Bool :=
  let c := k.cls
  let lenOk := if k.plen = 0 then (if (c = 1 ∨ c = 2) ∧ k.type = 1 then decide (1 ≤ k.len ∧ k.len ≤ 512) else k.len == 0)
    else decide (64 * (k.plen - 1) < k.len ∧ k.len ≤ 64 * k.plen) && !((c == 1 || c == 2) && k.type == 1)
  typeDefined c k.type && decide (k.plen ≤ 8) && lenOk && k.fld 1 6 2 == 0 && k.fld 2 10 6 == 0 && k.fld 4 52 12 == 0
    && k.fld 0x0C 27 5 == 0

/-- What may arrive by a port in its state and mode (R275, R302, R330). -/
def State.allowed (s : State) (p : Nat) (k : Packet) (slotPos : Option (Nat × Nat)) : Bool :=
  let blt := k.cls == 5 || k.tdm
  let four := k.cls == 0 && [0, 1, 5, 6].contains k.type
  let ready := s.portReady p
  let edge := (if isRegular p then p < 6 && decide (s.extent (regularDim p) ≤ 1) else s.auxMode p != 1)
  let v1 := s.rd (R.GATE_NEG_VERSION p) == 1
  (ready || (k.cls == 0 && (k.type == 0 || k.type == 5))) && (!(ready && edge) || four)
    && !(v1 && (blt || (k.cls == 0 && k.type == 2)))
    && (!blt || (match slotPos with
      | some (slot, pos) => (match s.reservedEnd p k.circuit slot with
        | some e => decide (pos + k.flits ≤ e)
        | none => false)
      | none => false))

/-- A whole packet goes on: bolt packets to their circuit, messages taken at every hop and packets for this block to the local units,
the rest to their output (R305, R307). -/
def State.packetIn (s : State) (p stamp : Nat) (slot : Nat) (k : Packet) : State :=
  if k.cls = 5 ∨ k.tdm then
    match s.incoming p k.circuit with
    | some (key, c) =>
      if c.role = 1 then s.setCircuit key { c with buf := c.buf ++ [((slot + c.adv) % 1024, stamp, k)] } else s.deliver ⟨p, stamp, k⟩
    | none => s
  else if k.pinned ∨ (k.cls = 0 ∧ k.type = 4) ∨ (k.cls = 0 ∧ k.type = 3 ∧ k.fld 0x1C 0 4 = 5) then s.deliver ⟨p, stamp, k⟩
  else s.routePacket p stamp none none k

/-- Count a received flit of a credit-flowed VC. -/
def State.rxFlit (s : State) (p : Nat) (k : Packet) : State :=
  if k.credited then s.modFlow p (fun f => { f with rx := SMap.putD f.rx k.cls ((SMap.getD f.rx k.cls 0 + 1) % 2 ^ 16) 0 }) else s

/-- A packet is whole, or its header flit was all of it. -/
def State.asmDone (s : State) (p : Nat) : State :=
  let l := s.link p
  match l.asm with
  | none => s
  | some a =>
    if a.need ≠ 0 then s
    else
      let s := s.setLink p { l with asm := none }
      let k0 : Packet := ⟨a.hdr, []⟩
      let n := if k0.plen = 0 then 0 else k0.len
      let k : Packet := ⟨a.hdr, (flitBytes a.got.reverse).take n⟩
      if a.drop then s else s.packetIn p a.stamp (match l.rxSlot with | some (x, _) => x | none => 0) k

/-- A packet flit of a good frame (R275, R287), with its arrival stamp (R418; a TIME packet's is its frame's, R251).
After a discarded frame, flits up to the next well-formed header are a torn packet's: they count as received and freed at once. -/
def State.flitIn (s : State) (p frame pos : Nat) (f : Flit) : State :=
  let l := s.link p
  match l.asm with
  | some a =>
    let s := s.setLink p { l with asm := some { a with need := a.need - 1, got := f :: a.got } }
    (s.rxFlit p ⟨a.hdr, []⟩).asmDone p
  | none =>
    let k : Packet := ⟨f, []⟩
    let stamp := if k.cls = 0 ∧ k.type = 1 then frame else frame + s.posTime p pos
    if headerOk k ∧ s.allowed p k l.rxSlot then
      let s := s.setLink p { l with torn := false, asm := some ⟨f, stamp, k.plen, [], false⟩ }
      (s.rxFlit p k).asmDone p
    else if l.torn then s.modFlow p (fun f => { f with torn := f.torn + 1 })
    else
      let s := (s.wr (R.GATE_FLOW_STATUS_MALFORMED p) 1).count p 11
      let s := s.logDiscard p 15 k.srcNode
      let s := s.modLink p (fun l => { l with asm := some ⟨f, stamp, min 8 k.plen, [], true⟩ })
      (s.rxFlit p k).asmDone p

/-- The body of a good frame, position by position (R322, R326). -/
def State.bodyIn (s : State) (p stamp trailer : Nat) (body : List Flit) : State :=
  let cap := bodyLen p
  ((body.take cap).zipIdx).foldl (fun s (f, i) =>
    let mark := if bits trailer 96 6 = i ∧ i ≠ 63 then some (bits trailer 102 10)
      else if bits trailer 112 6 = i ∧ i ≠ 63 then some (bits trailer 118 10) else none
    let s := match mark with
      | some k => s.modLink p (fun l => { l with rxSlot := some (k, 0) })
      | none => s
    let kind := bits trailer (128 + 2 * i) 2
    let s := if kind = 1 then s.flitIn p stamp i f else if kind = 2 then s.lcfReceive p f else s
    s.modLink p (fun l => { l with rxSlot := l.rxSlot.map (fun (k, n) => (k, n + 1)) })) s

/-- The receive key switch falls on the frame about to be checked, or fell on an earlier one (R325, R361). -/
def State.rxKeySwitch (s : State) (p : Nat) : State :=
  let l := s.link p
  match l.rxSwitch with
  | some (start, ph) =>
    if fseqReached l.rxFseq start then
      let s := s.setLink p { l with rxFseq := subMod 32 l.rxFseq start, rxSwitch := none, rxKeys := SMap.del l.rxKeys (1 - ph) }
      ((s.wr (R.SECURITY_RX_CUR_VALID p) 1).wr (R.SECURITY_RX_KPH p) ph).wr (R.SECURITY_RX_NEXT_LOADED p) 0
    else s
  | none => s

/-- The number of the first check of R322 the frame fails, or its body in clear. -/
def State.checkFrame (s : State) (p : Nat) (fr : Frame) : Nat × List Flit :=
  let l := s.link p
  let t := fr.trailer.toNat
  let kinds := (List.range 64).map (fun i => bits t (128 + 2 * i) 2)
  let enc := s.rd (R.SECURITY_RX_CUR_VALID p)
  let cap := bodyLen p
  let body := padBody cap fr.body
  let gate := decide (p < 8)
  if fr.uncorrected then (if gate then 1 else 2, [])
  else if bits t 0 16 ≠ 0x4C59 ∨ bits t 19 5 ≠ 0 ∨ bits t 72 24 ≠ 0 ∨ bits t 256 128 ≠ 0 ∨ (kinds.take cap).contains 3
      ∨ (gate ∧ kinds.getD 63 0 ≠ 0) then (2, [])
  else if l.rxSync ∧ bits t 32 32 ≠ l.rxFseq then (3, [])
  else if bits t 16 1 ≠ enc ∨ bits t 17 1 ≠ s.rd (R.SECURITY_RX_KPH p) then (4, [])
  else
    let aad := toLE 48 (t % 2 ^ 384)
    if enc = 1 then
      let k := SMap.getD l.rxKeys (s.rd (R.SECURITY_RX_KPH p)) ⟨0, 0⟩
      match gcmOpen k.key (BitVec.ofNat 96 (bits t 32 32 + k.salt.toNat * 2 ^ 32)) aad body (BitVec.ofNat 128 (bits t 384 128)) with
      | some b => (0, b)
      | none => (5, [])
    else if bits t 384 128 = crc32c (aad ++ flitBytes body) then (0, body) else (5, [])
where
  /-- The body positions of a frame. -/
  padBody (cap : Nat) (b : List Flit) : List Flit := (b ++ List.replicate (cap - b.length) 0).take cap

/-- The trailers show another spare than this receiver knows, and it has reported a lane (R338): `lane` is the lane, `sp` the spare at the
report. A spare that this receiver knows as active is a rotation that ended first; any other spare, or none, is the change it asked for. -/
def State.spareAfterFail (s : State) (g lane sp spare : Nat) : State :=
  let good := s.rd (R.GATE_LANES_RX_GOOD g)
  let active := s.rxMap g
  let sw := ((s.link g).rxFseq + 32) % 2 ^ 32
  let told (active : List Nat) (f : Option (Nat × Nat)) : State :=
    (s.setRxLanes g good active spare).modLink g (fun l => { l with failSent := f, spareBad := none })
  if active.contains spare then
    let s := told (active.map (fun x => if x = spare then sp else x)) (some (lane, spare))
    if lane = sp then s.sendLaneFail g lane sw else if spare = lane then s.sendLaneFail g lane 0 else s
  else told (active.map (fun x => if x = lane then sp else x)) none

/-- A lane becomes the receive spare: a LANE_RECAL test that waits for it sees its dwell begin (R403; log entry 19). -/
def State.recalSeen (s : State) (g lane : Nat) : State :=
  let t := s.aon.selfTest
  if s.rd R.GLOBAL_ST_STATUS_STATE = 2 ∧ t.kind = 2 ∧ t.target = g ∧ t.lane = lane then { s with aon.selfTest.reading := true } else s

/-- What the trailers say of the partner's lanes: rotation, takeover, width (R336, R338, R339). -/
def State.trailerLanes (s : State) (g trailer : Nat) : State :=
  let spare := bits trailer 24 4
  let cur := s.rd (R.GATE_LANES_RX_SPARE g)
  let l := s.link g
  let s := if l.rxWidth.isSome ∧ bit trailer 18 then
      let (a, sp) := assign (s.rd (R.GATE_LANES_RX_GOOD g)) true
      (s.setRxLanes g (s.rd (R.GATE_LANES_RX_GOOD g)) a sp).modLink g (fun l => { l with rxWidth := none })
    else if ¬ s.portReady g then s
    else match l.failSent with
      | some (lane, sp) => if spare = sp then s else s.spareAfterFail g lane sp spare
      | none =>
        if spare = cur then s
        else
          let active := (s.rxMap g).map (fun x => if x = spare then cur else x)
          (((s.setRxLanes g (s.rd (R.GATE_LANES_RX_GOOD g)) active spare).modLink g (fun l => { l with spareBad := none })).cfgPush g
            [⟨spare, 2, 0⟩, ⟨spare, 1, 0⟩]).recalSeen g spare
  s.widthCheck g

/-- The countdown of a rotation as the receiver sees it: the spare fails whose dwell has ended without its reaching the ratio, and the spare
whose symbols differ from those of the lane they mirror (R336, R337). The dwell ends when the countdown begins (log entry 40). -/
def State.watchCountdown (s : State) (g trailer : Nat) (words onSpare : List (List Nat)) : State :=
  let l := s.link g
  let count := bits trailer 64 8
  let next := bits trailer 28 4
  let spare := s.rd (R.GATE_LANES_RX_SPARE g)
  let map := s.rxMap g
  let k := (map.findIdx? (· == next)).getD 15
  let differs := decide (3 ≤ l.rxCount ∧ 2 ≤ count) && l.rxNext == next
    && (words.zip onSpare).any (fun x => laneSyms map.length k x.1 != x.2)
  let tired := decide (l.rxCount = 0 ∧ count ≠ 0) && l.spareBad == some true
  let s := s.modLink g (fun l => { l with rxCount := count, rxNext := next })
  if spare ≠ 15 ∧ (differs ∨ tired) then s.laneFail g spare else s

/-- A frame fails a check (R322, R324, R341). Its body positions count in the slot all the same (R326). -/
def State.frameFails (s : State) (p check : Nat) : State :=
  let s := s.logErr 1 0 0 p none 0 0 check
  let s := s.modLink p (fun l => { l with asm := none, torn := true, rxCount := 0, rxSlot := l.rxSlot.map (fun (k, n) => (k, n + bodyLen p)) })
  if check ≤ 2 then
    let s := (s.wr (R.GATE_STATUS_UNCORR p) 1).count p 2
    let times := ((s.link p).badTimes ++ [s.now]).filter (fun t => decide (s.now < t + 100 * usLsb))
    let s := s.modLink p (fun l => { l with badTimes := times })
    if times.length > 1024 ∧ s.portReady p then s.exitPort p 7 8 true else s
  else if check = 3 then
    let s := (s.wr (R.GATE_STATUS_FSEQ_ERR p) 1).count p 3
    let n := (s.link p).fseqFails + 1
    let s := s.modLink p (fun l => { l with fseqFails := n })
    if n ≥ 4 ∧ s.portReady p then s.exitPort p 8 8 true else s
  else
    let s := (s.wr (R.GATE_STATUS_AUTH_FAIL p) 1).count p 4
    let n := (s.link p).authFails + 1
    let s := s.modLink p (fun l => { l with authFails := n })
    if n ≥ 64 ∧ s.portReady p then s.exitPort p 12 8 true else s

/-- What a gate's PHY brought, as a frame, and the port with it: the code words are decoded, and the first 32,768 bits of the stream are
the frame, uncorrected if any of them comes from a word that was not corrected (R318-R320). None while they do not complete a frame. -/
def State.takeFrame (s : State) (g : Nat) (words : List (List Nat)) : Option Frame × State :=
  let ps := words.map (wordPiece (s.on (R.GATE_NEG_SHORT g)))
  let n := (ps.filter (·.2)).length
  let s := s.countN g 5 n
  match takeBits 32768 ((s.link g).rxFec ++ ps.map (·.1)) with
  | none => (none, s.modLink g (fun l => { l with rxFec := l.rxFec ++ ps.map (·.1) }))
  | some (v, bad, rest) =>
    (some ⟨(List.range 64).map (fun i => BitVec.ofNat 512 (bits v (512 * i) 512)), BitVec.ofNat 512 (bits v (512 * 63) 512), bad, n⟩,
      s.modLink g (fun l => { l with rxFec := rest }))

/-- A frame is checked: it is discarded whole, or its flits are released in order (R322). -/
def State.frameIn (s : State) (p stamp : Nat) (fr : Frame) (words onSpare : List (List Nat)) : State :=
  let s := s.rxKeySwitch p
  let (check, body) := s.checkFrame p fr
  let t := fr.trailer.toNat
  let next := ((if (s.link p).rxSync ∨ fr.uncorrected then (s.link p).rxFseq else bits t 32 32) + 1) % 2 ^ 32
  let s := s.modLink p (fun l => { l with rxFseq := next, rxSync := l.rxSync || check == 0, fseqFails := if check = 3 then l.fseqFails else 0,
                                          authFails := if check = 4 ∨ check = 5 then l.authFails else 0 })
  if check ≠ 0 then s.frameFails p check
  else
    let s := s.count p 1
    let s := if p < 8 then (s.watchCountdown p t words onSpare).trailerLanes p t else s
    let s := if s.portState p = 5 ∧ bit t 16 ∧ (s.on (R.SECURITY_TX_ARMED p) ∨ s.on (R.SECURITY_TX_CUR_VALID p)) then s.toReady p else s
    s.bodyIn p stamp t body

/-- A present beat of a hinge (R440): the fourth in sequence completes the frame; one out of sequence ends the frame being assembled, which
fails check 2, and assembly restarts at the next beat 0. -/
def State.hingeBeat (s : State) (p stamp : Nat) (b : HingeBeat) : State :=
  let l := s.link p
  let begin_ (s : State) : State :=
    if s.framing p ∧ b.index = 0 then s.modLink p (fun l => { l with rxBeats := [b], rxStamp := stamp }) else s
  if ¬ s.framing p then s
  else if l.rxBeats = [] then begin_ s
  else if b.index.toNat ≠ l.rxBeats.length then
    begin_ ((s.modLink p (fun l => { l with rxBeats := [] })).frameIn p l.rxStamp ⟨[], 0, true, 0⟩ [] [])
  else if l.rxBeats.length < 3 then s.modLink p (fun l => { l with rxBeats := l.rxBeats ++ [b] })
  else (s.modLink p (fun l => { l with rxBeats := [] })).frameIn p l.rxStamp (beatsFrame (l.rxBeats ++ [b])) [] []

/-- FRAME_RECEIVE: a gate's code words, or a hinge's beats, one a cycle; nothing where the port is of the other kind (R318-R322, R440). -/
def frameReceive (p : Port) (rx : RxFrame) (c : Crossing) (s : State) : State :=
  let cross (n : Nat) : Nat := s.crossTime p.val { c with ago := BitVec.ofNat 16 (c.ago.toNat - n) } true
  match rx, decide (p.val < 8) with
  | .gate words onSpare, true =>
    if ¬ s.framing p.val then s
    else
      let ws := words.map (·.map BitVec.toNat)
      match s.takeFrame p.val ws with
      | (none, s) => s
      | (some fr, s) => s.frameIn p.val (cross 0) fr ws (onSpare.map (·.map BitVec.toNat))
  | .hinge beats, false => beats.zipIdx.foldl (fun s x => s.hingeBeat p.val (cross x.2) x.1) s
  | _, _ => s

/-- FRAME_RECEIVE (R322). -/
def execFrameReceive (p : Port) (fr : FrameIn) : State → Host.Outcome State Fault Refusal := portCmd (frameReceive p fr.rx fr.cross)

/-! ## Commands that enable, retrain and retry (R330, R332, R340, R342) -/

/-- Store the writable fields of GATE_CTL or HINGE_CTL. -/
def State.storeGateCtl (s : State) (p : Nat) (data : Word) : State :=
  let n := data.toNat
  let s := ((s.wr (R.GATE_CTL_ENABLE p) (bits n 0 1)).wr (R.GATE_CTL_CLEAR_OK p) (bits n 5 1)).wr (R.GATE_CTL_VERSIONS p) (bits n 6 3)
  if p < 8 then
    let s := ((s.wr (R.GATE_CTL_MAX_RATE p) (bits n 1 2)).wr (R.GATE_CTL_X4_ONLY p) (bits n 3 1)).wr (R.GATE_CTL_SHORT_OK p) (bits n 4 1)
    (s.wr (R.GATE_CTL_WARM_OK p) (bits n 9 1)).wr (R.GATE_CTL_ROTATE p) (bits n 10 1)
  else s

/-- GATE_ENABLE: ENABLE written 1. -/
def gateEnable (g : Gate) (data : Word) (s : State) : State :=
  if bits data.toNat 0 1 = 0 ∨ ¬ s.portPresent g.val then s else (s.storeGateCtl g.val data).tryTrain g.val

/-- GATE_ENABLE (R330). -/
def execGateEnable (g : Gate) (data : Word) : State → Host.Outcome State Fault Refusal := coreCmd (gateEnable g data)

/-- ENABLE written 0: DOWN with cause 11, DISABLED (R330). -/
def State.disablePort (s : State) (p : Nat) (data : Word) : State :=
  let s := s.storeGateCtl p data
  if s.portState p = 0 then s else s.exitPort p 11 0 true

/-- GATE_DISABLE: ENABLE written 0. -/
def gateDisable (g : Gate) (data : Word) (s : State) : State :=
  if bits data.toNat 0 1 = 1 ∨ ¬ s.portPresent g.val then s else s.disablePort g.val data

/-- GATE_DISABLE (R330). -/
def execGateDisable (g : Gate) (data : Word) : State → Host.Outcome State Fault Refusal := coreCmd (gateDisable g data)

/-- HINGE_ENABLE: ENABLE written 1 or 0 (R340). -/
def hingeEnable (h : Hinge) (data : Word) (s : State) : State :=
  let p := 8 + h.val
  if ¬ s.portPresent p then s
  else if bits data.toNat 0 1 = 1 then (s.storeGateCtl p data).tryTrain p else s.disablePort p data

/-- HINGE_ENABLE (R340). -/
def execHingeEnable (h : Hinge) (data : Word) : State → Host.Outcome State Fault Refusal := coreCmd (hingeEnable h data)

/-- GATE_CMD.RETRAIN (R332, R341, R342): out of READY with cause 11, ATTEMPTS and COEF_VALID cleared. -/
def retrain (p : Port) (s : State) : State :=
  let s := if s.portReady p.val then s.exitPort p.val 11 8 true else s
  let s := s.wr (R.GATE_STATUS_ATTEMPTS p.val) 0
  if p.val < 8 then s.wr (R.GATE_STATUS_COEF_VALID p.val) 0 else s

/-- RETRAIN (R342). -/
def execRetrain (p : Port) : State → Host.Outcome State Fault Refusal := coreCmd (retrain p)

/-- The delay of R332 is over, or RETRY ends it: the port trains again. -/
def State.backoffOver (s : State) (p : Nat) : State :=
  if s.portState p = 8 then (s.wr (R.GATE_STATUS_ATTEMPTS p) (min 255 (s.rd (R.GATE_STATUS_ATTEMPTS p) + 1))).train p else s

/-- GATE_CMD.RETRY (R332). -/
def retry (p : Port) (s : State) : State := s.backoffOver p.val

/-- RETRY (R332). -/
def execRetry (p : Port) : State → Host.Outcome State Fault Refusal := coreCmd (retry p)

/-- BACKOFF_END (R332). -/
def backoffEnd (p : Port) (s : State) : State := s.backoffOver p.val

/-- BACKOFF_END (R332). -/
def execBackoffEnd (p : Port) : State → Host.Outcome State Fault Refusal := coreCmd (backoffEnd p)

/-- HINGE_LINK_CHANGE (R340, R440). -/
def hingeLinkChange (h : Hinge) (v : Bool) (s : State) : State :=
  let p := 8 + h.val
  let s := { s with pins.linkUp := maskDel s.pins.linkUp h.val + (if v then 2 ^ h.val else 0) }
  if s.idle then s
  else if v then (if s.portState p = 9 then s.toDiscover p else s)
  else if s.portState p = 6 then s.exitPort p 6 8 false
  else s

/-- HINGE_LINK_CHANGE (R340). -/
def execHingeLinkChange (h : Hinge) (v : Bool) : State → Host.Outcome State Fault Refusal := aonCmd (hingeLinkChange h v)

/-- WAIT_PHY_TIMEOUT (R340). -/
def waitPhyTimeout (h : Hinge) (s : State) : State := if s.portState (8 + h.val) = 9 then s.exitPort (8 + h.val) 1 8 false else s

/-- WAIT_PHY_TIMEOUT (R340). -/
def execWaitPhyTimeout (h : Hinge) : State → Host.Outcome State Fault Refusal := coreCmd (waitPhyTimeout h)

/-! ## Training (R330, R331, R333) -/

/-- FAST_TIMEOUT: COEF_VALID is cleared, and PROBE follows. -/
def fastTimeout (g : Gate) (s : State) : State :=
  if s.portState g.val = 2 then (s.wr (R.GATE_STATUS_COEF_VALID g.val) 0).toProbe g.val else s

/-- FAST_TIMEOUT (R330). -/
def execFastTimeout (g : Gate) : State → Host.Outcome State Fault Refusal := coreCmd (fastTimeout g)

/-- PROBE_TIMEOUT: DISCOVER with four lanes locked, else BACKOFF with cause 1. -/
def probeTimeout (g : Gate) (s : State) : State :=
  if s.portState g.val ≠ 1 then s
  else if (lanesOf (s.locked g.val)).length ≥ 4 then s.toDiscover g.val
  else s.exitPort g.val 1 8 false

/-- PROBE_TIMEOUT (R330). -/
def execProbeTimeout (g : Gate) : State → Host.Outcome State Fault Refusal := coreCmd (probeTimeout g)

/-- The highest Lyard version of both (R5, R331); 0 for none. -/
def bothVersions (a b : Nat) : Nat :=
  let m := Nat.land a b
  if bit m 2 then 3 else if bit m 1 then 2 else if bit m 0 then 1 else 0

/-- Start equalizing every lane at the target rate. -/
def State.equalize (s : State) (g rate : Nat) : State :=
  let s := s.modLink g (fun l => { l with target := rate, mine := none, theirs := none, resultOut := false, bad := 0x1FF, cfg := [] })
  (s.setRate g rate).cfgPush g ((List.range 9).map (fun l => ⟨l, 2, 0⟩))

/-- A DISCOVER arrives at a port in FAST or DISCOVER (R330, R331): this end's half of the computation is what its own DISCOVER said. -/
def State.discovered (s : State) (p : Nat) (k : Packet) : State :=
  let st := s.portState p
  let v := bothVersions (s.versions p) (k.fld 0x11 0 3)
  let good := (s.link p).sentGood
  let x4 := s.ctl p (R.GATE_CTL_X4_ONLY p) == 1 || k.fld 0x11 7 1 == 1 || decide ((lanesOf good).length < 8)
    || decide ((lanesOf (k.fld 0x12 0 9)).length < 8)
  let few := decide ((lanesOf good).length < 4) || decide ((lanesOf (k.fld 0x12 0 9)).length < 4)
  let cap := min (min (s.maxRate p) (k.fld 0x11 3 2)) (if v < 3 then 2 else 3)
  let clear := s.ctl p (R.GATE_CTL_CLEAR_OK p) == 1 && k.fld 0x11 6 1 == 1
  let take (s : State) : State :=
    let s := s.modLink p (fun l => { l with peer := some k })
    let s := ((s.wr (R.GATE_NEG_VERSION p) v).wr (R.GATE_NEG_CLEAR p) (b2n clear)).wr (R.GATE_NEG_PARTNER_PORT p) (k.fld 0x10 4 4)
    let s := if s.vcOver p then s.wr (R.GATE_FLOW_STATUS_SIZE_ERR p) 1 else s
    s.wr (R.GATE_NEG_PARTNER_RELEASE p) (k.fld 0x16 0 16)
  if p ≥ 8 then
    if st ≠ 3 then s
    else if v = 0 then s.exitPort p 2 8 true
    else (take s).toKeys p
  else if st = 2 then
    let m := s.storedMode p
    let same := k.fld 0x18 0 1 == 1 && k.fld 0x18 1 2 == bits m 0 2 && k.fld 0x18 3 1 == bits m 2 1
      && k.fld 0x30 0 32 == s.rd (R.GATE_PARTNER_LO_IDENT p) && k.fld 0x34 0 32 == s.rd (R.GATE_PARTNER_HI_IDENT p)
    if same ∧ v ≠ 0 ∧ ¬ few ∧ bits m 0 2 ≤ cap ∧ bits m 2 1 = b2n x4 then
      let s := (take s).wr (R.GATE_NEG_WARM p) 1
      let (a, sp) := assign good x4
      let (b, sq) := assign (k.fld 0x12 0 9) x4
      ((s.setRxLanes p good a sp).setTxLanes p (k.fld 0x12 0 9) b sq).toKeys p
    else (s.wr (R.GATE_STATUS_COEF_VALID p) 0).toProbe p
  else if st = 3 then
    if v = 0 then s.exitPort p 2 8 true
    else if few then s.exitPort p 3 8 true
    else
      let s := ((take s).wr (R.GATE_NEG_WARM p) 0).wr (R.GATE_NEG_X4 p) (b2n x4)
      (s.setPortState p 4).equalize p cap
  else s

/-- A LINK packet of a SUB waits. -/
def State.withLink (s : State) (sub : Nat) (f : InPkt → State → State) : State := s.withPkt 0 0 (fun k => k.fld 0x10 0 4 == sub) f

/-- DISCOVER_ARRIVAL (R331). -/
def discoverArrival (s : State) : State := s.withLink 0 (fun i s => s.discovered i.port i.pkt)

/-- DISCOVER_ARRIVAL (R331). -/
def execDiscoverArrival : State → Host.Outcome State Fault Refusal := coreCmd discoverArrival

/-- Both TRAIN_RESULTs are there and this end's has left: the gate fixes its rate, lowers its target, or backs off (R330, R331). -/
def State.trainDecide (s : State) (g : Nat) : State :=
  let l := s.link g
  match l.mine, l.theirs with
  | some a, some b =>
    if s.portState g ≠ 4 ∨ ¬ l.resultOut then s
    else if a.fld 0x11 2 1 = 1 ∧ b.fld 0x11 2 1 = 1 then
      let x4 := s.on (R.GATE_NEG_X4 g)
      let least := s.rd (R.GATE_RECAL_SHORT_LOG2 g)
      let peerShort := match l.peer with
        | some k => k.fld 0x11 5 1 == 1
        | none => false
      let short := s.ctl g (R.GATE_CTL_SHORT_OK g) == 1 && peerShort && decide (a.fld 0x14 0 8 ≥ least) && decide (b.fld 0x14 0 8 ≥ least)
      let s := (s.wr (R.GATE_NEG_RATE g) l.target).wr (R.GATE_NEG_SHORT g) (b2n short)
      let s := ((s.setRate g l.target).modLink g (fun l => { l with txFec := (0, 0), rxFec := [] })).wr (R.GATE_STATUS_COEF_VALID g) 1
      let s := { s with aon.coefs := SMap.put s.aon.coefs (g * 16 + 9) (BitVec.ofNat 64 (l.target + b2n x4 * 4)) }
      let (x, sp) := assign (a.fld 0x12 0 9) x4
      let (y, sq) := assign (b.fld 0x12 0 9) x4
      let s := (s.setRxLanes g (a.fld 0x12 0 9) x sp).setTxLanes g (b.fld 0x12 0 9) y sq
      (s.cfgPush g ((List.range 9).map (fun l => ⟨l, 1, 0⟩))).toKeys g
    else if l.target > 0 then s.equalize g (l.target - 1)
    else s.exitPort g 4 8 false
  | _, _ => s

/-- EQUALIZE_WINDOW_END: back to 56 Gb/s, TRAIN_RESULT goes out (R330, R333). -/
def equalizeWindowEnd (g : Gate) (s : State) : State :=
  let l := s.link g.val
  if s.portState g.val ≠ 4 ∨ l.mine.isSome then s
  else
    let need := if s.on (R.GATE_NEG_X4 g.val) then 4 else 8
    let passed := (List.range 9).filter (fun x => bit (s.locked g.val) x && !bit l.bad x
      && decide (s.rd (R.GATE_LANE_RX_SER_EXP g.val x) ≥ s.rd (R.GATE_RECAL_FAIL_LOG2 g.val)))
    let ser := (passed.map (fun x => s.rd (R.GATE_LANE_RX_SER_EXP g.val x))).foldl min 255
    let k := s.linkPkt g.val 1 [hf 0x11 0 2 l.target, hf 0x11 2 1 (b2n (decide (passed.length ≥ need))), hf 0x12 0 9 (maskOf passed),
      hf 0x14 0 8 ser]
    let s := (s.modLink g.val (fun l => { l with mine := some k })).setRate g.val 0
    (s.sendPort g.val k).trainDecide g.val

/-- EQUALIZE_WINDOW_END (R333). -/
def execEqualizeWindowEnd (g : Gate) : State → Host.Outcome State Fault Refusal := coreCmd (equalizeWindowEnd g)

/-- FRAME_SEND (R320): a key that has reached frame 2^32 - 1 sends no more, unless its switch falls on that frame (R324, R325). A frame may
carry the TRAIN_RESULT for which a decision waits. -/
def frameSend (p : Port) (c : Crossing) (s : State) : State :=
  let s := if s.framing p.val then s.txKeySwitch p.val else s
  if ¬ s.framing p.val then s
  else if s.keySpent p.val then s.exitPort p.val 10 8 false
  else ((s.sendFrame p.val (s.crossTime p.val c false)).widthCheck p.val).trainDecide p.val

/-- FRAME_SEND (R320). -/
def execFrameSend (fo : FrameOut) : State → Host.Outcome State Fault Refusal := portCmd (frameSend fo.port fo.cross)

/-- TRAIN_RESULT_ARRIVAL (R330). -/
def trainResultArrival (s : State) : State :=
  s.withLink 1 (fun i s => if s.portState i.port = 4 then
    (s.modLink i.port (fun l => { l with theirs := some i.pkt })).trainDecide i.port else s)

/-- TRAIN_RESULT_ARRIVAL (R330). -/
def execTrainResultArrival : State → Host.Outcome State Fault Refusal := coreCmd trainResultArrival

/-- KEYS_TIMEOUT (R330). -/
def keysTimeout (p : Port) (s : State) : State := if s.portState p.val = 5 then s.exitPort p.val 5 8 false else s

/-- KEYS_TIMEOUT (R330). -/
def execKeysTimeout (p : Port) : State → Host.Outcome State Fault Refusal := coreCmd (keysTimeout p)

/-! ## Lanes in service (R336-R339, R433-R435) -/

/-- LANE_LOCK_CHANGE (R432). Lock lost on every lane ends READY with cause 6 (R341). -/
def laneLockChange (g : Gate) (l : Lane) (v : Bool) (s : State) : State :=
  let i := 9 * g.val + l.val
  let s := { s with pins.lock := maskDel s.pins.lock i + (if v then 2 ^ i else 0) }
  if s.idle then s
  else if s.portReady g.val ∧ s.locked g.val = 0 then s.exitPort g.val 6 8 true
  else s

/-- LANE_LOCK_CHANGE (R337). -/
def execLaneLockChange (g : Gate) (l : Lane) (v : Bool) : State → Host.Outcome State Fault Refusal := aonCmd (laneLockChange g l v)

/-- LANE_LOCK_LOSS_TIMEOUT: 100 ns out of lock (R337). -/
def laneLockLossTimeout (g : Gate) (l : Lane) (s : State) : State :=
  if bit (s.locked g.val) l.val then s else s.laneFail g.val l.val

/-- LANE_LOCK_LOSS_TIMEOUT (R337). -/
def execLaneLockLossTimeout (g : Gate) (l : Lane) : State → Host.Outcome State Fault Refusal := coreCmd (laneLockLossTimeout g l)

/-- LANE_SER_WINDOW: a window's ratio is recorded; above the threshold the lane fails, but the spare has until the end of its dwell (R337). -/
def laneSerWindow (g : Gate) (l : Lane) (exponent : BitVec 8) (s : State) : State :=
  let now_ := s.rd (R.GATE_RECAL_FAIL_LOG2 g.val)
  let least := SMap.getD (s.link g.val).serFail l.val now_
  let s := s.wr (R.GATE_LANE_RX_SER_EXP g.val l.val) exponent.toNat
  let s := s.modLink g.val (fun k => { k with serFail := SMap.put k.serFail l.val now_ })
  let bad := decide (exponent.toNat < least)
  if s.portReady g.val ∧ l.val = s.rd (R.GATE_LANES_RX_SPARE g.val) then
    s.modLink g.val (fun k => { k with spareBad := some (bad && k.spareBad.getD true) })
  else if bad then s.laneFail g.val l.val
  else s

/-- LANE_SER_WINDOW (R337). -/
def execLaneSerWindow (g : Gate) (l : Lane) (exponent : BitVec 8) : State → Host.Outcome State Fault Refusal :=
  coreCmd (laneSerWindow g l exponent)

/-- RATE_ACK_CHANGE (R433). -/
def rateAckChange (g : Gate) (v : Bool) (s : State) : State :=
  let s := { s with pins.rateAck := maskDel s.pins.rateAck g.val + (if v then 2 ^ g.val else 0) }
  if s.idle then s else s.modLink g.val (fun l => { l with rateAck := v })

/-- RATE_ACK_CHANGE (R433). -/
def execRateAckChange (g : Gate) (v : Bool) : State → Host.Outcome State Fault Refusal := aonCmd (rateAckChange g v)

/-- The presented request ends without success: the lane fails in service, and stays not equalized in training (R435). -/
def State.cfgFailed (s : State) (g : Nat) : State :=
  match (s.link g).cfg with
  | [] => s
  | c :: t =>
    let s := (s.modLink g (fun l => { l with cfg := t, bad := Nat.lor l.bad (2 ^ c.lane) })).cfgPresent g
    s.laneFail g c.lane

/-- PHY_CFG_DONE (R434, R435). -/
def phyCfgDone (g : Gate) (rdata : BitVec 64) (err : Bool) (s : State) : State :=
  if err then s.cfgFailed g.val
  else match (s.link g.val).cfg with
    | [] => s
    | c :: t =>
      let s := s.modLink g.val (fun l => { l with cfg := t })
      let n := rdata.toNat
      let s := if c.op = 1 then { s with aon.coefs := SMap.put s.aon.coefs (g.val * 16 + c.lane) rdata }
        else if c.op = 2 then
          let s := if bits n 0 16 ≠ 0 then s.sendPort g.val (s.linkPkt g.val 5 [hf 0x11 0 4 c.lane, hf 0x12 0 16 (bits n 0 16)]) else s
          if bit n 16 then s.modLink g.val (fun l => { l with bad := maskDel l.bad c.lane })
          else if s.portState g.val = 4 then s.modLink g.val (fun l => { l with cfg := l.cfg ++ [c] })
          else s
        else s
      s.cfgPresent g.val

/-- PHY_CFG_DONE (R435). -/
def execPhyCfgDone (g : Gate) (rdata : BitVec 64) (err : Bool) : State → Host.Outcome State Fault Refusal := portCmd (phyCfgDone g rdata err)

/-- PHY_CFG_TIMEOUT: no done within 1 ms (R435). -/
def phyCfgTimeout (g : Gate) (s : State) : State := s.cfgFailed g.val

/-- PHY_CFG_TIMEOUT (R435). -/
def execPhyCfgTimeout (g : Gate) : State → Host.Outcome State Fault Refusal := portCmd (phyCfgTimeout g)

/-- LANE_FAIL_ARRIVAL (R338): the transmitter's lane is failed; with a frame named in time, the spare takes it over there. -/
def laneFailArrival (s : State) : State :=
  s.withLink 2 (fun i s =>
    let g := i.port
    let lane := i.pkt.fld 0x11 0 4
    let sw := i.pkt.fld 0x14 0 32
    let good := s.rd (R.GATE_LANES_TX_GOOD g)
    let spare := s.rd (R.GATE_LANES_TX_SPARE g)
    let l := s.link g
    if g ≥ 8 ∨ ¬ s.portReady g then s
    else if sw = 0 then
      let good' := maskDel good lane
      let s := s.modLink g (fun l => { l with countdown := 0, nextSp := 15 })
      let next := ((rotation good' (s.on (R.GATE_NEG_X4 g))).filter (fun x => !l.txMap.contains x)).headD 15
      s.setTxLanes g good' l.txMap (if lane = spare then next else spare)
    else if l.txMap.contains lane ∧ spare ≠ 15 ∧ l.failSwitch.isNone ∧ l.txFseq ≤ sw then
      s.setLink g { l with failSwitch := some (sw, lane), countdown := 0, nextSp := 15 }
    else s)

/-- LANE_FAIL_ARRIVAL (R338). -/
def execLaneFailArrival : State → Host.Outcome State Fault Refusal := coreCmd laneFailArrival

/-- WIDTH_ARRIVAL (R339): both directions move to x4 at the named frames. A message that comes again, or after its frame, moves a direction
that has not moved yet at the next frame; a frame already fixed stands. -/
def widthArrival (s : State) : State :=
  s.withLink 3 (fun i s =>
    let g := i.port
    let l := s.link g
    if g ≥ 8 ∨ ¬ s.portReady g ∨ s.on (R.GATE_NEG_X4 g) ∨ i.pkt.fld 0x11 0 1 = 0 then s
    else
      let tx := if l.txMap.length = 4 then none else match l.txWidth with
        | some (f, _) => some (f, i.pkt.fld 0x12 0 9)
        | none => some (i.pkt.fld 0x14 0 32, i.pkt.fld 0x12 0 9)
      let rx := if (s.rxMap g).length = 4 then none else match l.rxWidth with
        | some f => some f
        | none => some (i.pkt.fld 0x18 0 32)
      let s := s.setLink g { l with txWidth := tx, rxWidth := rx, failSwitch := none, countdown := 0, nextSp := 15 }
      if s.portState g = 6 then s.setPortState g 7 else s)

/-- WIDTH_ARRIVAL (R339). -/
def execWidthArrival : State → Host.Outcome State Fault Refusal := coreCmd widthArrival

/-- RECAL_ARRIVAL: the adjustment goes to the PHY as TX_ADJUST (R336, R434). -/
def recalArrival (s : State) : State :=
  s.withLink 5 (fun i s => if i.port < 8 then s.cfgPush i.port [⟨i.pkt.fld 0x11 0 4, 3, i.pkt.fld 0x12 0 16⟩] else s)

/-- RECAL_ARRIVAL (R336). -/
def execRecalArrival : State → Host.Outcome State Fault Refusal := coreCmd recalArrival

/-- DOWN_ARRIVAL (R341). -/
def downArrival (s : State) : State := s.withLink 6 (fun i s => if s.portReady i.port then s.exitPort i.port 9 8 false else s)

/-- DOWN_ARRIVAL (R341). -/
def execDownArrival : State → Host.Outcome State Fault Refusal := coreCmd downArrival

/-- SPARE_ROTATE_START: the next healthy lane above the spare is named and the countdown begins (R336). -/
def spareRotateStart (g : Gate) (s : State) : State :=
  let g := g.val
  let l := s.link g
  let spare := s.rd (R.GATE_LANES_TX_SPARE g)
  let lanes := rotation (s.rd (R.GATE_LANES_TX_GOOD g)) (s.on (R.GATE_NEG_X4 g))
  let next := ((lanes.filter (fun x => decide (x > spare))) ++ lanes.filter (fun x => decide (x < spare))).headD 15
  if s.portState g = 6 ∧ s.on (R.GATE_CTL_ROTATE g) ∧ spare ≠ 15 ∧ next ≠ 15 ∧ l.countdown = 0 ∧ l.failSwitch.isNone ∧ l.txWidth.isNone then
    s.setLink g { l with countdown := 255, nextSp := next }
  else s

/-- SPARE_ROTATE_START (R336). -/
def execSpareRotateStart (g : Gate) : State → Host.Outcome State Fault Refusal := coreCmd (spareRotateStart g)

/-- LANE_FAIL_RESEND: with a new SWITCH_FSEQ, until the trailers confirm (R338). -/
def laneFailResend (g : Gate) (s : State) : State :=
  match (s.link g.val).failSent with
  | some (lane, spare) =>
    if s.portReady g.val then s.sendLaneFail g.val lane (if lane = spare then 0 else ((s.link g.val).rxFseq + 32) % 2 ^ 32) else s
  | none => s

/-- LANE_FAIL_RESEND (R338). -/
def execLaneFailResend (g : Gate) : State → Host.Outcome State Fault Refusal := coreCmd (laneFailResend g)

/-- WIDTH_RESEND: until the trailers show X4 (R339). -/
def widthResend (g : Gate) (s : State) : State :=
  let l := s.link g.val
  match l.rxWidth with
  | some _ =>
    if s.portState g.val = 7 then
      let sw := (l.rxFseq + 32) % 2 ^ 32
      let own := match l.txWidth with
        | some (f, _) => f
        | none => l.txFseq
      (s.setLink g.val { l with rxWidth := some sw }).sendPort g.val (s.widthPkt g.val sw own)
    else s
  | none => s

/-- WIDTH_RESEND (R339). -/
def execWidthResend (g : Gate) : State → Host.Outcome State Fault Refusal := coreCmd (widthResend g)

/-! ## Session keys (R325, R357-R361, R459, R460) -/

/-- KEY_SWITCH_ARRIVAL: the receiver will apply the new key from START_FSEQ (R325). -/
def keySwitchArrival (s : State) : State :=
  s.withLink 4 (fun i s => s.modLink i.port (fun l => { l with rxSwitch := some (i.pkt.fld 0x14 0 32, i.pkt.fld 0x11 0 1) }))

/-- KEY_SWITCH_ARRIVAL (R325). -/
def execKeySwitchArrival : State → Host.Outcome State Fault Refusal := coreCmd keySwitchArrival

def keyMsgType (m : KeyMsg) : Nat := bits m.header.toNat 0 8
def keyMsgPort (m : KeyMsg) : Nat := bits m.header.toNat 8 4
def keyMsgLen (m : KeyMsg) : Nat := bits m.header.toNat 32 13
def keyMsgBytes (m : KeyMsg) : Bytes := (m.beats.flatMap (fun b => toLE 8 b.toNat)).take (keyMsgLen m)

/-- A message to ignore: LOAD_ERR and its port (R358, R460). -/
def State.loadErr (s : State) (port : Nat) : State := (s.wr R.SECURITY_STATUS_LOAD_ERR 1).wr R.SECURITY_STATUS_LOAD_ERR_PORT port

/-- LEN is what the type table gives the type (R459). -/
def keyMsgLenOk (m : KeyMsg) : Bool :=
  if (keyMsgType m) = 0x11 then decide (1 ≤ (keyMsgLen m) ∧ (keyMsgLen m) ≤ 4096) else if (keyMsgType m) = 0x12 then (keyMsgLen m) == 40 else (keyMsgLen m) == 0

/-- The message is whole and well formed (R460). DIR and KPH are KEY_LOAD's, CAUSE is no inbound message's. -/
def keyMsgOk (m : KeyMsg) : Bool :=
  let n := m.header.toNat
  [0x11, 0x12, 0x13, 0x14].contains (keyMsgType m) && bits n 14 2 == 0 && bits n 20 12 == 0 && bits n 45 19 == 0 && decide ((keyMsgPort m) ≤ 9) && (keyMsgLenOk m)
    && m.last == ((keyMsgLen m) + 7) / 8

/-- Run `f` on a well-formed message of a type; a malformed one is discarded with LOAD_ERR. In test mode every beat is discarded
(R463). -/
def State.withKey (s : State) (m : KeyMsg) (type : Nat) (f : State → State) : State :=
  if s.pins.tst then s
  else if ¬ (keyMsgOk m) then s.loadErr (keyMsgPort m)
  else if (keyMsgType m) = type then f s
  else s

/-- The phase after the current one of a direction; 0 for a port without a key (R358). -/
def nextPhase (valid : Bool) (kph : Nat) : Nat := if valid then 1 - kph else 0

/-- KEY_LOAD (R358). -/
def keyLoad (m : KeyMsg) (s : State) : State :=
  s.withKey m 0x12 (fun s =>
    let p := (keyMsgPort m)
    let tx := bits m.header.toNat 12 1 == 0
    let kph := bits m.header.toNat 13 1
    let st := s.portState p
    let next := if tx then nextPhase (s.on (R.SECURITY_TX_CUR_VALID p)) (s.rd (R.SECURITY_TX_KPH p))
      else nextPhase (s.on (R.SECURITY_RX_CUR_VALID p)) (s.rd (R.SECURITY_RX_KPH p))
    let loaded := if tx then s.on (R.SECURITY_TX_NEXT_LOADED p) else s.on (R.SECURITY_RX_NEXT_LOADED p)
    if ¬ (st = 5 ∨ st = 6 ∨ st = 7) ∨ kph ≠ next ∨ loaded then s.loadErr p
    else
      let slot : KeySlot := ⟨BitVec.ofNat 256 (leAt (keyMsgBytes m) 0 32), BitVec.ofNat 64 (leAt (keyMsgBytes m) 32 8)⟩
      if tx then (s.modLink p (fun l => { l with txKeys := SMap.put l.txKeys kph slot })).wr (R.SECURITY_TX_NEXT_LOADED p) 1
      else (s.modLink p (fun l => { l with rxKeys := SMap.put l.rxKeys kph slot })).wr (R.SECURITY_RX_NEXT_LOADED p) 1)

/-- KEY_LOAD (R358). -/
def execKeyLoad (m : KeyMsg) : State → Host.Outcome State Fault Refusal := portCmd (keyLoad m)

/-- KEY_ARM (R358, R360): KEY_SWITCH goes out, naming the frame 64 ahead. Both slots of the next phase must be loaded; where the partner has
switched first, its receive slot is in use already. -/
def keyArm (m : KeyMsg) (s : State) : State :=
  s.withKey m 0x13 (fun s =>
    let p := (keyMsgPort m)
    let ph := nextPhase (s.on (R.SECURITY_TX_CUR_VALID p)) (s.rd (R.SECURITY_TX_KPH p))
    if (SMap.get? (s.link p).txKeys ph).isNone ∨ (SMap.get? (s.link p).rxKeys ph).isNone then s.loadErr p
    else if s.on (R.SECURITY_TX_ARMED p) then s
    else
      let start := ((s.link p).txFseq + 64) % 2 ^ 32
      let s := (s.modLink p (fun l => { l with txSwitch := some (start, ph) })).wr (R.SECURITY_TX_ARMED p) 1
      s.sendPort p (s.linkPkt p 4 [hf 0x11 0 1 ph, hf 0x14 0 32 start]))

/-- KEY_ARM (R360). -/
def execKeyArm (m : KeyMsg) : State → Host.Outcome State Fault Refusal := portCmd (keyArm m)

/-- REJECT: BACKOFF with cause 5, slots erased (R358). -/
def reject (m : KeyMsg) (s : State) : State :=
  s.withKey m 0x14 (fun s =>
    if s.portState (keyMsgPort m) = 5 ∨ s.portReady (keyMsgPort m) then (s.exitPort (keyMsgPort m) 5 8 (s.portReady (keyMsgPort m))).eraseKeys (keyMsgPort m) else s)

/-- REJECT (R358). -/
def execReject (m : KeyMsg) : State → Host.Outcome State Fault Refusal := portCmd (reject m)

/-- KEYX_OUT: cut into fragments of up to 512 B (R359). -/
def keyxOut (m : KeyMsg) (s : State) : State :=
  s.withKey m 0x11 (fun s =>
    let p := (keyMsgPort m)
    let n := ((keyMsgLen m) + 511) / 512
    let msg := (s.link p).msgOut
    let s := s.modLink p (fun l => { l with msgOut := (l.msgOut + 1) % 256 })
    (List.range n).foldl (fun s i =>
      let d := slice (keyMsgBytes m) (512 * i) 512
      s.sendPort p (mkPacket 0 5 0 (if s.selfValid then s.self else 0) 0 0 d.length [hf 0x10 4 4 p, hf 0x11 0 8 msg, hf 0x12 0 4 i,
        hf 0x12 4 4 n, hf 0x14 0 13 (keyMsgLen m)] d)) s)

/-- KEYX_OUT (R359). -/
def execKeyxOut (m : KeyMsg) : State → Host.Outcome State Fault Refusal := portCmd (keyxOut m)

/-- KEYX_ARRIVAL: a fragment; a whole message goes on as KEYX_IN (R359). -/
def keyxArrival (s : State) : State :=
  s.withPkt 0 5 (fun _ => true) (fun i s =>
    let k := i.pkt
    let p := i.port
    if k.fld 0x10 0 4 ≠ 0 then s
    else
      let msg := k.fld 0x11 0 8
      let cur : KeyxMsg := match (s.link p).keyx with
        | some x => if x.msg = msg then x else ⟨msg, k.fld 0x12 4 4, k.fld 0x14 0 13, []⟩
        | none => ⟨msg, k.fld 0x12 4 4, k.fld 0x14 0 13, []⟩
      let cur := { cur with got := SMap.put cur.got (k.fld 0x12 0 4) k.payload }
      if cur.got.length ≥ cur.frags then
        (s.modLink p (fun l => { l with keyx := none })).keySend 2 p 0 (((SMap.vals cur.got).flatMap id).take cur.len)
      else s.modLink p (fun l => { l with keyx := some cur }))

/-- KEYX_ARRIVAL (R359). -/
def execKeyxArrival : State → Host.Outcome State Fault Refusal := coreCmd keyxArrival

/-- KEY_PORT_BEAT_TAKEN: the root-of-trust takes the beat presented (R458, R460). -/
def keyPortBeatTaken (s : State) : State :=
  match s.core.keyPort.out with
  | [] => s
  | (b, last) :: t => ({ s with core.keyPort.out := t }).emit (.keyBeat b last)

/-- KEY_PORT_BEAT_TAKEN (R460). -/
def execKeyPortBeatTaken : State → Host.Outcome State Fault Refusal := portCmd keyPortBeatTaken

/-! ## What a gate and a hinge port show the PHY (R374, R433, R438) -/

/-- gt_rate of a gate. -/
def State.gtRate (s : State) (g : Nat) : Nat := if s.idle || s.pins.iso then 0 else (s.link g).rate

/-- gt_tx_idle of a lane: while the ports stand idle or pwr_iso is 1, in DISABLED and BACKOFF, and in service for a lane neither active nor spare. -/
def State.gtTxIdle (s : State) (g l : Nat) : Bool :=
  s.idle || s.pins.iso || s.portState g == 0 || s.portState g == 8
    || (s.portReady g && !((s.link g).txMap.contains l || s.rd (R.GATE_LANES_TX_SPARE g) == l))

/-- hg_enable: 1 in WAIT_PHY, DISCOVER, KEYS and READY. -/
def State.hgEnable (s : State) (h : Nat) : Bool := !(s.idle || s.pins.iso) && [9, 3, 5, 6].contains (s.portState (8 + h))

/-- hg_tx_valid: 1 in every cycle of DISCOVER, KEYS and READY. -/
def State.hgTxValid (s : State) (h : Nat) : Bool := !(s.idle || s.pins.iso) && [3, 5, 6].contains (s.portState (8 + h))

end Sys2Proof.Machine
end

