-- ==== Sys2Proof/Machine/Time.lean ====
section
/-! DEFINITION. Fabric time (R248-R253): the count, mastering, discipline, exchanges, holdover. -/

namespace Sys2Proof.Machine

/-- Nominal increment of a core clock in kHz: the period over 15.625 ps, with 24 fraction bits (R249). -/
def nominalInc (khz : Nat) : Nat := if khz = 0 then 0 else 64 * 10 ^ 6 * 2 ^ 24 / khz

/-- One core cycle of the count (R249); the time output keeps the cycle before (R461). -/
def State.timeTick (s : State) : State :=
  { s with core.time := { s.core.time with
      count := (s.core.time.count + s.core.time.inc) % 2 ^ 88, prev := s.now, edge := s.now / 4096 != s.core.time.prev / 4096 } }

/-- Set the whole-LSB count. -/
def State.setNow (s : State) (v : Nat) : State := { s with core.time.count := v % 2 ^ 64 * 2 ^ 24 }

/-- The state of R250 changes: 0 UNSYNCED, 1 LOCKING, 2 LOCKED, 3 HOLDOVER. Entry to LOCKING or LOCKED synchronises the block; the
first one starts journal coverage (R89). -/
def State.timeState (s : State) (st : Nat) : State :=
  let up := st == 1 || st == 2
  let first := up && !s.synced
  let s := (s.wr R.TIME_STATUS_STATE st).setReadyBit 11 up
  let s := if up then s.wr R.TIME_STATUS_SYNCED 1 else s
  if first ∧ s.rd R.JOURNAL_SIZE_LOG2 ≠ 0 then { s with core.resp.cover := some s.now } else s

/-- A forward step (R250): the trace sees it, and every circuit with a hop here breaks. -/
def State.timeStep (s : State) (by_ : Nat) : State :=
  let s := s.setNow (s.now + by_)
  let s := s.traceEv (some R.TRACE_CTL_PORT) 0x41 15 0 0 none 0 0 0 0 0 0 s.now by_
  (s.wr R.TIME_STATUS_STEPPED 1).breakAll

/-- Store a TIME_CTL write: MASTER and PARENT only while ENABLE is 0 (R269). -/
def State.storeTimeCtl (s : State) (n : Nat) : State :=
  let s := if s.on R.TIME_CTL_ENABLE then s else (s.wr R.TIME_CTL_MASTER (bits n 1 1)).wr R.TIME_CTL_PARENT (bits n 2 4)
  (s.wr R.TIME_CTL_HOLD_MAX (bits n 8 8)).wr R.TIME_CTL_ENABLE (bits n 0 1)

/-- TIME_SET. -/
def State.timeSet (s : State) : Nat := s.rd R.TIME_SET_LO_COUNT + s.rd R.TIME_SET_HI_COUNT * 2 ^ 32

/-- TIME_CTL.ENABLE written 1 (R250). -/
def timeEnable (data : Word) (s : State) : State :=
  if bits data.toNat 0 1 ≠ 1 then s
  else
    let s := s.storeTimeCtl data.toNat
    let st := s.rd R.TIME_STATUS_STATE
    if ¬ s.on R.TIME_CTL_MASTER then s
    else if st = 0 then ((s.setNow s.timeSet).timeState 2).wr R.TIME_STATUS_HOPS 0
    else if st = 3 then
      let s := if s.timeSet > s.now then s.timeStep (s.timeSet - s.now) else s
      (s.timeState 2).wr R.TIME_STATUS_HOPS 0
    else s

/-- TIME_ENABLE (R250). -/
def execTimeEnable (data : Word) : State → Host.Outcome State Fault Refusal := coreCmd (timeEnable data)

/-- TIME_CTL.ENABLE written 0 (R250). -/
def timeDisable (data : Word) (s : State) : State :=
  if bits data.toNat 0 1 ≠ 0 then s
  else
    let was := s.on R.TIME_CTL_ENABLE
    let s := s.storeTimeCtl data.toNat
    if was ∧ s.rd R.TIME_STATUS_STATE ≠ 0 then s.timeState 3 else s

/-- TIME_DISABLE (R250). -/
def execTimeDisable (data : Word) : State → Host.Outcome State Fault Refusal := coreCmd (timeDisable data)

/-- A TIME packet to the partner of a port, as its DISCOVER named itself (R283). -/
def State.timePkt (s : State) (p sub disc hops xseq stamp : Nat) : Packet :=
  let dest := match (s.link p).peer with
    | some k => k.srcNode
    | none => 0
  mkPacket 0 1 dest (if s.selfValid then s.self else 0) 0 0 0 [hf 0x10 0 2 sub, hf 0x10 2 1 disc, hf 0x11 0 8 hops, hf 0x12 0 16 xseq, hf 0x18 0 64 stamp] []

/-- The block may discipline a child: it is LOCKING or LOCKED (R251). -/
def State.timeUp (s : State) : Bool := s.rd R.TIME_STATUS_STATE == 1 || s.rd R.TIME_STATUS_STATE == 2

/-- TIME_EXCHANGE_START: SYNC on a READY port (R251). On the block's own parent port it serves the partner's measurement: the partner
disciplines only on its own parent port (log entry 32). -/
def timeExchangeStart (p : Port) (s : State) : State :=
  if ¬ s.portReady p.val then s
  else
    let n := SMap.getD s.core.time.xseq p.val 0
    let e : Exchange := ⟨n, true, s.timeUp, 0, 0, 0⟩
    let s := { s with core.time.exch := SMap.put s.core.time.exch (p.val + 16) e, core.time.xseq := SMap.putD s.core.time.xseq p.val ((n + 1) % 2 ^ 16) 0 }
    s.sendPort p.val (s.timePkt p.val 0 (b2n s.timeUp) (if s.on R.TIME_CTL_MASTER then 0 else s.rd R.TIME_STATUS_HOPS) n 0)

/-- TIME_EXCHANGE_START (R251). -/
def execTimeExchangeStart (p : Port) : State → Host.Outcome State Fault Refusal := coreCmd (timeExchangeStart p)

/-- The port is this block's parent port, and the exchange disciplines it. -/
def State.disciplines (s : State) (p : Nat) (disc : Bool) : Bool :=
  disc && s.on R.TIME_CTL_ENABLE && !s.on R.TIME_CTL_MASTER && s.rd R.TIME_CTL_PARENT == p

/-- A TIME message of a SUB waits. -/
def State.withTime (s : State) (sub : Nat) (f : InPkt → State → State) : State := s.withPkt 0 1 (fun k => k.fld 0x10 0 2 == sub) f

/-- SYNC_ARRIVAL: t2 is its stamp; DELAY_REQ follows, or the exchange is discarded on its hop count (R251). -/
def syncArrival (s : State) : State :=
  s.withTime 0 (fun i s =>
    let k := i.pkt
    let disc := k.fld 0x10 2 1 == 1
    let p := i.port
    if s.disciplines p disc ∧ k.fld 0x11 0 8 + 1 > 255 then s.wr R.TIME_STATUS_LOOP 1
    else
      let e : Exchange := ⟨k.fld 0x12 0 16, false, disc, k.fld 0x18 0 64, i.stamp % 2 ^ 64, 0⟩
      let s := { s with core.time.exch := SMap.put s.core.time.exch p e, core.time.hops := if s.disciplines p disc then k.fld 0x11 0 8 else s.core.time.hops }
      s.sendPort p (s.timePkt p 1 (b2n disc) 0 e.xseq 0))

/-- SYNC_ARRIVAL (R251). -/
def execSyncArrival : State → Host.Outcome State Fault Refusal := coreCmd syncArrival

/-- DELAY_REQ_ARRIVAL: the parent returns its stamp t4; a disciplining exchange only while it is LOCKING or LOCKED (R251). -/
def delayReqArrival (s : State) : State :=
  s.withTime 1 (fun i s =>
    match SMap.get? s.core.time.exch (i.port + 16) with
    | none => s
    | some e =>
      if e.xseq ≠ i.pkt.fld 0x12 0 16 ∨ (e.disc ∧ ¬ s.timeUp) then s
      else
        let s := { s with core.time.exch := SMap.del s.core.time.exch (i.port + 16) }
        s.sendPort i.port (s.timePkt i.port 2 (b2n e.disc) 0 e.xseq i.stamp))

/-- DELAY_REQ_ARRIVAL (R251). -/
def execDelayReqArrival : State → Host.Outcome State Fault Refusal := coreCmd delayReqArrival

/-- Slew: the increment lies anywhere between 63/64 and 65/64 of nominal (R249); where, the spec leaves open (log entry 9). -/
def State.slew (s : State) : State :=
  let n := nominalInc s.core.time.khz
  let (v, s) := s.draw
  { s with core.time.inc := n - n / 64 + v % (2 * (n / 64) + 1) }

/-- One exchange with the parent found this offset, in LSB units (R250). 250 ps are 16 units, 1 µs is 64,000. -/
def State.discipline (s : State) (off : Int) : State :=
  let s := s.wr R.TIME_OFFSET_VALUE (ofSigned 32 (max (-2 ^ 31) (min (2 ^ 31 - 1) off)))
  let s := s.wr R.TIME_STATUS_HOPS (s.core.time.hops + 1)
  let st := s.rd R.TIME_STATUS_STATE
  let lock (s : State) (st good : Nat) : State := ({ s with core.time.good := good }).timeState st
  if st = 0 then
    let s := (s.setNow (ofSigned 64 ((s.now : Int) - off))).slew
    lock s 1 0
  else if off.natAbs < 16 then
    let s := s.slew
    if st = 1 then (if s.core.time.good + 1 ≥ 4 then lock s 2 0 else lock s 1 (s.core.time.good + 1)) else lock s 2 0
  else if off.natAbs < usLsb then lock s.slew 1 0
  else if off < 0 then lock ((s.timeStep off.natAbs).slew) 1 0
  else
    let n := nominalInc s.core.time.khz
    lock ({ s with core.time.inc := n - n / 64 }.wr R.TIME_STATUS_AHEAD 1) 1 0

/-- DELAY_RESP_ARRIVAL: path delay and offset (R250, R251). -/
def delayRespArrival (s : State) : State :=
  s.withTime 2 (fun i s =>
    let p := i.port
    match SMap.get? s.core.time.exch p with
    | none => s
    | some e =>
      if e.parent ∨ e.xseq ≠ i.pkt.fld 0x12 0 16 then s
      else
        let t4 := i.pkt.fld 0x18 0 64
        let ab := toSigned 64 (subMod 64 e.t2 e.t1)
        let cd := toSigned 64 (subMod 64 t4 e.t3)
        let d := (ab + cd) / 2
        let s := { s with core.time.exch := SMap.del s.core.time.exch p }
        let old := s.rd (R.TIME_PATH_DELAY p)
        let s := s.wr (R.TIME_PATH_DELAY p) (ofSigned 24 d)
        let s := if s.rd (R.TIME_PATH_DELAY p) = old then s else s.pathChanged p
        if s.disciplines p e.disc then s.discipline (ab - d - toSigned 16 (s.rd (R.TIME_ASYM_CORR p))) else s)

/-- DELAY_RESP_ARRIVAL (R250). -/
def execDelayRespArrival : State → Host.Outcome State Fault Refusal := coreCmd delayRespArrival

/-- 64 µs pass without a valid exchange; a master does not leave LOCKED while ENABLE is 1 (R250). -/
def timeHoldoverTimeout (s : State) : State :=
  if s.timeUp ∧ ¬ (s.on R.TIME_CTL_MASTER ∧ s.on R.TIME_CTL_ENABLE) then s.timeState 3 else s

/-- TIME_HOLDOVER_TIMEOUT (R250). -/
def execTimeHoldoverTimeout : State → Host.Outcome State Fault Refusal := coreCmd timeHoldoverTimeout

/-- HOLD_MAX superframes of holdover pass (R250). -/
def timeHoldMax (s : State) : State := if s.rd R.TIME_STATUS_STATE = 3 then s.breakAll else s

/-- TIME_HOLD_MAX (R250). -/
def execTimeHoldMax : State → Host.Outcome State Fault Refusal := coreCmd timeHoldMax

end Sys2Proof.Machine
end

