-- ==== Sys2Proof/Machine/Start.lean ====
section
/-! DEFINITION. Starts and the start sequencer (R365-R370), clocks, resets and power (R427-R431), and the key port's ready level. -/

namespace Sys2Proof.Machine

/-! ## The always-on domain -/

/-- GLOBAL_CLK_NOM.KHZ as it acts (R431). -/
def State.nomKhz (s : State) : Nat := min 1900000 (max 1200000 (s.rd R.GLOBAL_CLK_NOM_KHZ))

/-- The journal registers of R83 unlock and return to their reset values at a warm start (R366). -/
def State.unlockJournal (s : State) : State :=
  { s with aon.regs := s.aon.regs.filter (fun r => !(decide (0x100 ≤ r.1) && decide (r.1 ≤ 0x10C))) }

/-- READY bits of the core domain fall with it; KEYPORT follows its pin (R372-R374). -/
def State.readyFall (s : State) : State := [0, 1, 2, 3, 4, 5, 6, 7, 8, 9, 11, 12, 13].foldl (fun s i => s.setReadyBit i false) s

/-- A self-test that waits or runs ends ABORTED when a start intervenes (R404). -/
def State.stAbort (s : State) : State :=
  if s.rd R.GLOBAL_ST_STATUS_STATE = 1 ∨ s.rd R.GLOBAL_ST_STATUS_STATE = 2 then
    ((s.wr R.GLOBAL_ST_STATUS_STATE 3).wr R.GLOBAL_ST_STATUS_CODE 0x12).wr R.GLOBAL_ST_INFO_DATA 0
  else s

/-- The sequencer enters OFF: every unit stops at once, the core domain takes its reset values (R367; `wire`). -/
def State.toOff (s : State) : State :=
  if s.off then s else (s.readyFall.stAbort.wr R.GLOBAL_START_STATUS_HOLDING 0).wr R.GLOBAL_START_STATUS_STATE 0

/-- The AON domain takes its reset values, and the start to come is cold (R365, R366). -/
def State.aonReset (s : State) (int : Option Bool) : State := { s with aon := { Aon.reset with intReset := int } }

/-! ## The sequencer (R367) -/

/-- The sequencer leaves OFF when rst_core_n and clk_core_ok are 1 and no internal reset runs: the request hold begins (R367, R370,
R428). -/
def State.leaveOff (s : State) : State :=
  if s.off && s.pins.rstAon && s.aon.intReset.isNone && s.pins.rstCore && s.pins.clkOk then
    let warm := !s.aon.coldNext
    let s := { s with core := Core.reset, aon.coldNext := false }
    let s := (s.wr R.GLOBAL_START_STATUS_WARM (b2n warm)).wr R.GLOBAL_START_STATUS_HOLDING 1
    let s := if warm then s.wr R.GLOBAL_START_STATUS_STARTS (s.rd R.GLOBAL_START_STATUS_STARTS + 1) else s
    (s.wr R.GLOBAL_CLK_VALID 0).wr R.GLOBAL_START_STATUS_STATE 1
  else s

/-- Entry to RUN: the core clock's nominal rate is captured, and training is permitted on every port (R367, R430). -/
def State.enterRun (s : State) : State :=
  let k := s.nomKhz
  let s := { s.wr R.GLOBAL_START_STATUS_STATE 4 with core.time.khz := k, core.time.inc := nominalInc k }
  (List.range 10).foldl (fun s p => s.tryTrain p) s

/-- BIST is required: a cold start, BIST_ON_WARM, or a last BIST that did not pass in full (R367). -/
def State.bistRequired (s : State) : Bool :=
  !s.on R.GLOBAL_START_STATUS_WARM || s.on R.GLOBAL_START_CTL_BIST_ON_WARM || !s.on R.GLOBAL_START_STATUS_BIST_PASS

/-- WAIT_KEYS goes on once the key port is ready or keys are optional (R367). -/
def State.seqStep (s : State) : State :=
  if s.seq = 2 ∧ (s.pins.rot ∨ s.on R.GLOBAL_START_CTL_KEYS_OPTIONAL) then
    if s.bistRequired then s.wr R.GLOBAL_START_STATUS_STATE 3
    else (s.wr R.GLOBAL_START_STATUS_BIST_RAN 0).enterRun
  else s

/-- GO: WAIT_GO goes on; elsewhere CMD_ERR (R367, R385). -/
def go (s : State) : State :=
  if !s.aonUp then s
  else if s.seq = 1 then (s.wr R.GLOBAL_START_STATUS_STATE 2).seqStep
  else s.wr R.GLOBAL_START_STATUS_CMD_ERR 1

/-- GO (R367). -/
def execGo : State → Host.Outcome State Fault Refusal := aonCmd go

/-- BIST_DONE: the result is recorded; RUN, or FAILED for a shared SRAM (R367, R368). -/
def bistDone (gateFail : BitVec 8) (hingeFail : BitVec 2) (sharedFail : Bool) (s : State) : State :=
  if s.seq ≠ 3 then s
  else
    let g := gateFail.toNat % 2 ^ s.build.gates
    let h := hingeFail.toNat % 2 ^ s.build.hinges
    let s := ((s.wr R.GLOBAL_BIST_GATE_FAIL g).wr R.GLOBAL_BIST_HINGE_FAIL h).wr R.GLOBAL_BIST_SHARED_FAIL (b2n sharedFail)
    let s := (s.wr R.GLOBAL_START_STATUS_BIST_RAN 1).wr R.GLOBAL_START_STATUS_BIST_PASS (b2n (g == 0 && h == 0 && !sharedFail))
    if sharedFail then s.wr R.GLOBAL_START_STATUS_STATE 5 else s.enterRun

/-- BIST_DONE (R367). -/
def execBistDone (gateFail : BitVec 8) (hingeFail : BitVec 2) (sharedFail : Bool) : State → Host.Outcome State Fault Refusal :=
  aonCmd (bistDone gateFail hingeFail sharedFail)

/-! ## Starts (R365) -/

/-- WARM_RESTART: the core domain is held in the internal reset, and RWL fields return to their reset values. -/
def warmRestart (s : State) : State :=
  if !s.aonUp then s else let s := s.toOff.unlockJournal; { s with aon.intReset := some false, aon.clkFell := false }

/-- WARM_RESTART (R365). -/
def execWarmRestart : State → Host.Outcome State Fault Refusal := aonCmd warmRestart

/-- COLD_RESTART: both domains are held in the internal reset. -/
def coldRestart (s : State) : State := if !s.aonUp then s else s.aonReset (some true)

/-- COLD_RESTART (R365). -/
def execColdRestart : State → Host.Outcome State Fault Refusal := aonCmd coldRestart

/-- INTERNAL_RESET_END: a deassertion of core reset for R367. -/
def internalResetEnd (s : State) : State :=
  if s.aon.intReset.isNone then s
  else ({ s with aon.intReset := none }.setReadyBit 10 s.pins.rot).leaveOff

/-- INTERNAL_RESET_END (R365). -/
def execInternalResetEnd : State → Host.Outcome State Fault Refusal := aonCmd internalResetEnd

/-- AON_RESET_ASSERT: both domains are in reset (R427). -/
def aonResetAssert (s : State) : State := { s with pins.rstAon := false }.aonReset none

/-- AON_RESET_ASSERT (R428). -/
def execAonResetAssert : State → Host.Outcome State Fault Refusal := aonCmd aonResetAssert

/-- AON_RESET_DEASSERT: a cold start begins (R365, R428). -/
def aonResetDeassert (s : State) : State :=
  if s.pins.rstAon then s else (({ s with pins.rstAon := true }.aonReset none).setReadyBit 10 s.pins.rot).leaveOff

/-- AON_RESET_DEASSERT (R428). -/
def execAonResetDeassert : State → Host.Outcome State Fault Refusal := aonCmd aonResetDeassert

/-- CORE_RESET_ASSERT: every unit stops at once (R367). -/
def coreResetAssert (s : State) : State := { s with pins.rstCore := false }.toOff

/-- CORE_RESET_ASSERT (R367). -/
def execCoreResetAssert : State → Host.Outcome State Fault Refusal := aonCmd coreResetAssert

/-- A warm start begins: RWL fields return to their reset values (R366). -/
def State.warmBegins (s : State) : State :=
  let s := { s with aon.clkFell := false }
  if s.aonUp && !s.aon.coldNext then s.unlockJournal else s

/-- CORE_RESET_DEASSERT: a warm start begins, unless a cold one waits for it (R365, R428). -/
def coreResetDeassert (s : State) : State :=
  if s.pins.rstCore then s else ({ s with pins.rstCore := true }.warmBegins).leaveOff

/-- CORE_RESET_DEASSERT (R428). -/
def execCoreResetDeassert : State → Host.Outcome State Fault Refusal := aonCmd coreResetDeassert

/-- CLK_CORE_OK_RISE: the sequencer may leave OFF; where the clock's fall brought OFF, and no start has begun since, a warm start
begins (R428). -/
def clkCoreOkRise (s : State) : State :=
  if s.pins.clkOk then s
  else
    let s := { s with pins.clkOk := true }
    (if s.aon.clkFell && s.pins.rstCore then s.warmBegins else s).leaveOff

/-- CLK_CORE_OK_RISE (R428). -/
def execClkCoreOkRise : State → Host.Outcome State Fault Refusal := aonCmd clkCoreOkRise

/-- CLK_CORE_OK_FALL: as though rst_core_n had been asserted (R428). -/
def clkCoreOkFall (s : State) : State := { s with pins.clkOk := false, aon.clkFell := s.aon.clkFell || !s.off }.toOff

/-- CLK_CORE_OK_FALL (R428). -/
def execClkCoreOkFall : State → Host.Outcome State Fault Refusal := aonCmd clkCoreOkFall

/-- PWR_ISO_CHANGE: every core-domain output is clamped or released (R427; `wire`). -/
def pwrIsoChange (v : Bool) (s : State) : State := { s with pins.iso := v }

/-- PWR_ISO_CHANGE (R427). -/
def execPwrIsoChange (v : Bool) : State → Host.Outcome State Fault Refusal := aonCmd (pwrIsoChange v)

/-- TST_MODE_CHANGE: tst_mode changes only while rst_aon_n is 0 (R463). -/
def tstModeChange (v : Bool) (s : State) : State := if s.pins.rstAon then s else { s with pins.tst := v }

/-- TST_MODE_CHANGE (R463). -/
def execTstModeChange (v : Bool) : State → Host.Outcome State Fault Refusal := aonCmd (tstModeChange v)

/-- KP_ROT_READY_CHANGE: KEYPORT_READY and GLOBAL_READY.KEYPORT follow; WAIT_KEYS may go on (R367, R372, R458). -/
def kpRotReadyChange (v : Bool) (s : State) : State :=
  let s := { s with pins.rot := v }
  if s.aonUp then (s.setReadyBit 10 v).seqStep else s

/-- KP_ROT_READY_CHANGE (R458). -/
def execKpRotReadyChange (v : Bool) : State → Host.Outcome State Fault Refusal := aonCmd (kpRotReadyChange v)

/-- REQUEST_HOLD_END: HOLD_MS ms have passed since the sequencer left OFF (R370). -/
def requestHoldEnd (s : State) : State := if s.off then s else s.wr R.GLOBAL_START_STATUS_HOLDING 0

/-- REQUEST_HOLD_END (R370). -/
def execRequestHoldEnd : State → Host.Outcome State Fault Refusal := aonCmd requestHoldEnd

/-- CLK_MEASURE: cycles of clk_core over 1,000 cycles of the 100 MHz reference, 10 µs (R431). -/
def clkMeasure (cycles : BitVec 20) (s : State) : State :=
  if s.off then s
  else
    let n := cycles.toNat
    let k := s.nomKhz
    let far := if n * 100 ≥ k then decide ((n * 100 - k) * 200 > k) else decide ((k - n * 100) * 200 > k)
    let s := (s.wr R.GLOBAL_CLK_CORE_MHZ (n / 10)).wr R.GLOBAL_CLK_VALID 1
    if far then s.wr R.GLOBAL_CLK_DRIFT 1 else s

/-- CLK_MEASURE (R431). -/
def execClkMeasure (cycles : BitVec 20) : State → Host.Outcome State Fault Refusal := aonCmd (clkMeasure cycles)

/-! ## Levels that leave the block (R427, R446, R450, R456, R458, R461); a core-domain output is at its reset value while the ports stand idle
or pwr_iso is 1 (R374, R427) -/

/-- Core-domain outputs are at their reset values. -/
def State.quiet (s : State) : Bool := s.idle || s.pins.iso

/-- seq_off. -/
def State.seqOff (s : State) : Bool := s.off

/-- la_req_ready: the block takes an aperture atomic (R446, R447). -/
def State.laReqReady (s : State) : Bool := !s.quiet

/-- es_req_ready: the block takes an engine's request (R450). -/
def State.esReqReady (s : State) : Bool := !s.quiet

/-- cs_ready and kp_in_ready: in OFF too, where the key port discards what it takes (R374, R454, R460). -/
def State.csReady (s : State) : Bool := s.aonUp
def State.kpInReady (s : State) : Bool := s.aonUp

/-- db_ready: the doorbell port can answer while the core domain is in reset (R456). -/
def State.dbReady (_ : State) : Bool := true

/-- ft_now: fabric time of the previous core cycle. -/
def State.ftNow (s : State) : Nat := if s.quiet then 0 else s.core.time.prev

/-- ft_slot: 1 in the cycle after the cycle in which a slot began. -/
def State.ftSlot (s : State) : Bool := !s.quiet && s.core.time.edge

/-- ft_synced and ft_state. -/
def State.ftSynced (s : State) : Bool := !s.quiet && s.synced
def State.ftState (s : State) : Nat := if s.quiet then 0 else s.rd R.TIME_STATUS_STATE

/-! ## Interrupts (R373, R402, R462) -/

/-- irq_ready. -/
def State.irqReady (s : State) : Bool := !s.idle && Nat.land (s.rd R.GLOBAL_READY_CHG_CHG) (s.rd R.GLOBAL_IRQ_EN_EN) != 0

/-- The ERROR interrupt of R402. -/
def State.errorIrq (s : State) : Bool :=
  s.fatal || (s.on R.ERRLOG_CTL_IRQ_EN && s.rd R.ERRLOG_TAIL_COUNT != s.rd R.ERRLOG_HEAD_COUNT)

/-- irq_error. -/
def State.irqError (s : State) : Bool := !s.idle && s.errorIrq

end Sys2Proof.Machine
end

