-- ==== Sys2Proof/Machine/Func.lean ====
section
/-! DEFINITION. Functions (R343-R351): enabling, disabling, the drain deadline and what reaching DISABLED releases. -/

namespace Sys2Proof.Machine

/-! ## ENABLE (R347, R348) -/

/-- A self-test keeps a function from being enabled (R403). -/
def State.stHoldsFunc (s : State) (f : Nat) : Bool :=
  s.rd R.GLOBAL_ST_STATUS_STATE == 2 && s.aon.selfTest.kind == 1 && s.aon.selfTest.target == f

/-- First counter and number of counters of a function (R346). -/
def State.sigRange (s : State) (f : Nat) : Nat × Nat := (s.rd (R.FUNC_SIG_BASE_BASE f), s.rd (R.FUNC_SIG_COUNT_COUNT f))

/-- Two ranges of counters share one. -/
def rangesMeet (a b : Nat × Nat) : Bool := decide (a.1 < b.1 + b.2 ∧ b.1 < a.1 + a.2 ∧ 0 < a.2 ∧ 0 < b.2)

/-- A circuit owned by a function at this block, its source: the forward circuit, or the reverse one of a pair, which ends here (R267). -/
def Circuit.ownedHere (c : Circuit) (f : Nat) : Bool := c.func == f && ((c.role == 0 && !c.rev) || (c.role == 2 && c.rev))

/-- The first condition of R347 that refuses an ENABLE. -/
def State.enableCause (s : State) (f : Nat) : Option Nat :=
  let r := s.sigRange f
  if s.rd (R.WINDOW_USED_COUNT f) ≠ 0 then some 1
  else if (SMap.vals s.core.col.groups).any (·.func == f) then some 2
  else if s.circuits.any (fun x => x.2.ownedHere f) then some 3
  else if r.1 + r.2 > 65536 ∨ (List.range 64).any (fun h => h != f && (s.funcState h == 1 || s.funcState h == 2) && rangesMeet r (s.sigRange h)) then some 4
  else if ¬ s.on (R.XLATE_ROOT_LO_VALID f) then some 5
  else none

/-- Zero a function's signal counters, with the clear beat of R453 where the range is not empty. -/
def State.zeroSignals (s : State) (r : Nat × Nat) : State :=
  let s := { s with core.rq.signals := s.core.rq.signals.filter (fun c => !(decide (r.1 ≤ c.1) && decide (c.1 < r.1 + r.2))) }
  if r.2 = 0 then s else s.emit (.esClr r.1 r.2)

/-- Zero a function's event counters (R408). -/
def State.zeroFuncCounters (s : State) (f : Nat) : State :=
  { s with core.cnt := s.core.cnt.filter (fun c => c.1 / 32 != funcSlot f) }

/-- FUNC_CMD ENABLE. -/
def funcEnable (fn : FuncId) (s : State) : State :=
  let f := fn.val
  if ¬ s.running ∨ s.funcState f ≠ 0 ∨ s.stHoldsFunc f then s.wr (R.FUNC_STATUS_CMD_ERR f) 1
  else match s.enableCause f with
    | some c => s.wr (R.FUNC_STATUS_CAUSE f) c
    | none =>
      let s := ((s.invalidate (· == f) 0 (2 ^ 64)).zeroSignals (s.sigRange f)).zeroFuncCounters f
      (s.wr (R.FUNC_STATUS_CAUSE f) 0).wr (R.FUNC_STATUS_STATE f) 1

/-- FUNC_ENABLE (R347, R348, R369). -/
def execFuncEnable (f : FuncId) : State → Host.Outcome State Fault Refusal := coreCmd (funcEnable f)

/-! ## DISABLE (R348) -/

/-- Refuse every latch held for a function's windows with FUNC_DISABLED (R348). -/
def State.refuseLatches (s : State) (f : Nat) : State :=
  s.core.resp.holds.foldl (fun s (slot, i) =>
    if i.func = f then
      (({ s with core.resp.holds := SMap.del s.core.resp.holds slot }).countRefused (some f) 0x0C).refuse i.port i.pkt (some f) i.pkt.cm
        0x0C (det 3 0x010)
    else s) s

/-- A work item the queue or a source keeps is withdrawn. -/
def State.dropItem (s : State) (w : WorkItem) : State :=
  let kept := s.core.ward.items.filter (· != w)
  ({ s with core.ward.items := kept, core.ward.waiting := s.core.ward.waiting.filter (· != w) }).wr R.WARD_STATUS_ITEMS kept.length

/-- Timed-out requests of a function that policy firmware may still reissue end with TIMEOUT (R348, R394). -/
def State.stopRetries (s : State) (f : Nat) : State :=
  s.core.rq.reqs.foldl (fun s (t, r) =>
    if r.func = f ∧ r.state = .firmware ∧ (s.core.ward.items ++ s.core.ward.waiting).contains (.retry t) then
      let s := s.dropItem (.retry t)
      if r.kind = .bolt then s.xferTimeout r.op t r 0x081 else s.giveUp t r 0x081
    else s) s

/-- FUNC_CMD DISABLE. -/
def funcDisable (fn : FuncId) (s : State) : State :=
  let f := fn.val
  if s.funcState f ≠ 1 then s.wr (R.FUNC_STATUS_CMD_ERR f) 1
  else
    let qs := s.liveQueues.filter (fun q => s.qFunc q == f)
    let s := (s.wr (R.FUNC_STATUS_STATE f) 2).wr (R.CNT_VIEW_CTL_VIEW_EN f) 0
    let s := qs.foldl (fun s q => s.drainQueue q) s
    ((s.refuseLatches f).stopRetries f).post (.func f)

/-- FUNC_DISABLE (R348). -/
def execFuncDisable (f : FuncId) : State → Host.Outcome State Fault Refusal := coreCmd (funcDisable f)

/-! ## DISABLED (R348, R350, R351) -/

/-- An access that only checks an arrival: it is not accepted yet, and check 1 of R20 refuses it when the check ends (R348). -/
def Job.checksArrival (j : Job) : Bool :=
  match j.purpose with
  | .arrCheck _ => true
  | _ => false

/-- A request to the memory side that a walk made. -/
def MemReq.ofWalk (m : MemReq) : Bool :=
  match m.owner with
  | .walk _ => true
  | .job _ => false

/-- Nothing of a draining function is in progress: its operations and accesses are over, its windows have no accepted access, and its
queues are DISABLED. An arrival still in check 5 holds nothing (R348). -/
def State.funcIdle (s : State) (f : Nat) : Bool :=
  (SMap.vals s.core.rq.ops).all (fun o => o.func != f)
    && (SMap.vals s.core.win.table).all (fun w => w.func != f || (w.accepted == 0 && w.fwdPend == 0))
    && s.liveQueues.all (fun q => s.qFunc q != f)
    && (SMap.vals s.core.jobs).all (fun j => j.func != f || j.checksArrival)
    && (s.core.mem.waiting ++ SMap.vals s.core.mem.reads ++ SMap.vals s.core.mem.writes).all (fun m => m.func != f || m.ofWalk)

/-- Arrivals of a draining function still in check 5 are refused as check 1 of R20 refuses them, and their walks end: from DISABLED on
the block makes no access to the function's memory (R348, R351). -/
def State.refuseChecks (s : State) (f : Nat) : State :=
  let as := s.core.resp.arrivals.filter (fun a => a.2.phase == .check && a.2.func == f)
  let s := s.dropJobs (fun j => j.func == f && j.checksArrival)
  let ws := (s.core.xl.walks.filter (fun w => w.2.func == f)).map (·.1)
  let s := { s with core.mem.waiting := s.core.mem.waiting.filter (fun m => !(m.func == f && m.ofWalk)) }
  as.foldl (fun s a => s.refuseArr a.1 a.2 (some f) 0x0C (det 3 0x010)) (ws.foldl State.walkEnd s)

/-- What R351 releases when a function reaches DISABLED. Tags in quarantine count for it no longer (R350), and only an ACTIVE circuit
goes to CLOSING (R260). -/
def State.funcRelease (s : State) (f : Nat) : State :=
  let s := s.refuseChecks f
  let s := { s with core.rq.rates := s.core.rq.rates.filter (fun e => e.func != f) }
  let s := s.core.rq.queues.foldl (fun s (q, _) => if s.qFunc q = f then s.modQs q (fun x => { x with latches := [], uncounted := 0 }) else s) s
  let gone (x : Nat × Req) : Nat × Req := (x.1, if x.2.func = f ∧ x.2.state = .quarantine then { x.2 with func := 64, queue := 4096 } else x.2)
  let s : State := { s with core.rq.reqs := s.core.rq.reqs.map gone }
  (s.circuits.filter (fun x => x.2.role == 0 && !x.2.rev && x.2.func == f && x.2.state == 2)).foldl (fun s x => s.teardown x.1) s

/-- See whether a function has drained. -/
def State.funcStep (s : State) (f : Nat) : State :=
  if s.funcState f = 2 ∧ s.funcIdle f then (s.funcRelease f).wr (R.FUNC_STATUS_STATE f) 0 else s

/-! ## The drain deadline (R349, R350) -/

/-- A tag of an operation that ends at the deadline: in quarantine once its packet is on its way, free before that. -/
def State.cutOffTag (s : State) (t : Nat) : State :=
  match s.req? t with
  | none => s
  | some r =>
    let s := ((s.dropItem (.retry t)).dropItem (.atomic t)).dropJobs (fun j => match j.purpose with
      | .reqSource n => n == t
      | .reqNyHeader n => n == t
      | .reqDest n => n == t
      | .reqLand n => n == t
      | _ => false)
    if r.state = .prep ∨ r.state = .ready then s.freeTag t
    else if r.state = .quarantine then s
    else
      let s := if r.state = .firmware then s.logTimeout t r (det 0 0x0E1) else (s.writeEnded r true).tdmDone r
      let s := match s.req? t with
        | some r => s.setReq t { r with counted := none, uncounted := false, tdm := none }
        | none => s
      s.quarantine t

/-- The tags of an operation, and those of the queries for them. -/
def State.tagsOf (s : State) (id : Nat) : List Nat :=
  let own := (s.core.rq.reqs.filter (fun x => x.2.op == id && x.2.kind != .jquery && x.2.kind != .jservice)).map (·.1)
  own ++ (s.core.rq.reqs.filter (fun x => x.2.kind == .jquery && own.contains x.2.pkt)).map (·.1)

/-- A transfer of an operation leaves its circuit. -/
def State.dropXfer (s : State) (id : Nat) : State :=
  s.circuits.foldl (fun s (k, c) =>
    match c.xfers.find? (fun x => x.op == id) with
    | some x => ((s.setCircuit k { c with xfers := c.xfers.filter (fun y => y.op != id) }).dropBoltReads x.tag).closeCheck k
    | none => s) s

/-- A TABLE_LOAD ends at the deadline: an image being read leaves its slot EMPTY, a slot that drains goes on to EMPTY. -/
def State.dropLoad (s : State) (id : Nat) : State :=
  s.core.tables.loads.foldl (fun s (t, l) =>
    if l.op ≠ id then s
    else if l.waits then s.setLoads (SMap.put s.core.tables.loads t { l with retire := true })
    else
      let s := s.dropJobs (fun j => match j.purpose with
        | .tableImage n => n == t
        | _ => false)
      (s.setTblState t l.slot 0).setLoads (SMap.del s.core.tables.loads t)) s

/-- The latest attempt at an atomic that has a journal ID: the request of its operation that has been reissued most often. -/
def State.lastAttempt (s : State) (id : Nat) : Option Req :=
  match (SMap.vals s.core.rq.reqs).filter (fun r => r.op == id && r.kind == .atomic && r.jid.isSome) with
  | [] => none
  | r :: t => some (t.foldl (fun b x => if b.tries < x.tries then x else b) r)

/-- The journal ID and target of an atomic; one not sent yet takes its journal ID now (R85; the model's choice, log entry 15). -/
def State.atomicName (s : State) (id : Nat) (o : Op) : (Nat × Nat) × State :=
  match s.lastAttempt id with
  | some r => ((r.jid.getD 0, r.node), s)
  | none =>
    let n := (s.qs o.queue).atomNext
    ((pack [(0, 32, n), (32, 12, o.queue), (44, 20, s.self)], opNode o.desc),
      s.modQs o.queue (fun x => { x with atomNext := (x.atomNext + 1) % 2 ^ 32 }))

/-- An atomic that ends with ATOMIC_UNKNOWN enters the list of R384. -/
def State.listLost (s : State) (id : Nat) : State :=
  match s.lastAttempt id with
  | some r => s.keepLost ⟨r.jid.getD 0, r.node, r.dline, r.tout, id⟩
  | none => s

/-- End one operation of a function at its drain deadline (R349). Collectives end under R160. -/
def State.cutOff (s : State) (id : Nat) (o : Op) : State :=
  let op := dOpcode o.desc
  if o.done.isSome ∨ (0x10 ≤ op ∧ op ≤ 0x13) then s
  else
    let ((jid, node), s) := if op = 0x04 then s.atomicName id o else ((0, 0), s)
    let s := if op = 0x04 then s.listLost id else s
    let s := ((s.tagsOf id).foldl (fun s t => s.cutOffTag t) s).dropXfer id
    let s := (s.dropLoad id)
    let s := { s with core.xl.invals := s.core.xl.invals.filter (fun i => i.op != id) }
    if op = 0x04 then s.endOp id 0x0D (det 0 0x0E1) (jid + node * 2 ^ 64) 0 else s.endOp id 0x12 (det 0 0x0E1) 0 0

/-- FUNC_DRAIN_DEADLINE: DEADLINE_US have passed in DRAINING. -/
def funcDrainDeadline (fn : FuncId) (s : State) : State :=
  let f := fn.val
  if s.funcState f ≠ 2 then s
  else
    let s := s.wr (R.FUNC_STATUS_DEADLINE_HIT f) 1
    ((s.core.rq.ops.filter (fun x => x.2.func == f)).foldl (fun s x => s.cutOff x.1 x.2) s).post (.func f)

/-- FUNC_DRAIN_DEADLINE (R349). -/
def execFuncDrainDeadline (f : FuncId) : State → Host.Outcome State Fault Refusal := coreCmd (funcDrainDeadline f)

end Sys2Proof.Machine
end

