-- ==== Sys2Proof/Machine/Digest.lean ====
section
/-! DEFINITION. SHA-384 and ECDSA over P-384, which R378 names for the Ward core's images. The spec gives no text of them: PRESUMED as
published (FIPS 180-4 and FIPS 186-5 with its curve P-384), log entry 42. -/

namespace Sys2Proof.Machine

/-! ## SHA-384 -/

/-- The largest r of at most `n` bits with r ^ k at most x, bit by bit from the top. -/
def rootOf (k x : Nat) : Nat → Nat → Nat
  | 0, r => r
  | n + 1, r => rootOf k x n (if (r + 2 ^ n) ^ k ≤ x then r + 2 ^ n else r)

/-- The first 64 bits of the fraction of the k-th root of a number. -/
def rootFraction (k p : Nat) : Nat := rootOf k (p * 2 ^ (64 * k)) 72 0 % 2 ^ 64

/-- The first 80 primes. -/
def primes80 : List Nat := (((List.range 410).drop 2).filter (fun p => ((List.range 21).drop 2).all (fun d => d ≥ p || p % d != 0))).take 80

/-- The constants of the rounds. -/
def shaConstants : List Nat := primes80.map (rootFraction 3)

/-- The starting value of SHA-384: from the ninth to the sixteenth prime. -/
def shaStart : List Nat := ((primes80.drop 8).take 8).map (rootFraction 2)

/-- Rotation right of 64 bits. -/
def ror64 (n x : Nat) : Nat := x / 2 ^ n + x % 2 ^ n * 2 ^ (64 - n)

def xor3 (a b c : Nat) : Nat := Nat.xor a (Nat.xor b c)

/-- The 80 words of a block's schedule, from its sixteen, the latest first. -/
def shaSchedule (ws : List Nat) : List Nat :=
  (iterate (fun (r : List Nat) =>
    let w (k : Nat) : Nat := r.getD (k - 1) 0
    let s0 := xor3 (ror64 1 (w 15)) (ror64 8 (w 15)) (w 15 / 2 ^ 7)
    let s1 := xor3 (ror64 19 (w 2)) (ror64 61 (w 2)) (w 2 / 2 ^ 6)
    ((w 16 + s0 + w 7 + s1) % 2 ^ 64) :: r) 64 ws.reverse).reverse

/-- One round on the eight working variables: `k` is the round's constant and `w` its word. -/
def shaRound (v : List Nat) (k w : Nat) : List Nat :=
  match v with
  | [a, b, c, d, e, f, g, h] =>
    let t1 := h + xor3 (ror64 14 e) (ror64 18 e) (ror64 41 e) + Nat.xor (Nat.land e f) (Nat.land (2 ^ 64 - 1 - e) g) + k + w
    let t2 := xor3 (ror64 28 a) (ror64 34 a) (ror64 39 a) + xor3 (Nat.land a b) (Nat.land a c) (Nat.land b c)
    [(t1 + t2) % 2 ^ 64, a, b, c, (d + t1) % 2 ^ 64, e, f, g]
  | _ => v

/-- One block of 128 bytes. -/
def shaBlock (ks hs : List Nat) (blk : Bytes) : List Nat :=
  let ws := (List.range 16).map (fun i => ofLE (slice blk (8 * i) 8).reverse)
  let v := (ks.zip (shaSchedule ws)).foldl (fun v x => shaRound v x.1 x.2) hs
  List.zipWith (fun a b => (a + b) % 2 ^ 64) hs v

/-- The blocks of a message of `n` blocks, in order. -/
def shaBlocks (ks : List Nat) : Nat → List Nat → Bytes → List Nat
  | 0, hs, _ => hs
  | n + 1, hs, bs => shaBlocks ks n (shaBlock ks hs (bs.take 128)) (bs.drop 128)

/-- The message with its padding: a one bit, zeros, and its length in bits in the last 16 bytes. -/
def shaPad (bs : Bytes) : Bytes := bs ++ [0x80] ++ List.replicate ((239 - bs.length % 128) % 128) 0 ++ (toLE 16 (8 * bs.length)).reverse

/-- SHA-384 of a byte string, its first byte the most significant. -/
def sha384Nat (bs : Bytes) : Nat :=
  let p := shaPad bs
  ((shaBlocks shaConstants (p.length / 128) shaStart p).take 6).foldl (fun n x => n * 2 ^ 64 + x) 0

/-- SHA-384 as a register holds it, its first byte in the lowest bits (R8; log entry 42). -/
def sha384 (bs : Bytes) : BitVec 384 := BitVec.ofNat 384 (ofLE (toLE 48 (sha384Nat bs)).reverse)

/-! ## P-384 -/

namespace P384

/-- The field's prime. -/
def p : Nat := 2 ^ 384 - 2 ^ 128 - 2 ^ 96 + 2 ^ 32 - 1
/-- The coefficient b of y^2 = x^3 - 3x + b. -/
def b : Nat := 0xb3312fa7e23ee7e4988e056be3f82d19181d9c6efe8141120314088f5013875ac656398d8a2ed19d2a85c8edd3ec2aef
/-- The order of the base point. -/
def n : Nat := 0xffffffffffffffffffffffffffffffffffffffffffffffffc7634d81f4372ddf581a0db248b0a77aecec196accc52973
/-- The base point. -/
def gx : Nat := 0xaa87ca22be8b05378eb1c71ef320ad746e1d3b628ba79b9859f741e082542a385502f25dbf55296c3a545e3872760ab7
def gy : Nat := 0x3617de4a96262c6f5d9e98bf9292dc29f8f41dbd289a147ce9da3113b5f0b8c00a60b1ce1d7e819d7a431d7c90ea0e5f

/-- A power modulo m by the `k` lowest bits of the exponent. -/
def powMod (m x e : Nat) : Nat → Nat
  | 0 => 1 % m
  | k + 1 =>
    let r := powMod m x (e / 2) k
    if e % 2 = 1 then r * r % m * x % m else r * r % m

/-- The inverse modulo a prime m of 384 bits; 0 of 0. -/
def inv (m x : Nat) : Nat := powMod m (x % m) (m - 2) 384

def sub (a c : Nat) : Nat := (a + p - c % p) % p

/-- The sum of two points of the curve; none is the point at infinity. -/
def add (u v : Option (Nat × Nat)) : Option (Nat × Nat) :=
  match u, v with
  | none, _ => v
  | _, none => u
  | some (x1, y1), some (x2, y2) =>
    if x1 = x2 ∧ (y1 + y2) % p = 0 then none
    else
      let l := if x1 = x2 then sub (3 * x1 * x1) 3 * inv p (2 * y1) % p else sub y2 y1 * inv p (sub x2 x1) % p
      let x3 := sub (sub (l * l) x1) x2
      some (x3, sub (l * sub x1 x3) y1)

/-- The k-fold sum of a point, by the `j` lowest bits of k. -/
def mul (k : Nat) (u : Option (Nat × Nat)) : Nat → Option (Nat × Nat)
  | 0 => none
  | j + 1 =>
    let h := mul (k / 2) u j
    let d := add h h
    if k % 2 = 1 then add d u else d

/-- A public key that is a point of the curve. -/
def onCurve (x y : Nat) : Bool := decide (x < p) && decide (y < p) && y * y % p == (x * x * x + (p - 3) * x + b) % p

/-- ECDSA verification: public point, digest, signature. -/
def verify (x y e r s : Nat) : Bool :=
  onCurve x y && decide (1 ≤ r) && decide (r < n) && decide (1 ≤ s) && decide (s < n) &&
    (let w := inv n s
     match add (mul (e * w % n) (some (gx, gy)) 384) (mul (r * w % n) (some (x, y)) 384) with
     | some (x1, _) => x1 % n == r
     | none => false)

end P384

/-- The signature of R378 verifies: PUBKEY and SIG as the header lays them out, over the SHA-384 of `msg`. -/
def ecdsaP384Verify (pub sig msg : Bytes) : Bool :=
  P384.verify (leAt pub 0 48) (leAt pub 48 48) (sha384Nat msg) (leAt sig 0 48) (leAt sig 48 48)

end Sys2Proof.Machine
end

