-- ==== Sys2Proof/Machine/Ward.lean ====
section
/-! DEFINITION. The Ward core (R377-R384): images, switches, checkpoints, policy writes and the driver's service. -/

namespace Sys2Proof.Machine

/-! ## States (R380) -/

/-- WARD_STATUS.STATE. -/
def State.wardState (s : State) : Nat := s.rd R.WARD_STATUS_STATE

/-- Enter a state; GLOBAL_READY.WARD follows UP (R372, R381). -/
def State.setWard (s : State) (st : Nat) : State := (s.wr R.WARD_STATUS_STATE st).setReadyBit 13 (st == 2)

/-- Enter HALTED: the event record of R373. -/
def State.wardHalted (s : State) : State :=
  let s := ({ s with core.ward.halting := false }).setWard 4
  s.event 0 0 (4 * 2 ^ 4 + s.rd R.WARD_STATUS_CAUSE * 2 ^ 8 + 2 ^ 12)

/-- A failure's CAUSE. -/
def State.wardCause (s : State) (c : Nat) : State := s.wr R.WARD_STATUS_CAUSE c

/-- The active slot and the other one. -/
def State.activeSlot (s : State) : Nat := s.rd R.WARD_STATUS_ACTIVE_SLOT
def State.inactiveSlot (s : State) : Nat := 1 - s.activeSlot
def State.image? (s : State) (slot : Nat) : Option WardImage := SMap.get? s.core.ward.slots slot

/-- Start the image of a slot, which becomes the active one; `prev` says whether the inactive slot then holds the image that ran before. -/
def State.startImage (s : State) (slot : Nat) (prev : Bool) : State :=
  let svn := match s.image? slot with
    | some i => i.svn
    | none => 0
  let s := { s with core.ward.prev := prev }
  (((s.wr R.WARD_STATUS_ACTIVE_SLOT slot).wr R.WARD_ACTIVE_SVN_SVN svn).wr R.WARD_STATUS_STAGED 0).setWard 1

/-! ## Staging (R378, R379) -/

/-- A STAGE or a SWITCH is ignored now. -/
def State.wardBusy (s : State) : Bool := s.on R.WARD_STATUS_STAGE_BUSY || s.wardState == 1 || s.wardState == 3

/-- WARD_CMD STAGE: the image's address, key selector and length are captured, and its reads begin (R379, R481). -/
def wardStage (s : State) : State :=
  if s.wardBusy then s.wardCause 7
  else
    let s := { s with core.ward.slots := SMap.del s.core.ward.slots s.inactiveSlot, core.ward.prev := false, core.ward.read := none }
    let s := (s.wr R.WARD_STATUS_STAGED 0).wr R.WARD_STATUS_STAGE_BUSY 1
    let pa := s.rd R.WARD_IMG_LO_BASE * 4096 + s.rd R.WARD_IMG_HI_BASE * 2 ^ 32
    let n := s.rd R.WARD_IMG_LEN_BYTES
    if n = 0 then { s with core.ward.read := some (true, []) }
    else s.physJob 0 pa n (s.rd R.WARD_IMG_HI_KEY_SEL) .read [] 5 .wardImage

/-- WARD_STAGE (R379). -/
def execWardStage : State → Host.Outcome State Fault Refusal := coreCmd wardStage

/-- The image's reads have ended. -/
def State.wardRead (s : State) (r : JobResult) : State := { s with core.ward.read := some (r.fail.isNone, r.data) }

/-- The first check of R379 that an image fails, 0 for none; `ok` that every read returned without an error. -/
def imageCause (ok : Bool) (minSvn : Nat) (b : Bytes) : Nat :=
  let code := leAt b 0x0C 4 % 2 ^ 20
  let data := leAt b 0x10 4 % 2 ^ 19
  let entry := leAt b 0x14 4
  let valid := decide (b.length ≥ 256) && leAt b 0 4 == 0x57445246 && leAt b 4 2 == 1 && leAt b 0x0C 4 / 2 ^ 20 == 0 && leAt b 0x10 4 / 2 ^ 19 == 0
    && leAt b 0x18 0x28 == 0 && code % 16 == 0 && decide (16 ≤ code ∧ code ≤ 524288) && data % 16 == 0 && decide (data ≤ 262144)
    && entry % 4 == 0 && decide (entry < code) && b.length == 256 + code + data
  let pub := slice b 0x40 96
  if !ok then 1
  else if !valid then 2
  else if leAt b 6 2 ≠ 0x0301 then 3
  else if sha384 pub ≠ Config.wardAnchor then 4
  else if !ecdsaP384Verify pub (slice b 0xA0 96) (b.take 0xA0 ++ b.drop 256) then 5
  else if leAt b 8 4 < minSvn then 6
  else 0

/-- WARD_STAGE_DONE: the reads have ended; STAGED, or a CAUSE with nothing usable in the slot. In test mode the slots stay erased (R463). -/
def wardStageDone (s : State) : State :=
  match s.core.ward.read with
  | none => s
  | some (ok, b) =>
    if ¬ s.on R.WARD_STATUS_STAGE_BUSY then s
    else
      let s := ({ s with core.ward.read := none }).wr R.WARD_STATUS_STAGE_BUSY 0
      let c := imageCause ok (s.rd R.WARD_MIN_SVN_SVN) b
      if c ≠ 0 then s.wardCause c
      else if s.pins.tst then s
      else
        let n := leAt b 0x0C 4 % 2 ^ 20
        let i : WardImage := ⟨leAt b 8 4, leAt b 0x14 4, slice b 256 n, b.drop (256 + n)⟩
        ({ s with core.ward.slots := SMap.put s.core.ward.slots s.inactiveSlot i }).wr R.WARD_STATUS_STAGED 1

/-- WARD_STAGE_DONE (R379). -/
def execWardStageDone : State → Host.Outcome State Fault Refusal := coreCmd wardStageDone

/-! ## Switching (R380) -/

/-- WARD_CMD SWITCH. -/
def wardSwitch (s : State) : State :=
  let st := s.wardState
  let staged := s.on R.WARD_STATUS_STAGED
  if s.wardBusy then s.wardCause 7
  else if (st = 0 ∨ st = 4) ∧ staged then s.startImage s.inactiveSlot (s.image? s.activeSlot).isSome
  else if st = 4 then (if (s.image? s.activeSlot).isSome then s.startImage s.activeSlot false else s)
  else if st = 2 ∧ staged then s.setWard 3
  else s.wardCause 7

/-- WARD_SWITCH (R380). -/
def execWardSwitch : State → Host.Outcome State Fault Refusal := coreCmd wardSwitch

/-- WARD_CMD HALT: the image stops at its next checkpoint, or after CKPT_US. -/
def wardHalt (s : State) : State :=
  if s.wardState = 2 ∨ s.wardState = 3 then { s with core.ward.halting := true } else s

/-- WARD_HALT (R380). -/
def execWardHalt : State → Host.Outcome State Fault Refusal := coreCmd wardHalt

/-- WARD_IMAGE_UP: the starting image declares itself up. -/
def wardImageUp (s : State) : State := if s.wardState = 1 then s.setWard 2 else s

/-- WARD_IMAGE_UP (R380). -/
def execWardImageUp : State → Host.Outcome State Fault Refusal := coreCmd wardImageUp

/-- WARD_START_TIMEOUT: 100 µs in STARTING; the previous image is started, once, or the core halts with CAUSE 9. -/
def wardStartTimeout (s : State) : State :=
  if s.wardState ≠ 1 then s
  else if s.core.ward.prev then (s.startImage s.inactiveSlot false).wr R.WARD_STATUS_REVERTED 1
  else (s.wardCause 9).wardHalted

/-- WARD_START_TIMEOUT (R380). -/
def execWardStartTimeout : State → Host.Outcome State Fault Refusal := coreCmd wardStartTimeout

/-- WARD_CHECKPOINT_YIELD: the running image yields: a HALT that waits takes effect, or the slots are swapped. -/
def wardCheckpointYield (s : State) : State :=
  let st := s.wardState
  if s.core.ward.halting ∧ (st = 2 ∨ st = 3) then s.wardHalted
  else if st = 3 then s.startImage s.inactiveSlot true
  else s

/-- WARD_CHECKPOINT_YIELD (R380). -/
def execWardCheckpointYield : State → Host.Outcome State Fault Refusal := coreCmd wardCheckpointYield

/-- WARD_CKPT_TIMEOUT: CKPT_US µs without a yield: a HALT stops the image, or the switch is cancelled with CAUSE 8. -/
def wardCkptTimeout (s : State) : State :=
  let st := s.wardState
  if s.core.ward.halting ∧ (st = 2 ∨ st = 3) then s.wardHalted
  else if st = 3 then (s.wardCause 8).setWard 2
  else s

/-- WARD_CKPT_TIMEOUT (R380). -/
def execWardCkptTimeout : State → Host.Outcome State Fault Refusal := coreCmd wardCkptTimeout

/-- WARD_HEARTBEAT_MISS: no heartbeat for 1 ms in UP. -/
def wardHeartbeatMiss (s : State) : State :=
  if s.wardState = 2 then ((s.wr R.WARD_STATUS_WDOG 1).wardCause 10).wardHalted else s

/-- WARD_HEARTBEAT_MISS (R380). -/
def execWardHeartbeatMiss : State → Host.Outcome State Fault Refusal := coreCmd wardHeartbeatMiss

/-! ## Policy writes (R29, R383) -/

/-- Fields of a word policy firmware may write (R383). -/
def policyFields (b : Build) (a : Nat) : List Fld :=
  if 0x200000 ≤ a ∧ a < 0x400000 ∧ a % 0x8000 = 0x20 then [R.FUNC_TIMEOUT_TOUT_US ((a - 0x200000) / 0x8000)]
  else if a = 0xB0804 then [R.RATE_CURVE_DECR, R.RATE_CURVE_INCR, R.RATE_CURVE_INTERVAL, R.RATE_CURVE_CUT_GAP]
  else if a = 0xB0800 then [R.RATE_CTL_MIN_RATE, R.RATE_CTL_RESP_THRESH]
  else if a = 0x120004 then [R.KEYRING_ALGO_TREE_MAX_LOG2, R.KEYRING_ALGO_RING_MIN_LOG2]
  else if a = 0x120000 then [R.KEYRING_CTL_WAIT_US]
  else if 0x10000 ≤ a ∧ a < 0x10000 + b.gates * 0x10000 then
    let g := a / 0x10000 - 1
    if a % 0x10000 = 0x44C then [R.GATE_CM_THRESH g]
    else if a % 0x10000 = 0x24 then [R.GATE_RECAL_DWELL_US g, R.GATE_RECAL_FAIL_LOG2 g, R.GATE_RECAL_SHORT_LOG2 g]
    else []
  else []

/-- The WARD_CLAMP bit that a dropped write meets. -/
def clampBit (a : Nat) : Option Fld :=
  if 0x200000 ≤ a ∧ a < 0x400000 ∧ a % 0x8000 = 0x14 then some R.WARD_CLAMP_INJ
  else if (0x200000 ≤ a ∧ a < 0x400000 ∧ a % 0x8000 = 0x18) ∨ (0x400000 ≤ a ∧ a < 0x800000 ∧ a % 0x400 = 0x1C) then some R.WARD_CLAMP_TAGS
  else if 0x200000 ≤ a ∧ a < 0x400000 ∧ a % 0x8000 = 0x24 then some R.WARD_CLAMP_TIMEOUT
  else if (0xD0200 ≤ a ∧ a < 0xD0300) ∨ (0xD0140 ≤ a ∧ a < 0xD0168) then some R.WARD_CLAMP_BOLT
  else if 0x10000 ≤ a ∧ a < 0xB0000 ∧ 0x400 ≤ a % 0x10000 ∧ a % 0x10000 < 0x414 then some R.WARD_CLAMP_CREDIT
  else none

/-- Write a policy field: a TOUT_US below MIN_US is raised to it, and WARD_CLAMP.TIMEOUT is set (R29, R386). -/
def State.policyField (s : State) (f : Fld) (v : Nat) : State :=
  if 0x200000 ≤ f.addr then
    let m := max 1 (getField (s.word false (f.addr + 4)) 0 20)
    if v < m then (s.wr f m).wr R.WARD_CLAMP_TIMEOUT 1 else s.wr f v
  else s.wr f v

/-- The word would change a writable field of its register that is no policy field, or its address holds no policy field. -/
def State.policyDenied (s : State) (a : Nat) (data : Word) : Bool :=
  let fs := policyFields s.build a
  let others := (rowFields a).filter (fun x => (x.ty == .rw || x.ty == .rws || x.ty == .rwl) && !fs.any (fun f => f.lo == x.lo))
  fs.isEmpty || others.any (fun x => getField data x.lo x.width != getField (s.word false a) x.lo x.width)

/-- WARD_POLICY_WRITE: the running image writes a register word at word address `a21`. Fields outside R383 keep their values; where the
word would change one, DENIED is set. -/
def wardPolicyWrite (a21 : BitVec 21) (data : Word) (s : State) : State :=
  let a := 4 * a21.toNat
  if s.wardState = 0 ∨ s.wardState = 4 then s
  else
    let s1 := (policyFields s.build a).foldl (fun s f => s.policyField f (getField data f.lo f.width)) s
    if s.policyDenied a data then
      let s2 := s1.wr R.WARD_STATUS_DENIED 1
      match clampBit a with
      | some f => s2.wr f 1
      | none => s2
    else s1

/-- WARD_POLICY_WRITE (R383). -/
def execWardPolicyWrite (a : BitVec 21) (data : Word) : State → Host.Outcome State Fault Refusal := coreCmd (wardPolicyWrite a data)

/-! ## The driver's service (R384) -/

/-- WARD_SVC_CMD JQUERY: the request is captured and posted; ignored while BUSY. -/
def jquery (s : State) : State :=
  if s.on R.WARD_SVC_STATUS_BUSY then s
  else
    let jid := s.rd R.WARD_SVC_JID_LO_JID + s.rd R.WARD_SVC_JID_HI_JID * 2 ^ 32
    (({ s with core.ward.svc := (jid, s.rd R.WARD_SVC_NODE_NODE), core.ward.svcTries := 0 }).wr R.WARD_SVC_STATUS_BUSY 1).workItem .service

/-- JQUERY (R384). -/
def execJquery : State → Host.Outcome State Fault Refusal := coreCmd jquery

end Sys2Proof.Machine
end

