-- ==== Sys2Proof/Machine/Errors.lean ====
section
/-! DEFINITION. The error log (R400-R402, R406), errors of the block's SRAMs (R397, R398) and self-tests (R403-R405). -/

namespace Sys2Proof.Machine

/-! ## The error log (R400, R401, R406) -/

/-- LOG2 of the ring. -/
def State.errLog2 (s : State) : Nat := let l := s.rd R.ERRLOG_SIZE_LOG2; if l < 6 ∨ l > 16 then 6 else l

/-- The 32 bytes of an error record at ring count `n` (R400). -/
def State.errBytes (s : State) (n : Nat) (r : ErrRec) : Bytes :=
  let phase := b2n (n / 2 ^ s.errLog2 % 2 = 0)
  toLE 32 (pack [(0, 8, r.cls), (8, 8, r.status), (16, 1, phase), (17, 1, b2n (r.cls == 7)), (24, 4, r.port), (32, 16, r.detail),
    (48, 6, r.func.getD 0), (54, 1, b2n r.func.isSome), (64, 12, r.queue), (76, 20, r.node), (96, 32, r.count), (128, 64, r.time), (192, 64, r.info)])

/-- A record is dropped (R401, R406). -/
def State.errDrop (s : State) : State :=
  (s.wr R.ERRLOG_STATUS_OVF 1).wr R.ERRLOG_DROPPED_COUNT (s.rd R.ERRLOG_DROPPED_COUNT + 1)

/-- Write the next record that is due, or drop it: while a record is being written, or WRITE_ERR stands, it waits. -/
def State.errlogStep (s : State) : State :=
  match s.core.err.due with
  | [] => s
  | r :: t =>
    if s.core.err.writing ∨ s.on R.ERRLOG_STATUS_WRITE_ERR then s
    else
      let n := s.rd R.ERRLOG_TAIL_COUNT
      let s' := { s with core.err.due := t }
      if ¬ s.on R.ERRLOG_CTL_ENABLE ∨ subMod 32 n (s.rd R.ERRLOG_HEAD_COUNT) ≥ 2 ^ s.errLog2 then (s'.errDrop).post .errlog
      else
        let pa := s.rd R.ERRLOG_BASE_LO_BASE * 4096 + s.rd R.ERRLOG_BASE_HI_BASE * 2 ^ 32 + n % 2 ^ s.errLog2 * 32
        ({ s' with core.err.writing := true }).physJob 0 pa 32 (s.rd R.ERRLOG_BASE_HI_KEY_SEL) .write (s.errBytes n r) 5 .errRecord

/-- A record has been written, or could not be (R395). -/
def State.errDone (s : State) (r : JobResult) : State :=
  let s := { s with core.err.writing := false }
  (if r.fail.isSome then s.wr R.ERRLOG_STATUS_WRITE_ERR 1 else s.wr R.ERRLOG_TAIL_COUNT (s.rd R.ERRLOG_TAIL_COUNT + 1)).post .errlog

/-- ERRLOG_COALESCE_EXPIRE: COALESCE_US have passed since the first occurrence of the oldest pending record. -/
def errlogCoalesceExpire (s : State) : State :=
  match s.core.err.merging with
  | [] => s
  | r :: t => ({ s with core.err.merging := t, core.err.due := s.core.err.due ++ [r] }).post .errlog

/-- ERRLOG_COALESCE_EXPIRE (R401). -/
def execErrlogCoalesceExpire : State → Host.Outcome State Fault Refusal := coreCmd errlogCoalesceExpire

/-! ## SRAM errors (R397, R398) -/

/-- CORRECTED_SRAM_ERROR: counted. -/
def correctedSramError (s : State) : State := s.count blockSlot 0

/-- CORRECTED_SRAM_ERROR (R397). -/
def execCorrectedSramError : State → Host.Outcome State Fault Refusal := coreCmd correctedSramError

/-- FATAL_UNIT of a store whose state cannot be rebuilt (R397, R406). -/
def fatalUnit (st : SramStore) : Option Nat :=
  match st with
  | .windowTable => some 1
  | .tagTable => some 2
  | .rangeTracker => some 3
  | .latchTable => some 4
  | .boltReservation => some 5
  | .codeTable => some 6
  | .groupState => some 7
  | .rxVc => none
  | .landing => none
  | .staging => none
  | .holdSlot => none
  | .tumbler => none
  | .pintleSlot => none
  | .xlateCache => none
  | .walkCache => none
  | .keyringCache => none
  | .rateCache => none
  | .wardMem => none

/-- A FATAL error (R398). -/
def State.fatalError (s : State) (unit idx : Nat) : State :=
  ((s.wr R.ERRLOG_STATUS_FATAL 1).wr R.ERRLOG_STATUS_FATAL_UNIT unit).logErr 7 0 0 15 none 0 0 (unit + idx * 2 ^ 8)

/-- An uncorrectable error that costs one entry (R397): its record of CLASS 6, whose store number the spec does not give. -/
def State.internalError (s : State) (idx : Nat) : State :=
  let (v, s) := s.draw
  s.logErr 6 0 0 15 none 0 0 (v % 2 ^ 8 + idx * 2 ^ 8)

/-- Remove element `i` of a list. -/
def dropAt {α : Type} (l : List α) (i : Nat) : List α := l.take i ++ l.drop (i + 1)

/-- The packet of a receive buffer that holds the word is discarded: those queued for an output, then those a local unit has not taken. -/
def State.loseRx (s : State) (idx : Nat) : State :=
  let q := s.core.router.queued.filter (fun o => decide (o.inPort < 10))
  let i := s.core.resp.inbox.filter (fun i => decide (i.port < 10))
  match q[idx]? with
  | some o => { s with core.router.queued := s.core.router.queued.erase o }
  | none => match i[idx - q.length]? with
    | some k => if q.length ≤ idx then { s with core.resp.inbox := s.core.resp.inbox.erase k } else s
    | none => s

/-- The packets in the landing store: group and place. -/
def State.landedList (s : State) : List (Nat × Nat) :=
  s.core.col.groups.flatMap (fun (g, x) => match x.coll with
    | some c => (List.range c.landed.length).map (fun i => (g, i))
    | none => [])

/-- A packet of the landing store is discarded. -/
def State.loseLanded (s : State) (idx : Nat) : State :=
  match s.landedList[idx]? with
  | none => s
  | some (g, i) => s.modColl g (fun c => match c.landed[i]? with
      | some l => ({ c with landed := dropAt c.landed i }).ungrant l.src
      | none => c)

/-- A COPY's staged packet is discarded; its request ends by timeout. -/
def State.loseStaged (s : State) (idx : Nat) : State :=
  match (s.core.rq.reqs.filter (fun x => x.2.staged && x.2.kind == .copyWrite))[idx]? with
  | some (t, r) => s.setReq t { r with staged := false, payload := [], state := if r.state = .ready then .sent else r.state }
  | none => s

/-- A Pintle flit is discarded. -/
def State.losePintle (s : State) (idx : Nat) : State :=
  match (s.core.col.groups.flatMap (fun (g, x) => (List.range x.pflits.length).map (fun i => (g, i))))[idx]? with
  | some (g, i) => s.modGroup g (fun x => { x with pflits := dropAt x.pflits i })
  | none => s

/-- The blocks of collectives that Tumbler expanders hold: group and delivery. -/
def State.colBlocks (s : State) : List (Nat × Nat × Delivery) :=
  s.core.col.groups.flatMap (fun (g, x) => match x.coll with
    | some c => (c.deliv.filter (fun e => e.2.unit.isSome)).map (fun e => (g, e.1, e.2))
    | none => [])

/-- A block of a collective is discarded: its room is free, and its chunk is never delivered, so the progress timeout ends it (R171, R397). -/
def State.loseDelivery (s : State) (idx : Nat) : State :=
  match s.colBlocks[idx]? with
  | none => s
  | some (g, id, e) =>
    let s := (s.dropJobs (fun j => j.purpose == .colResult g id)).dropRef? e.tref
    s.modColl g (fun c =>
      let c := { c with deliv := SMap.put c.deliv id { e with writes := 0, tref := none, unit := none } }
      match e.src with
      | some m => c.ungrant m
      | none => c)

/-- A Tumbler entry's block is discarded, of a PUT first: its access ends without a response. -/
def State.loseBlock (s : State) (idx : Nat) : State :=
  let xs := s.core.resp.arrivals.filter (fun a => a.2.la.isNone && a.2.pkt.cls != 5 && a.2.pkt.type == 5)
  match xs[idx]? with
  | some (id, a) =>
    (s.dropJobs (fun j => match j.purpose with
      | .arrCheck n => n == id
      | .arrAccess n => n == id
      | _ => false)).arrFinish id a
  | none => s.loseDelivery (idx - xs.length)

/-- An entry of the keyring cache is read again from the member list (R151). -/
def State.refetchKey (s : State) (idx : Nat) : State :=
  match (s.core.col.groups.flatMap (fun (g, x) => x.cache.map (fun e => (g, e.1))))[idx]? with
  | some (g, m) => match s.group? g with
    | some x => s.virtJob 0 ((x.listVa + 4 * m) % 2 ^ 64) 4 .read [] 5 0 (.keyFetch g m)
    | none => s
  | none => s

/-- The member-list entry has been read again; a failed read faults the epoch with reason TABLE (R151). -/
def State.keyFetched (s : State) (g m : Nat) (r : JobResult) : State :=
  if r.fail.isSome then s.collFault g 0x067 noChunk s.self
  else s.modGroup g (fun x => { x with cache := SMap.put x.cache m (leAt r.data 0 4 % 2 ^ 20, leAt r.data 0 4 / 2 ^ 20) })

/-- SRAM_UNCORRECTABLE: the effect by the store that holds the word; `idx` names its entry (log entry 7). -/
def sramUncorrectable (st : SramStore) (idx : BitVec 18) (s : State) : State :=
  let i := idx.toNat
  let s := s.count blockSlot 1
  match fatalUnit st with
  | some u => s.fatalError u i
  | none =>
    let s := s.internalError i
    match st with
    | .rxVc => s.loseRx i
    | .landing => s.loseLanded i
    | .staging => s.loseStaged i
    | .holdSlot => { s with core.resp.holds := SMap.del s.core.resp.holds i }
    | .tumbler => s.loseBlock i
    | .pintleSlot => s.losePintle i
    | .xlateCache => { s with core.xl.leaves := dropAt s.core.xl.leaves i }
    | .walkCache => { s with core.xl.ptrs := dropAt s.core.xl.ptrs i }
    | .keyringCache => s.refetchKey i
    | .rateCache => { s with core.rq.rates := dropAt s.core.rq.rates i }
    | .wardMem => (s.wardCause 11).wardHalted
    | _ => s

/-- SRAM_UNCORRECTABLE (R397). -/
def execSramUncorrectable (st : SramStore) (idx : BitVec 18) : State → Host.Outcome State Fault Refusal := coreCmd (sramUncorrectable st idx)

/-! ## Self-tests (R403-R405) -/

/-- GLOBAL_ST_STATUS.STATE. -/
def State.stState (s : State) : Nat := s.rd R.GLOBAL_ST_STATUS_STATE

/-- A test ends with a CODE and ST_INFO; its target is released. -/
def State.stEnd (s : State) (code info : Nat) : State :=
  let t := s.aon.selfTest
  let was := s.stState
  let s := ((s.wr R.GLOBAL_ST_STATUS_STATE 3).wr R.GLOBAL_ST_STATUS_CODE code).wr R.GLOBAL_ST_INFO_DATA info
  if was = 2 ∧ t.kind = 0 then s.tryTrain t.target else s

/-- The test names a port or a lane that the block does not have, or no test (R404, R405). -/
def State.stAbsent (s : State) (t : SelfTest) : Bool :=
  if t.kind = 0 then !s.portPresent t.target
  else if t.kind = 1 then false
  else if t.kind = 2 then !(decide (t.target < 8) && s.portPresent t.target && decide (t.lane < 9))
  else true

/-- A Knuckle unit has a pass in progress (R24, R201). -/
def State.knuckleBusy (s : State) (unit : Nat) : Bool := !(s.unitPasses unit).isEmpty

/-- The condition of a test (R403). -/
def State.stReady (s : State) (t : SelfTest) : Bool :=
  !s.off && (if t.kind = 0 then s.portState t.target == 0 && (decide (t.target ≥ 8) || (s.tumblerHeld t.target == 0 && !s.knuckleBusy t.target))
    else if t.kind = 1 then s.funcState t.target == 0 && s.on (R.XLATE_ROOT_LO_VALID t.target)
    else s.portState t.target == 6 && s.on (R.GATE_CTL_ROTATE t.target) && s.rd (R.GATE_LANES_RX_SPARE t.target) != 15)

/-- The pattern of a buffer's line: the spec gives none. -/
def stPattern (line : Nat) : Bytes := toLE 128 (Config.testPattern line).toNat

/-- Go on with FUNC_PATH: every line is written, then every line is read back. -/
def State.stLine (s : State) : State :=
  let t := s.aon.selfTest
  let va := (t.buf + t.pos) % 2 ^ 64
  if t.reading then s.virtJob t.target va 128 .read [] 5 0 .selfTest
  else s.virtJob t.target va 128 .write (stPattern (t.pos / 128)) 5 0 .selfTest

/-- Start a test whose condition holds. -/
def State.stStart (s : State) : State :=
  let s := s.wr R.GLOBAL_ST_STATUS_STATE 2
  if s.aon.selfTest.kind = 1 then
    (if s.aon.selfTest.len = 0 then { s with aon.selfTest.result := some (0, 0) } else s.stLine)
  else if s.aon.selfTest.kind = 2 then s.recalSeen s.aon.selfTest.target (s.rd (R.GATE_LANES_RX_SPARE s.aon.selfTest.target))
  else s

/-- A line of FUNC_PATH has been written or read back (R404). -/
def State.stLineDone (s : State) (r : JobResult) : State :=
  let t := s.aon.selfTest
  if s.stState ≠ 2 ∨ t.kind ≠ 1 ∨ t.result.isSome then s
  else
    let done (c : Nat) : State := { s with aon.selfTest.result := some (c, if c = 0 then 0 else t.pos) }
    match r.fail with
    | some (.xlate _) => done 0x06
    | some (.msp _) => done 0x0F
    | none =>
      if t.reading ∧ r.data ≠ stPattern (t.pos / 128) then done 0x08
      else if t.pos + 128 < t.len then ({ s with aon.selfTest.pos := t.pos + 128 }).stLine
      else if t.reading then done 0
      else ({ s with aon.selfTest.pos := 0, aon.selfTest.reading := true }).stLine

/-- GLOBAL_ST_CMD REQUEST: the test is captured (R481) and starts, waits for its condition, or ends with FEATURE. -/
def stRequest (s : State) : State :=
  if ¬ s.aonUp then s
  else if s.stState = 1 ∨ s.stState = 2 then s.wr R.GLOBAL_ST_STATUS_CMD_ERR 1
  else
    let buf := s.rd R.GLOBAL_ST_BUF_LO_BASE * 4096 + s.rd R.GLOBAL_ST_BUF_HI_BASE * 2 ^ 32
    let t : SelfTest := ⟨s.rd R.GLOBAL_ST_ARG_KIND, s.rd R.GLOBAL_ST_ARG_TARGET, s.rd R.GLOBAL_ST_ARG_LANE, buf,
      roundUp (s.rd R.GLOBAL_ST_LEN_KIB) 4 * 1024, 0, false, none⟩
    let s := { s with aon.selfTest := t }
    if s.stAbsent t then s.stEnd 0x13 0
    else if s.stReady t then s.stStart
    else (s.wr R.GLOBAL_ST_STATUS_STATE 1).wr R.GLOBAL_ST_STATUS_CODE 0x15

/-- ST_REQUEST (R403). -/
def execStRequest : State → Host.Outcome State Fault Refusal := aonCmd stRequest

/-- GLOBAL_ST_CMD CANCEL: a test that waits or runs ends with ABORTED. -/
def stCancel (s : State) : State :=
  if s.aonUp ∧ (s.stState = 1 ∨ s.stState = 2) then (s.dropJobs (fun j => j.purpose == .selfTest)).stEnd 0x12 0 else s

/-- ST_CANCEL (R404). -/
def execStCancel : State → Host.Outcome State Fault Refusal := aonCmd stCancel

/-- ST_DEFERRED_START: the condition of the deferred test holds. -/
def stDeferredStart (s : State) : State := if s.stState = 1 ∧ s.stReady s.aon.selfTest then s.stStart else s

/-- ST_DEFERRED_START (R403). -/
def execStDeferredStart : State → Host.Outcome State Fault Refusal := coreCmd stDeferredStart

/-- The result of PORT_BIST updates the port's bit of GLOBAL_BIST (R404). -/
def State.portBist (s : State) (p : Nat) (fail : Bool) : State :=
  s.wr ⟨R.GLOBAL_BIST_GATE_FAIL.addr, p, 1, true⟩ (b2n fail)

/-- ST_DONE: the running test ends. `fail` and `idx` are what the BIST of a port's SRAMs found: whether one failed, and its index; FUNC_PATH and
LANE_RECAL end with what the block itself has seen; a LANE_RECAL whose lane has not become the spare goes on. -/
def stDone (fail : Bool) (idx : Word) (s : State) : State :=
  let t := s.aon.selfTest
  if s.stState ≠ 2 then s
  else if t.kind = 0 then (s.portBist t.target fail).stEnd (if fail then 0x08 else 0) (if fail then idx.toNat else 0)
  else if t.kind = 1 then match t.result with
    | some (c, i) => s.stEnd c i
    | none => s
  else if ¬ s.on (R.GATE_LANE_RX_OK t.target t.lane) then s.stEnd 0x08 (s.rd (R.GATE_LANE_RX_SER_EXP t.target t.lane))
  else if t.reading then s.stEnd 0 (s.rd (R.GATE_LANE_RX_SER_EXP t.target t.lane))
  else s

/-- ST_DONE (R404). -/
def execStDone (fail : Bool) (idx : Word) : State → Host.Outcome State Fault Refusal := coreCmd (stDone fail idx)

end Sys2Proof.Machine
end

