-- ==== Sys2Proof/Machine/Observe.lean ====
section
/-! DEFINITION. Counter dumps and tenant views (R410-R413), the trace ring (R414-R419) and Keyhole snapshots (R420-R422). -/

namespace Sys2Proof.Machine

/-! ## Reading a counter (R410) -/

/-- Slot of a group and instance of R409; none where the group has no such instance. -/
def counterSlot (group inst : Nat) : Option Nat :=
  if group = 0 then (if inst < 10 then some inst else none)
  else if group = 1 then some (funcSlot inst)
  else if group = 2 then (if inst < 8 then some (unitSlot inst) else none)
  else if inst = 0 then some blockSlot else none

/-- A counter. -/
def State.counter (s : State) (slot event : Nat) : Nat := SMap.getD s.core.cnt (slot * 32 + event) 0

/-- A read of CNT_VAL_LO: the selected counter's low word leaves and its high word is latched. -/
def cntValRead (s : State) : State :=
  let v := match counterSlot (s.rd R.CNT_SEL_GROUP) (s.rd R.CNT_SEL_INST) with
    | some k => s.counter k (s.rd R.CNT_SEL_EVENT)
    | none => 0
  (s.wr R.CNT_VAL_HI_COUNT (v / 2 ^ 32)).emit (.csrRead (v % 2 ^ 32))

/-- A core read while the sequencer is in OFF returns zero (R374). -/
def readOff (s : State) : State := s.emit (.csrRead 0)

/-- CNT_VAL_READ (R410). -/
def execCntValRead : State → Host.Outcome State Fault Refusal := aonCmd (fun s => if s.off then readOff s else cntValRead s)

/-- A read of TIME_NOW_LO: fabric time [31:0] leaves and [63:32] is latched (R269). -/
def timeNowRead (s : State) : State := (s.wr R.TIME_NOW_HI_COUNT (s.now / 2 ^ 32)).emit (.csrRead (s.now % 2 ^ 32))

/-- TIME_NOW_READ (R269). -/
def execTimeNowRead : State → Host.Outcome State Fault Refusal := aonCmd (fun s => if s.off then readOff s else timeNowRead s)

/-! ## Dumps (R411, R412) -/

/-- NODE of a dump or snapshot: zero while ROUTE_SELF is not valid. -/
def State.shownNode (s : State) : Nat := if s.selfValid then s.self else 0

def State.dumpBase (s : State) : Nat := s.rd R.CNT_DUMP_BASE_LO_BASE * 4096 + s.rd R.CNT_DUMP_BASE_HI_BASE * 2 ^ 32

/-- The 21,504 bytes of a dump region. -/
def Dump.bytes (d : Dump) : Bytes :=
  let num := d.num % 2 ^ 32
  toLE 0x100 (pack [(0, 32, num), (32, 32, num), (64, 64, d.time), (128, 20, d.node), (160, 2, d.marks)])
    ++ (List.range 83).flatMap (fun k => (List.range 32).flatMap (fun e => toLE 8 (SMap.getD d.shadow (k * 32 + e) 0)))

/-- Write a part of a dump: SEQ_OPEN first, then the rest, SEQ last (R411). -/
def State.dumpPart (s : State) (part : Nat) : State :=
  let b := s.core.dump.bytes
  let put (off n : Nat) : State := s.virtJob 0 ((s.dumpBase + off) % 2 ^ 64) n .write (slice b off n) 6 0 (.dump part)
  if part = 0 then put 4 4 else if part = 1 then put 8 21496 else put 0 4

/-- The capture cycle of a dump; `marks` holds AT and LATE_ARM. -/
def State.dumpCapture (s : State) (marks : Nat) : State :=
  let d : Dump := ⟨s.core.dump.num + 1, s.core.dump.instant, s.core.cnt, s.now, marks, s.shownNode, none⟩
  (({ s with core.dump := d }).wr R.CNT_STATUS_BUSY 1).dumpPart 0

/-- CNT_CMD DUMP_NOW: refused while a dump is being written. -/
def dumpNow (s : State) : State := if s.on R.CNT_STATUS_BUSY then s.wr R.CNT_STATUS_CMD_ERR 1 else s.dumpCapture 0

/-- DUMP_NOW (R411). -/
def execDumpNow : State → Host.Outcome State Fault Refusal := coreCmd dumpNow

/-- The armed dump is triggered: refused while another is being written. -/
def State.dumpFire (s : State) (late : Bool) : State :=
  let s := s.wr R.CNT_STATUS_ARMED 0
  if s.on R.CNT_STATUS_BUSY then s.wr R.CNT_STATUS_CMD_ERR 1 else s.dumpCapture (1 + 2 * b2n late)

/-- CNT_CMD DUMP_AT: refused before synchronisation and while a dump is being written; an instant that has passed fires at once. -/
def dumpAt (s : State) : State :=
  let at_ := s.rd R.CNT_AT_LO_TIME + s.rd R.CNT_AT_HI_TIME * 2 ^ 32
  if ¬ s.synced ∨ s.on R.CNT_STATUS_BUSY then s.wr R.CNT_STATUS_CMD_ERR 1
  else
    let s := { s with core.dump.instant := at_ }
    if s.now ≥ at_ then (s.wr R.CNT_STATUS_LATE_ARM 1).dumpFire true else s.wr R.CNT_STATUS_ARMED 1

/-- DUMP_AT (R412). -/
def execDumpAt : State → Host.Outcome State Fault Refusal := coreCmd dumpAt

/-- DUMP_TRIGGER: fabric time has reached the armed instant. -/
def dumpTrigger (s : State) : State :=
  if s.on R.CNT_STATUS_ARMED ∧ s.now ≥ s.core.dump.instant then s.dumpFire false else s

/-- DUMP_TRIGGER (R412). -/
def execDumpTrigger : State → Host.Outcome State Fault Refusal := coreCmd dumpTrigger

/-- A part of a dump has been written, or could not be. -/
def State.dumpPartDone (s : State) (part : Nat) (r : JobResult) : State :=
  if ¬ s.on R.CNT_STATUS_BUSY then s
  else if r.fail.isSome then { s with core.dump.ended := some false }
  else if part < 2 then s.dumpPart (part + 1)
  else { s with core.dump.ended := some true }

/-- DUMP_WRITE_DONE: the writes have ended; the dump stands, or is abandoned with FAULT. -/
def dumpWriteDone (s : State) : State :=
  match s.core.dump.ended with
  | none => s
  | some ok =>
    let s := ({ s with core.dump.ended := none, core.dump.shadow := [] }).wr R.CNT_STATUS_BUSY 0
    if ok then s.count blockSlot 16 else s.wr R.CNT_STATUS_FAULT 1

/-- DUMP_WRITE_DONE (R411). -/
def execDumpWriteDone : State → Host.Outcome State Fault Refusal := coreCmd dumpWriteDone

/-! ## Tenant views (R413) -/

/-- Events of a tenant's view (R409, column V). -/
def viewEvents : List Nat := List.range 21 ++ [27]

/-- The 256 bytes of a view; the number in SEQ and SEQ_OPEN is not given. -/
def State.viewBytes (s : State) (f num : Nat) : Bytes :=
  toLE 32 (pack [(0, 32, num), (32, 32, num), (64, 64, s.now)])
    ++ (List.range 28).flatMap (fun e => toLE 8 (if viewEvents.contains e then s.counter (funcSlot f) e else 0))

/-- Write a view. A DISABLED function's memory is not touched (R351). -/
def State.writeView (s : State) (f : Nat) : State :=
  if s.funcState f = 0 then s
  else
    let (num, s) := s.draw
    let va := s.rd (R.CNT_VIEW_BASE_LO_BASE f) * 256 + s.rd (R.CNT_VIEW_BASE_HI_BASE f) * 2 ^ 32
    s.virtJob f va 256 .write (s.viewBytes f (num % 2 ^ 32)) 6 0 (.view f)

/-- VIEW (R413). -/
def execView (f : FuncId) : State → Host.Outcome State Fault Refusal := coreCmd (fun s => s.writeView f.val)

/-- VIEW_PERIOD: PERIOD_US have passed. -/
def viewPeriod (f : FuncId) (s : State) : State :=
  if s.funcEnabled f.val && s.on (R.CNT_VIEW_CTL_VIEW_EN f.val) then s.writeView f.val else s

/-- VIEW_PERIOD (R413). -/
def execViewPeriod (f : FuncId) : State → Host.Outcome State Fault Refusal := coreCmd (viewPeriod f)

/-- A view has been written, or not: a translation failure is marked and counted. -/
def State.viewDone (s : State) (f : Nat) (r : JobResult) : State :=
  match r.fail with
  | some (.xlate _) => (s.wr (R.CNT_VIEW_CTL_FAULT f) 1).count blockSlot 14
  | _ => s

/-! ## Trace (R414-R419) -/

/-- The LOSS record of the drops since the last record. -/
def State.lossRecord (s : State) : Nat :=
  pack [(0, 8, 0xFE), (8, 4, 15), (128, 64, s.now), (192, 32, s.core.trace.drops), (224, 32, s.core.trace.dropTime / 2 ^ 16)]

/-- Write a record to the ring's next slot. -/
def State.traceWrite (s : State) (r : Nat) : State :=
  let n := s.rd R.TRACE_TAIL_COUNT
  let l := s.traceLog2
  let va := s.rd R.TRACE_BASE_LO_BASE * 4096 + s.rd R.TRACE_BASE_HI_BASE * 2 ^ 32 + n % 2 ^ l * 32
  ({ s with core.trace.writing := true }).virtJob 0 (va % 2 ^ 64) 32 .write (toLE 32 (r + b2n (n / 2 ^ l % 2 = 0) * 2 ^ 15)) 6 0 .trace

/-- The ring has a free slot. -/
def State.traceRoom (s : State) : Bool :=
  decide (subMod 32 (s.rd R.TRACE_TAIL_COUNT) (s.rd R.TRACE_HEAD_COUNT) < 2 ^ s.traceLog2)

/-- TRACE_RECORD_WRITE: the next record leaves the FIFO, after the LOSS record that is due; it is dropped when the ring is full or FAULT stands. -/
def traceRecordWrite (s : State) : State :=
  match s.core.trace.fifo with
  | [] => s
  | r :: t =>
    if s.core.trace.writing then s
    else if s.on R.TRACE_STATUS_FAULT ∨ ¬ s.traceRoom then ({ s with core.trace.fifo := t }).traceDrop
    else if s.core.trace.drops > 0 then
      let loss := s.lossRecord
      ((({ s with core.trace.drops := 0, core.trace.loss := some (s.core.trace.drops, s.core.trace.dropTime) }).wr R.TRACE_STATUS_LOSS_PEND 0).traceWrite
        loss)
    else ({ s with core.trace.fifo := t }).traceWrite r

/-- TRACE_RECORD_WRITE (R414). -/
def execTraceRecordWrite : State → Host.Outcome State Fault Refusal := coreCmd traceRecordWrite

/-- A record's write has failed: it is dropped, but a LOSS record is due again, and is itself no drop (R419). -/
def State.traceLost (s : State) : State :=
  match s.core.trace.loss with
  | some (n, time) =>
    ({ s with core.trace.loss := none, core.trace.drops := s.core.trace.drops + n, core.trace.dropTime := time }).wr R.TRACE_STATUS_LOSS_PEND 1
  | none => s.traceDrop

/-- A trace record has been written, or not (R419). -/
def State.traceDone (s : State) (r : JobResult) : State :=
  let s := { s with core.trace.writing := false }
  match r.fail with
  | none => (({ s with core.trace.loss := none }).wr R.TRACE_TAIL_COUNT (s.rd R.TRACE_TAIL_COUNT + 1)).count blockSlot 12
  | some (.msp _) => s.traceLost
  | some (.xlate _) =>
    let s := (s.wr R.TRACE_STATUS_FAULT 1).traceLost
    iterate State.traceDrop s.core.trace.fifo.length { s with core.trace.fifo := [] }

/-! ## Keyhole snapshots (R420-R422) -/

/-- KH_STATUS.STATE. -/
def State.khState (s : State) : Nat := s.rd R.KH_STATUS_STATE

/-- Bytes of an entry from its fields. -/
def entry (n : Nat) (fs : List (Nat × Nat × Nat)) : Bytes := toLE n (pack fs)

/-- Hold on a queue's next descriptor with COUNTER, HOLD_VAL and HOLD_CUR (R422). -/
def State.khHold (s : State) (q : Nat) : Nat × Nat × Nat × Nat :=
  let x := s.qs q
  let op? := x.hold.bind s.op?
  match op? with
  | some o =>
    if dOpcode o.desc = 0x08 then
      (5, dWaitCounter o.desc, dThreshold o.desc, match s.counterOf o.func (dWaitCounter o.desc) with
        | some i => s.sig i
        | none => 0)
    else (6, 0, o.waitsFor.length, 0)
  | none => match x.head with
    | none => (0, 0, 0, 0)
    | some h =>
      let d := h.desc
      let need := slotsNeeded d
      let rs := descRanges (s.qMembers q) d
      if h.probed = 0 ∧ s.cqFree q < need then (4, 0, 0, 0)
      else if dNb d && !(h.nbOk || s.nbReached (dNotBefore d)) then (3, 0, dNotBefore d, s.now / 2 ^ 12 % 2 ^ 32)
      else if rs.any (fun r => x.ranges.any (r.conflicts ·)) then (1, 0, 0, 0)
      else if x.ranges.length + rs.length > 64 then (2, 0, 0, 0)
      else if dOpcode d = 0x20 ∧ (s.allocTag q (s.qFunc q)).isNone then (7, 0, 0, 0)
      else (0, 0, 0, 0)

/-- Entry of a queue. -/
def State.khQueue (s : State) (q : Nat) : Bytes :=
  let (hold, ctr, val, cur) := s.khHold q
  entry 48 [(0, 32, s.rd (R.QUEUE_SQ_HEAD_COUNT q)), (32, 32, s.rd (R.QUEUE_SQ_TAIL_COUNT q)), (64, 32, s.rd (R.QUEUE_CQ_TAIL_COUNT q)),
    (96, 32, s.rd (R.QUEUE_CQ_HEAD_COUNT q)), (128, 2, s.qState q), (130, 3, hold), (133, 7, (s.qs q).ranges.length), (140, 18, s.queueTags q),
    (160, 16, s.rd (R.QUEUE_SQ_HEAD_COUNT q) % 2 ^ s.rd (R.QUEUE_SQ_SIZE_LOG2 q)), (176, 16, ctr), (192, 64, val), (256, 64, cur)]

/-- Flits a port's BLT share holds. -/
def State.bltHeld (s : State) (p : Nat) : Nat :=
  (s.circuits.map (fun x => if x.2.inPort = p then (x.2.buf.map (fun b => b.2.2.flits)).sum else 0)).sum

/-- Entry of a port. -/
def State.khPort (s : State) (p : Nat) : Bytes :=
  let wait := ((s.core.router.queued.filter (fun o => o.port == p && o.entry)).map (·.wait)).foldl max 0
  entry 64 ([(0, 4, s.portState p), (4, 4, s.rd (R.GATE_STATUS_CAUSE p))]
    ++ (List.range 5).flatMap (fun c => [(32 + 32 * c, 16, s.credits p c), (48 + 32 * c, 16, s.vcHeld p c)])
    ++ [(192, 16, s.bltHeld p), (224, 32, wait)])

/-- What the running collective of a group shows: chunk, node waited for, STAGE, time waited in ns, grants toward the next peer. -/
def State.khColl (s : State) (x : Group) (c : Coll) (o : Op) : Nat × Nat × Nat × Nat × Nat :=
  if c.phase ≠ .data ∨ (dOpcode o.desc ≠ 0x10 ∧ dOpcode o.desc ≠ 0x11) then (0, ((awaited x c o).map (·.1)).getD 0, 0, 0, 0)
  else
    let chunk := x.chunkAt c o.desc
    let act := x.act? c (x.shape o.desc)
    let stage := (act.map (·.stage)).getD 0
    let peer := match c.outq.head? with
      | some e => some e.peer
      | none => act.bind (fun a => a.tos.head?)
    let node := match x.missing c o.desc, s.colNext x c o.desc with
      | some m, _ => x.node m
      | none, .wait => if c.outq ≠ [] then (peer.map x.node).getD 0 else 0
      | none, _ => 0
    let ns := match (x.lateKey c o.desc).bind (SMap.get? c.late) with
      | some (t, _) => min (2 ^ 32 - 1) ((s.now - t) / 64)
      | none => 0
    (chunk, node, stage, ns, (peer.map (x.credit c)).getD 0)

/-- Entry of an active group. -/
def State.khGroup (s : State) (x : Group) : Bytes :=
  let (seq, chunk, node, stage, ns, grants) := match x.coll.bind (fun c => (s.op? c.op).map (fun o => (c, o))) with
    | some (c, o) => (c.seq, s.khColl x c o)
    | none => (0, 0, 0, 0, 0, 0)
  entry 32 [(0, 32, x.epoch), (32, 3, x.state), (35, 4, x.run), (40, 16, seq), (64, 32, chunk), (96, 20, node), (116, 2, stage), (128, 32, ns),
    (160, 16, grants), (176, 2, x.pstate)]

/-- Flits in a function's injection bucket (R345). -/
def State.injTokens (s : State) (f : Nat) : Nat :=
  let cap := max 18 (max 1 (s.rd (R.FUNC_INJ_FLITS_PER_US f))) * s.core.time.khz
  if s.core.time.khz = 0 then 0 else (cap - SMap.getD s.core.rq.inj f 0) / s.core.time.khz

/-- Packets of a function that its rate entries hold now. -/
def State.rateHeldNow (s : State) (f : Nat) : Nat :=
  (s.core.rq.reqs.filter (fun x => x.2.func == f && x.2.state == .ready && !s.rateOk f x.2.node x.2.cost)).length

/-- Entry of a function. -/
def State.khFunc (s : State) (f : Nat) : Bytes :=
  entry 16 [(0, 2, s.funcState f), (2, 19, s.funcTags f), (32, 32, s.injTokens f), (64, 32, s.rateHeldNow f)]

/-- Entries kept of a capture: those that are not all zero. -/
def keepEntry (m : SMap Bytes) (off : Nat) (b : Bytes) : SMap Bytes := if b.all (· == 0) then m else SMap.put m off b

/-- The header, but for LAST. -/
def State.khHeader (s : State) (at_ : Nat) (late : Bool) : Bytes :=
  let num := s.core.kh.seq
  entry 256 [(0, 32, num), (32, 32, num), (64, 64, at_), (128, 64, s.now), (256, 20, s.self), (276, 2, s.rd R.TIME_STATUS_STATE),
    (278, 2, s.rd R.ROUTE_STATUS_STATE), (280, 1, b2n late), (288, 16, s.rd R.ROUTE_STATUS_EPOCH)]

/-- The trigger cycle: the header, the functions and the ports are captured, and with WITH_COUNTERS a dump, which is skipped while one
is being written (R420, R421). -/
def State.khFire (s : State) (at_ : Nat) (late : Bool) : State :=
  let s := { s with core.kh.seq := s.core.kh.seq + 1 }
  let s := (s.wr R.KH_STATUS_SEQ s.core.kh.seq).wr R.KH_STATUS_STATE 2
  let s := if s.on R.TRACE_CTL_ENABLE then s.traceTake (pack [(0, 8, 0xFF), (8, 4, 15), (128, 64, s.now), (192, 64, s.core.kh.seq)]) else s
  let s := if ¬ s.on R.KH_CTL_WITH_COUNTERS then s
    else if s.on R.CNT_STATUS_BUSY then s.wr R.KH_STATUS_CNT_SKIPPED 1 else s.dumpCapture 0
  let m := keepEntry [] 0 (s.khHeader at_ late)
  let m := (List.range 64).foldl (fun m f => keepEntry m (0x50380 + f * 16) (s.khFunc f)) m
  let m := (List.range 10).foldl (fun m p => keepEntry m (0x30100 + p * 64) (s.khPort p)) m
  { s with core.kh.ents := m, core.kh.pos := 0, core.kh.ended := none }

/-- The unit accepts no command now. -/
def State.khBusy (s : State) : Bool := s.khState == 2 || s.khState == 3

/-- KH_CMD ARM: KH_AT is captured; refused before synchronisation and while a snapshot is taken; an instant that has passed fires at once. -/
def khArm (s : State) : State :=
  let at_ := s.rd R.KH_AT_LO_TIME + s.rd R.KH_AT_HI_TIME * 2 ^ 32
  if s.khBusy ∨ ¬ s.synced then s.wr R.KH_STATUS_CMD_ERR 1
  else
    let s := { s with core.kh.instant := at_ }
    if s.now ≥ at_ then (s.wr R.KH_STATUS_LATE_ARM 1).khFire at_ true else s.wr R.KH_STATUS_STATE 1

/-- KH_ARM (R421). -/
def execKhArm : State → Host.Outcome State Fault Refusal := coreCmd khArm

/-- KH_CMD DISARM. -/
def khDisarm (s : State) : State :=
  if s.khBusy then s.wr R.KH_STATUS_CMD_ERR 1 else if s.khState = 1 then s.wr R.KH_STATUS_STATE 0 else s

/-- KH_DISARM (R421). -/
def execKhDisarm : State → Host.Outcome State Fault Refusal := coreCmd khDisarm

/-- KH_CMD NOW: AT is the trigger cycle's time. -/
def khNow (s : State) : State := if s.khBusy then s.wr R.KH_STATUS_CMD_ERR 1 else s.khFire s.now false

/-- KH_NOW (R421). -/
def execKhNow : State → Host.Outcome State Fault Refusal := coreCmd khNow

/-- KH_TRIGGER: fabric time has reached KH_AT. -/
def khTrigger (s : State) : State := if s.khState = 1 ∧ s.now ≥ s.core.kh.instant then s.khFire s.core.kh.instant false else s

/-- KH_TRIGGER (R412). -/
def execKhTrigger : State → Host.Outcome State Fault Refusal := coreCmd khTrigger

def State.khBase (s : State) : Nat := s.rd R.KH_BASE_LO_BASE * 4096 + s.rd R.KH_BASE_HI_BASE * 2 ^ 32

/-- The bytes of a snapshot from `off`, `n` of them: zeros where no entry is kept. -/
def snapBytes (m : SMap Bytes) (off n : Nat) : Bytes :=
  m.foldl (fun b (o, e) =>
    if o + e.length ≤ off ∨ off + n ≤ o then b
    else
      let lo := max o off
      let hi := min (o + e.length) (off + n)
      b.take (lo - off) ++ slice e (lo - o) (hi - lo) ++ b.drop (hi - off)) (List.replicate n 0)

/-- Write the next piece of a snapshot: SEQ_OPEN, the body up to each 512-byte boundary, SEQ. `pos` counts the bytes of the region that are
over; the first four bytes come last. -/
def State.khPart (s : State) : State :=
  let k := s.core.kh
  let put (off n : Nat) : State := s.virtJob 0 ((s.khBase + off) % 2 ^ 64) n .write (snapBytes k.ents off n) 6 0 .keyhole
  if k.pos = 0 then put 4 4
  else if k.pos < 329600 then put k.pos (min (512 - k.pos % 512) (329600 - k.pos))
  else put 0 4

/-- KH_CAPTURE_DONE: queues and groups are captured, LAST is this cycle's time, and writing begins. -/
def khCaptureDone (s : State) : State :=
  if s.khState ≠ 2 then s
  else
    let m := s.core.kh.ents
    let h := SMap.getD m 0 (List.replicate 256 0)
    let m := keepEntry m 0 (h.take 24 ++ toLE 8 s.now ++ h.drop 32)
    let m := s.liveQueues.foldl (fun m q => keepEntry m (0x100 + q * 48) (s.khQueue q)) m
    let m := s.core.col.groups.foldl (fun m x => keepEntry m (0x30380 + x.1 * 32) (s.khGroup x.2)) m
    (({ s with core.kh.ents := m }).wr R.KH_STATUS_STATE 3).khPart

/-- KH_CAPTURE_DONE (R421). -/
def execKhCaptureDone : State → Host.Outcome State Fault Refusal := coreCmd khCaptureDone

/-- A piece of a snapshot has been written, or could not be. -/
def State.khPartDone (s : State) (r : JobResult) : State :=
  let k := s.core.kh
  if s.khState ≠ 3 ∨ k.ended.isSome then s
  else if r.fail.isSome then { s with core.kh.ended := some false }
  else if k.pos = 0 then ({ s with core.kh.pos := 8 }).khPart
  else if k.pos < 329600 then ({ s with core.kh.pos := k.pos + min (512 - k.pos % 512) (329600 - k.pos) }).khPart
  else { s with core.kh.ended := some true }

/-- KH_WRITE_DONE: the writes have ended: DONE, or FAILED. -/
def khWriteDone (s : State) : State :=
  match s.core.kh.ended with
  | none => s
  | some ok =>
    if s.khState ≠ 3 then s
    else
      let s := { s with core.kh.ended := none, core.kh.ents := [] }
      if ok then (s.wr R.KH_STATUS_STATE 4).count blockSlot 15 else s.wr R.KH_STATUS_STATE 5

/-- KH_WRITE_DONE (R421). -/
def execKhWriteDone : State → Host.Outcome State Fault Refusal := coreCmd khWriteDone

end Sys2Proof.Machine
end

