-- ==== Sys2Proof/Machine/Window.lean ====
section
/-! DEFINITION. Window operations (R108-R124), invalidation (R139-R141) and the engine signal port (R451). -/

namespace Sys2Proof.Machine

/-! ## The life of a window (R109, R116, R117, R122-R124) -/

/-- STATE of R106. -/
def WinState.code (x : WinState) : Nat :=
  match x with
  | .free => 0
  | .opened => 1
  | .aliased => 2
  | .closing => 3
  | .quarantine => 4

/-- BASE and ALIAS_HI of an entry (R106): ALIAS_TO while ALIASED, else the virtual address and zero. -/
def Window.place (w : Window) : Nat × Nat := if w.state = .aliased then (w.aliasTo % 2 ^ 64, w.aliasTo / 2 ^ 64) else (w.base, 0)

/-- The bytes of a window entry as a number (R106). In QUARANTINE and FREE it keeps what it had in CLOSING, TAG included, until the
next OPEN writes it (the model's choice, log entry 31). -/
def Window.entry (w : Window) : Nat :=
  pack [(0, 64, w.place.1), (64, 48, w.size), (112, 8, w.gen), (120, 6, w.ksel), (128, 32, w.place.2), (160, 4, w.perm), (164, 6, w.func),
    (170, 3, w.state.code), (173, 1, b2n w.sigwin), (174, 1, b2n w.aliasPend), (192, 20, w.accepted), (224, 16, w.fwdPend), (256, 64, w.tag)]

/-- The window ID at the head of the free list, and the list without it. -/
def Windows.take (w : Windows) : Option (Nat × Windows) :=
  if w.fresh < 65536 then some (w.fresh, { w with fresh := w.fresh + 1 })
  else match w.freed with
    | [] => none
    | x :: t => some (x, { w with freed := t })

/-- NO_FREE follows the free list. -/
def State.noFree (s : State) : State := s.wr R.WINDOW_STATUS_NO_FREE (b2n (s.core.win.take).isNone)

/-- The windows a function holds change by one. -/
def State.winUsed (s : State) (f : Nat) (up : Bool) : State :=
  let g (n : Nat) : Nat := if up then n + 1 else n - 1
  (s.wr (R.WINDOW_USED_COUNT f) (g (s.rd (R.WINDOW_USED_COUNT f)))).wr R.WINDOW_STATUS_IN_USE (g (s.rd R.WINDOW_STATUS_IN_USE))

/-- The operation is still in progress or its record is not committed. -/
def State.opLive (s : State) (o : Option Nat) : Bool :=
  match o with
  | some id => (s.op? id).isSome
  | none => false

/-- See whether a window's ALIAS record is due, or whether a closing window has drained; the drain event never comes before the CLOSE
record (R117, R123, R124). -/
def State.windowStep (s : State) (w : Nat) : State :=
  let x := s.win w
  if x.aliasPend ∧ x.accepted = 0 then
    let s := s.setWin w { x with aliasPend := false, op := none }
    match x.op with
    | some id => s.endOp id 0 0 0 0
    | none => s
  else if x.state = .closing ∧ x.accepted = 0 ∧ x.fwdPend = 0 ∧ ¬ s.opLive x.op then
    ((((s.setWin w { x with state := .quarantine, op := none }).winUsed x.func false).event 0x31 x.tag 0)).post (.func x.func)
  else s

/-- The head of a queue as a WINDOW_OP of a SUBOP; a SUBOP outside R64 is OPEN's to refuse. -/
def State.readyWin (s : State) (q sub : Nat) : Ready :=
  match s.ready q 0x31 (fun _ => []) with
  | .no => .no
  | .ok h => if dSubop h.desc = sub then .ok h else .no
  | .fails h r => if dSubop h.desc = sub ∨ (sub = 0 ∧ dSubop h.desc > 2) then .fails h r else .no

/-- The reason of R108 and R110 that refuses an OPEN. -/
def State.openRefusal (s : State) (f : Nat) (d : BitVec 1024) : Option Nat :=
  let p := dWinPerm d
  if dWinSize d = 0 ∨ dWinBase d + dWinSize d > 2 ^ 64 ∨ p = 0 ∨ (p > 8) ∨ (p = 8 ∧ dWinSize d % 8 ≠ 0) then some 0x033
  else if (s.core.win.take).isNone ∨ s.rd (R.WINDOW_USED_COUNT f) ≥ s.rd (R.WINDOW_QUOTA_MAX f) then some 0x031
  else none

/-- WINDOW_OP OPEN (R108-R110). TAG of the new entry is zero, since neither a CLOSE nor an ALIAS is pending, and it keeps its value after
their record (the model's choice, log entry 31). -/
def windowOpen (q : QueueId) (s : State) : State :=
  match s.readyWin q.val 0 with
  | .no => s
  | .fails h r => s.completeHead q.val h 0x05 (det 0 r)
  | .ok h =>
    if s.held q.val h [] then s
    else
      let d := h.desc
      let f := s.qFunc q.val
      let (id, s) := s.issue q.val h []
      match s.openRefusal f d, s.core.win.take with
      | some r, _ => s.endOp id 0x05 (det 3 r) 0 0
      | none, none => s
      | none, some (w, rest) =>
        let gen := (s.win w).gen % 255 + 1
        let x : Window := { Window.empty with base := dWinBase d, size := dWinSize d, gen := gen, ksel := dWinKey d, perm := dWinPerm d,
                                              func := f, state := .opened, sigwin := dWinPerm d == 8 }
        let s : State := { s with core.win := rest }
        (((s.setWin w x).noFree).winUsed f true).endOp id 0 0 (pack [(52, 8, gen), (60, 16, w), (76, 20, s.self)]) 0

/-- WINDOW_OPEN (R109). -/
def execWindowOpen (q : QueueId) : State → Host.Outcome State Fault Refusal := coreCmd (windowOpen q)

/-- The status and reason that refuse a CLOSE (R122). -/
def closeRefusal (f : Nat) (x : Window) : Option (Nat × Nat) :=
  if f ≠ 0 then some (0x05, 0x030)
  else if x.state ≠ .opened ∧ x.state ≠ .aliased then some (0x03, 0x032)
  else none

/-- WINDOW_OP CLOSE: held while the window's ALIAS record is pending (R122-R124). -/
def windowClose (q : QueueId) (s : State) : State :=
  match s.readyWin q.val 1 with
  | .no => s
  | .fails h r => s.completeHead q.val h 0x05 (det 0 r)
  | .ok h =>
    let w := dWindow h.desc
    let f := s.qFunc q.val
    if s.held q.val h [] ∨ (f = 0 ∧ (s.win w).aliasPend) then s
    else
      let (id, s) := s.issue q.val h []
      let x := s.win w
      match closeRefusal f x with
      | some (st, r) => s.endOp id st (det 3 r) 0 0
      | none =>
        let s := s.setWin w { x with state := .closing, tag := dUserTag h.desc, op := some id }
        ((s.refuseHeld w x.func).endOp id 0 0 0 0).post (.window w)

/-- WINDOW_CLOSE (R123). -/
def execWindowClose (q : QueueId) : State → Host.Outcome State Fault Refusal := coreCmd (windowClose q)

/-- The status and reason of the first row of R116 that refuses an ALIAS. -/
def State.aliasRefusal (s : State) (f : Nat) (x : Window) (target : Nat) : Option (Nat × Nat) :=
  if x.state = .quarantine ∨ x.state = .free then some (0x03, 0x032)
  else if x.func ≠ f then some (0x05, 0x030)
  else if x.state = .closing then some (0x03, 0x032)
  else if x.state = .aliased then some (0x05, 0x034)
  else if bits target 48 4 ≠ 0 ∨ ptrGen target = 0 ∨ ptrOffset target + x.size > 2 ^ 48 ∨ nodeD (ptrNode target) ≥ s.extent 3 then some (0x05, 0x033)
  else none

/-- WINDOW_OP ALIAS (R116, R117). -/
def windowAlias (q : QueueId) (s : State) : State :=
  match s.readyWin q.val 2 with
  | .no => s
  | .fails h r => s.completeHead q.val h 0x05 (det 0 r)
  | .ok h =>
    if s.held q.val h [] then s
    else
      let d := h.desc
      let w := dWindow d
      let f := s.qFunc q.val
      let (id, s) := s.issue q.val h []
      let x := s.win w
      match s.aliasRefusal f x (dAliasTo d) with
      | some (st, r) => s.endOp id st (det 3 r) 0 0
      | none =>
        (s.setWin w { x with state := .aliased, aliasPend := true, aliasTo := dAliasTo d, tag := dUserTag d, op := some id }).post (.window w)

/-- WINDOW_ALIAS (R117). -/
def execWindowAlias (q : QueueId) : State → Host.Outcome State Fault Refusal := coreCmd (windowAlias q)

/-- WINDOW_QUARANTINE_END: the ID goes to the tail of the free list (R123); the entry's other fields stay (log entry 31). -/
def windowQuarantineEnd (w : WindowId) (s : State) : State :=
  let x := s.win w.val
  if x.state ≠ .quarantine then s
  else (({ s with core.win.freed := s.core.win.freed ++ [w.val] }).setWin w.val { x with state := .free }).noFree

/-- WINDOW_QUARANTINE_END (R123). -/
def execWindowQuarantineEnd (w : WindowId) : State → Host.Outcome State Fault Refusal := coreCmd (windowQuarantineEnd w)

/-! ## XLATE_INV (R139-R141) -/

/-- The memory side holds a request that an access presented, with its translation. -/
def State.jobOut (s : State) (id : Nat) : Bool :=
  let m := s.core.mem
  m.waiting.any (·.owner == .job id) || (SMap.vals m.reads).any (·.owner == .job id) || (SMap.vals m.writes).any (·.owner == .job id)

/-- Accesses that have been dropped while the memory side holds a request of theirs. -/
def State.orphans (s : State) (of_ : Nat → Bool) : List Nat :=
  (SMap.vals s.core.mem.reads ++ SMap.vals s.core.mem.writes).filterMap (fun r => match r.owner with
    | .job id => if of_ r.func && (SMap.get? s.core.jobs id).isNone then some id else none
    | .walk _ => none)

/-- The result of a finished translation waits to be taken by its unit. -/
def State.probeDone (s : State) (p : Purpose) : Bool :=
  s.core.work.any (fun w => match w with
    | .done q _ => q == p
    | _ => false)

/-- The tag keeps the translation of a GET's destination, or the probe that made it has ended (R23, R140). -/
def State.holdsDest (s : State) (t : Nat) (r : Req) : Bool :=
  r.kind == .read && (r.state == .ready || r.state == .queued || r.state == .sent || r.state == .landing
    || (r.state == .prep && s.probeDone (.reqDest t)))

/-- The arrival holds a translation of a function: its own, F0's for a journal entry, or one that check 5 has just made. -/
def State.holdsXlate (s : State) (id : Nat) (a : Arrival) (of_ : Nat → Bool) : Bool :=
  (a.window.isSome && of_ a.func) || (a.phase.journals && a.la.isNone && of_ 0)
    || (a.phase == .check && of_ a.func && s.probeDone (.arrCheck id))

/-- The snapshot of R140: accesses with a piece at the memory side or past their first piece, and what keeps a translation. -/
def State.snapshot (s : State) (op : Nat) (of_ : Nat → Bool) : Inval where
  op := op
  jobs := (s.core.jobs.filter (fun j => of_ j.2.func && (match j.2.space with
    | .virt _ _ _ => s.jobOut j.1 || decide (j.2.pos > 0)
    | _ => false))).map (·.1) ++ s.orphans of_
  walks := (s.core.xl.walks.filter (fun w => of_ w.2.func)).map (·.1)
  tags := (s.core.rq.reqs.filter (fun r => of_ r.2.func && s.holdsDest r.1 r.2)).map (fun r => (r.1, r.2.order))
  arrs := (s.core.resp.arrivals.filter (fun a => s.holdsXlate a.1 a.2 of_)).map (·.1)

/-- Everything in a snapshot has finished. -/
def State.snapshotOver (s : State) (i : Inval) : Bool :=
  i.jobs.all (fun j => (SMap.get? s.core.jobs j).isNone && !s.jobOut j) && i.walks.all (fun w => (SMap.get? s.core.xl.walks w).isNone)
    && i.tags.all (fun t => match s.req? t.1 with
      | some r => r.order != t.2 || !s.holdsDest t.1 r
      | none => true)
    && i.arrs.all (fun a => (s.arr? a).isNone)

/-- End the invalidations whose snapshots have finished; an XLATE_INV that waits may issue. -/
def State.invalsStep (s : State) : State :=
  let gone := s.core.xl.invals.filter s.snapshotOver
  if gone.isEmpty then s
  else gone.foldl (fun s i => s.endOp i.op 0 0 0 0) { s with core.xl.invals := s.core.xl.invals.filter (fun i => !s.snapshotOver i) }

/-- XLATE_INV: at most eight are in progress (R140). -/
def xlateInv (q : QueueId) (s : State) : State :=
  match s.ready q.val 0x32 (fun _ => []) with
  | .no => s
  | .fails h r => s.completeHead q.val h 0x05 (det 0 r)
  | .ok h =>
    if s.held q.val h [] ∨ s.core.xl.invals.length ≥ 8 then s
    else
      let d := h.desc
      let of_ (f : Nat) : Bool := dExtent d == 2 || f == dInvFunc d
      let (lo, hi) := if dExtent d = 0 then (dSrc d, dSrc d + dInvLength d) else (0, 2 ^ 64)
      let (id, s) := s.issue q.val h []
      let snap := s.snapshot id of_
      let s := s.invalidate of_ lo hi
      { s with core.xl.invals := s.core.xl.invals ++ [snap] }

/-- XLATE_INV (R140). -/
def execXlateInv (q : QueueId) : State → Host.Outcome State Fault Refusal := coreCmd (xlateInv q)

/-! ## The engine signal port (R450-R452) -/

/-- ES_READ. -/
def esRead (c : CounterId) (id : BitVec 8) (s : State) : State := s.emit (.esRsp id.toNat (s.sig c.val))

/-- ES_READ (R451). -/
def execEsRead (c : CounterId) (id : BitVec 8) : State → Host.Outcome State Fault Refusal := portCmd (esRead c id)

/-- ES_WRITE: all 64 bits, SLOT_LATE included. -/
def esWrite (c : CounterId) (v : BitVec 64) (id : BitVec 8) (s : State) : State :=
  let s := s.setSig c.val v.toNat
  s.emit (.esRsp id.toNat (s.sig c.val))

/-- ES_WRITE (R451). -/
def execEsWrite (c : CounterId) (v : BitVec 64) (id : BitVec 8) : State → Host.Outcome State Fault Refusal := portCmd (esWrite c v id)

/-- ES_ADD: to COUNT modulo 2^63. -/
def esAdd (c : CounterId) (v : BitVec 64) (id : BitVec 8) (s : State) : State :=
  let s := s.addSig c.val (v.toNat % 2 ^ 63)
  s.emit (.esRsp id.toNat (s.sig c.val))

/-- ES_ADD (R451). -/
def execEsAdd (c : CounterId) (v : BitVec 64) (id : BitVec 8) : State → Host.Outcome State Fault Refusal := portCmd (esAdd c v id)

end Sys2Proof.Machine
end

