-- ==== Sys2Proof/Machine/Csr.lean ====
section
/-! DEFINITION. CSR writes to registers without a row of their own (R474-R482), and what a read of a
register returns (R476, R477). -/

namespace Sys2Proof.Machine

/-! ## Which fields exist (R342, R475) -/

/-- Fields of a hinge port's registers that R342 leaves: nothing of rate, width, FEC, lanes, sparing or stored coefficients. -/
def hingeField (o lo : Nat) : Bool :=
  if o = 0 then [0, 5, 6].contains lo
  else if o = 4 then !(List.contains [16, 17, 18, 22] lo)
  else if o = 0x0C then [0, 6, 8, 16].contains lo
  else !(decide (0x20 ≤ o) && decide (o < 0x400))

/-- The port a register of the per-port blocks, or a per-port register of another block, belongs to (R475). -/
def portOfReg (a : Nat) : Option Nat :=
  if 0x10000 ≤ a ∧ a < 0xB0000 then some (a / 0x10000 - 1)
  else if 0xB0200 ≤ a ∧ a < 0xB02A0 then some ((a - 0xB0200) / 0x10)
  else if 0xC0100 ≤ a ∧ a < 0xC0150 then some ((a - 0xC0100) / 8)
  else if 0xD0100 ≤ a ∧ a < 0xD01A8 then some ((a - 0xD0100) % 0x40 / 4)
  else if 0x130100 ≤ a ∧ a < 0x130150 then some ((a - 0x130100) / 8)
  else none

/-- The fields that an address holds in this build. -/
def csrFields (s : State) (a : Nat) : List FieldRow :=
  match portOfReg a with
  | none => rowFields a
  | some p =>
    if ¬ s.portPresent p then []
    else if a < 0xB0000 ∧ p ≥ 8 then (rowFields a).filter (fun x => hingeField (a % 0x10000) x.lo)
    else rowFields a

/-! ## Writes (R476-R480) -/

/-- Registers whose writes have rows of their own in the table. -/
def csrOwnRow (a : Nat) : Bool :=
  [0x0C, 0x40, 0x108, 0xB0008, 0xB000C, 0xC0000, 0xD0000, 0x120010, 0x140008, 0x140040, 0x150010, 0x160100].contains a
    || (decide (0x10000 ≤ a ∧ a < 0xB0000) && (a % 0x10000 == 0 || a % 0x10000 == 8))
    || decide (0xE0404 ≤ a ∧ a < 0xE0800)
    || (decide (0x200000 ≤ a ∧ a < 0x400000) && a % 0x8000 == 8)
    || (decide (0x400000 ≤ a) && a % 0x400 == 0)

/-- The condition of R480 on the stored fields of a register. -/
def csrOpen (s : State) (a : Nat) (data : Word) : Bool :=
  if 0x400000 ≤ a then s.qState ((a - 0x400000) / 0x400) == 0
  else if 0x200000 ≤ a then !([0, 0x0C, 0x10].contains (a % 0x8000)) || s.funcState ((a - 0x200000) / 0x8000) == 0
  else if 0x10000 ≤ a ∧ a < 0xB0000 then
    !(decide (0x400 ≤ a % 0x10000) && decide (a % 0x10000 < 0x414)) || !s.portReady (a / 0x10000 - 1)
  else if 0x100100 ≤ a ∧ a < 0x100900 then decide (a % 0x20 ≥ 8) || s.funcState ((a - 0x100100) / 0x20) == 0
  else if 0x150100 ≤ a ∧ a < 0x150500 then decide (a % 0x10 ≥ 8) || s.funcState ((a - 0x150100) / 0x10) == 0
  else if a = 0x120008 ∨ a = 0x12000C then s.core.col.groups.isEmpty && s.core.col.act.isNone
  else if 0xE8080 ≤ a ∧ a < 0xF0000 then !s.on (R.KNUCKLE_CHAIN_HDR_VALID ((a - 0xE8000) / 0x80))
  else if a = 0x158008 ∨ a = 0x15800C ∨ a = 0x158010 then !s.on R.ERRLOG_CTL_ENABLE
  else if a = 0x160008 ∨ a = 0x16000C ∨ a = 0x160010 then !s.on R.TRACE_CTL_ENABLE
  else if a = 0x140018 then decide (data.toNat ≥ s.rd R.WARD_MIN_SVN_SVN)
  else true

/-- The RWL fields of a register are locked (R83, R298, R476). -/
def csrLocked (s : State) (a : Nat) : Bool :=
  if a < 0x10000 then s.rd R.JOURNAL_SIZE_LOG2 != 0 else s.on R.ROUTE_SELF_VALID

/-- Write one field by its type (R476). -/
def csrField (open_ locked : Bool) (a : Nat) (data : Word) (s : State) (x : FieldRow) : State :=
  let f : Fld := ⟨a, x.lo, x.width, x.aon⟩
  let v := getField data x.lo x.width
  match x.ty with
  | .rw => if open_ then s.wr f v else s
  | .rws => if open_ then s.wr f v else s
  | .rwl => if locked then s else s.wr f v
  | .w1c => s.wr f (s.rd f - Nat.land (s.rd f) v)
  | .ro => s
  | .wo => s

/-- What a write makes the units do at once. `was` is the state before it. -/
def csrAct (was : State) (a : Nat) (data : Word) (s : State) : State :=
  if a = 0x8 then s.seqStep
  else if a = 0xB0800 then (if s.on R.RATE_CTL_ENABLE then s else { s with core.rq.rates := [] })
  else if a = 0x100000 then
    s.core.xl.waiting.foldl (fun s id => s.post (.job id)) { s with core.xl.waiting := [] }
  else if 0x100100 ≤ a ∧ a < 0x100900 ∧ a % 0x20 = 0x10 then
    (if getField data 0 1 = 1 then s.wr (R.XLATE_FAULT_INFO_COUNT ((a - 0x100100) / 0x20)) 0 else s)
  else if a = 0x158000 ∨ a = 0x158004 then s.post .errlog
  else if a = 0x160000 then
    (if s.on R.TRACE_CTL_ENABLE && !was.on R.TRACE_CTL_ENABLE then s.wr R.TRACE_STATUS_FIFO_PEAK s.core.trace.fifo.length else s)
  else if 0x200000 ≤ a ∧ a < 0x400000 ∧ a % 0x8000 = 0x18 then
    let f := (a - 0x200000) / 0x8000
    let s := (s.core.rq.ops.filter (fun o => o.2.func == f && !o.2.cutDone)).foldl (fun s o => s.post (.cut o.1)) s
    (s.liveQueues.filter (fun q => s.qFunc q == f)).foldl (fun s q => s.post (.head q)) s
  else s

/-- CSR_WRITE: each field of the register takes the word by its type. In OFF a write reaches only the fields of the AON domain (R374,
R477). -/
def csrWrite (a21 : BitVec 21) (data : Word) (s : State) : State :=
  let a := 4 * a21.toNat
  if !s.aonUp || csrOwnRow a then s
  else
    let fs := (csrFields s a).filter (fun x => x.aon || !s.off)
    if fs.isEmpty then s
    else csrAct s a data (fs.foldl (csrField (csrOpen s a data) (csrLocked s a) a data) s)

/-- CSR_WRITE (R476). -/
def execCsrWrite (a : BitVec 21) (data : Word) : State → Host.Outcome State Fault Refusal := aonCmd (csrWrite a data)

/-! ## Reads (R374, R476, R477) -/

/-- Bit `i` for each index below `n` that `f` holds for. -/
def bitsOf (n : Nat) (f : Nat → Bool) : Nat := pack ((List.range n).map (fun i => (i, 1, b2n (f i))))

/-- The 40 bytes of a window entry (R106). -/
def Window.bytes (x : Window) : Bytes := toLE 40 x.entry

/-- KEYRING_RD(i) of the selected group; zero while it is not active (R177). -/
def State.keyringRd (s : State) (i : Nat) : Nat :=
  match s.group? (s.rd R.KEYRING_SEL_GROUP) with
  | none => 0
  | some x =>
    if i = 0 then x.epoch
    else if i = 1 then pack [(0, 3, x.state), (3, 4, x.run), (7, 6, x.func), (13, 1, b2n x.wide), (14, 1, b2n x.probed), (15, 1, b2n (x.probed && x.paths.all (·.2))),
      (16, 6, x.treeMax), (22, 6, x.ringMin)]
    else if i = 2 then x.latNode
    else if i = 3 then min (2 ^ 32 - 1) x.latNs
    else if i = 4 then x.faultEpoch
    else if i = 5 then pack [(0, 12, x.faultReason), (12, 20, x.faultNode)]
    else if i = 6 then x.released
    else x.faults

/-- KEYRING_PINTLE_RD of the selected group. -/
def State.pintleRd (s : State) : Nat :=
  match s.group? (s.rd R.KEYRING_SEL_GROUP) with
  | none => 0
  | some x => pack [(0, 2, x.pstate), (2, 1, b2n x.arcs.isSome), (3, 1, b2n x.localOk), (4, 3, x.cause), (16, 9, x.slots)]

/-- BOLT_RD(i) of the selected circuit: source and transit by the outgoing port, destinations by the incoming one. -/
def State.boltRd (s : State) (i : Nat) : Nat :=
  let k := s.rd R.BOLT_SEL_PORT * 256 + s.rd R.BOLT_SEL_INDEX
  match (s.circuit? k).orElse (fun _ => s.circuit? (4096 + k)) with
  | none => 0
  | some c =>
    if i = 0 then pack [(0, 3, c.state), (3, 2, c.role), (5, 1, c.kind), (6, 6, c.func), (12, 4, c.adv)]
    else if i = 1 then if c.role = 2 then c.src else c.dest
    else if i = 2 then pack [(0, 10, c.start), (10, 4, c.stride), (16, 8, c.pkts)]
    else c.slip

/-- Journal entries not yet reclaimable (R83, R87). -/
def State.journalUsed (s : State) : Nat :=
  (s.core.resp.journal.filter (fun e => decide (s.now < e.time * 2 ^ 8 + 5 * e.tout * usLsb + 1024))).length

/-- What a word shows beside its stored fields: counts and levels that follow the units' state; no stored field overlaps them. -/
def State.shown (s : State) (a : Nat) : Nat :=
  if 0x70 ≤ a ∧ a < 0xA0 then Config.wardAnchor.toNat / 2 ^ (8 * (a - 0x70)) % 2 ^ 32
  else if a = 0x10C then pack [(0, 25, s.journalUsed), (31, 1, b2n (decide (s.jSize ≠ 0 ∧ s.core.resp.journal.length ≥ s.jSize)))]
  else if 0x10000 ≤ a ∧ a < 0xB0000 then
    let p := a / 0x10000 - 1
    let o := a % 0x10000
    if 0x420 ≤ o ∧ o < 0x434 then pack [(0, 16, s.credits p ((o - 0x420) / 4)), (16, 16, s.vcHeld p ((o - 0x420) / 4))] else 0
  else if a = 0xB0004 then b2n (s.shadow != s.core.router.active) * 4
  else if a = 0xB0050 then
    pack [(0, 10, bitsOf 10 s.routable), (16, 10, bitsOf 10 (fun p => s.portPresent p && (s.flow p).ann == some false))]
  else if a = 0xB0054 then
    let n := (s.core.col.groups.map (fun x => match x.2.coll with
      | some c => (c.landed.map (fun l => 64 * l.pkt.flits)).sum
      | none => 0)).sum
    pack [(16, 16, (n + 1023) / 1024)]
  else if a = 0xB0808 then (s.core.rq.rates.filter (fun r => decide (r.rate < 1024))).length
  else if a = 0xC0008 then s.now % 2 ^ 32
  else if 0xD0180 ≤ a ∧ a < 0xD01A8 then
    let p := (a - 0xD0180) / 4
    pack [(0, 9, s.portCircuits p), (16, 8, s.portPeak p)]
  else if 0xD0304 ≤ a ∧ a < 0xD0314 then s.boltRd ((a - 0xD0304) / 4)
  else if a = 0xE0004 then bitsOf 8 s.knuckleBusy
  else if a = 0xF0004 then bitsOf 8 (fun g => decide (s.tumblerHeld g > 0))
  else if a = 0x100004 then pack [(0, 6, s.core.xl.walks.length), (8, 4, s.core.xl.invals.length)]
  else if 0x110010 ≤ a ∧ a < 0x110038 then leAt (s.win (s.rd R.WINDOW_SEL_ID)).bytes (a - 0x110010) 4
  else if 0x120020 ≤ a ∧ a < 0x120040 then s.keyringRd ((a - 0x120020) / 4)
  else if a = 0x120044 then s.pintleRd
  else if a = 0x130004 then b2n s.pins.rot
  else if a = 0x150004 then
    match counterSlot (s.rd R.CNT_SEL_GROUP) (s.rd R.CNT_SEL_INST) with
    | some k => s.counter k (s.rd R.CNT_SEL_EVENT) % 2 ^ 32
    | none => 0
  else if a = 0x158004 then b2n s.irqError * 8
  else if 0x200000 ≤ a ∧ a < 0x400000 then
    let f := (a - 0x200000) / 0x8000
    if a % 0x8000 = 4 then (s.liveQueues.filter (fun q => s.qFunc q == f)).length * 256
    else if a % 0x8000 = 0x1C then s.funcTags f
    else 0
  else if 0x400000 ≤ a ∧ a % 0x400 = 0x34 then (s.qs ((a - 0x400000) / 0x400)).ranges.length
  else 0

/-- What a read of byte address `a` returns: the fields of the register, a WO field as zero; in OFF only the AON fields (R374, R476,
R477); zero where no register lies (R455). -/
def State.csrRead (s : State) (a : Nat) : Nat :=
  let fs := (csrFields s a).filter (fun x => x.ty != .wo && (x.aon || !s.off))
  let stored := pack (fs.map (fun x =>
    (x.lo, x.width, if 0x10000 ≤ a ∧ 0x440 = a % 0x10000 ∧ a < 0xB0000 ∧ x.lo = 16 then s.bltShare (a / 0x10000 - 1)
                    else s.rd ⟨a, x.lo, x.width, x.aon⟩)))
  let live := if fs.any (fun x => x.aon || !s.off) then s.shown a else 0
  if s.aonUp then Nat.lor stored live else 0

end Sys2Proof.Machine
end

