-- ==== Sys2Proof/Machine/Dispatch.lean ====
section
/-! DEFINITION. One arm per command of the table: each command's meaning, everything but the queue (R1). -/

namespace Sys2Proof.Machine

def exec (i : Instr) (s : State) : Host.Outcome State Fault Refusal :=
  match i with
  | .aonResetDeassert => Sys2Proof.Machine.execAonResetDeassert s
  | .coreResetDeassert => Sys2Proof.Machine.execCoreResetDeassert s
  | .coreResetAssert => Sys2Proof.Machine.execCoreResetAssert s
  | .clkCoreOkRise => Sys2Proof.Machine.execClkCoreOkRise s
  | .clkCoreOkFall => Sys2Proof.Machine.execClkCoreOkFall s
  | .pwrIsoChange v => Sys2Proof.Machine.execPwrIsoChange v s
  | .tstModeChange v => Sys2Proof.Machine.execTstModeChange v s
  | .go => Sys2Proof.Machine.execGo s
  | .warmRestart => Sys2Proof.Machine.execWarmRestart s
  | .coldRestart => Sys2Proof.Machine.execColdRestart s
  | .internalResetEnd => Sys2Proof.Machine.execInternalResetEnd s
  | .kpRotReadyChange v => Sys2Proof.Machine.execKpRotReadyChange v s
  | .bistDone gateFail hingeFail sharedFail => Sys2Proof.Machine.execBistDone gateFail hingeFail sharedFail s
  | .requestHoldEnd => Sys2Proof.Machine.execRequestHoldEnd s
  | .clkMeasure cycles => Sys2Proof.Machine.execClkMeasure cycles s
  | .csrWrite a data => Sys2Proof.Machine.execCsrWrite a data s
  | .timeNowRead => Sys2Proof.Machine.execTimeNowRead s
  | .cntValRead => Sys2Proof.Machine.execCntValRead s
  | .journalSizeWrite data => Sys2Proof.Machine.execJournalSizeWrite data s
  | .routeSelfWrite data => Sys2Proof.Machine.execRouteSelfWrite data s
  | .chainValidate p data => Sys2Proof.Machine.execChainValidate p data s
  | .queueEnable q data => Sys2Proof.Machine.execQueueEnable q data s
  | .queueDisable q data => Sys2Proof.Machine.execQueueDisable q data s
  | .doorbellSqTail q data strb => Sys2Proof.Machine.execDoorbellSqTail q data strb s
  | .doorbellCqHead q data strb => Sys2Proof.Machine.execDoorbellCqHead q data strb s
  | .resume q data strb => Sys2Proof.Machine.execResume q data strb s
  | .put q => Sys2Proof.Machine.execPut q s
  | .get q => Sys2Proof.Machine.execGet q s
  | .copy q => Sys2Proof.Machine.execCopy q s
  | .atomic q => Sys2Proof.Machine.execAtomic q s
  | .latchPut q => Sys2Proof.Machine.execLatchPut q s
  | .fence q => Sys2Proof.Machine.execFence q s
  | .signal q => Sys2Proof.Machine.execSignal q s
  | .wait q => Sys2Proof.Machine.execWait q s
  | .rs q => Sys2Proof.Machine.execRs q s
  | .ag q => Sys2Proof.Machine.execAg q s
  | .countx q => Sys2Proof.Machine.execCountx q s
  | .pintle q => Sys2Proof.Machine.execPintle q s
  | .boltPut q => Sys2Proof.Machine.execBoltPut q s
  | .tableLoad q => Sys2Proof.Machine.execTableLoad q s
  | .windowOpen q => Sys2Proof.Machine.execWindowOpen q s
  | .windowClose q => Sys2Proof.Machine.execWindowClose q s
  | .windowAlias q => Sys2Proof.Machine.execWindowAlias q s
  | .xlateInv q => Sys2Proof.Machine.execXlateInv q s
  | .nop q => Sys2Proof.Machine.execNop q s
  | .notBeforeRelease q => Sys2Proof.Machine.execNotBeforeRelease q s
  | .waitTimeout q => Sys2Proof.Machine.execWaitTimeout q s
  | .reqPacketSend q => Sys2Proof.Machine.execReqPacketSend q s
  | .packetSend p => Sys2Proof.Machine.execPacketSend p s
  | .ringEntryGuard p vc => Sys2Proof.Machine.execRingEntryGuard p vc s
  | .lcfSend p => Sys2Proof.Machine.execLcfSend p s
  | .frameSend fo => Sys2Proof.Machine.execFrameSend fo s
  | .frameReceive p fr => Sys2Proof.Machine.execFrameReceive p fr s
  | .writeArrival => Sys2Proof.Machine.execWriteArrival s
  | .readArrival => Sys2Proof.Machine.execReadArrival s
  | .atomicArrival => Sys2Proof.Machine.execAtomicArrival s
  | .latchArrival => Sys2Proof.Machine.execLatchArrival s
  | .signalArrival => Sys2Proof.Machine.execSignalArrival s
  | .nyeshArrival => Sys2Proof.Machine.execNyeshArrival s
  | .jqueryArrival => Sys2Proof.Machine.execJqueryArrival s
  | .latchDeadline slot => Sys2Proof.Machine.execLatchDeadline slot s
  | .latchResend q => Sys2Proof.Machine.execLatchResend q s
  | .signalSend q => Sys2Proof.Machine.execSignalSend q s
  | .mspReadReturn m tag line last bad => Sys2Proof.Machine.execMspReadReturn m tag line last bad s
  | .mspWriteAck m tag bad => Sys2Proof.Machine.execMspWriteAck m tag bad s
  | .mspCreditReturn m kind => Sys2Proof.Machine.execMspCreditReturn m kind s
  | .sspReadReturn n line err => Sys2Proof.Machine.execSspReadReturn n line err s
  | .windowQuarantineEnd w => Sys2Proof.Machine.execWindowQuarantineEnd w s
  | .ackReceive => Sys2Proof.Machine.execAckReceive s
  | .dataReceive => Sys2Proof.Machine.execDataReceive s
  | .atomicRspReceive => Sys2Proof.Machine.execAtomicRspReceive s
  | .janswerReceive => Sys2Proof.Machine.execJanswerReceive s
  | .noTrackReceive => Sys2Proof.Machine.execNoTrackReceive s
  | .boltAckReceive => Sys2Proof.Machine.execBoltAckReceive s
  | .rateRecovery f node => Sys2Proof.Machine.execRateRecovery f node s
  | .requestTimeout t => Sys2Proof.Machine.execRequestTimeout t s
  | .atomicTimeout t => Sys2Proof.Machine.execAtomicTimeout t s
  | .tagQuarantineEnd t => Sys2Proof.Machine.execTagQuarantineEnd t s
  | .workItemPost => Sys2Proof.Machine.execWorkItemPost s
  | .retryReissue t => Sys2Proof.Machine.execRetryReissue t s
  | .journalQuerySend t => Sys2Proof.Machine.execJournalQuerySend t s
  | .journalReclaim => Sys2Proof.Machine.execJournalReclaim s
  | .laAtomic req => Sys2Proof.Machine.execLaAtomic req s
  | .esRead c id => Sys2Proof.Machine.execEsRead c id s
  | .esWrite c v id => Sys2Proof.Machine.execEsWrite c v id s
  | .esAdd c v id => Sys2Proof.Machine.execEsAdd c v id s
  | .tableLoadReadDone => Sys2Proof.Machine.execTableLoadReadDone s
  | .keyringActivate k => Sys2Proof.Machine.execKeyringActivate k s
  | .keyringDeactivate k => Sys2Proof.Machine.execKeyringDeactivate k s
  | .keyringActivateDone => Sys2Proof.Machine.execKeyringActivateDone s
  | .readyArrival => Sys2Proof.Machine.execReadyArrival s
  | .colArrival => Sys2Proof.Machine.execColArrival s
  | .abortArrival => Sys2Proof.Machine.execAbortArrival s
  | .sweepArrival => Sys2Proof.Machine.execSweepArrival s
  | .countArrival => Sys2Proof.Machine.execCountArrival s
  | .probeArrival => Sys2Proof.Machine.execProbeArrival s
  | .probeAnswerArrival => Sys2Proof.Machine.execProbeAnswerArrival s
  | .progressTimeout k => Sys2Proof.Machine.execProgressTimeout k s
  | .knucklePass u => Sys2Proof.Machine.execKnucklePass u s
  | .pintleFlitArrival => Sys2Proof.Machine.execPintleFlitArrival s
  | .pintleStageTimeout k => Sys2Proof.Machine.execPintleStageTimeout k s
  | .pintleHandoverResend k => Sys2Proof.Machine.execPintleHandoverResend k s
  | .boltSetupCmd data => Sys2Proof.Machine.execBoltSetupCmd data s
  | .boltTeardownCmd data => Sys2Proof.Machine.execBoltTeardownCmd data s
  | .boltSetupArrival => Sys2Proof.Machine.execBoltSetupArrival s
  | .boltAnswerArrival => Sys2Proof.Machine.execBoltAnswerArrival s
  | .boltReleaseArrival => Sys2Proof.Machine.execBoltReleaseArrival s
  | .boltBreakArrival => Sys2Proof.Machine.execBoltBreakArrival s
  | .boltSetupTimeout c => Sys2Proof.Machine.execBoltSetupTimeout c s
  | .slotBegin => Sys2Proof.Machine.execSlotBegin s
  | .boltReadTimeout c => Sys2Proof.Machine.execBoltReadTimeout c s
  | .boltAckTimeout c => Sys2Proof.Machine.execBoltAckTimeout c s
  | .bltArrival => Sys2Proof.Machine.execBltArrival s
  | .timeEnable data => Sys2Proof.Machine.execTimeEnable data s
  | .timeDisable data => Sys2Proof.Machine.execTimeDisable data s
  | .timeExchangeStart p => Sys2Proof.Machine.execTimeExchangeStart p s
  | .syncArrival => Sys2Proof.Machine.execSyncArrival s
  | .delayReqArrival => Sys2Proof.Machine.execDelayReqArrival s
  | .delayRespArrival => Sys2Proof.Machine.execDelayRespArrival s
  | .timeHoldoverTimeout => Sys2Proof.Machine.execTimeHoldoverTimeout s
  | .timeHoldMax => Sys2Proof.Machine.execTimeHoldMax s
  | .routeHold => Sys2Proof.Machine.execRouteHold s
  | .routeCommit => Sys2Proof.Machine.execRouteCommit s
  | .routeRelease => Sys2Proof.Machine.execRouteRelease s
  | .clearPeaks => Sys2Proof.Machine.execClearPeaks s
  | .routeDrainDone => Sys2Proof.Machine.execRouteDrainDone s
  | .announceArrival => Sys2Proof.Machine.execAnnounceArrival s
  | .gateEnable g data => Sys2Proof.Machine.execGateEnable g data s
  | .gateDisable g data => Sys2Proof.Machine.execGateDisable g data s
  | .retrain p => Sys2Proof.Machine.execRetrain p s
  | .retry p => Sys2Proof.Machine.execRetry p s
  | .hingeEnable h data => Sys2Proof.Machine.execHingeEnable h data s
  | .hingeLinkChange h v => Sys2Proof.Machine.execHingeLinkChange h v s
  | .waitPhyTimeout h => Sys2Proof.Machine.execWaitPhyTimeout h s
  | .laneLockChange g l v => Sys2Proof.Machine.execLaneLockChange g l v s
  | .laneLockLossTimeout g l => Sys2Proof.Machine.execLaneLockLossTimeout g l s
  | .laneSerWindow g l exponent => Sys2Proof.Machine.execLaneSerWindow g l exponent s
  | .rateAckChange g v => Sys2Proof.Machine.execRateAckChange g v s
  | .phyCfgDone g rdata err => Sys2Proof.Machine.execPhyCfgDone g rdata err s
  | .phyCfgTimeout g => Sys2Proof.Machine.execPhyCfgTimeout g s
  | .fastTimeout g => Sys2Proof.Machine.execFastTimeout g s
  | .probeTimeout g => Sys2Proof.Machine.execProbeTimeout g s
  | .equalizeWindowEnd g => Sys2Proof.Machine.execEqualizeWindowEnd g s
  | .keysTimeout p => Sys2Proof.Machine.execKeysTimeout p s
  | .backoffEnd p => Sys2Proof.Machine.execBackoffEnd p s
  | .discoverArrival => Sys2Proof.Machine.execDiscoverArrival s
  | .trainResultArrival => Sys2Proof.Machine.execTrainResultArrival s
  | .laneFailArrival => Sys2Proof.Machine.execLaneFailArrival s
  | .widthArrival => Sys2Proof.Machine.execWidthArrival s
  | .keySwitchArrival => Sys2Proof.Machine.execKeySwitchArrival s
  | .recalArrival => Sys2Proof.Machine.execRecalArrival s
  | .downArrival => Sys2Proof.Machine.execDownArrival s
  | .spareRotateStart g => Sys2Proof.Machine.execSpareRotateStart g s
  | .laneFailResend g => Sys2Proof.Machine.execLaneFailResend g s
  | .widthResend g => Sys2Proof.Machine.execWidthResend g s
  | .keyxArrival => Sys2Proof.Machine.execKeyxArrival s
  | .keyxOut m => Sys2Proof.Machine.execKeyxOut m s
  | .keyLoad m => Sys2Proof.Machine.execKeyLoad m s
  | .keyArm m => Sys2Proof.Machine.execKeyArm m s
  | .reject m => Sys2Proof.Machine.execReject m s
  | .funcEnable f => Sys2Proof.Machine.execFuncEnable f s
  | .funcDisable f => Sys2Proof.Machine.execFuncDisable f s
  | .funcDrainDeadline f => Sys2Proof.Machine.execFuncDrainDeadline f s
  | .wardStage => Sys2Proof.Machine.execWardStage s
  | .wardStageDone => Sys2Proof.Machine.execWardStageDone s
  | .wardSwitch => Sys2Proof.Machine.execWardSwitch s
  | .wardHalt => Sys2Proof.Machine.execWardHalt s
  | .wardImageUp => Sys2Proof.Machine.execWardImageUp s
  | .wardStartTimeout => Sys2Proof.Machine.execWardStartTimeout s
  | .wardCheckpointYield => Sys2Proof.Machine.execWardCheckpointYield s
  | .wardCkptTimeout => Sys2Proof.Machine.execWardCkptTimeout s
  | .wardHeartbeatMiss => Sys2Proof.Machine.execWardHeartbeatMiss s
  | .wardPolicyWrite a data => Sys2Proof.Machine.execWardPolicyWrite a data s
  | .jquery => Sys2Proof.Machine.execJquery s
  | .stRequest => Sys2Proof.Machine.execStRequest s
  | .stCancel => Sys2Proof.Machine.execStCancel s
  | .stDeferredStart => Sys2Proof.Machine.execStDeferredStart s
  | .stDone fail idx => Sys2Proof.Machine.execStDone fail idx s
  | .sramUncorrectable st idx => Sys2Proof.Machine.execSramUncorrectable st idx s
  | .errlogCoalesceExpire => Sys2Proof.Machine.execErrlogCoalesceExpire s
  | .dumpNow => Sys2Proof.Machine.execDumpNow s
  | .dumpAt => Sys2Proof.Machine.execDumpAt s
  | .view f => Sys2Proof.Machine.execView f s
  | .dumpTrigger => Sys2Proof.Machine.execDumpTrigger s
  | .dumpWriteDone => Sys2Proof.Machine.execDumpWriteDone s
  | .viewPeriod f => Sys2Proof.Machine.execViewPeriod f s
  | .khArm => Sys2Proof.Machine.execKhArm s
  | .khDisarm => Sys2Proof.Machine.execKhDisarm s
  | .khNow => Sys2Proof.Machine.execKhNow s
  | .khTrigger => Sys2Proof.Machine.execKhTrigger s
  | .khCaptureDone => Sys2Proof.Machine.execKhCaptureDone s
  | .khWriteDone => Sys2Proof.Machine.execKhWriteDone s
  | .traceRecordWrite => Sys2Proof.Machine.execTraceRecordWrite s
  | .aonResetAssert => Sys2Proof.Machine.execAonResetAssert s
  | .scratchpadSlotOffer n => Sys2Proof.Machine.execScratchpadSlotOffer n s
  | .correctedSramError => Sys2Proof.Machine.execCorrectedSramError s
  | .keyPortBeatTaken => Sys2Proof.Machine.execKeyPortBeatTaken s

end Sys2Proof.Machine
end

