-- ==== Sys2Proof/Machine/Engine.lean ====
section
/-! DEFINITION. The block's own work: what a tick of the core clock does when no command waits (log entry 2). -/

namespace Sys2Proof.Machine

/-- Hand a finished access to the unit that made it. -/
def State.jobDone (s : State) (p : Purpose) (r : JobResult) : State :=
  match p with
  | .descFetch q second => s.fetched q second r
  | .slotProbe q => s.slotProbed q r
  | .record q ext => s.recordDone q ext r
  | .reqSource t => s.sourceRead t r
  | .reqNyHeader t => s.nyHeaderRead t r
  | .reqDest t => s.destProbed t r
  | .reqLand t => s.landed t r
  | .arrCheck _ => s.arrDone p r
  | .arrAccess _ => s.arrDone p r
  | .atomRead _ => s.arrDone p r
  | .atomWrite _ => s.arrDone p r
  | .journalProbe _ => s.arrDone p r
  | .journalWrite _ => s.arrDone p r
  | .journalRead _ => s.arrDone p r
  | .tableImage t => s.tableRead t r
  | .keyEntry g => s.keyEntryRead g r
  | .keyList g => s.keyListRead g r
  | .keyFetch g m => s.keyFetched g m r
  | .countPeer g i => s.countPeerRead g i r
  | .colSource g task which => s.colSourceRead g task which r
  | .colResult g task => s.colResultDone g task r
  | .countSend g i => s.countSendRead g i r
  | .countRecv g i => s.countRecvDone g i r
  | .pintleSrc g => s.pintleSrcRead g r
  | .pintleDst g => s.pintleDstDone g r
  | .boltRead c pkt => s.boltRead c pkt r
  | .wardImage => s.wardRead r
  | .selfTest => s.stLineDone r
  | .errRecord => s.errDone r
  | .dump part => s.dumpPartDone part r
  | .view f => s.viewDone f r
  | .trace => s.traceDone r
  | .keyhole => s.khPartDone r

/-- Run one item of work. -/
def runWork (s : State) (w : Work) : State :=
  match w with
  | .job id => s.jobStep id
  | .done p r => s.jobDone p r
  | .fetch q => s.fetch q
  | .head q => s.headStep q
  | .record q => s.startRecord q
  | .cut op => s.cutStep op
  | .settle op => s.settle op
  | .waits => s.waitsStep
  | .events => s.flushEvents
  | .window w => s.windowStep w
  | .latches => s.latchesStep
  | .atomic id => s.atomicStep id
  | .coll g => s.colStep g
  | .colDrain g => s.colDrain g
  | .func f => s.funcStep f
  | .errlog => s.errlogStep
  | .table t => s.tableStep t

/-- The item writes an error record: such work goes on after a FATAL error (R398). -/
def State.logsError (s : State) (w : Work) : Bool :=
  match w with
  | .errlog => true
  | .done p _ => p == .errRecord
  | .job id => (SMap.get? s.core.jobs id).any (fun j => j.purpose == .errRecord)
  | _ => false

/-- Run the items that wait at the start of the cycle; in FATAL only those of the error log. -/
def State.runAll (s : State) : State :=
  let now := if s.fatal then s.core.work.filter s.logsError else s.core.work
  let later := if s.fatal then s.core.work.filter (fun w => !s.logsError w) else []
  now.foldl runWork { s with core.work := later }

/-- The injection buckets fill (R345): FLITS_PER_US x 1000 / khz flits a cycle, in units of 1/khz flit, and the collectives whose packets
they hold go on. -/
def State.injTick (s : State) : State :=
  let fill (x : Nat × Nat) : Nat × Nat := (x.1, x.2 - max 1 (s.rd (R.FUNC_INJ_FLITS_PER_US x.1)) * 1000)
  let s := { s with core.rq.inj := (s.core.rq.inj.map fill).filter (fun x => x.2 != 0) }
  (s.core.col.groups.filter (fun x => x.2.coll.any (fun c => c.outq.any (·.noted)))).foldl (fun s x => s.post (.coll x.1)) s

/-- Each draining function sees whether it has drained (R348). -/
def State.drainTick (s : State) : State :=
  (List.range 64).foldl (fun s f => if s.funcState f = 2 then s.post (.func f) else s) s

/-- One core cycle in which no command comes: fabric time counts in RUN (R249), buckets fill, and the units go on with their work. -/
def coreTick (s : State) : State :=
  let s := if s.running then s.timeTick else s
  s.routeTick.injTick.strictTick.drainTick.invalsStep.runAll

/-- The tick (log entry 2): a core-domain event like any other, so it does nothing in OFF. -/
def tick : State → Host.Outcome State Fault Refusal := portCmd coreTick

end Sys2Proof.Machine
end

