-- ==== Sys2Proof/Safety.lean ====
section
/-! DEFINITION. What a safe state is, and what a command leaves, in the terms the claims use. -/

namespace Sys2Proof.Machine

/-- The reset wiring of R366, R368, R374 and R427: in OFF the core domain is at its reset values, while the sequencer is in OFF or
pwr_iso is 1 no core-domain output leaves, and while the ports stand idle, in OFF or FAILED, nothing leaves but CSR read data. -/
def State.Wired (s : State) : Prop :=
  (s.off = true → s.core = Core.reset) ∧
  (s.off = true ∨ s.pins.iso = true → ∀ o ∈ s.out, o.isAon = true) ∧
  (s.idle = true → ∀ o ∈ s.out, o.isCsr = true)

/-- A register store in canonical form: addresses strictly rise and no entry equals the reset word of its address. -/
def regsCanonical (b : Build) (aon : Bool) (m : SMap Word) : Prop :=
  SMap.wf m = true ∧ ∀ x ∈ m, x.2 ≠ domainReset b aon x.1

/-- Both domains' registers are in canonical form, so equal registers are equal data. -/
def State.Canonical (s : State) : Prop :=
  regsCanonical s.build true s.aon.regs ∧ regsCanonical s.build false s.core.regs

/-- A safe state. -/
def State.Safe (s : State) : Prop := s.Wired ∧ s.Canonical

/-- Every register field that shares no bit with those named reads in `t` as in `s`. -/
def State.SameBut (s t : State) (fs : List Fld) : Prop := ∀ f : Fld, (∀ g ∈ fs, g.apart f) → t.rd f = s.rd f

/-- What no command touches: the build, the commands that wait, and the free values drawn. -/
def State.SameRest (s t : State) : Prop := t.build = s.build ∧ t.pending = s.pending ∧ t.draws = s.draws

/-- The AON domain but for its registers. -/
def State.SameAon (s t : State) : Prop := t.aon = { s.aon with regs := t.aon.regs }

/-- The core domain but for its registers. -/
def State.SameCore (s t : State) : Prop := t.core = { s.core with regs := t.core.regs }

/-- The answer to a request has left, as `ok` says (R278, R305): last in the local units' store for a requester here, last in the router
for an output that routing names. -/
def State.Answered (s t : State) (req : Packet) (ok : Packet → Prop) : Prop :=
  (s.routeOf 10 req.srcNode = .deliver → ∃ l x, t.core.resp.inbox = l ++ [x] ∧ x.pkt.cls = 3 ∧ x.pkt.dest = req.srcNode ∧
    x.pkt.tag = req.tag ∧ ok x.pkt) ∧
  (∀ p e, s.routeOf 10 req.srcNode = .out p e → ∃ l o, t.core.router.queued = l ++ [o] ∧ o.port = p ∧ o.entry = e ∧ o.pkt.cls = 3 ∧
    o.pkt.dest = req.srcNode ∧ o.pkt.tag = req.tag ∧ ok o.pkt)

/-- The TIME packet an item of a frame begins (R250). -/
def TxItem.time (i : TxItem) : Option Packet :=
  match i.head with
  | some o => if o.pkt.cls = 0 ∧ o.pkt.type = 1 then some o.pkt else none
  | none => none

/-- The frame that what arrives completes: a gate's code words, or the four beats of a hinge in sequence (R318-R320, R440). -/
def State.arriving (s : State) (p : Nat) (rx : RxFrame) : Option Frame :=
  match rx, decide (p < 8) with
  | .gate words _, true => (s.takeFrame p (words.map (·.map BitVec.toNat))).1
  | .hinge [a, b, c, d], false =>
    if (s.link p).rxBeats = [] ∧ a.index = 0 ∧ b.index = 1 ∧ c.index = 2 ∧ d.index = 3 then some (beatsFrame [a, b, c, d]) else none
  | _, _ => none

/-- A gate's trailer that says nothing new of the lanes: no change is under way, and it shows the spare that the receiver knows
(R336-R339). -/
def State.trailerQuiet (s : State) (p trailer : Nat) : Prop :=
  p < 8 → (s.link p).rxWidth = none ∧ (s.link p).failSent = none ∧ bits trailer 24 4 = s.rd (R.GATE_LANES_RX_SPARE p) ∧
    (bits trailer 64 8 = 0 ∨ (s.link p).rxCount < 3 ∧ (s.link p).spareBad ≠ some true)

/-- Commands that come by a port that stands idle in OFF and FAILED: the counter stream, doorbells, memory and scratchpad, frames, PHY
configuration, key port, the slot clock's prefetch and the local atomic port (R368, R374). -/
def ofPort (i : Instr) : Bool :=
  match i with
  | .esRead _ _ | .esWrite _ _ _ | .esAdd _ _ _ | .doorbellSqTail _ _ _ | .doorbellCqHead _ _ _ | .resume _ _ _
  | .mspReadReturn _ _ _ _ _ | .mspWriteAck _ _ _ | .mspCreditReturn _ _ | .frameReceive _ _ | .frameSend _
  | .phyCfgDone _ _ _ | .phyCfgTimeout _ | .keyLoad _ | .keyArm _ | .reject _ | .keyxOut _ | .keyPortBeatTaken
  | .scratchpadSlotOffer _ | .sspReadReturn _ _ _ | .slotBegin | .laAtomic _ => true
  | _ => false

/-- Commands whose effect is not the core domain's alone: resets, starts, clocks and power, CSR accesses, the self-test, and the PHY
levels the block's pins hold. -/
def ofAon (i : Instr) : Bool :=
  match i with
  | .aonResetDeassert | .aonResetAssert | .coreResetDeassert | .coreResetAssert | .clkCoreOkRise | .clkCoreOkFall | .pwrIsoChange _
  | .tstModeChange _ | .go | .warmRestart | .coldRestart | .internalResetEnd | .kpRotReadyChange _ | .bistDone _ _ _ | .requestHoldEnd
  | .clkMeasure _ | .csrWrite _ _ | .timeNowRead | .cntValRead | .journalSizeWrite _ | .stRequest | .stCancel | .hingeLinkChange _ _
  | .laneLockChange _ _ _ | .rateAckChange _ _ => true
  | _ => false

end Sys2Proof.Machine
end

