-- ==== Sys2Proof/WellFormed.lean ====
section
/-! DEFINITION. Commands as the block's ports can present them: what the widths of the operands do not already say. -/

namespace Sys2Proof

/-- A gate's code words have the length of one of the codes (R318). -/
def RxFrame.wf (f : RxFrame) : Bool :=
  match f with
  | .hinge _ => true
  | .gate words _ => words.all (fun w => w.length == 544 || w.length == 272)

/-- A key-port message: its last beat is the beat kp_in_last falls on (R459). -/
def KeyMsg.wf (m : KeyMsg) : Bool := m.last == m.beats.length

/-- The command is one that the ports can present. -/
def WellFormed (i : Instr) : Bool :=
  match i with
  | .frameReceive _ fr => fr.rx.wf && decide (fr.cross.ui.toNat < 160)
  | .frameSend fo => decide (fo.cross.ui.toNat < 160)
  | .keyxOut m | .keyLoad m | .keyArm m | .reject m => m.wf
  | _ => true

end Sys2Proof
end

