-- ==== Sys2Proof/Certificates/Slice0/Obligations.lean ====
section
/-! DEFINITION. The statements for the provers: what the block's rules say its commands do. In all of them a command that an arriving
packet stands for takes the first packet of its kind that waits (log entry 6), and one whose event cannot occur leaves the state as it is
(log entry 3): these two are the model's own choices. -/

open Sys2Proof Sys2Proof.Machine


/-! ## The machine -/

/-- A step takes the command at the front of the queue and runs it with the queue's rest.
The queue of commands is the model's own (log entry 2). -/
def Obligations.StepRunsFront : Prop :=
  ∀ (s : State) (c : Instr), step { s with pending := c :: s.pending } = exec c s

/-- R366, R374, R427, R466: reset meets the wiring, and its registers hold the reset values of the identity, the request hold, the nominal
clock, the self-test's length, and zero in the start status.
That reset is power-on is the model's choice (log entry 1). -/
def Obligations.ResetIsWired : Prop :=
  (
   State.reset.Wired) ∧
  (
    State.reset.rd R.GLOBAL_ID_PART = 0x0480 ∧ State.reset.rd R.GLOBAL_ID_RELEASE = 0x0301 ∧
    State.reset.rd R.GLOBAL_REQ_HOLD_HOLD_MS = 4001 ∧ State.reset.rd R.GLOBAL_CLK_NOM_KHZ = 1750000 ∧
    State.reset.seq = 0 ∧ State.reset.rd R.GLOBAL_START_STATUS_STARTS = 0 ∧ State.reset.rd R.GLOBAL_READY_KEYPORT = 0 ∧
    (∀ q : QueueId, State.reset.rd (R.QUEUE_CTL_ENABLE q.val) = 0) ∧ (∀ p : Port, State.reset.rd (R.GATE_STATUS_STATE p.val) = 0))

/-- R366, R368, R374, R427: after every step, from whatever state, a sequencer in OFF means a core domain at its reset values, no
core-domain output leaves in OFF or while pwr_iso is 1, and nothing leaves but CSR read data in OFF or FAILED. -/
def Obligations.StepKeepsWired : Prop :=
  ∀ s t : State, step s = .next t → t.Wired

/-- R366, R367, R374: in OFF no command of the core domain, and no tick, has an effect. R368: in FAILED none that comes by an idle port has.
The tick is the model's choice (log entry 2). -/
def Obligations.OffIsStill : Prop :=
  (∀ s : State, s.off = true → s.Wired →
    (∀ c : Instr, ofAon c = false → exec c s = .next { s with out := [] }) ∧
    (s.pending = [] → step s = .next { s with out := [] })) ∧
  (∀ s : State, s.seq = 5 →
    (∀ c : Instr, ofPort c = true → exec c s = .next { s with out := [] }) ∧
    (s.pending = [] → step s = .next { s with out := [] }))

/-- Every command answers a next state: the spec stops the block nowhere.
That a command whose event cannot occur changes nothing, and runs, is the model's choice (log entry 3). -/
def Obligations.EveryCommandRuns : Prop :=
  ∀ (c : Instr) (s : State), ∃ t, exec c s = .next t

/-! ## Starts (chapter 15) -/

/-- R365-R367, R427, R428: the reset inputs, the internal resets and the core clock. A start leaves OFF for WAIT_GO with the core
domain at its reset values and the request hold begun; WARM tells a warm start, which STARTS counts.
When STARTS counts is the model's choice (log entry 13). -/
def Obligations.StartsAndResets : Prop :=
  ∀ s : State,
    (∃ t, exec .aonResetAssert s = .next t ∧ t.pins = { s.pins with rstAon := false } ∧ t.seq = 0 ∧ t.aon = Aon.reset ∧
      t.core = Core.reset) ∧
    (s.pins.rstAon = false → s.pins.rstCore = true → s.pins.clkOk = true →
      ∃ t, exec .aonResetDeassert s = .next t ∧ t.pins = { s.pins with rstAon := true } ∧ t.seq = 1 ∧ t.aon.coefs = [] ∧
        t.rd R.GLOBAL_START_STATUS_WARM = 0 ∧ t.rd R.GLOBAL_START_STATUS_HOLDING = 1 ∧ t.core = Core.reset) ∧
    (s.pins.rstAon = false → s.pins.rstCore = false →
      ∃ t, exec .aonResetDeassert s = .next t ∧ t.seq = 0 ∧ t.aon.coldNext = true) ∧
    (s.pins.rstCore = false → s.aonUp = true → s.aon.intReset = none → s.aon.coldNext = false → s.off = true → s.pins.clkOk = true →
      ∃ t, exec .coreResetDeassert s = .next t ∧ t.seq = 1 ∧ t.rd R.GLOBAL_START_STATUS_WARM = 1 ∧
        t.rd R.GLOBAL_START_STATUS_HOLDING = 1 ∧
        t.rd R.GLOBAL_START_STATUS_STARTS = (s.rd R.GLOBAL_START_STATUS_STARTS + 1) % 2 ^ 16 ∧
        t.aon.coefs = s.aon.coefs ∧ t.rd R.GLOBAL_REQ_HOLD_HOLD_MS = s.rd R.GLOBAL_REQ_HOLD_HOLD_MS ∧
        t.rd R.JOURNAL_SIZE_LOG2 = 0 ∧ t.core = Core.reset) ∧
    (s.off = false → ∃ t, exec .coreResetAssert s = .next t ∧ t.seq = 0 ∧ t.core = Core.reset ∧ t.aon.coefs = s.aon.coefs ∧
      t.pins = { s.pins with rstCore := false }) ∧
    (s.off = false → ∃ t, exec .clkCoreOkFall s = .next t ∧ t.seq = 0 ∧ t.core = Core.reset ∧ t.aon.coefs = s.aon.coefs ∧
      t.pins = { s.pins with clkOk := false }) ∧
    (s.pins.clkOk = false → s.aonUp = true → s.aon.intReset = none → s.off = true → s.pins.rstCore = true →
      ∃ t, exec .clkCoreOkRise s = .next t ∧ t.seq = 1 ∧ t.rd R.GLOBAL_START_STATUS_WARM = b2n (!s.aon.coldNext) ∧
        t.core = Core.reset) ∧
    (s.aonUp = true → ∃ t, exec .warmRestart s = .next t ∧ t.seq = 0 ∧ t.aon.intReset = some false ∧ t.core = Core.reset ∧
      t.aon.coefs = s.aon.coefs ∧ t.rd R.JOURNAL_SIZE_LOG2 = 0 ∧ t.rd R.GLOBAL_REQ_HOLD_HOLD_MS = s.rd R.GLOBAL_REQ_HOLD_HOLD_MS) ∧
    (s.aonUp = true → ∃ t, exec .coldRestart s = .next t ∧ t.seq = 0 ∧ t.aon = { Aon.reset with intReset := some true } ∧
      t.core = Core.reset) ∧
    (s.aon.intReset.isSome = true → s.off = true → s.pins.rstAon = true → s.pins.rstCore = true → s.pins.clkOk = true →
      ∃ t, exec .internalResetEnd s = .next t ∧ t.seq = 1 ∧ t.aon.intReset = none ∧ t.core = Core.reset ∧
        t.rd R.GLOBAL_START_STATUS_WARM = b2n (!s.aon.coldNext))

/-- R367, R370, R372, R373: the sequencer's states. GO takes WAIT_GO to WAIT_KEYS, or on to BIST when keys are there or optional and
BIST is required; in RUN and FAILED it sets CMD_ERR. BIST ends in RUN, or in FAILED for a shared SRAM, with its result recorded.
When BIST_RAN rises is the model's choice (log entry 13). -/
def Obligations.StartSequencer : Prop :=
  ∀ s : State,
    (s.aonUp = true → s.seq = 1 → s.pins.rot = false → s.on R.GLOBAL_START_CTL_KEYS_OPTIONAL = false →
      ∃ t, exec .go s = .next t ∧ t.seq = 2) ∧
    (s.aonUp = true → s.seq = 1 → s.pins.rot = true ∨ s.on R.GLOBAL_START_CTL_KEYS_OPTIONAL = true → s.bistRequired = true →
      ∃ t, exec .go s = .next t ∧ t.seq = 3) ∧
    (s.aonUp = true → s.seq = 4 ∨ s.seq = 5 → ∃ t, exec .go s = .next t ∧ t.seq = s.seq ∧ t.rd R.GLOBAL_START_STATUS_CMD_ERR = 1) ∧
    (s.aonUp = true → s.seq = 2 → s.pins.rot = false → s.on R.GLOBAL_READY_KEYPORT = false → s.bistRequired = true →
      ∃ t, exec (.kpRotReadyChange true) s = .next t ∧ t.pins = { s.pins with rot := true } ∧ t.seq = 3 ∧
        t.rd R.GLOBAL_READY_KEYPORT = 1 ∧ bit (t.rd R.GLOBAL_READY_CHG_CHG) 10 = true) ∧
    (s.aonUp = true → s.on R.GLOBAL_READY_KEYPORT = true →
      ∃ t, exec (.kpRotReadyChange false) s = .next t ∧ t.pins = { s.pins with rot := false } ∧ t.rd R.GLOBAL_READY_KEYPORT = 0 ∧
        bit (t.rd R.GLOBAL_READY_CHG_CHG) 10 = true) ∧
    (∀ g h, s.seq = 3 → ∃ t, exec (.bistDone g h true) s = .next t ∧ t.seq = 5 ∧ t.rd R.GLOBAL_BIST_SHARED_FAIL = 1 ∧
      t.rd R.GLOBAL_START_STATUS_BIST_RAN = 1 ∧ t.rd R.GLOBAL_START_STATUS_BIST_PASS = 0) ∧
    (s.seq = 3 → (∀ p : Port, s.on (R.GATE_CTL_ENABLE p.val) = false) →
      ∃ t, exec (.bistDone 0 0 false) s = .next t ∧ t.seq = 4 ∧ t.rd R.GLOBAL_START_STATUS_BIST_PASS = 1 ∧
        t.core.time.khz = min 1900000 (max 1200000 (s.rd R.GLOBAL_CLK_NOM_KHZ))) ∧
    (s.off = false → ∃ t, exec .requestHoldEnd s = .next t ∧ t.rd R.GLOBAL_START_STATUS_HOLDING = 0 ∧ t.seq = s.seq)

/-- R427, R431, R463: pwr_iso clamps the outputs and changes nothing else; tst_mode changes only in AON reset; a measurement reports
clk_core in MHz and sets DRIFT beyond 0.5 % of the nominal rate. -/
def Obligations.PinsAndClock : Prop :=
  ∀ s : State,
    (∀ v, ∃ t, exec (.pwrIsoChange v) s = .next t ∧ t.pins = { s.pins with iso := v } ∧ t.aon = s.aon ∧ t.out = []) ∧
    (∀ v, s.pins.rstAon = false → ∃ t, exec (.tstModeChange v) s = .next t ∧ t.pins = { s.pins with tst := v } ∧ t.aon = s.aon) ∧
    (∀ v, s.pins.rstAon = true → ∃ t, exec (.tstModeChange v) s = .next t ∧ t.pins = s.pins ∧ t.aon = s.aon) ∧
    (∀ n : BitVec 20, s.off = false → ∃ t, exec (.clkMeasure n) s = .next t ∧ t.rd R.GLOBAL_CLK_CORE_MHZ = n.toNat / 10 % 2 ^ 12 ∧
      t.rd R.GLOBAL_CLK_VALID = 1 ∧
      (200 * (n.toNat * 100) > 201 * s.nomKhz ∨ 200 * (n.toNat * 100) < 199 * s.nomKhz → t.rd R.GLOBAL_CLK_DRIFT = 1) ∧
      (199 * s.nomKhz ≤ 200 * (n.toNat * 100) ∧ 200 * (n.toNat * 100) ≤ 201 * s.nomKhz →
        t.rd R.GLOBAL_CLK_DRIFT = s.rd R.GLOBAL_CLK_DRIFT))

/-- Frame of the start commands: the pins other than a command's own, the build, the queue and the draws stay; GO outside WAIT_GO,
REQUEST_HOLD_END and CLK_MEASURE write the named fields alone; the warm starts keep the lane coefficients. -/
def Obligations.StartFrame : Prop :=
  ∀ s t : State,
    (∀ c : Instr, c ∈ [Instr.go, .requestHoldEnd, .warmRestart, .coldRestart, .internalResetEnd] → exec c s = .next t →
      t.pins = s.pins ∧ s.SameRest t) ∧
    (∀ c : Instr, c ∈ [Instr.coreResetAssert, .coreResetDeassert, .clkCoreOkRise, .clkCoreOkFall, .warmRestart] → exec c s = .next t →
      t.aon.coefs = s.aon.coefs ∧ s.SameRest t ∧ (∀ f : Fld, f.aon = true →
        (∀ g ∈ [R.GLOBAL_START_STATUS_STATE, R.GLOBAL_START_STATUS_WARM, R.GLOBAL_START_STATUS_HOLDING,
          R.GLOBAL_START_STATUS_STARTS, R.GLOBAL_CLK_VALID, ⟨0x18, 0, 32, true⟩, ⟨0x1C, 0, 32, true⟩, R.GLOBAL_ST_STATUS_STATE,
          R.GLOBAL_ST_STATUS_CODE, R.GLOBAL_ST_INFO_DATA, ⟨0x100, 0, 32, true⟩, ⟨0x104, 0, 32, true⟩, ⟨0x108, 0, 32, true⟩,
          ⟨0x10C, 0, 32, true⟩], g.apart f) → t.rd f = s.rd f)) ∧
    (exec .requestHoldEnd s = .next t → s.off = false →
      s.SameBut t [R.GLOBAL_START_STATUS_HOLDING] ∧ t.core = s.core ∧ s.SameAon t) ∧
    (exec .go s = .next t → s.off = false → s.seq ≠ 1 →
      s.SameBut t [R.GLOBAL_START_STATUS_CMD_ERR] ∧ t.core = s.core ∧ s.SameAon t) ∧
    (∀ n, exec (.clkMeasure n) s = .next t → s.off = false →
      s.SameBut t [R.GLOBAL_CLK_CORE_MHZ, R.GLOBAL_CLK_VALID, R.GLOBAL_CLK_DRIFT] ∧ t.core = s.core ∧ s.SameAon t ∧ t.pins = s.pins) ∧
    (∀ v, exec (.pwrIsoChange v) s = .next t → s.off = false → t.core = s.core ∧ t.aon = s.aon)

/-! ## Registers (chapter 20) -/

/-- R476, R480: a CSR write stores an RW or RWS field that is open and an RWL field that is not locked; a 1 clears a W1C bit; an RO
field, a closed and a locked one keep their value (COUNT of XLATE_FAULT_INFO, which clears with VALID, apart). A register with a row of its own is left to that row.
R374, R477: in OFF a CSR write reaches no field of the core domain, and stores an RWS field of the AON domain. -/
def Obligations.CsrWriteFieldTypes : Prop :=
  (
    ∀ (s : State) (a : BitVec 21) (data : Word), s.off = false → s.aonUp = true →
      (csrOwnRow (4 * a.toNat) = true → ∃ t, exec (.csrWrite a data) s = .next t ∧ t.aon = s.aon ∧ t.core = s.core) ∧
      (csrOwnRow (4 * a.toNat) = false → ∀ x ∈ csrFields s (4 * a.toNat),
        ∃ t, exec (.csrWrite a data) s = .next t ∧
          (let f : Fld := ⟨4 * a.toNat, x.lo, x.width, x.aon⟩
           let v := getField data x.lo x.width
           (x.ty = .rw ∨ x.ty = .rws → csrOpen s (4 * a.toNat) data = true → t.rd f = v) ∧
           (x.ty = .rw ∨ x.ty = .rws → csrOpen s (4 * a.toNat) data = false → t.rd f = s.rd f) ∧
           (x.ty = .rwl → t.rd f = if csrLocked s (4 * a.toNat) then s.rd f else v) ∧
           (x.ty = .w1c → t.rd f = s.rd f - Nat.land (s.rd f) v) ∧
           (x.ty = .ro → ¬ (0x100100 ≤ f.addr ∧ f.addr < 0x100900 ∧ f.addr % 0x20 = 0x10) → t.rd f = s.rd f)))) ∧
  (
    ∀ (s : State) (a : BitVec 21) (data : Word), s.off = true → s.aonUp = true → csrOwnRow (4 * a.toNat) = false →
      ∃ t, exec (.csrWrite a data) s = .next t ∧ t.core = Core.reset ∧
        (∀ x ∈ csrFields s (4 * a.toNat), x.aon = true → x.ty = .rws → csrOpen s (4 * a.toNat) data = true →
          t.rd ⟨4 * a.toNat, x.lo, x.width, true⟩ = getField data x.lo x.width))

/-- R269, R374, R410: a read of TIME_NOW_LO or of CNT_VAL_LO returns the low word and latches the high word; in OFF it returns zero. -/
def Obligations.LatchingReads : Prop :=
  ∀ s : State,
    (s.off = false → ∃ t, exec .timeNowRead s = .next t ∧ t.out = [.csrRead (s.now % 2 ^ 32)] ∧
      t.rd R.TIME_NOW_HI_COUNT = s.now / 2 ^ 32 % 2 ^ 32 ∧ s.SameBut t [R.TIME_NOW_HI_COUNT] ∧ s.SameAon t ∧ s.SameCore t) ∧
    (∀ k, s.off = false → counterSlot (s.rd R.CNT_SEL_GROUP) (s.rd R.CNT_SEL_INST) = some k →
      ∃ t, exec .cntValRead s = .next t ∧
        t.out = [.csrRead (SMap.getD s.core.cnt (k * 32 + s.rd R.CNT_SEL_EVENT) 0 % 2 ^ 32)] ∧
        t.rd R.CNT_VAL_HI_COUNT = SMap.getD s.core.cnt (k * 32 + s.rd R.CNT_SEL_EVENT) 0 / 2 ^ 32 % 2 ^ 32 ∧
        s.SameBut t [R.CNT_VAL_HI_COUNT] ∧ s.SameAon t ∧ s.SameCore t) ∧
    (s.off = true → ∃ t, exec .timeNowRead s = .next t ∧ t.out = [.csrRead 0]) ∧
    (s.off = true → ∃ t, exec .cntValRead s = .next t ∧ t.out = [.csrRead 0])

/-- R83, R201, R298: the writes that lock and validate. JOURNAL_SIZE stores 10 to 24 once; ROUTE_SELF with VALID 1 stores NODE and
locks, with SELF_ERR when the identity lies outside the extents; a chain program becomes VALID, or PROG_ERR names it. -/
def Obligations.LockingWrites : Prop :=
  ∀ (s : State) (d : Word),
    (s.aonUp = true → s.rd R.JOURNAL_SIZE_LOG2 = 0 → 10 ≤ bits d.toNat 0 5 → bits d.toNat 0 5 ≤ 24 →
      ∃ t, exec (.journalSizeWrite d) s = .next t ∧ t.rd R.JOURNAL_SIZE_LOG2 = bits d.toNat 0 5 ∧
        s.SameBut t [R.JOURNAL_SIZE_LOG2] ∧ s.SameAon t ∧
        (s.off = false → s.synced = true → t.core.resp.cover = some s.now)) ∧
    (s.aonUp = true → s.off = false → s.rd R.JOURNAL_SIZE_LOG2 ≠ 0 ∨ bits d.toNat 0 5 < 10 ∨ 24 < bits d.toNat 0 5 →
      ∃ t, exec (.journalSizeWrite d) s = .next t ∧ t.aon = s.aon ∧ t.core = s.core) ∧
    (s.off = false → s.on R.ROUTE_SELF_VALID = false → bit d.toNat 31 = true →
      ∃ t, exec (.routeSelfWrite d) s = .next t ∧ t.rd R.ROUTE_SELF_NODE = bits d.toNat 0 20 ∧ t.rd R.ROUTE_SELF_VALID = 1 ∧
        (nodeX (bits d.toNat 0 20) ≥ s.extent 0 → t.rd R.ROUTE_STATUS_SELF_ERR = 1) ∧
        s.SameBut t [R.ROUTE_SELF_NODE, R.ROUTE_SELF_VALID, R.ROUTE_STATUS_SELF_ERR, R.GLOBAL_READY_ROUTE, R.GLOBAL_READY_CHG_CHG] ∧
        s.SameAon t ∧ s.SameCore t) ∧
    (s.off = false → s.on R.ROUTE_SELF_VALID = true → ∃ t, exec (.routeSelfWrite d) s = .next t ∧ t.aon = s.aon ∧ t.core = s.core) ∧
    (∀ p : Fin 256, p.val ≠ 0 → s.off = false → s.on (R.KNUCKLE_CHAIN_HDR_VALID p.val) = false → bits d.toNat 0 1 = 1 →
      ∃ t, exec (.chainValidate p d) s = .next t ∧ t.rd (R.KNUCKLE_CHAIN_HDR_STAGES p.val) = bits d.toNat 1 4 ∧
        t.rd (R.KNUCKLE_CHAIN_HDR_FUNC p.val) = bits d.toNat 8 6 ∧
        (bits d.toNat 1 4 = 0 ∨ 8 < bits d.toNat 1 4 → t.rd (R.KNUCKLE_CHAIN_HDR_VALID p.val) = 0 ∧
          t.rd R.KNUCKLE_STATUS_PROG_ERR = 1 ∧ t.rd R.KNUCKLE_STATUS_PROG_ERR_ID = p.val) ∧
        (t.chainOk p.val = true → t.rd (R.KNUCKLE_CHAIN_HDR_VALID p.val) = 1) ∧ s.SameAon t ∧ s.SameCore t ∧
        s.SameBut t [R.KNUCKLE_CHAIN_HDR_VALID p.val, R.KNUCKLE_CHAIN_HDR_STAGES p.val, R.KNUCKLE_CHAIN_HDR_FUNC p.val,
          R.KNUCKLE_STATUS_PROG_ERR, R.KNUCKLE_STATUS_PROG_ERR_ID])

/-! ## Queues (chapter 2) -/

/-- R39: doorbell writes, in RUN and with all strobes. A DISABLED queue ignores them; RUNNING or STOPPED, a count past the ring is
ignored and raises DB_OVF; DRAINING, SQ_TAIL is stored untested, CQ_HEAD tested without a change of state, RESUME ignored. -/
def Obligations.DoorbellWrites : Prop :=
  ∀ (s : State) (q : QueueId) (v : Word), s.running = true →
    (s.qState q.val = 0 → ∀ c ∈ [Instr.doorbellSqTail q v 15, .doorbellCqHead q v 15, .resume q v 15],
      ∃ t, exec c s = .next t ∧ t.aon = s.aon ∧ t.core = s.core) ∧
    (s.qState q.val = 1 ∨ s.qState q.val = 2 →
      subMod 32 v.toNat (s.rd (R.QUEUE_SQ_HEAD_COUNT q.val)) > 2 ^ s.rd (R.QUEUE_SQ_SIZE_LOG2 q.val) →
      ∃ t, exec (.doorbellSqTail q v 15) s = .next t ∧ t.rd (R.QUEUE_STATUS_DB_OVF q.val) = 1 ∧ t.qState q.val = 2 ∧
        s.SameBut t [R.QUEUE_STATUS_DB_OVF q.val, R.QUEUE_STATUS_STATE q.val] ∧ s.SameAon t ∧ s.SameCore t) ∧
    (s.qState q.val = 1 ∨ s.qState q.val = 2 →
      subMod 32 v.toNat (s.rd (R.QUEUE_SQ_HEAD_COUNT q.val)) ≤ 2 ^ s.rd (R.QUEUE_SQ_SIZE_LOG2 q.val) →
      ∃ t, exec (.doorbellSqTail q v 15) s = .next t ∧ t.rd (R.QUEUE_SQ_TAIL_COUNT q.val) = v.toNat ∧
        s.SameBut t [R.QUEUE_SQ_TAIL_COUNT q.val] ∧ s.SameAon t ∧
        t.core = { s.core with regs := t.core.regs, work := s.core.work ++ [.fetch q.val] }) ∧
    (s.qState q.val = 1 ∨ s.qState q.val = 2 →
      subMod 32 (s.rd (R.QUEUE_CQ_TAIL_COUNT q.val)) v.toNat > 2 ^ s.rd (R.QUEUE_CQ_SIZE_LOG2 q.val) →
      ∃ t, exec (.doorbellCqHead q v 15) s = .next t ∧ t.rd (R.QUEUE_STATUS_DB_OVF q.val) = 1 ∧ t.qState q.val = 2 ∧
        s.SameBut t [R.QUEUE_STATUS_DB_OVF q.val, R.QUEUE_STATUS_STATE q.val] ∧ s.SameAon t ∧ s.SameCore t) ∧
    (s.qState q.val ≠ 0 →
      subMod 32 (s.rd (R.QUEUE_CQ_TAIL_COUNT q.val)) v.toNat ≤ 2 ^ s.rd (R.QUEUE_CQ_SIZE_LOG2 q.val) →
      ∃ t, exec (.doorbellCqHead q v 15) s = .next t ∧ t.rd (R.QUEUE_CQ_HEAD_COUNT q.val) = v.toNat ∧
        s.SameBut t [R.QUEUE_CQ_HEAD_COUNT q.val] ∧ s.SameAon t ∧
        t.core = { s.core with regs := t.core.regs, work := s.core.work ++ [.head q.val, .record q.val, .events] }) ∧
    (s.qState q.val = 3 → ∃ t, exec (.doorbellSqTail q v 15) s = .next t ∧ t.rd (R.QUEUE_SQ_TAIL_COUNT q.val) = v.toNat ∧
      s.SameBut t [R.QUEUE_SQ_TAIL_COUNT q.val] ∧ s.SameAon t ∧ s.SameCore t) ∧
    (s.qState q.val = 3 → subMod 32 (s.rd (R.QUEUE_CQ_TAIL_COUNT q.val)) v.toNat > 2 ^ s.rd (R.QUEUE_CQ_SIZE_LOG2 q.val) →
      ∃ t, exec (.doorbellCqHead q v 15) s = .next t ∧ t.rd (R.QUEUE_STATUS_DB_OVF q.val) = 1 ∧
        s.SameBut t [R.QUEUE_STATUS_DB_OVF q.val] ∧ s.SameAon t ∧ s.SameCore t) ∧
    (s.qState q.val = 3 → ∃ t, exec (.resume q v 15) s = .next t ∧ t.aon = s.aon ∧ t.core = s.core)

/-- R33, R34, R38, R369: a RESUME with bit 0 clears ERR and WAIT_TO, and a STOPPED queue runs on when neither DB_OVF nor RING_FAULT
remains; outside RUN, and without all strobes, a doorbell write has no effect. -/
def Obligations.ResumeWrites : Prop :=
  ∀ (s : State) (q : QueueId) (v : Word), s.off = false →
    (s.running = true → bits v.toNat 0 1 = 1 → s.qState q.val = 2 → s.on (R.QUEUE_STATUS_DB_OVF q.val) = false →
      s.on (R.QUEUE_STATUS_RING_FAULT q.val) = false →
      ∃ t, exec (.resume q v 15) s = .next t ∧ t.qState q.val = 1 ∧ t.rd (R.QUEUE_STATUS_ERR q.val) = 0 ∧
        t.rd (R.QUEUE_STATUS_WAIT_TO q.val) = 0 ∧
        s.SameBut t [R.QUEUE_STATUS_STATE q.val, R.QUEUE_STATUS_ERR q.val, R.QUEUE_STATUS_WAIT_TO q.val] ∧ s.SameAon t) ∧
    (s.running = true → bits v.toNat 0 1 = 1 → s.qState q.val = 1 ∨ s.qState q.val = 2 ∧
        (s.on (R.QUEUE_STATUS_DB_OVF q.val) = true ∨ s.on (R.QUEUE_STATUS_RING_FAULT q.val) = true) →
      ∃ t, exec (.resume q v 15) s = .next t ∧ t.qState q.val = s.qState q.val ∧ t.rd (R.QUEUE_STATUS_ERR q.val) = 0 ∧
        t.rd (R.QUEUE_STATUS_WAIT_TO q.val) = 0 ∧ s.SameAon t ∧ s.SameCore t ∧
        s.SameBut t [R.QUEUE_STATUS_ERR q.val, R.QUEUE_STATUS_WAIT_TO q.val]) ∧
    (∀ strb, s.running = false ∨ strb ≠ 15 → ∀ c ∈ [Instr.doorbellSqTail q v strb, .doorbellCqHead q v strb, .resume q v strb],
      ∃ t, exec c s = .next t ∧ t.aon = s.aon ∧ t.core = s.core)

/-- R33: ENABLE of a data queue whose function is ENABLED and whose ring sizes are 6 to 16 runs it with its four counts zero; with the
function not ENABLED it sets CFG_ERR and the queue stays DISABLED. ENABLE written 0 drains a RUNNING or STOPPED queue: a fetched
descriptor that has not issued completes with ABORTED, and a queue with nothing left is DISABLED at once.
That a successful enable clears CFG_ERR is the model's choice (log entry 30). -/
def Obligations.QueueEnableAndDisable : Prop :=
  ∀ (s : State) (q : QueueId) (d : Word), s.off = false →
    (s.qState q.val = 0 → bits d.toNat 0 1 = 1 → bits d.toNat 1 2 = 0 → bits d.toNat 6 1 = 0 →
      s.funcState (bits d.toNat 8 6) = 1 → 6 ≤ s.rd (R.QUEUE_SQ_SIZE_LOG2 q.val) → s.rd (R.QUEUE_SQ_SIZE_LOG2 q.val) ≤ 16 →
      6 ≤ s.rd (R.QUEUE_CQ_SIZE_LOG2 q.val) → s.rd (R.QUEUE_CQ_SIZE_LOG2 q.val) ≤ 16 →
      ∃ t, exec (.queueEnable q d) s = .next t ∧ t.qState q.val = 1 ∧ t.rd (R.QUEUE_CTL_ENABLE q.val) = 1 ∧
        t.qFunc q.val = bits d.toNat 8 6 ∧ t.rd (R.QUEUE_CTL_GROUP q.val) = bits d.toNat 16 12 ∧
        t.rd (R.QUEUE_SQ_HEAD_COUNT q.val) = 0 ∧ t.rd (R.QUEUE_SQ_TAIL_COUNT q.val) = 0 ∧ t.rd (R.QUEUE_CQ_HEAD_COUNT q.val) = 0 ∧
        t.rd (R.QUEUE_CQ_TAIL_COUNT q.val) = 0 ∧ t.rd (R.QUEUE_STATUS_CFG_ERR q.val) = 0) ∧
    (s.qState q.val = 0 → bits d.toNat 0 1 = 1 → s.funcState (bits d.toNat 8 6) ≠ 1 →
      ∃ t, exec (.queueEnable q d) s = .next t ∧ t.qState q.val = 0 ∧ t.rd (R.QUEUE_STATUS_CFG_ERR q.val) = 1 ∧
        t.rd (R.QUEUE_CTL_ENABLE q.val) = 0 ∧ s.SameAon t ∧ s.SameCore t) ∧
    (∀ h, bits d.toNat 0 1 = 0 → s.qState q.val = 1 ∨ s.qState q.val = 2 → (s.qs q.val).head = some h →
      ∃ t r, exec (.queueDisable q d) s = .next t ∧ t.qState q.val = 3 ∧ t.rd (R.QUEUE_CTL_ENABLE q.val) = 0 ∧
        (t.qs q.val).head = none ∧ (t.qs q.val).records = (s.qs q.val).records ++ [r] ∧ r.status = 0x12 ∧
        r.userTag = dUserTag h.desc ∧ r.opcode = dOpcode h.desc) ∧
    (bits d.toNat 0 1 = 0 → s.qState q.val = 1 ∨ s.qState q.val = 2 → s.qs q.val = QState.empty → s.core.rq.ops = [] →
      ∃ t, exec (.queueDisable q d) s = .next t ∧ t.qState q.val = 0 ∧ t.rd (R.QUEUE_CTL_ENABLE q.val) = 0)

/-- R43, R46, R49, R51, R67, R70, R96: NOP completes at issue, with its record when CQE is set; FENCE and WAIT issue and hold their
queue, FENCE waiting for the queue's unfinished writes. Each leaves the ring: SQ_HEAD goes past its slots. A descriptor that is held does not
issue; NOT_BEFORE_RELEASE frees one whose slot fabric time has reached; a WAIT whose TIMEOUT elapses with its condition false completes
with TIMEOUT and stops its queue with WAIT_TO. -/
def Obligations.NopFenceWait : Prop :=
  (
    ∀ (s : State) (q : QueueId) (h : Head), s.off = false →
      (s.ready q.val 0x3F (fun _ => []) = .ok h → s.held q.val h [] = false → dCqe h.desc = true →
        ∃ t r, exec (.nop q) s = .next t ∧ t.rd (R.QUEUE_SQ_HEAD_COUNT q.val) = (s.rd (R.QUEUE_SQ_HEAD_COUNT q.val) + h.slots) % 2 ^ 32 ∧
          (t.qs q.val).head = none ∧ (t.qs q.val).records = (s.qs q.val).records ++ [r] ∧ r.status = 0 ∧ r.detail = 0 ∧
          r.opcode = 0x3F ∧ r.userTag = dUserTag h.desc ∧ r.index = h.index) ∧
      (s.ready q.val 0x06 (fun _ => []) = .ok h → s.held q.val h [] = false →
        ∃ t o, exec (.fence q) s = .next t ∧ t.rd (R.QUEUE_SQ_HEAD_COUNT q.val) = (s.rd (R.QUEUE_SQ_HEAD_COUNT q.val) + h.slots) % 2 ^ 32 ∧
          (t.qs q.val).head = none ∧ (t.qs q.val).hold = some s.core.nextId ∧ t.op? s.core.nextId = some o ∧ o.desc = h.desc ∧
          (∀ x ∈ s.writesOf q.val, x.1 ≠ s.core.nextId → x.1 ∈ o.waitsFor) ∧ (∀ i ∈ o.waitsFor, ∃ x ∈ s.writesOf q.val, x.1 = i) ∧
          t.core.resp = s.core.resp ∧ t.core.win = s.core.win ∧ t.aon = s.aon) ∧
      (s.ready q.val 0x08 (fun _ => []) = .ok h → s.held q.val h [] = false →
        ∃ t o, exec (.wait q) s = .next t ∧ t.rd (R.QUEUE_SQ_HEAD_COUNT q.val) = (s.rd (R.QUEUE_SQ_HEAD_COUNT q.val) + h.slots) % 2 ^ 32 ∧
          (t.qs q.val).head = none ∧ (t.qs q.val).hold = some s.core.nextId ∧ t.op? s.core.nextId = some o ∧ o.desc = h.desc ∧
          .waits ∈ t.core.work ∧ t.core.resp = s.core.resp ∧ t.core.win = s.core.win ∧ t.aon = s.aon)) ∧
  (
    ∀ (s : State) (q : QueueId) (h : Head), s.off = false →
      ((s.qs q.val).head = some h → dOpcode h.desc = 0x3F → s.r50 (s.rd (R.QUEUE_CTL_KIND q.val)) (s.qFunc q.val) h.desc [] = none →
        s.held q.val h [] = true → ∃ t, exec (.nop q) s = .next t ∧ t.core = s.core ∧ t.aon = s.aon) ∧
      ((s.qs q.val).head = some h → dNb h.desc = true → s.nbReached (dNotBefore h.desc) = true →
        ∃ t, exec (.notBeforeRelease q) s = .next t ∧ (t.qs q.val).head = some { h with nbOk := true } ∧ t.aon = s.aon ∧
          t.core = { s.core with rq := t.core.rq } ∧ t.core.rq.ops = s.core.rq.ops) ∧
      (∀ id o, s.qState q.val = 1 → (s.qs q.val).hold = some id → s.op? id = some o → dOpcode o.desc = 0x08 → o.done = none →
        o.queue = q.val → dTimeout o.desc ≠ 0 → s.counterOf o.func (dWaitCounter o.desc) = none →
        waitOk 0 (dThreshold o.desc) = false →
        ∃ t r, exec (.waitTimeout q) s = .next t ∧ t.qState q.val = 2 ∧ t.rd (R.QUEUE_STATUS_WAIT_TO q.val) = 1 ∧
          (t.qs q.val).records = (s.qs q.val).records ++ [r] ∧ r.status = 0x02 ∧ r.detail = 0x00B) ∧
      (∀ id o i, s.qState q.val = 1 → (s.qs q.val).hold = some id → s.op? id = some o → dOpcode o.desc = 0x08 → o.done = none →
        o.queue = q.val → dTimeout o.desc ≠ 0 → s.counterOf o.func (dWaitCounter o.desc) = some i →
        waitOk (s.sig i) (dThreshold o.desc) = false →
        ∃ t r, exec (.waitTimeout q) s = .next t ∧ t.qState q.val = 2 ∧ t.rd (R.QUEUE_STATUS_WAIT_TO q.val) = 1 ∧
          (t.qs q.val).records = (s.qs q.val).records ++ [r] ∧ r.status = 0x02 ∧ r.detail = 0x00B ∧ r.result = s.sig i))


/-! ## The requester (chapters 2 and 3) -/

/-- R43, R44, R49, R54: PUT, GET, COPY, ATOMIC and LATCH_PUT issue when nothing holds them: the descriptor leaves the ring and becomes an
operation at its start cursor, its ranges enter the tracker, and its cutting into packets begins.
R50, R51, R74, R299: a transfer that fails R50 completes with BAD_DESC; one of LENGTH 0 completes OK without a packet; one whose
destination cannot be routed completes with NO_ROUTE at WHERE 2. None of them is cut.
That at most one packet is in preparation is the model's choice (log entry 8). -/
def Obligations.TransfersIssue : Prop :=
  (
    ∀ (s : State) (q : QueueId) (h : Head), s.off = false → s.on R.GLOBAL_START_STATUS_HOLDING = false →
      ∀ x ∈ ([(Instr.put q, 0x01, fun d => [ptrNode (dDstPtr d)], putRanges), (.get q, 0x02, fun d => [ptrNode (dSrcPtr d)], getRanges),
          (.copy q, 0x03, fun d => [ptrNode (dSrcPtr d), ptrNode (dDstPtr d)], copyRanges),
          (.atomic q, 0x04, fun d => [ptrNode (dSrcPtr d)], atomicRanges), (.latchPut q, 0x05, fun d => [ptrNode (dDstPtr d)], putRanges)] :
          List (Instr × Nat × (BitVec 1024 → List Nat) × (BitVec 1024 → List Range))),
        s.ready q.val x.2.1 (fun _ => []) = .ok h → s.held q.val h (x.2.2.2 h.desc) = false → (x.2.1 = 0x04 ∨ dLength h.desc ≠ 0) →
        s.issueRoute (s.qFunc q.val) (x.2.2.1 h.desc) = none →
        ∃ t o, exec x.1 s = .next t ∧ t.op? s.core.nextId = some o ∧ o.desc = h.desc ∧ o.queue = q.val ∧ o.func = s.qFunc q.val ∧
          o.cursor = startCursor h.desc ∧ o.done = none ∧ o.pkts = 0 ∧ .cut s.core.nextId ∈ t.core.work ∧
          t.core.nextId = s.core.nextId + 1 ∧ (t.qs q.val).head = none ∧
          (t.qs q.val).ranges = (s.qs q.val).ranges ++ (x.2.2.2 h.desc).map (fun r => { r with op := s.core.nextId }) ∧
          t.rd (R.QUEUE_SQ_HEAD_COUNT q.val) = (s.rd (R.QUEUE_SQ_HEAD_COUNT q.val) + h.slots) % 2 ^ 32 ∧
          t.aon = s.aon ∧ t.core.rq.reqs = s.core.rq.reqs ∧ t.core.resp = s.core.resp ∧ t.core.win = s.core.win ∧
          t.core.router = s.core.router ∧ t.core.mem = s.core.mem ∧ t.core.bolts = s.core.bolts ∧ t.core.col = s.core.col) ∧
  (
    ∀ (s : State) (q : QueueId) (h : Head), s.off = false → s.on R.GLOBAL_START_STATUS_HOLDING = false → dCqe h.desc = true →
      (∀ c, s.ready q.val 0x01 (fun _ => []) = .fails h c →
        ∃ t r, exec (.put q) s = .next t ∧ (t.qs q.val).records = (s.qs q.val).records ++ [r] ∧ r.status = 0x05 ∧ r.detail = c ∧
          r.userTag = dUserTag h.desc ∧ t.core.rq.reqs = s.core.rq.reqs) ∧
      (s.ready q.val 0x02 (fun _ => []) = .ok h → s.held q.val h [] = false → dLength h.desc = 0 →
        ∃ t r, exec (.get q) s = .next t ∧ (t.qs q.val).records = (s.qs q.val).records ++ [r] ∧ r.status = 0x00 ∧
          r.userTag = dUserTag h.desc ∧ t.core.rq.reqs = s.core.rq.reqs) ∧
      (∀ c, s.ready q.val 0x03 (fun _ => []) = .ok h → s.held q.val h (copyRanges h.desc) = false → dLength h.desc ≠ 0 →
        s.issueRoute (s.qFunc q.val) [ptrNode (dSrcPtr h.desc), ptrNode (dDstPtr h.desc)] = some c →
        ∃ t r, exec (.copy q) s = .next t ∧ (t.qs q.val).records = (s.qs q.val).records ++ [r] ∧ r.status = 0x11 ∧
          r.detail = 2 * 4096 + c ∧ t.core.rq.reqs = s.core.rq.reqs))

/-- R91, R97: a SIGNAL issues and covers earlier unfinished writes of its queue, within its scope, that no SIGNAL covers; once they have
completed it sends its addition, or completes with ABORTED when one of them failed. -/
def Obligations.SignalCoversAndSends : Prop :=
  ∀ (s : State) (q : QueueId), s.off = false → s.fatal = false →
    (∀ h, s.on R.GLOBAL_START_STATUS_HOLDING = false → s.ready q.val 0x07 (fun _ => []) = .ok h → s.held q.val h [] = false →
      s.issueRoute (s.qFunc q.val) [ptrNode (dSrcPtr h.desc)] = none →
      ∃ t o, exec (.signal q) s = .next t ∧ t.op? s.core.nextId = some o ∧ o.desc = h.desc ∧
        (∀ i ∈ o.waitsFor, ∃ x ∈ s.writesOf q.val, x.1 = i ∧ x.2.covered = false) ∧
        (∀ x ∈ s.writesOf q.val, x.1 ≠ s.core.nextId → x.2.covered = false →
          s.inScope (dSigScope h.desc) (opNode x.2.desc) = true → x.1 ∈ o.waitsFor) ∧
        t.rd (R.QUEUE_SQ_HEAD_COUNT q.val) = (s.rd (R.QUEUE_SQ_HEAD_COUNT q.val) + h.slots) % 2 ^ 32 ∧ t.aon = s.aon ∧
        t.core.resp = s.core.resp ∧ t.core.win = s.core.win) ∧
    (∀ id o, s.core.rq.ops.find? (fun p => p.2.queue == q.val && dOpcode p.2.desc == 0x07 && p.2.done.isNone && p.2.pkts == 0 &&
        p.2.waitsFor == []) = some (id, o) → s.op? id = some o → o.failedCover = true →
      ∃ t r, exec (.signalSend q) s = .next t ∧ (t.qs q.val).records = (s.qs q.val).records ++ [r] ∧ r.status = 0x12 ∧
        r.detail = 3 * 4096 + 0x020) ∧
    (∀ id o n, s.on R.GLOBAL_START_STATUS_HOLDING = false → s.core.rq.ops.find? (fun p => p.2.queue == q.val &&
        dOpcode p.2.desc == 0x07 && p.2.done.isNone && p.2.pkts == 0 && p.2.waitsFor == []) = some (id, o) → o.failedCover = false →
      s.allocTag o.queue o.func = some n → s.tdmPair o.func (ptrNode (dSrcPtr o.desc)) = none →
      s.strictTo o.func (ptrNode (dSrcPtr o.desc)) = false →
      s.rateEntry o.func (ptrNode (dSrcPtr o.desc)) = none → s.injOk o.func 1 = true →
      ∃ t o' r, exec (.signalSend q) s = .next t ∧ t.op? id = some o' ∧ o'.pkts = 1 ∧ t.req? n = some r ∧ r.kind = .signal ∧
        r.node = ptrNode (dSrcPtr o.desc) ∧ r.ptr = dSrcPtr o.desc ∧ (r.state = .queued ∨ r.state = .sent))

/-- R285, R295, R345, R370: the queue's next ready request leaves once HOLDING is 0 and neither the rate cache nor the injection ceiling
holds it; its timeout T is taken then. While HOLDING is 1 none leaves.
R267, R268, R354: a request of a function with an ACTIVE TDM pair to its node enters the pair while that has room, with CIRCUIT and TDM
in its header; one of a strict function without a pair to a node outside its package is not sent: its packet fails with NO_ROUTE,
REASON 0x025. -/
def Obligations.RequestsLeave : Prop :=
  ∀ (s : State) (q : QueueId), s.off = false →
    (∀ n r k c, s.on R.GLOBAL_START_STATUS_HOLDING = false → s.fatal = false → s.nextReady q.val = some (n, r) → r.kind = .write →
      s.tdmPair r.func r.node = some (k, c) → c.pending_ < 4 * c.pkts →
      ∃ t r' c' o, exec (.reqPacketSend q) s = .next t ∧ t.req? n = some r' ∧ r'.state = .queued ∧ r'.tdm = some k ∧
        t.circuit? k = some c' ∧ c'.tdm = c.tdm ++ [o] ∧ c'.pending_ = c.pending_ + 1 ∧ o.pkt.tdm = true ∧
        o.pkt.circuit = c.outIndex % 2 ^ 8 ∧ o.pkt.tag = n % 2 ^ 18 ∧ t.core.router = s.core.router ∧ t.core.rq.rates = s.core.rq.rates) ∧
    (∀ n r o, s.on R.GLOBAL_START_STATUS_HOLDING = false → s.fatal = false → s.nextReady q.val = some (n, r) → r.tdm = none →
      s.strictCut r.func r.node = true → r.kind = .write → s.op? r.op = some o → o.firstFail = none →
      ∃ t o', exec (.reqPacketSend q) s = .next t ∧ t.req? n = none ∧ t.op? r.op = some o' ∧
        (o'.firstFail.map (fun x => (x.1, x.2.1, x.2.2.1))) = some (r.pkt, 0x11, 2 * 4096 + 0x025) ∧ t.core.router = s.core.router) ∧
    (∀ n r, s.on R.GLOBAL_START_STATUS_HOLDING = false → s.fatal = false → s.nextReady q.val = some (n, r) → r.kind = .write →
      s.tdmPair r.func r.node = none → s.strictTo r.func r.node = false → s.rateOk r.func r.node r.cost = true → s.injOk r.func r.cost = true →
      ∃ t r', exec (.reqPacketSend q) s = .next t ∧ t.req? n = some r' ∧ (r'.state = .queued ∨ r'.state = .sent) ∧
        r'.tout = s.timeout r.func ∧ r'.dline = s.now + s.timeout r.func * usLsb ∧ r'.op = r.op ∧ r'.ptr = r.ptr ∧
        t.core.rq.ops = s.core.rq.ops ∧ t.core.win = s.core.win ∧ t.core.jobs = s.core.jobs) ∧
    (∀ c ∈ [Instr.reqPacketSend q, .latchResend q], s.on R.GLOBAL_START_STATUS_HOLDING = true →
      ∃ t, exec c s = .next t ∧ t.core = s.core ∧ t.aon = s.aon) ∧
    (∀ n r, s.on R.GLOBAL_START_STATUS_HOLDING = false → s.fatal = false →
      s.nextHeld q.val = some (n, r) → r.kind = .latch →
      (s.qs q.val).uncounted = 0 → s.tdmPair r.func r.node = none → s.strictTo r.func r.node = false → s.rateOk r.func r.node r.cost = true →
      s.injOk r.func r.cost = true →
      ∃ t r', exec (.latchResend q) s = .next t ∧ t.req? n = some r' ∧ (r'.state = .queued ∨ r'.state = .sent) ∧ r'.hdr = 0 ∧
        t.core.rq.ops = s.core.rq.ops)

/-- R22, R74, R77, R78, R88, R93: a response frees its tag, or hands the request on. An ACK counts its bytes to the operation, or leaves
the failure earliest in iteration order; DATA goes to memory for a GET and to the write half of a COPY; an atomic's response leaves
its result; NO_TRACK leaves the latch held at the requester.
R390: a response to a quarantined tag is discarded and counted, whatever its type.
Which response a command takes is the model's choice (log entry 6). -/
def Obligations.ResponsesArrive : Prop :=
  (
    ∀ (s : State) (i : InPkt) (rest : List InPkt) (r : Req) (o : Op), s.off = false → s.req? i.pkt.tag = some r → r.state = .sent →
      s.op? r.op = some o →
      (takeFirst (fun i => i.pkt.cls == 3 && i.pkt.type == 0 && true) s.core.resp.inbox = some (i, rest) → r.kind = .write →
        i.pkt.rspStatus = 0 →
        ∃ t o', exec .ackReceive s = .next t ∧ t.req? i.pkt.tag = none ∧ t.op? r.op = some o' ∧ o'.open_ = o.open_ - 1 ∧
          o'.bytes = o.bytes + r.len ∧ o'.firstFail = o.firstFail ∧ .settle r.op ∈ t.core.work ∧ t.core.resp.inbox = rest ∧
          t.core.win = s.core.win ∧ t.core.mem = s.core.mem) ∧
      (takeFirst (fun i => i.pkt.cls == 3 && i.pkt.type == 0 && true) s.core.resp.inbox = some (i, rest) →
        r.kind = .signal → i.pkt.rspStatus ≠ 0 → o.firstFail = none →
        ∃ t o', exec .ackReceive s = .next t ∧ t.req? i.pkt.tag = none ∧ t.op? r.op = some o' ∧ o'.open_ = o.open_ - 1 ∧
          o'.bytes = o.bytes ∧ (o'.firstFail.map (fun x => (x.1, x.2.1, x.2.2.1))) = some (r.pkt, i.pkt.rspStatus, i.pkt.rspDetail)) ∧
      (takeFirst (fun i => i.pkt.cls == 3 && i.pkt.type == 1 && true) s.core.resp.inbox = some (i, rest) → r.kind = .read →
        i.pkt.rspStatus = 0 →
        ∃ t, exec .dataReceive s = .next t ∧ t.req? i.pkt.tag = some { r with state := .landing } ∧ t.core.nextId = s.core.nextId + 1 ∧
          ((SMap.get? t.core.jobs s.core.nextId).map (fun j => (j.acc, j.len, j.data))) =
            some (Acc.write, r.len, padTo r.len i.pkt.payload) ∧ t.op? r.op = some o) ∧
      (takeFirst (fun i => i.pkt.cls == 3 && i.pkt.type == 1 && true) s.core.resp.inbox = some (i, rest) → r.kind = .copyRead →
        r.tdm = none → i.pkt.rspStatus = 0 →
        ∃ t r', exec .dataReceive s = .next t ∧ t.req? i.pkt.tag = some r' ∧ r'.kind = .copyWrite ∧ r'.state = .ready ∧
          r'.node = ptrNode r.rptr ∧ r'.payload = padTo r.len i.pkt.payload ∧ t.op? r.op = some o) ∧
      (takeFirst (fun i => i.pkt.cls == 3 && i.pkt.type == 2 && true) s.core.resp.inbox = some (i, rest) → r.kind = .atomic →
        i.pkt.rspStatus = 0 →
        ∃ t o', exec .atomicRspReceive s = .next t ∧ t.req? i.pkt.tag = none ∧ t.op? r.op = some o' ∧
          o'.result = i.pkt.fld 0x20 0 128 % 2 ^ (8 * atypeBytes (dAtype o.desc)) ∧ o'.open_ = o.open_ - 1) ∧
      (takeFirst (fun i => i.pkt.cls == 3 && i.pkt.type == 4 && true) s.core.resp.inbox = some (i, rest) → r.kind = .latch →
        r.tdm = none →
        ∃ t, exec .noTrackReceive s = .next t ∧ t.req? i.pkt.tag = some { r with state := .held } ∧ t.op? r.op = some o)) ∧
  (
    ∀ (s : State) (i : InPkt) (rest : List InPkt) (r : Req), s.off = false → s.req? i.pkt.tag = some r → r.state = .quarantine →
      ∀ x ∈ [(Instr.ackReceive, 0), (.dataReceive, 1), (.atomicRspReceive, 2), (.janswerReceive, 3), (.noTrackReceive, 4),
          (.boltAckReceive, 5)],
        takeFirst (fun i => i.pkt.cls == 3 && i.pkt.type == x.2 && true) s.core.resp.inbox = some (i, rest) →
        ∃ t, exec x.1 s = .next t ∧ t.core.rq = s.core.rq ∧ t.core.resp.inbox = rest ∧
          SMap.getD t.core.cnt (blockSlot * 32 + 8) 0 = (SMap.getD s.core.cnt (blockSlot * 32 + 8) 0 + 1) % 2 ^ 64 ∧
          t.aon = s.aon ∧ t.core.regs = s.core.regs ∧ t.core.work = s.core.work ∧ t.core.mem = s.core.mem)

/-- R389-R392, R88: a request whose timer expires goes into quarantine and fails its operation with TIMEOUT, or is left to policy
firmware where its queue and function allow a retry; so is an atomic at D + 16 ns. A quarantine ends with a free tag.
The operands are the model's (log entry 7). -/
def Obligations.TimeoutsOfRequests : Prop :=
  ∀ (s : State) (g : TagId) (r : Req), s.off = false → s.req? g.val = some r →
    (∀ o, r.state = .sent → r.kind = .write → r.tdm = none → s.mayRetry r = false → s.op? r.op = some o → o.firstFail = none →
      ∃ t r' o', exec (.requestTimeout g) s = .next t ∧ t.req? g.val = some r' ∧ r'.state = .quarantine ∧ t.op? r.op = some o' ∧
        o'.open_ = o.open_ - 1 ∧ (o'.firstFail.map (fun x => (x.1, x.2.1, x.2.2.1))) = some (r.pkt, 0x02, 8 * 4096 + 0x081)) ∧
    (∀ o, r.state = .sent → r.kind = .write → r.tdm = none → s.mayRetry r = true → s.op? r.op = some o → o.faultAt = none →
      s.core.ward.items.length < 4096 →
      ∃ t r', exec (.requestTimeout g) s = .next t ∧ t.req? g.val = some r' ∧ r'.state = .firmware ∧
        t.core.ward.items = s.core.ward.items ++ [.retry g.val] ∧ t.op? r.op = some o) ∧
    (r.kind = .atomic → r.state = .sent → r.dline + 1024 ≤ s.now → r.tdm = none → s.core.ward.items.length < 4096 →
      ∃ t r', exec (.atomicTimeout g) s = .next t ∧ t.req? g.val = some r' ∧ r'.state = .firmware ∧
        t.core.ward.items = s.core.ward.items ++ [.atomic g.val]) ∧
    (r.kind = .atomic → s.now < r.dline + 1024 → ∃ t, exec (.atomicTimeout g) s = .next t ∧ t.core = s.core ∧ t.aon = s.aon) ∧
    (r.state = .quarantine → ∃ t, exec (.tagQuarantineEnd g) s = .next t ∧ t.req? g.val = none ∧ t.core.rq.ops = s.core.rq.ops ∧
      t.aon = s.aon ∧ t.core.regs = s.core.regs ∧ t.core.mem = s.core.mem ∧ t.core.win = s.core.win)

/-- R88, R382, R392: work items wait for room in the Ward queue; firmware reissues a timed-out request under a new tag, which the old
one leaves in quarantine, and sends a journal query for a timed-out atomic; a FOUND answer gives the operation its result.
The REASON a reissue leaves after a failed translation is free (log entry 30). -/
def Obligations.FirmwareWork : Prop :=
  ∀ s : State, s.off = false →
    (∀ w l, s.core.ward.waiting = w :: l → s.core.ward.items.length < 4096 →
      ∃ t, exec .workItemPost s = .next t ∧ t.core.ward.waiting = l ∧ t.core.ward.items = s.core.ward.items ++ [w] ∧
        t.rd R.WARD_STATUS_ITEMS = (s.core.ward.items.length + 1) % 2 ^ 13 ∧ s.SameBut t [R.WARD_STATUS_ITEMS] ∧ s.SameAon t ∧
        t.core.rq = s.core.rq) ∧
    (∀ (g : TagId) (r : Req) (o : Op) (n : Nat), s.req? g.val = some r → r.state = .firmware → r.kind = .write →
      s.itemDue (.retry g.val) = true → s.mayRetry r = true → r.tries < 7 → s.allocTag r.queue r.func = some n → s.op? r.op = some o →
      ∃ t x y o', exec (.retryReissue g) s = .next t ∧ t.req? n = some x ∧ x.kind = .write ∧ x.state = .prep ∧ x.tries = r.tries + 1 ∧
        x.counted = none ∧ t.req? g.val = some y ∧ y.state = .quarantine ∧ t.op? r.op = some o' ∧ o'.retried = true ∧
        o'.desc = o.desc) ∧
    (∀ (g : TagId) (r : Req) (n : Nat), s.req? g.val = some r → r.state = .firmware → r.kind = .atomic →
      s.itemDue (.atomic g.val) = true → s.now < r.dline + 3 * r.tout * usLsb → s.on R.GLOBAL_START_STATUS_HOLDING = false →
      s.allocTag r.queue r.func = some n → s.tdmPair r.func r.node = none → s.strictTo r.func r.node = false →
      s.injOk r.func 1 = true →
      ∃ t x, exec (.journalQuerySend g) s = .next t ∧ t.req? n = some x ∧ x.kind = .jquery ∧ x.jid = some (r.jid.getD 0) ∧ x.node = r.node ∧
        t.req? g.val = some { r with heldBy := r.heldBy + 1 }) ∧
    (∀ (i : InPkt) (rest : List InPkt) (x r : Req) (o : Op),
      takeFirst (fun i => i.pkt.cls == 3 && i.pkt.type == 3 && true) s.core.resp.inbox = some (i, rest) →
      s.req? i.pkt.tag = some x → x.kind = .jquery → x.state = .sent → x.tdm = none → x.pkt ≠ i.pkt.tag → s.req? x.pkt = some r →
      r.state = .firmware → s.op? r.op = some o → i.pkt.rspStatus = 0 → i.pkt.fld 0x13 0 2 = 0 →
      ∃ t o' y, exec .janswerReceive s = .next t ∧ t.req? i.pkt.tag = none ∧ t.req? x.pkt = some y ∧ y.state = .quarantine ∧
        t.op? r.op = some o' ∧ o'.result = i.pkt.fld 0x20 0 128 % 2 ^ (8 * atypeBytes (dAtype o.desc)))

/-! ## Router and route tables (chapters 11 and 12) -/

/-- R285-R287, R290, R291: an output sends an LCF-class CTL packet first, then another CTL packet while the flits of such packets in the
last 64 cycles leave room for it under CTL_CAP or no other class has one, else the packet deficit round robin chose; the packet leaves its
queue and takes its credits. An LCF carries the cumulative counts; a ring entry that has waited raises its guard once. -/
def Obligations.PortsSend : Prop :=
  ∀ (s : State) (p : Port), s.off = false →
    (∀ o, s.pickClass p.val 0 (fun o => o.pkt.type == 2) = some o → o.port = p.val → o.pkt.cls = 0 →
      ∃ t, exec (.packetSend p) s = .next t ∧ (t.link p.val).tx = (s.link p.val).tx ++ txItems o ∧
        SMap.getD (t.flow p.val).txc 0 0 = (SMap.getD (s.flow p.val).txc 0 0 + o.pkt.flits) % 2 ^ 16 ∧
        t.core.router.queued.length + 1 = s.core.router.queued.length ∧ t.core.rq.ops = s.core.rq.ops ∧ t.aon = s.aon ∧
        t.core.regs = s.core.regs) ∧
    (∀ o, s.pickClass p.val 0 (fun o => o.pkt.type == 2) = none → s.pickClass p.val 0 (fun o => o.pkt.type != 2) = some o → o.port = p.val →
      o.pkt.cls = 0 →
      (s.flow p.val).ctlSent.length + o.pkt.flits ≤ s.ctlCap p.val ∨
        s.drr p.val 6 (s.flow p.val).turn (s.flow p.val).deficit (s.flow p.val).weights = none →
      ∃ t, exec (.packetSend p) s = .next t ∧ (t.link p.val).tx = (s.link p.val).tx ++ txItems o ∧
        SMap.getD (t.flow p.val).txc 0 0 = (SMap.getD (s.flow p.val).txc 0 0 + o.pkt.flits) % 2 ^ 16 ∧
        (t.flow p.val).turn = (s.flow p.val).turn ∧ (t.flow p.val).deficit = (s.flow p.val).deficit ∧
        t.core.rq.ops = s.core.rq.ops ∧ t.aon = s.aon ∧ t.core.regs = s.core.regs) ∧
    (∀ o turn deficit ws, s.pickClass p.val 0 (fun o => o.pkt.type == 2) = none →
      (∀ c, s.pickClass p.val 0 (fun o => o.pkt.type != 2) = some c →
        s.ctlCap p.val < (s.flow p.val).ctlSent.length + c.pkt.flits) →
      s.drr p.val 6 (s.flow p.val).turn (s.flow p.val).deficit (s.flow p.val).weights = some (o, turn, deficit, ws) → o.port = p.val →
      ∃ t, exec (.packetSend p) s = .next t ∧ (t.link p.val).tx = (s.link p.val).tx ++ txItems o ∧
        (t.flow p.val).turn = turn ∧ (t.flow p.val).deficit = deficit ∧ (t.flow p.val).weights = ws ∧
        SMap.getD (t.flow p.val).txc o.pkt.cls 0 = (SMap.getD (s.flow p.val).txc o.pkt.cls 0 + o.pkt.flits) % 2 ^ 16 ∧
        (t.flow p.val).rx = (s.flow p.val).rx ∧ t.core.resp = s.core.resp ∧ t.core.rq.ops = s.core.rq.ops ∧ t.aon = s.aon ∧
        t.core.regs = s.core.regs) ∧
    (s.portReady p.val = true → ∃ t, exec (.lcfSend p) s = .next t ∧
      (t.link p.val).tx = (s.link p.val).tx ++ [⟨2, s.lcfFlit p.val, none, 0⟩] ∧ t.aon = s.aon ∧
      t.core = { s.core with links := t.core.links } ∧ (∀ k, k ≠ p.val → t.link k = s.link k)) ∧
    (∀ vc : Fin 5, s.core.router.queued.any (fun o => o.port == p.val && o.entry && o.pkt.cls == vc.val) = true →
      (s.flow p.val).guard.contains vc.val = false →
      ∃ t, exec (.ringEntryGuard p vc) s = .next t ∧ (t.flow p.val).guard = (s.flow p.val).guard ++ [vc.val] ∧
        t.rd (R.ROUTE_TELEM_GUARD_COUNT p.val) = (s.rd (R.ROUTE_TELEM_GUARD_COUNT p.val) + 1) % 2 ^ 32 ∧
        s.SameBut t [R.ROUTE_TELEM_GUARD_COUNT p.val] ∧ s.SameAon t ∧ t.core = { s.core with regs := t.core.regs, router := t.core.router } ∧
        t.core.router.queued = s.core.router.queued ∧ (∀ k, k ≠ p.val → t.flow k = s.flow k))

/-- R309, R311: the route state. HOLD in RUN holds; the drain timer ends in DRAINED; RELEASE lets go; COMMIT in DRAINED loads the active
set, counts EPOCH and has every group probe again; HOLD outside RUN and COMMIT outside DRAINED set CMD_ERR and change no state.
CLEAR_PEAKS clears every peak.
R294, R304: an ANNOUNCE makes its port routable or miswired by what R304 expects; a recovery interval raises a rate entry by INCR and
frees one that reaches 1,024. -/
def Obligations.RouteCommands : Prop :=
  (
    ∀ s : State, s.off = false →
      (s.rd R.ROUTE_STATUS_STATE = 0 → ∃ t, exec .routeHold s = .next t ∧ t.rd R.ROUTE_STATUS_STATE = 1 ∧
        s.SameBut t [R.ROUTE_STATUS_STATE] ∧ s.SameAon t ∧ s.SameCore t) ∧
      (s.rd R.ROUTE_STATUS_STATE ≠ 0 → ∃ t, exec .routeHold s = .next t ∧ t.rd R.ROUTE_STATUS_CMD_ERR = 1 ∧
        s.SameBut t [R.ROUTE_STATUS_CMD_ERR] ∧ s.SameAon t ∧ s.SameCore t) ∧
      (s.rd R.ROUTE_STATUS_STATE = 1 → ∃ t, exec .routeDrainDone s = .next t ∧ t.rd R.ROUTE_STATUS_STATE = 2 ∧
        s.SameBut t [R.ROUTE_STATUS_STATE] ∧ s.SameAon t ∧ s.SameCore t) ∧
      (∃ t, exec .routeRelease s = .next t ∧ t.rd R.ROUTE_STATUS_STATE = 0 ∧ s.SameBut t [R.ROUTE_STATUS_STATE] ∧ s.SameAon t ∧
        s.SameCore t) ∧
      (s.rd R.ROUTE_STATUS_STATE ≠ 2 → ∃ t, exec .routeCommit s = .next t ∧ t.rd R.ROUTE_STATUS_CMD_ERR = 1 ∧
        s.SameBut t [R.ROUTE_STATUS_CMD_ERR] ∧ s.SameAon t ∧ s.SameCore t) ∧
      (s.rd R.ROUTE_STATUS_STATE = 2 → ∃ t, exec .routeCommit s = .next t ∧ t.rd R.ROUTE_STATUS_STATE = 0 ∧
        t.rd R.ROUTE_STATUS_EPOCH = (s.rd R.ROUTE_STATUS_EPOCH + 1) % 2 ^ 16 ∧ t.core.router.active = s.shadow ∧
        (∀ g ∈ t.core.col.groups, g.2.probed = false ∧ g.2.paths = []) ∧ t.core.bolts = s.core.bolts ∧
        t.core.rq.rates = s.core.rq.rates) ∧
      (∃ t, exec .clearPeaks s = .next t ∧ (∀ p : Port, t.rd (R.ROUTE_TELEM_PEAK_FLITS p.val) = 0) ∧
        s.SameBut t ((List.range 10).map (fun p => R.ROUTE_TELEM_PEAK_FLITS p)) ∧ s.SameAon t ∧ s.SameCore t)) ∧
  (
    ∀ s : State, s.off = false →
      (∀ i rest, takeFirst (fun i => i.pkt.cls == 0 && i.pkt.type == 6 && true) s.core.resp.inbox = some (i, rest) →
        i.pkt.fld 0x10 0 4 = 0 →
        ∃ t, exec .announceArrival s = .next t ∧ (t.flow i.port).ann = some (s.announceOk i.port i.pkt) ∧ t.core.resp.inbox = rest ∧
          t.aon = s.aon ∧ t.core.regs = s.core.regs ∧ t.core.rq = s.core.rq ∧ (∀ k, k ≠ i.port → t.flow k = s.flow k)) ∧
      (∀ (f : FuncId) (n : BitVec 20) (e : RateEntry), e ∈ s.core.rq.rates → e.func = f.val → e.node = n.toNat →
        e.rate + s.rd R.RATE_CURVE_INCR < 1024 →
        ∃ t, exec (.rateRecovery f n) s = .next t ∧ { e with rate := e.rate + s.rd R.RATE_CURVE_INCR } ∈ t.core.rq.rates ∧
          t.core = { s.core with rq := t.core.rq } ∧ t.aon = s.aon) ∧
      (∀ (f : FuncId) (n : BitVec 20), (∀ e ∈ s.core.rq.rates, e.func = f.val → e.node = n.toNat →
          1024 ≤ e.rate + s.rd R.RATE_CURVE_INCR) →
        ∃ t, exec (.rateRecovery f n) s = .next t ∧ t.rateEntry f.val n.toNat = none ∧
          (∀ e ∈ s.core.rq.rates, e.func ≠ f.val ∨ e.node ≠ n.toNat → e ∈ t.core.rq.rates)))


/-! ## Memory side, windows, translation, engine signal port (chapters 4, 5 and 18) -/

/-- R395, R441-R445: a read's last line or a write's acknowledgement ends the access that waits for it, with the bytes read, or with an
error, which is logged with CLASS 4 unless the access has an error record of its own; a line before the last is kept.
R15, R442, R443: a credit returns, and no kind holds more than 4,095; what waits for one leaves in the order of R15. -/
def Obligations.MemoryAnswers : Prop :=
  (
    ∀ (s : State) (m : MspId) (g : BitVec 12) (line : BitVec 1024) (r : MemReq) (id : Nat) (j : Job), s.idle = false →
      (SMap.get? s.core.mem.reads (m.val * 4096 + g.toNat) = some r →
        ∃ t, exec (.mspReadReturn m g line false false) s = .next t ∧
          SMap.get? t.core.mem.reads (m.val * 4096 + g.toNat) = some { r with got := r.got ++ toLE 128 line.toNat } ∧
          t.core = { s.core with mem.reads := t.core.mem.reads } ∧ t.aon = s.aon) ∧
      (SMap.get? s.core.mem.reads (m.val * 4096 + g.toNat) = some r → r.owner = .job id → SMap.get? s.core.jobs id = some j →
        j.acc = .read → j.len ≤ j.pos + min (j.len - j.pos) (512 - (j.va + j.pos) % 512) → r.bad = false →
        ∃ t, exec (.mspReadReturn m g line true false) s = .next t ∧ SMap.get? t.core.jobs id = none ∧
          .done j.purpose ⟨none, j.data ++ slice (r.got ++ toLE 128 line.toNat) (r.pa % 128) r.len, j.pa, j.ksel,
            j.pos + min (j.len - j.pos) (512 - (j.va + j.pos) % 512), j.pa0⟩ ∈ t.core.work ∧ t.aon = s.aon ∧ t.core.regs = s.core.regs ∧
          t.core.rq = s.core.rq) ∧
      (SMap.get? s.core.mem.reads (m.val * 4096 + g.toNat) = some r → r.owner = .job id → SMap.get? s.core.jobs id = some j →
        j.purpose.isRing = false →
        ∃ t e, exec (.mspReadReturn m g line true true) s = .next t ∧ SMap.get? t.core.jobs id = none ∧
          .done j.purpose ⟨some (.msp r.pa), j.data, j.pa, j.ksel, j.pos, j.pa0⟩ ∈ t.core.work ∧ e ∈ t.core.err.merging ∧ e.cls = 4 ∧
          e.func = some r.func) ∧
      (SMap.get? s.core.mem.writes (m.val * 4096 + g.toNat) = some r → r.owner = .job id → SMap.get? s.core.jobs id = some j →
        j.acc = .write → j.len ≤ j.pos + min (j.len - j.pos) (512 - (j.va + j.pos) % 512) →
        ∃ t, exec (.mspWriteAck m g false) s = .next t ∧ SMap.get? t.core.jobs id = none ∧
          .done j.purpose ⟨none, j.data, j.pa, j.ksel, j.pos + min (j.len - j.pos) (512 - (j.va + j.pos) % 512), j.pa0⟩ ∈ t.core.work ∧
          t.aon = s.aon ∧ t.core.regs = s.core.regs ∧ t.core.rq = s.core.rq)) ∧
  (
    ∀ (s : State) (m : MspId), s.idle = false → m.val < s.build.msps →
      (s.core.mem.waiting = [] → s.core.mem.lines = [] →
        ∀ x ∈ ([(.readRequest, fun x => x.rqCredit), (.writeRequest, fun x => x.wqCredit), (.writeData, fun x => x.wdCredit)] :
            List (CreditKind × (MemSide → SMap Nat))),
          ∃ t, exec (.mspCreditReturn m x.1) s = .next t ∧
            SMap.getD (x.2 t.core.mem) m.val 0 = min 4095 (SMap.getD (x.2 s.core.mem) m.val 0 + 1) ∧
            (∀ k, k ≠ m.val → SMap.getD (x.2 t.core.mem) k 0 = SMap.getD (x.2 s.core.mem) k 0) ∧
            t.core = { s.core with mem := t.core.mem } ∧ t.core.mem.reads = s.core.mem.reads ∧ t.core.mem.writes = s.core.mem.writes ∧
            t.aon = s.aon) ∧
      (∀ r rest next, s.pins.iso = false →
          mspChoose m.val false { s.core.mem with rqCredit := (SMap.putD s.core.mem.rqCredit m.val (min 4095 (SMap.getD s.core.mem.rqCredit m.val 0 + 1)) 0) } =
            some (r, rest, next) → s.core.mem.waiting ≠ [] →
        ∃ t g, exec (.mspCreditReturn m .readRequest) s = .next t ∧
          .mspRead r.msp (r.pa / 128) ((r.pa + r.len - 1) / 128 - r.pa / 128) g r.ksel r.func r.src ∈ t.out ∧
          t.core = { s.core with mem := t.core.mem }))

/-- R105-R110: OPEN gives the lowest never-used window ID, or the longest free one, the values of its descriptor, the next generation
from 1 to 255 and state OPEN, counts it for its function, and returns the pointer to its start; with no ID free, or the function's quota
reached, or values that R108 refuses, it completes with BAD_DESC and changes no window. -/
def Obligations.WindowsOpen : Prop :=
  ∀ (s : State) (q : QueueId) (h : Head), s.off = false → s.readyWin q.val 0 = .ok h → s.held q.val h [] = false → dCqe h.desc = true →
    (∀ w rest, s.openRefusal (s.qFunc q.val) h.desc = none → s.core.win.take = some (w, rest) →
      ∃ t r, exec (.windowOpen q) s = .next t ∧ (t.win w).state = .opened ∧ (t.win w).base = dWinBase h.desc ∧
        (t.win w).size = dWinSize h.desc ∧ (t.win w).gen = (s.win w).gen % 255 + 1 ∧ (t.win w).perm = dWinPerm h.desc ∧
        (t.win w).ksel = dWinKey h.desc ∧ (t.win w).func = s.qFunc q.val ∧ (t.win w).accepted = 0 ∧ (∀ k, k ≠ w → t.win k = s.win k) ∧
        t.rd (R.WINDOW_USED_COUNT (s.qFunc q.val)) = (s.rd (R.WINDOW_USED_COUNT (s.qFunc q.val)) + 1) % 2 ^ 17 ∧
        t.rd R.WINDOW_STATUS_IN_USE = (s.rd R.WINDOW_STATUS_IN_USE + 1) % 2 ^ 17 ∧ t.core.win.freed = rest.freed ∧
        (t.qs q.val).records = (s.qs q.val).records ++ [r] ∧ r.status = 0 ∧
        r.result = pack [(52, 8, (s.win w).gen % 255 + 1), (60, 16, w), (76, 20, s.self)] ∧ t.aon = s.aon ∧ t.core.xl = s.core.xl ∧
        t.core.resp = s.core.resp ∧ t.core.mem = s.core.mem ∧ t.core.router = s.core.router) ∧
    (∀ c, s.openRefusal (s.qFunc q.val) h.desc = some c →
      ∃ t r, exec (.windowOpen q) s = .next t ∧ t.core.win = s.core.win ∧ (t.qs q.val).records = (s.qs q.val).records ++ [r] ∧
        r.status = 0x05 ∧ r.detail = 3 * 4096 + c ∧ t.aon = s.aon)

/-- R116, R117, R122, R123: CLOSE, from F0 only, moves an open or aliased window to CLOSING and refuses the latches held for it; it waits while an ALIAS record
is pending, and completes with WINDOW_CLOSED on a window in any other state; ALIAS moves
an open window of its own function to ALIASED and its record waits for the packets accepted before; the end of a quarantine frees the ID
at the tail of the free list. -/
def Obligations.WindowsCloseAndAlias : Prop :=
  ∀ (s : State) (q : QueueId) (h : Head), s.off = false →
    (s.readyWin q.val 1 = .ok h → s.held q.val h [] = false → s.qFunc q.val = 0 → (s.win (dWindow h.desc)).aliasPend = false →
      (s.win (dWindow h.desc)).state = .opened ∨ (s.win (dWindow h.desc)).state = .aliased →
      ∃ t, exec (.windowClose q) s = .next t ∧
        t.win (dWindow h.desc) = { (s.win (dWindow h.desc)) with state := .closing, tag := dUserTag h.desc, op := some s.core.nextId } ∧
        (∀ k, k ≠ dWindow h.desc → t.win k = s.win k) ∧ .window (dWindow h.desc) ∈ t.core.work ∧
        (∀ slot i, SMap.get? t.core.resp.holds slot = some i → ptrWindow i.pkt.ptr ≠ dWindow h.desc) ∧ t.aon = s.aon ∧
        t.core.win.freed = s.core.win.freed) ∧
    (s.readyWin q.val 1 = .ok h → s.held q.val h [] = false → s.qFunc q.val ≠ 0 →
      ∃ t r, exec (.windowClose q) s = .next t ∧ t.core.win = s.core.win ∧ (t.qs q.val).records = (s.qs q.val).records ++ [r] ∧
        r.status = 0x05 ∧ r.detail = 3 * 4096 + 0x030) ∧
    (s.readyWin q.val 1 = .ok h → s.held q.val h [] = false → s.qFunc q.val = 0 → (s.win (dWindow h.desc)).aliasPend = false →
      (s.win (dWindow h.desc)).state ≠ .opened → (s.win (dWindow h.desc)).state ≠ .aliased →
      ∃ t r, exec (.windowClose q) s = .next t ∧ t.core.win = s.core.win ∧ (t.qs q.val).records = (s.qs q.val).records ++ [r] ∧
        r.status = 0x03 ∧ r.detail = 3 * 4096 + 0x032) ∧
    (s.readyWin q.val 1 = .ok h → s.qFunc q.val = 0 → (s.win (dWindow h.desc)).aliasPend = true →
      ∃ t, exec (.windowClose q) s = .next t ∧ t.core = s.core ∧ t.aon = s.aon) ∧
    (s.readyWin q.val 2 = .ok h → s.held q.val h [] = false →
      s.aliasRefusal (s.qFunc q.val) (s.win (dWindow h.desc)) (dAliasTo h.desc) = none →
      ∃ t o, exec (.windowAlias q) s = .next t ∧
        t.win (dWindow h.desc) = { (s.win (dWindow h.desc)) with state := .aliased, aliasPend := true, aliasTo := dAliasTo h.desc, tag := dUserTag h.desc, op := some s.core.nextId } ∧
        (∀ k, k ≠ dWindow h.desc → t.win k = s.win k) ∧ t.op? s.core.nextId = some o ∧ o.done = none ∧
        .window (dWindow h.desc) ∈ t.core.work ∧ t.core.resp = s.core.resp ∧ t.aon = s.aon) ∧
    (∀ c, s.readyWin q.val 2 = .ok h → s.held q.val h [] = false →
      s.aliasRefusal (s.qFunc q.val) (s.win (dWindow h.desc)) (dAliasTo h.desc) = some c →
      ∃ t r, exec (.windowAlias q) s = .next t ∧ t.core.win = s.core.win ∧ (t.qs q.val).records = (s.qs q.val).records ++ [r] ∧
        r.status = c.1 ∧ r.detail = 3 * 4096 + c.2) ∧
    (∀ w : WindowId, (s.win w.val).state = .quarantine →
      ∃ t, exec (.windowQuarantineEnd w) s = .next t ∧ t.win w.val = { (s.win w.val) with state := .free } ∧
        (∀ k, k ≠ w.val → t.win k = s.win k) ∧ t.core.win.freed = s.core.win.freed ++ [w.val] ∧ t.rd R.WINDOW_STATUS_NO_FREE = 0 ∧
        s.SameBut t [R.WINDOW_STATUS_NO_FREE] ∧ t.core = { s.core with win := t.core.win, regs := t.core.regs } ∧ s.SameAon t)

/-- R139-R141: an XLATE_INV removes the cached translations it names, and no others, makes the walks under way stale, and stays in
progress until its snapshot has finished; with eight in progress it waits. -/
def Obligations.XlateInvalidates : Prop :=
  ∀ (s : State) (q : QueueId) (h : Head), s.off = false → s.ready q.val 0x32 (fun _ => []) = .ok h → s.held q.val h [] = false →
    (dExtent h.desc = 1 → s.core.xl.invals.length < 8 →
      ∃ t i, exec (.xlateInv q) s = .next t ∧ t.core.xl.leaves = s.core.xl.leaves.filter (fun l => !(l.func == dInvFunc h.desc && l.overlaps 0 (2 ^ 64))) ∧
        (∀ x ∈ t.core.xl.walks, x.2.func = dInvFunc h.desc → x.2.stale = true) ∧
        (∀ x ∈ t.core.xl.ptrs, x.func ≠ dInvFunc h.desc) ∧ t.core.xl.invals = s.core.xl.invals ++ [i] ∧ i.op = s.core.nextId ∧
        t.aon = s.aon ∧ t.core.jobs = s.core.jobs ∧ t.core.mem = s.core.mem ∧ t.core.win = s.core.win) ∧
    (dExtent h.desc = 0 → s.core.xl.invals.length < 8 →
      ∃ t i, exec (.xlateInv q) s = .next t ∧
        (∀ l, l ∈ t.core.xl.leaves ↔ l ∈ s.core.xl.leaves ∧ ¬ (l.func = dInvFunc h.desc ∧
          l.overlaps (dSrc h.desc) (dSrc h.desc + dInvLength h.desc) = true)) ∧
        t.core.xl.invals = s.core.xl.invals ++ [i] ∧ i.op = s.core.nextId) ∧
    (dExtent h.desc = 2 → s.core.xl.invals.length < 8 →
      ∃ t i, exec (.xlateInv q) s = .next t ∧ t.core.xl.ptrs = [] ∧ (∀ x ∈ t.core.xl.walks, x.2.stale = true) ∧
        t.core.xl.invals = s.core.xl.invals ++ [i] ∧ i.op = s.core.nextId) ∧
    (8 ≤ s.core.xl.invals.length → ∃ t, exec (.xlateInv q) s = .next t ∧ t.core = s.core ∧ t.aon = s.aon)

/-- R451, R452: a read answers with the counter and changes nothing; a write sets all 64 bits; an add raises COUNT modulo 2^63 and leaves
SLOT_LATE. A change leaves on an update lane, and WAITs look at it. No other counter changes. -/
def Obligations.EngineSignals : Prop :=
  ∀ (s : State) (c : CounterId) (id : BitVec 8) (v : BitVec 64), s.idle = false → s.pins.iso = false →
    (∃ t, exec (.esRead c id) s = .next t ∧ t.out = [.esRsp id.toNat (s.sig c.val)] ∧ t.core = s.core ∧ t.aon = s.aon) ∧
    (∃ t, exec (.esWrite c v id) s = .next t ∧ t.sig c.val = v.toNat ∧ t.out = [.esUpd c.val v.toNat, .esRsp id.toNat v.toNat] ∧
      (∀ k, k ≠ c.val → t.sig k = s.sig k) ∧ t.core = { s.core with rq.signals := t.core.rq.signals, work := s.core.work ++ [.waits] } ∧
      t.aon = s.aon) ∧
    (∃ t, exec (.esAdd c v id) s = .next t ∧
      t.sig c.val = s.sig c.val / 2 ^ 63 * 2 ^ 63 + (s.sig c.val % 2 ^ 63 + v.toNat % 2 ^ 63) % 2 ^ 63 ∧
      t.out = [.esUpd c.val (t.sig c.val), .esRsp id.toNat (t.sig c.val)] ∧ (∀ k, k ≠ c.val → t.sig k = s.sig k) ∧
      t.core = { s.core with rq.signals := t.core.rq.signals, work := s.core.work ++ [.waits] } ∧ t.aon = s.aon)

/-! ## The responder, the atomic unit and its journal (chapters 3 and 4) -/

/-- R20, R111, R113: a WRITE, READ, ATOMIC or LATCH that passes checks 1 to 4 goes on to check 5, the translation of its bytes in the
window's function with the permission its type needs and the window's key selector; one that fails a check is answered with the status
and reason of the first that fails. No window, no byte of memory and no operation changes.
R118, R120, R277: a WRITE or READ of class REQ at an alias goes on to the alias's target as a FWD packet, with the target's pointer moved by
its offset; a LATCH, an ATOMIC or a packet that has been forwarded is refused there.
R398: while a FATAL error holds, every arrival at a window is answered with ABORTED, REASON 0x0F0.
Which arrival a command takes is the model's choice (log entry 6). -/
def Obligations.RequestsAreChecked : Prop :=
  (
    ∀ (s : State) (i : InPkt) (rest : List InPkt), s.off = false → s.fatal = false →
      ∀ x ∈ [(Instr.writeArrival, 0), (.readArrival, 1), (.atomicArrival, 2), (.latchArrival, 3)],
        takeFirst (fun i => (i.pkt.cls == 1 || i.pkt.cls == 2) && i.pkt.type == x.2) s.core.resp.inbox = some (i, rest) →
        (∀ w, s.lookupReq i.pkt = .ok w →
          ∃ t a j, exec x.1 s = .next t ∧ t.arr? s.core.nextId = some a ∧ a.pkt = i.pkt ∧ a.phase = .check ∧ a.func = w.func ∧
            SMap.get? t.core.jobs (s.core.nextId + 1) = some j ∧ j.acc = .probe ∧ j.func = w.func ∧
            j.va = (w.base + ptrOffset i.pkt.ptr) % 2 ^ 64 ∧ some j.len = arrivalLen i.pkt ∧
            j.space = .virt (x.2 == 1 || x.2 == 2) (x.2 != 1) (some w.ksel) ∧ t.core.resp.inbox = rest ∧ t.core.win = s.core.win ∧
            t.core.rq = s.core.rq ∧ t.core.mem = s.core.mem ∧ t.core.regs = s.core.regs ∧ t.aon = s.aon) ∧
        (∀ st re owner, s.lookupReq i.pkt = .fails st re owner → i.pkt.tdm = false →
          ∃ t, exec x.1 s = .next t ∧ s.Answered t i.pkt (fun p => p.type = rspType x.2 ∧ p.rspStatus = st ∧ p.rspDetail = 3 * 4096 + re) ∧
            t.arr? s.core.nextId = none ∧ t.core.win = s.core.win ∧ t.core.rq.ops = s.core.rq.ops ∧ t.core.mem = s.core.mem ∧
            t.core.jobs = s.core.jobs ∧ t.aon = s.aon) ∧
        (∀ w, s.lookupReq i.pkt = .alias_ w → i.pkt.tdm = false → x.2 = 2 ∨ x.2 = 3 ∨ i.pkt.cls = 2 →
          ∃ t, exec x.1 s = .next t ∧ s.Answered t i.pkt (fun p => p.type = rspType x.2 ∧ p.rspStatus = 0x05 ∧
              p.rspDetail = 3 * 4096 + (if x.2 = 3 then 0x021 else if x.2 = 2 then 0x023 else 0x022)) ∧
            t.arr? s.core.nextId = none ∧ t.core.win = s.core.win ∧ t.core.mem = s.core.mem ∧ t.core.jobs = s.core.jobs ∧ t.aon = s.aon) ∧
        (∀ w port entry, s.lookupReq i.pkt = .alias_ w → x.2 = 0 ∨ x.2 = 1 → i.pkt.cls = 1 →
          s.routeOf 10 (ptrNode w.aliasTo) = .out port entry →
          ∃ t l o, exec x.1 s = .next t ∧ t.core.router.queued = l ++ [o] ∧ o.port = port ∧ o.pkt.cls = 2 ∧ o.pkt.type = x.2 ∧
            o.pkt.ptr = ptrAdd w.aliasTo (ptrOffset i.pkt.ptr) % 2 ^ 96 ∧ o.pkt.dest = ptrNode w.aliasTo ∧ o.pkt.srcNode = i.pkt.srcNode ∧
            o.pkt.tag = i.pkt.tag ∧ o.pkt.payload = i.pkt.payload ∧ t.arr? s.core.nextId = none ∧ t.core.win = s.core.win ∧
            t.core.mem = s.core.mem ∧ t.core.jobs = s.core.jobs ∧ t.aon = s.aon)) ∧
  (
    ∀ (s : State) (i : InPkt) (rest : List InPkt), s.off = false → s.fatal = true → i.pkt.tdm = false →
      ∀ x ∈ [(Instr.writeArrival, 0), (.readArrival, 1), (.atomicArrival, 2), (.latchArrival, 3), (.signalArrival, 4)],
        takeFirst (fun i => (i.pkt.cls == 1 || i.pkt.cls == 2) && i.pkt.type == x.2) s.core.resp.inbox = some (i, rest) →
        ∃ t, exec x.1 s = .next t ∧
          s.Answered t i.pkt (fun p => p.type = rspType x.2 ∧ p.rspStatus = 0x12 ∧ p.rspDetail = 3 * 4096 + 0x0F0) ∧
          t.core.resp.arrivals = s.core.resp.arrivals ∧ t.core.win = s.core.win ∧ t.core.mem = s.core.mem ∧ t.core.jobs = s.core.jobs ∧
          t.core.rq.signals = s.core.rq.signals)

/-- R105, R110, R112: a SIGNAL accepted at a signal window adds its value to COUNT of the counter its offset names, in the window's
function, modulo 2^63, leaves SLOT_LATE, and is answered OK. No other counter and no window changes.
Which arrival a command takes is the model's choice (log entry 6). -/
def Obligations.SignalsArrive : Prop :=
  ∀ (s : State) (i : InPkt) (rest : List InPkt) (w : Window), s.off = false → s.fatal = false → i.pkt.tdm = false →
    takeFirst (fun i => (i.pkt.cls == 1 || i.pkt.cls == 2) && i.pkt.type == 4) s.core.resp.inbox = some (i, rest) →
    s.lookupReq i.pkt = .ok w →
    ∃ t n, exec .signalArrival s = .next t ∧ n = (s.rd (R.FUNC_SIG_BASE_BASE w.func) + (w.base + ptrOffset i.pkt.ptr) / 8) % 65536 ∧
      t.sig n = s.sig n / 2 ^ 63 * 2 ^ 63 + (s.sig n % 2 ^ 63 + i.pkt.fld 0x38 0 64) % 2 ^ 63 ∧ (∀ k, k ≠ n → t.sig k = s.sig k) ∧
      .waits ∈ t.core.work ∧ s.Answered t i.pkt (fun p => p.type = 0 ∧ p.rspStatus = 0 ∧ p.rspDetail = 0) ∧
      (∀ k, t.win k = s.win k) ∧ t.core.mem = s.core.mem ∧ t.core.jobs = s.core.jobs ∧ t.aon = s.aon

/-- R214, R221: a Nyesh block that is not for an alias is checked first: the first check that fails answers it, a block that passes goes on
to the window; while its expander holds 32 blocks it waits.
Which arrival a command takes is the model's choice (log entry 6). -/
def Obligations.NyeshBlocksAreChecked : Prop :=
  ∀ (s : State) (i : InPkt) (rest : List InPkt), s.off = false → s.fatal = false →
    takeFirst (fun i => (i.pkt.cls == 1 || i.pkt.cls == 2) && i.pkt.type == 5) s.core.resp.inbox = some (i, rest) →
    (s.tumblerHeld (s.tumblerOf i.port i.pkt.srcNode) ≥ 32 → ∃ t, exec .nyeshArrival s = .next t ∧ t.core = s.core) ∧
    (∀ st re, s.tumblerHeld (s.tumblerOf i.port i.pkt.srcNode) < 32 → (s.win (ptrWindow i.pkt.ptr)).state ≠ .aliased → i.pkt.tdm = false →
      nyChecks i.pkt.nyhdr i.pkt.payload i.pkt.crcMode true
        ((if nyCoded i.pkt.nyhdr then s.resident i.pkt.nyhdr else none).map (·.2)) = some (st, re) →
      ∃ t, exec .nyeshArrival s = .next t ∧ s.Answered t i.pkt (fun p => p.type = 0 ∧ p.rspStatus = st ∧ p.rspDetail = 5 * 4096 + re) ∧
        t.core.resp.arrivals = s.core.resp.arrivals ∧ t.core.win = s.core.win ∧ t.core.mem = s.core.mem ∧ t.core.jobs = s.core.jobs) ∧
    (∀ w, s.tumblerHeld (s.tumblerOf i.port i.pkt.srcNode) < 32 →
      nyChecks i.pkt.nyhdr i.pkt.payload i.pkt.crcMode true
        ((if nyCoded i.pkt.nyhdr then s.resident i.pkt.nyhdr else none).map (·.2)) = none → s.lookupReq i.pkt = .ok w →
      ∃ t a j, exec .nyeshArrival s = .next t ∧ t.arr? s.core.nextId = some a ∧ a.pkt = i.pkt ∧ a.phase = .check ∧ a.func = w.func ∧
        SMap.get? t.core.jobs (s.core.nextId + 1) = some j ∧ j.acc = .probe ∧ j.func = w.func ∧ some j.len = arrivalLen i.pkt ∧
        t.core.resp.inbox = rest ∧ t.core.win = s.core.win ∧ t.core.mem = s.core.mem)

/-- R87, R89, R93: a held latch whose deadline has passed leaves its slot without an answer; the oldest journal entry whose retention has
passed leaves and coverage rises past it; a journal query whose entry is found reads it, any other is answered NOT_FOUND or UNKNOWN, and one
for an atomic whose entry is still being made waits.
Slots as operands are the model's (log entry 7); how the block keeps the journal's entries is entry 26's choice. -/
def Obligations.LatchesAndJournal : Prop :=
  ∀ s : State, s.off = false →
    (∀ (slot : Fin 256) (i : HoldSlot), SMap.get? s.core.resp.holds slot.val = some i → s.pastDeadline i.pkt.deadline = true →
      ∃ t, exec (.latchDeadline slot) s = .next t ∧ SMap.get? t.core.resp.holds slot.val = none ∧
        (∀ k, k ≠ slot.val → SMap.get? t.core.resp.holds k = SMap.get? s.core.resp.holds k) ∧ t.out = [] ∧
        t.core = { s.core with resp.holds := t.core.resp.holds } ∧ t.aon = s.aon) ∧
    (∀ (slot : Fin 256) (i : HoldSlot), SMap.get? s.core.resp.holds slot.val = some i → s.pastDeadline i.pkt.deadline = false →
      ∃ t, exec (.latchDeadline slot) s = .next t ∧ t.core = s.core) ∧
    (∀ e l c, s.core.resp.journal = e :: l → e.time * 2 ^ 8 + 5 * e.tout * usLsb + 1024 ≤ s.now → s.core.resp.cover = some c →
      ∃ t, exec .journalReclaim s = .next t ∧ t.core.resp.journal = l ∧ t.core.resp.cover = some (max c (e.time * 2 ^ 8 + 2 ^ 8)) ∧
        t.core = { s.core with resp := t.core.resp } ∧ t.core.resp.arrivals = s.core.resp.arrivals ∧ t.aon = s.aon) ∧
    (∀ e l, s.core.resp.journal = e :: l → s.now < e.time * 2 ^ 8 + 5 * e.tout * usLsb + 1024 →
      ∃ t, exec .journalReclaim s = .next t ∧ t.core = s.core) ∧
    (∀ i rest, takeFirst (fun i => i.pkt.cls == 1 && i.pkt.type == 6 && true) s.core.resp.inbox = some (i, rest) →
      s.jidBusy i.pkt.jid = true → ∃ t, exec .jqueryArrival s = .next t ∧ t.core = s.core) ∧
    (∀ i rest k, s.fatal = false → takeFirst (fun i => i.pkt.cls == 1 && i.pkt.type == 6 && true) s.core.resp.inbox = some (i, rest) →
      s.jidBusy i.pkt.jid = false → (s.journalFind i.pkt).1 = some k →
      ∃ t j, exec .jqueryArrival s = .next t ∧ SMap.get? t.core.jobs (s.core.nextId + 1) = some j ∧ j.acc = .read ∧ j.func = 0 ∧
        j.va = s.jSlot (s.core.resp.jHead + k) ∧ j.len = 32 ∧ j.src = 3 ∧ t.core.resp.journal = s.core.resp.journal) ∧
    (∀ i rest, s.fatal = false → takeFirst (fun i => i.pkt.cls == 1 && i.pkt.type == 6 && true) s.core.resp.inbox = some (i, rest) →
      s.jidBusy i.pkt.jid = false → (s.journalFind i.pkt).1 = none → i.pkt.tdm = false → s.core.resp.cover = none →
      ∃ t, exec .jqueryArrival s = .next t ∧ s.Answered t i.pkt (fun p => p.type = 3 ∧ p.rspStatus = 0 ∧ p.fld 0x13 0 2 = 2) ∧
        t.core.resp.journal = s.core.resp.journal ∧ t.core.jobs = s.core.jobs) ∧
    (∀ i rest c, s.fatal = false → takeFirst (fun i => i.pkt.cls == 1 && i.pkt.type == 6 && true) s.core.resp.inbox = some (i, rest) →
      s.jidBusy i.pkt.jid = false → (s.journalFind i.pkt).1 = none → i.pkt.tdm = false → s.core.resp.cover = some c → s.jSize ≠ 0 → s.synced = true →
      (c : Int) ≤ (s.journalFind i.pkt).2 * 2 ^ 8 →
      ∃ t, exec .jqueryArrival s = .next t ∧ s.Answered t i.pkt (fun p => p.type = 3 ∧ p.rspStatus = 0 ∧ p.fld 0x13 0 2 = 1))

/-- R56, R80, R446, R447: an atomic of the local aperture that R56 does not permit is answered with status 2, one whose address is not a
multiple of its operand's size with 3; another reads its granule, which is locked, unless an atomic has it.
The order of the status checks is the model's choice (log entry 26). -/
def Obligations.LocalAtomics : Prop :=
  ∀ (s : State) (r : LocalAtomic), s.idle = false → s.fatal = false →
    (s.pins.iso = false → atomicDefined r.aop.toNat r.atype.toNat = false →
      ∃ t, exec (.laAtomic r) s = .next t ∧ t.out = [.laRsp r.id.toNat 0 2 0] ∧ t.core = s.core ∧ t.aon = s.aon) ∧
    (s.pins.iso = false → atomicDefined r.aop.toNat r.atype.toNat = true → r.addr.toNat % atypeBytes r.atype.toNat ≠ 0 →
      ∃ t, exec (.laAtomic r) s = .next t ∧ t.out = [.laRsp r.id.toNat 0 3 0] ∧ t.core = s.core ∧ t.aon = s.aon) ∧
    (atomicDefined r.aop.toNat r.atype.toNat = true → r.addr.toNat % atypeBytes r.atype.toNat = 0 →
      (∀ x ∈ s.core.resp.arrivals, x.2.pa / 16 ≠ r.addr.toNat / 16) →
      ∃ t a j, exec (.laAtomic r) s = .next t ∧ t.arr? s.core.nextId = some a ∧ a.phase = .granule ∧ a.la = some r ∧
        SMap.get? t.core.jobs (s.core.nextId + 1) = some j ∧ j.acc = .read ∧ j.va = r.addr.toNat ∧ j.len = atypeBytes r.atype.toNat ∧
        j.space = .phys r.key.toNat ∧ SMap.get? t.core.mem.locks (r.addr.toNat / 16) = some (s.core.nextId + 1) ∧
        t.core.rq = s.core.rq ∧ t.core.win = s.core.win ∧ t.core.regs = s.core.regs ∧ t.aon = s.aon)

/-- R210, R211: a TABLE_LOAD of a version reads its image into a free slot, in F0's space, and the slot is LOADING; a retire of a version
that no block references ends at once with the slot ABSENT; a length or version R211 refuses ends with BAD_DESC. When the image has been
read, a valid one makes the slot RESIDENT and completes OK, an invalid one frees the slot with BAD_DESC. -/
def Obligations.CodeTables : Prop :=
  ∀ s : State, s.off = false →
    (∀ (q : QueueId) (h : Head), s.ready q.val 0x30 (fun _ => []) = .ok h → s.held q.val h (tableRanges h.desc) = false →
      SMap.get? s.core.tables.loads (dTable h.desc) = none → s.tableRefusal h.desc = none → dTblLength h.desc ≠ 0 →
      s.tblState (dTable h.desc) 0 = 0 →
      ∃ t j l, exec (.tableLoad q) s = .next t ∧ t.tblState (dTable h.desc) 0 = 1 ∧ t.tblVer (dTable h.desc) 0 = dVersion h.desc ∧
        SMap.get? t.core.tables.loads (dTable h.desc) = some l ∧ l.op = s.core.nextId ∧ l.slot = 0 ∧
        SMap.get? t.core.jobs (s.core.nextId + 1) = some j ∧ j.acc = .read ∧ j.func = 0 ∧ j.va = dSrc h.desc ∧
        j.len = dTblLength h.desc ∧ t.rd R.TUMBLER_STATUS_LOAD_BUSY = 1 ∧ t.aon = s.aon ∧ t.core.win = s.core.win ∧
        t.core.resp = s.core.resp) ∧
    (∀ (q : QueueId) (h : Head) (c : Nat), s.ready q.val 0x30 (fun _ => []) = .ok h → s.held q.val h (tableRanges h.desc) = false →
      SMap.get? s.core.tables.loads (dTable h.desc) = none → s.tableRefusal h.desc = some c →
      ∃ t r, exec (.tableLoad q) s = .next t ∧ (t.qs q.val).records = (s.qs q.val).records ++ [r] ∧ r.status = 0x05 ∧
        r.detail = 5 * 4096 + c ∧ t.core.tables = s.core.tables) ∧
    (∀ (q : QueueId) (h : Head), s.ready q.val 0x30 (fun _ => []) = .ok h → s.held q.val h (tableRanges h.desc) = false → dCqe h.desc = true →
      SMap.get? s.core.tables.loads (dTable h.desc) = none → s.tableRefusal h.desc = none → dTblLength h.desc = 0 →
      s.tblState (dTable h.desc) 0 = 2 → s.tblVer (dTable h.desc) 0 = dVersion h.desc → s.tblRefs (dTable h.desc) 0 = 0 →
      ∃ t r, exec (.tableLoad q) s = .next t ∧ t.tblState (dTable h.desc) 0 = 0 ∧
        SMap.get? t.core.tables.images (dTable h.desc * 2) = none ∧ (t.qs q.val).records = (s.qs q.val).records ++ [r] ∧ r.status = 0) ∧
    (∀ n l r, s.fatal = false → s.core.tables.loads.find? (fun l => l.2.read.isSome) = some (n, l) → l.read = some r → l.slot = 0 →
      r.fail = none → n < 64 →
      ∃ t, exec .tableLoadReadDone s = .next t ∧ SMap.get? t.core.tables.loads n = none ∧
        t.tblState n 0 = (if tableValid r.data then 2 else 0) ∧
        (tableValid r.data = true → SMap.get? t.core.tables.images (n * 2) = some r.data) ∧ t.aon = s.aon ∧ t.core.win = s.core.win)

/-! ## Gates and hinge ports (chapter 13), session keys (chapter 14) -/

/-- R320, R321, R323, R324, R325: a port that sends frames sends one of 64 positions with what waits for it in order, the trailer's magic,
kinds and number; in cleartext its tag is the CRC-32C of trailer and body, under a key body and tag are AES-256-GCM's; a TIME packet that
carries t1 or t3 carries the frame's stamp, and a hinge port gives the frame in four beats. The frame number advances. Where the key switch
falls on a frame, that frame is number 0 under the new key. A port whose key has reached the last number sends no frame: it goes to
BACKOFF with cause 10 and its keys are erased. -/
def Obligations.FramesLeave : Prop :=
  ∀ (s : State) (p : Port) (c : Crossing), s.idle = false → s.framing p.val = true →
    (s.pins.iso = false → s.on (R.SECURITY_TX_CUR_VALID p.val) = false → (s.link p.val).txSwitch = none →
      ∃ t f, exec (.frameSend ⟨p, c⟩) s = .next t ∧ .frame p.val f ∈ t.out ∧ f.body.length = 64 ∧ f.uncorrected = false ∧
        (8 ≤ p.val → .beats (p.val - 8) (hingeBeats f) ∈ t.out) ∧
        bits f.trailer.toNat 0 16 = 0x4C59 ∧ bits f.trailer.toNat 16 1 = 0 ∧
        bits f.trailer.toNat 32 32 = (s.link p.val).txFseq % 2 ^ 32 ∧
        bits f.trailer.toNat 384 128 = crc32c (toLE 48 (f.trailer.toNat % 2 ^ 384) ++ flitBytes (f.body.take (bodyLen p.val))) ∧
        (∀ x ∈ (fillFrame (bodyLen p.val) 0 (s.link p.val).tx).1,
          bits f.trailer.toNat (128 + 2 * x.1) 2 = x.2.kind % 4 ∧ (x.2.time = none → f.body[x.1]? = some x.2.flit) ∧
          ∀ k, x.2.time = some k → k.fld 0x10 0 2 ≤ 1 → f.body[x.1]? = some (k.set 0x18 0 64 (s.crossTime p.val c false)).hdr) ∧
        (s.portState p.val ≠ 4 → s.portState p.val ≠ 7 →
          (t.link p.val).tx = (fillFrame (bodyLen p.val) 0 (s.link p.val).tx).2.2 ∧
          (t.link p.val).txFseq = ((s.link p.val).txFseq + 1) % 2 ^ 32 ∧ (∀ k, k ≠ p.val → t.link k = s.link k) ∧
          t.core.router = s.core.router ∧ t.core.resp = s.core.resp ∧ t.core.rq = s.core.rq)) ∧
    (s.pins.iso = false → s.on (R.SECURITY_TX_CUR_VALID p.val) = true → (s.link p.val).txSwitch = none →
      (s.link p.val).txFseq < 2 ^ 32 - 1 →
      ∃ t f plain r, exec (.frameSend ⟨p, c⟩) s = .next t ∧ .frame p.val f ∈ t.out ∧ bits f.trailer.toNat 16 1 = 1 ∧
        bits f.trailer.toNat 17 1 = s.rd (R.SECURITY_TX_KPH p.val) ∧ bits f.trailer.toNat 32 32 = (s.link p.val).txFseq ∧
        plain.length = bodyLen p.val ∧
        (∀ x ∈ (fillFrame (bodyLen p.val) 0 (s.link p.val).tx).1, x.2.time = none → plain[x.1]? = some x.2.flit) ∧
        r = gcmSeal (SMap.getD (s.link p.val).txKeys (s.rd (R.SECURITY_TX_KPH p.val)) ⟨0, 0⟩).key
          (BitVec.ofNat 96 ((s.link p.val).txFseq +
            (SMap.getD (s.link p.val).txKeys (s.rd (R.SECURITY_TX_KPH p.val)) ⟨0, 0⟩).salt.toNat * 2 ^ 32))
          (toLE 48 (f.trailer.toNat % 2 ^ 384)) plain ∧
        f.body = r.1 ++ List.replicate (64 - bodyLen p.val) 0 ∧ bits f.trailer.toNat 384 128 = r.2.toNat) ∧
    (∀ ph, s.pins.iso = false → (s.link p.val).txSwitch = some ((s.link p.val).txFseq, ph) → ph < 2 →
      ∃ t f, exec (.frameSend ⟨p, c⟩) s = .next t ∧ .frame p.val f ∈ t.out ∧ bits f.trailer.toNat 16 1 = 1 ∧
        bits f.trailer.toNat 17 1 = ph ∧ bits f.trailer.toNat 32 32 = 0 ∧ t.rd (R.SECURITY_TX_ARMED p.val) = 0) ∧
    (s.on (R.SECURITY_TX_CUR_VALID p.val) = true → (s.link p.val).txFseq = 2 ^ 32 - 1 →
      (∀ ph, (s.link p.val).txSwitch ≠ some (2 ^ 32 - 1, ph)) →
      ∃ t, exec (.frameSend ⟨p, c⟩) s = .next t ∧ t.portState p.val = 8 ∧ t.rd (R.GATE_STATUS_CAUSE p.val) = 10 ∧
        (t.link p.val).txKeys = [] ∧ (t.link p.val).rxKeys = [] ∧ (∀ x ∈ t.core.router.queued, x.port = p.val → x ∈ s.core.router.queued))

/-- R319, R320, R322, R324, R341, R440: a gate's code words, and a hinge's four beats in sequence, complete a frame. The frame that fails a
check is discarded whole, with its status bit; a port that fails check 3 four times, or checks 4 and 5 sixty-four times, in succession
leaves READY with cause 8 or 12. A good frame's flits are released in order: a one-flit LINK packet goes to the local units; a frame of
idle positions changes only the numbering. A hinge's beat out of sequence ends the frame being assembled with check 2. -/
def Obligations.FramesArrive : Prop :=
  ∀ (s : State) (p : Port) (x : Crossing), s.idle = false → s.framing p.val = true → (s.link p.val).rxSwitch = none →
    (∀ (rx : RxFrame) (fr : Frame) (c : Nat) (body : List Flit), s.arriving p.val rx = some fr → s.checkFrame p.val fr = (c, body) →
      (c = 1 ∨ c = 2 → (s.link p.val).badTimes.length < 1024 →
        ∃ t, exec (.frameReceive p ⟨rx, x⟩) s = .next t ∧ t.rd (R.GATE_STATUS_UNCORR p.val) = 1 ∧ t.portState p.val = s.portState p.val ∧
          (t.link p.val).asm = none ∧ t.core.resp = s.core.resp ∧ t.core.router = s.core.router) ∧
      (c = 3 → (s.link p.val).fseqFails + 1 < 4 →
        ∃ t, exec (.frameReceive p ⟨rx, x⟩) s = .next t ∧ t.rd (R.GATE_STATUS_FSEQ_ERR p.val) = 1 ∧ t.portState p.val = s.portState p.val ∧
          (t.link p.val).fseqFails = (s.link p.val).fseqFails + 1 ∧ t.core.resp = s.core.resp ∧ t.core.router = s.core.router) ∧
      (c = 3 → 4 ≤ (s.link p.val).fseqFails + 1 → s.portReady p.val = true →
        ∃ t, exec (.frameReceive p ⟨rx, x⟩) s = .next t ∧ t.portState p.val = 8 ∧ t.rd (R.GATE_STATUS_CAUSE p.val) = 8) ∧
      (c = 4 ∨ c = 5 → (s.link p.val).authFails + 1 < 64 →
        ∃ t, exec (.frameReceive p ⟨rx, x⟩) s = .next t ∧ t.rd (R.GATE_STATUS_AUTH_FAIL p.val) = 1 ∧ t.portState p.val = s.portState p.val ∧
          (t.link p.val).authFails = (s.link p.val).authFails + 1 ∧ t.core.resp = s.core.resp ∧ t.core.router = s.core.router) ∧
      (c = 4 ∨ c = 5 → 64 ≤ (s.link p.val).authFails + 1 → s.portReady p.val = true →
        ∃ t, exec (.frameReceive p ⟨rx, x⟩) s = .next t ∧ t.portState p.val = 8 ∧ t.rd (R.GATE_STATUS_CAUSE p.val) = 12) ∧
      (c = 0 → s.portState p.val = 6 → s.trailerQuiet p.val fr.trailer.toNat → (∀ i < 64, bits fr.trailer.toNat (128 + 2 * i) 2 = 0) →
        ∃ t, exec (.frameReceive p ⟨rx, x⟩) s = .next t ∧ (t.link p.val).rxSync = true ∧
          (t.link p.val).rxFseq = ((if (s.link p.val).rxSync then (s.link p.val).rxFseq else bits fr.trailer.toNat 32 32) + 1) % 2 ^ 32 ∧
          t.core.resp = s.core.resp ∧ t.core.router = s.core.router ∧ t.core.regs = s.core.regs ∧ t.core.rq = s.core.rq) ∧
      (∀ f l, c = 0 → body = f :: l → s.portState p.val = 6 → s.trailerQuiet p.val fr.trailer.toNat → (s.link p.val).asm = none →
        bits fr.trailer.toNat 128 2 = 1 → (∀ i < 64, 0 < i → bits fr.trailer.toNat (128 + 2 * i) 2 = 0) → headerOk ⟨f, []⟩ = true →
        (Packet.mk f []).cls = 0 → (Packet.mk f []).type = 0 → (Packet.mk f []).plen = 0 → (Packet.mk f []).tdm = false →
        ∃ t x', exec (.frameReceive p ⟨rx, x⟩) s = .next t ∧ t.core.resp.inbox = s.core.resp.inbox ++ [x'] ∧ x'.port = p.val ∧
          x'.pkt = ⟨f, []⟩ ∧ t.core.router.queued = s.core.router.queued)) ∧
    (∀ b, 8 ≤ p.val → (s.link p.val).rxBeats ≠ [] → b.index.toNat ≠ (s.link p.val).rxBeats.length →
      (s.link p.val).badTimes.length < 1024 →
      ∃ t, exec (.frameReceive p ⟨.hinge [b], x⟩) s = .next t ∧ t.rd (R.GATE_STATUS_UNCORR p.val) = 1 ∧
        t.portState p.val = s.portState p.val ∧ (t.link p.val).rxBeats = (if b.index = 0 then [b] else []) ∧
        t.core.resp = s.core.resp ∧ t.core.router = s.core.router)

/-- R330, R332, R340, R342: ENABLE 1 trains a DISABLED port that start control permits: a gate from PROBE, or from FAST with WARM_OK and
valid coefficients, a hinge port from WAIT_PHY; ENABLE 0 takes a port to DISABLED with cause 11; RETRAIN takes a READY port to BACKOFF with
cause 11 and clears ATTEMPTS and COEF_VALID; RETRY, or the end of the back-off, trains again and counts the attempt. -/
def Obligations.PortsEnableAndRetrain : Prop :=
  ∀ s : State, s.off = false →
    (∀ (g : Gate) (d : Word), s.portPresent g.val = true → bits d.toNat 0 1 = 1 → s.portState g.val = 0 → s.permits g.val = true →
      bits d.toNat 9 1 = 0 →
      ∃ t, exec (.gateEnable g d) s = .next t ∧ t.portState g.val = 1 ∧ t.rd (R.GATE_CTL_ENABLE g.val) = 1 ∧
        t.rd (R.GATE_CTL_MAX_RATE g.val) = bits d.toNat 1 2 ∧ (t.link g.val).rate = 0 ∧ (∀ k, k ≠ g.val → t.link k = s.link k) ∧
        t.core.router = s.core.router ∧ t.core.resp = s.core.resp) ∧
    (∀ (g : Gate) (d : Word), s.portPresent g.val = true → bits d.toNat 0 1 = 1 → s.portState g.val = 0 → s.permits g.val = true →
      bits d.toNat 9 1 = 1 → s.on (R.GATE_STATUS_COEF_VALID g.val) = true →
      ∃ t, exec (.gateEnable g d) s = .next t ∧ t.portState g.val = 2 ∧ t.rd (R.GATE_NEG_RATE g.val) = bits (s.storedMode g.val) 0 2 ∧
        (t.link g.val).cfg.length = 9) ∧
    (∀ (g : Gate) (d : Word), s.portPresent g.val = true → bits d.toNat 0 1 = 0 → s.portState g.val ≠ 0 →
      ∃ t, exec (.gateDisable g d) s = .next t ∧ t.portState g.val = 0 ∧ t.rd (R.GATE_STATUS_CAUSE g.val) = 11 ∧
        t.rd (R.GATE_CTL_ENABLE g.val) = 0) ∧
    (∀ (h : Hinge) (d : Word), s.portPresent (8 + h.val) = true → bits d.toNat 0 1 = 1 → s.portState (8 + h.val) = 0 →
      s.permits (8 + h.val) = true →
      ∃ t, exec (.hingeEnable h d) s = .next t ∧ t.portState (8 + h.val) = (if bit s.pins.linkUp h.val then 3 else 9) ∧
        t.rd (R.GATE_CTL_ENABLE (8 + h.val)) = 1) ∧
    (∀ (h : Hinge) (d : Word), s.portPresent (8 + h.val) = true → bits d.toNat 0 1 = 0 → s.portState (8 + h.val) ≠ 0 →
      ∃ t, exec (.hingeEnable h d) s = .next t ∧ t.portState (8 + h.val) = 0 ∧ t.rd (R.GATE_STATUS_CAUSE (8 + h.val)) = 11) ∧
    (∀ p : Port, s.portReady p.val = true →
      ∃ t, exec (.retrain p) s = .next t ∧ t.portState p.val = 8 ∧ t.rd (R.GATE_STATUS_CAUSE p.val) = 11 ∧
        t.rd (R.GATE_STATUS_ATTEMPTS p.val) = 0 ∧ (p.val < 8 → t.rd (R.GATE_STATUS_COEF_VALID p.val) = 0)) ∧
    (∀ p : Port, s.portReady p.val = false →
      ∃ t, exec (.retrain p) s = .next t ∧ t.rd (R.GATE_STATUS_ATTEMPTS p.val) = 0 ∧
        s.SameBut t [R.GATE_STATUS_ATTEMPTS p.val, R.GATE_STATUS_COEF_VALID p.val] ∧ s.SameCore t ∧ s.SameAon t) ∧
    (∀ p : Port, s.portState p.val = 8 →
      ∀ c ∈ [Instr.retry p, .backoffEnd p], ∃ t, exec c s = .next t ∧ t.portState p.val = (if p.val < 8 then
          (if s.on (R.GATE_CTL_WARM_OK p.val) = true ∧ s.on (R.GATE_STATUS_COEF_VALID p.val) = true then 2 else 1)
          else if bit s.pins.linkUp (p.val - 8) then 3 else 9) ∧
        t.rd (R.GATE_STATUS_ATTEMPTS p.val) = min 255 (s.rd (R.GATE_STATUS_ATTEMPTS p.val) + 1)) ∧
    (∀ p : Port, s.portState p.val ≠ 8 → ∀ c ∈ [Instr.retry p, .backoffEnd p], ∃ t, exec c s = .next t ∧ t.core = s.core ∧ t.aon = s.aon)

/-- R330, R333, R340, R341: the time limits of training. FAST falls back to PROBE with COEF_VALID cleared; PROBE goes on to DISCOVER with
four lanes locked, else to BACKOFF with cause 1, as does WAIT_PHY; KEYS goes to BACKOFF with cause 5; the end of an equalization window
sends TRAIN_RESULT, which passes only with enough lanes. A hinge's link up leads to DISCOVER; link down ends READY with cause 6. -/
def Obligations.TrainingTimesOut : Prop :=
  ∀ s : State, s.off = false →
    (∀ g : Gate, s.portState g.val = 2 →
      ∃ t, exec (.fastTimeout g) s = .next t ∧ t.portState g.val = 1 ∧ t.rd (R.GATE_STATUS_COEF_VALID g.val) = 0) ∧
    (∀ g : Gate, s.portState g.val = 1 → 4 ≤ (lanesOf (s.locked g.val)).length →
      ∃ t, exec (.probeTimeout g) s = .next t ∧ t.portState g.val = 3 ∧
        (t.link g.val).tx = (s.link g.val).tx ++ txItems ⟨10, g.val, true, 0, none, none, t.discoverPkt g.val false, 0⟩) ∧
    (∀ g : Gate, s.portState g.val = 1 → (lanesOf (s.locked g.val)).length < 4 →
      ∃ t, exec (.probeTimeout g) s = .next t ∧ t.portState g.val = 8 ∧ t.rd (R.GATE_STATUS_CAUSE g.val) = 1) ∧
    (∀ h : Hinge, s.portState (8 + h.val) = 9 →
      ∃ t, exec (.waitPhyTimeout h) s = .next t ∧ t.portState (8 + h.val) = 8 ∧ t.rd (R.GATE_STATUS_CAUSE (8 + h.val)) = 1) ∧
    (∀ p : Port, s.portState p.val = 5 →
      ∃ t, exec (.keysTimeout p) s = .next t ∧ t.portState p.val = 8 ∧ t.rd (R.GATE_STATUS_CAUSE p.val) = 5 ∧
        (t.link p.val).txKeys = [] ∧ (t.link p.val).rxKeys = []) ∧
    (∀ g : Gate, s.portState g.val = 4 → (s.link g.val).mine = none → (s.link g.val).theirs = none →
      ∃ t k, exec (.equalizeWindowEnd g) s = .next t ∧ (t.link g.val).mine = some k ∧ (t.link g.val).rate = 0 ∧ t.portState g.val = 4 ∧
        k.fld 0x10 0 4 = 1 ∧ (s.locked g.val = 0 → k.fld 0x11 2 1 = 0 ∧ k.fld 0x12 0 9 = 0) ∧
        ((∀ x < 9, bit (s.locked g.val) x = true ∧ bit (s.link g.val).bad x = false ∧
          s.rd (R.GATE_RECAL_FAIL_LOG2 g.val) ≤ s.rd (R.GATE_LANE_RX_SER_EXP g.val x)) → k.fld 0x11 2 1 = 1 ∧ k.fld 0x12 0 9 = 511)) ∧
    (∀ h : Hinge, s.idle = false → s.portState (8 + h.val) = 9 →
      ∃ t, exec (.hingeLinkChange h true) s = .next t ∧ t.portState (8 + h.val) = 3 ∧ bit t.pins.linkUp h.val = true) ∧
    (∀ h : Hinge, s.idle = false → s.portState (8 + h.val) = 6 →
      ∃ t, exec (.hingeLinkChange h false) s = .next t ∧ t.portState (8 + h.val) = 8 ∧ t.rd (R.GATE_STATUS_CAUSE (8 + h.val)) = 6)

/-- R330, R331: a DISCOVER with no version in common sends a port to BACKOFF with cause 2, one with fewer than four lanes a gate with
cause 3; else a gate equalizes at the lowest of the rates, and a hinge port goes on to KEYS, or READY where both ends accept cleartext. Two
TRAIN_RESULTs that pass fix the rate, once this end's has left in a frame; one that fails lowers it, or at the lowest leads to BACKOFF with
cause 4. -/
def Obligations.TrainingAgrees : Prop :=
  ∀ (s : State) (i : InPkt) (rest : List InPkt), s.off = false →
    (takeFirst (fun i => i.pkt.cls == 0 && i.pkt.type == 0 && i.pkt.fld 0x10 0 4 == 0) s.core.resp.inbox = some (i, rest) →
      s.portState i.port = 3 →
      (i.port < 10 → bothVersions (s.versions i.port) (i.pkt.fld 0x11 0 3) = 0 →
        ∃ t, exec .discoverArrival s = .next t ∧ t.portState i.port = 8 ∧ t.rd (R.GATE_STATUS_CAUSE i.port) = 2) ∧
      (i.port < 8 → bothVersions (s.versions i.port) (i.pkt.fld 0x11 0 3) ≠ 0 →
        (lanesOf (s.link i.port).sentGood).length < 4 ∨ (lanesOf (i.pkt.fld 0x12 0 9)).length < 4 →
        ∃ t, exec .discoverArrival s = .next t ∧ t.portState i.port = 8 ∧ t.rd (R.GATE_STATUS_CAUSE i.port) = 3) ∧
      (i.port < 8 → bothVersions (s.versions i.port) (i.pkt.fld 0x11 0 3) ≠ 0 →
        4 ≤ (lanesOf (s.link i.port).sentGood).length → 4 ≤ (lanesOf (i.pkt.fld 0x12 0 9)).length →
        ∃ t, exec .discoverArrival s = .next t ∧ t.portState i.port = 4 ∧ (t.link i.port).peer = some i.pkt ∧
          t.rd (R.GATE_NEG_VERSION i.port) = bothVersions (s.versions i.port) (i.pkt.fld 0x11 0 3) ∧
          (t.link i.port).target = min (min (s.maxRate i.port) (i.pkt.fld 0x11 3 2))
            (if bothVersions (s.versions i.port) (i.pkt.fld 0x11 0 3) < 3 then 2 else 3)) ∧
      (8 ≤ i.port → i.port < 10 → bothVersions (s.versions i.port) (i.pkt.fld 0x11 0 3) ≠ 0 →
        ∃ t, exec .discoverArrival s = .next t ∧ (t.link i.port).peer = some i.pkt ∧
          t.portState i.port = (if s.ctl i.port (R.GATE_CTL_CLEAR_OK i.port) = 1 ∧ i.pkt.fld 0x11 6 1 = 1 then 6 else 5))) ∧
    (takeFirst (fun i => i.pkt.cls == 0 && i.pkt.type == 0 && i.pkt.fld 0x10 0 4 == 1) s.core.resp.inbox = some (i, rest) →
      i.port < 8 → s.portState i.port = 4 →
      ((s.link i.port).mine = none ∨ (s.link i.port).resultOut = false →
        ∃ t, exec .trainResultArrival s = .next t ∧ (t.link i.port).theirs = some i.pkt ∧ t.portState i.port = 4) ∧
      (∀ a, (s.link i.port).mine = some a → (s.link i.port).resultOut = true → a.fld 0x11 2 1 = 1 → i.pkt.fld 0x11 2 1 = 1 →
        ∃ t, exec .trainResultArrival s = .next t ∧ t.rd (R.GATE_NEG_RATE i.port) = (s.link i.port).target % 4 ∧
          t.rd (R.GATE_STATUS_COEF_VALID i.port) = 1 ∧ t.portState i.port = (if s.on (R.GATE_NEG_CLEAR i.port) then 6 else 5)) ∧
      (∀ a, (s.link i.port).mine = some a → (s.link i.port).resultOut = true → a.fld 0x11 2 1 = 0 ∨ i.pkt.fld 0x11 2 1 = 0 → 0 < (s.link i.port).target →
        ∃ t, exec .trainResultArrival s = .next t ∧ (t.link i.port).target = (s.link i.port).target - 1 ∧ t.portState i.port = 4) ∧
      (∀ a, (s.link i.port).mine = some a → (s.link i.port).resultOut = true → a.fld 0x11 2 1 = 0 ∨ i.pkt.fld 0x11 2 1 = 0 → (s.link i.port).target = 0 →
        ∃ t, exec .trainResultArrival s = .next t ∧ t.portState i.port = 8 ∧ t.rd (R.GATE_STATUS_CAUSE i.port) = 4))

/-- R336-R338, R341, R432-R435: lock and rate acknowledgement follow the PHY; losing lock on every lane ends READY with cause 6; a
receive lane out of lock, or an active one over the error ratio, fails, and with a spare LANE_FAIL names the frame 32 ahead; a window's
error ratio is recorded, and the spare has until its dwell's end; coefficients
read from the PHY are stored; an equalization request that fails marks its lane. -/
def Obligations.LanesInService : Prop :=
  ∀ (s : State) (g : Gate) (l : Lane), s.off = false →
    (∀ v, s.idle = true ∨ s.portReady g.val = false →
      ∃ t, exec (.laneLockChange g l v) s = .next t ∧ bit t.pins.lock (9 * g.val + l.val) = v ∧ t.core = s.core ∧ t.aon = s.aon) ∧
    (s.idle = false → s.portReady g.val = true → s.locked g.val = 2 ^ l.val →
      ∃ t, exec (.laneLockChange g l false) s = .next t ∧ t.portState g.val = 8 ∧ t.rd (R.GATE_STATUS_CAUSE g.val) = 6) ∧
    (bit (s.locked g.val) l.val = true → ∃ t, exec (.laneLockLossTimeout g l) s = .next t ∧ t.core = s.core ∧ t.aon = s.aon) ∧
    (bit (s.locked g.val) l.val = false → s.portReady g.val = true → bit (s.rd (R.GATE_LANES_RX_GOOD g.val)) l.val = true →
      s.rd (R.GATE_LANES_RX_SPARE g.val) ≠ 15 → l.val ∈ s.rxMap g.val →
      4 ≤ (lanesOf (maskDel (s.rd (R.GATE_LANES_RX_GOOD g.val)) l.val)).length →
      ∃ t o, exec (.laneLockLossTimeout g l) s = .next t ∧
        t.rd (R.GATE_LANES_RX_GOOD g.val) = maskDel (s.rd (R.GATE_LANES_RX_GOOD g.val)) l.val ∧
        (t.link g.val).failSent = some (l.val, s.rd (R.GATE_LANES_RX_SPARE g.val)) ∧
        t.core.router.queued = s.core.router.queued ++ [o] ∧ o.port = g.val ∧ o.pkt.fld 0x10 0 4 = 2 ∧ o.pkt.fld 0x11 0 4 = l.val ∧
        o.pkt.fld 0x14 0 32 = ((s.link g.val).rxFseq + 32) % 2 ^ 32 ∧ t.portState g.val = s.portState g.val) ∧
    (∀ e : BitVec 8, SMap.getD (s.link g.val).serFail l.val (s.rd (R.GATE_RECAL_FAIL_LOG2 g.val)) ≤ e.toNat ∨ s.portReady g.val = false ∨
        l.val = s.rd (R.GATE_LANES_RX_SPARE g.val) →
      ∃ t, exec (.laneSerWindow g l e) s = .next t ∧ t.rd (R.GATE_LANE_RX_SER_EXP g.val l.val) = e.toNat ∧
        s.SameBut t [R.GATE_LANE_RX_SER_EXP g.val l.val] ∧ t.core = { s.core with regs := t.core.regs, links := t.core.links }) ∧
    (∀ e : BitVec 8, e.toNat < SMap.getD (s.link g.val).serFail l.val (s.rd (R.GATE_RECAL_FAIL_LOG2 g.val)) →
      s.portReady g.val = true → bit (s.rd (R.GATE_LANES_RX_GOOD g.val)) l.val = true → s.rd (R.GATE_LANES_RX_SPARE g.val) ≠ 15 →
      l.val ≠ s.rd (R.GATE_LANES_RX_SPARE g.val) → l.val ∈ s.rxMap g.val →
      4 ≤ (lanesOf (maskDel (s.rd (R.GATE_LANES_RX_GOOD g.val)) l.val)).length →
      ∃ t, exec (.laneSerWindow g l e) s = .next t ∧ t.rd (R.GATE_LANE_RX_SER_EXP g.val l.val) = e.toNat ∧
        t.rd (R.GATE_LANES_RX_GOOD g.val) = maskDel (s.rd (R.GATE_LANES_RX_GOOD g.val)) l.val ∧
        (t.link g.val).failSent = some (l.val, s.rd (R.GATE_LANES_RX_SPARE g.val)) ∧ t.portState g.val = s.portState g.val) ∧
    (∀ v, ∃ t, exec (.rateAckChange g v) s = .next t ∧ bit t.pins.rateAck g.val = v ∧
      (t.link g.val).rateAck = (if s.idle then (s.link g.val).rateAck else v) ∧
      (∀ k, k ≠ g.val → t.link k = s.link k) ∧ t.core = { s.core with links := t.core.links } ∧ t.aon = s.aon) ∧
    (∀ c rest v, s.idle = false → (s.link g.val).cfg = c :: rest → c.op = 1 →
      ∃ t, exec (.phyCfgDone g v false) s = .next t ∧ SMap.get? t.aon.coefs (g.val * 16 + c.lane) = some v ∧ (t.link g.val).cfg = rest ∧
        t.core = { s.core with links := t.core.links }) ∧
    (∀ c rest v, s.idle = false → (s.link g.val).cfg = c :: rest → s.portReady g.val = false → ∀ x ∈ [Instr.phyCfgDone g v true, .phyCfgTimeout g],
      ∃ t, exec x s = .next t ∧ (t.link g.val).cfg = rest ∧ (t.link g.val).bad = Nat.lor (s.link g.val).bad (2 ^ c.lane) ∧
        t.core = { s.core with links := t.core.links } ∧ t.aon = s.aon)

/-- R336, R338, R339, R341: what the ends of a gate tell each other of its lanes. A LANE_FAIL in time names the frame from which the spare
takes over and cancels the countdown, a late one is ignored; WIDTH moves both directions at the frames first named through DEGRADE; RECAL goes
to the PHY; DOWN ends READY with cause 9; a rotation names the next lane and counts down from 255; LANE_FAIL and WIDTH are sent again. -/
def Obligations.LaneMessages : Prop :=
  ∀ s : State, s.off = false →
    (∀ i rest, takeFirst (fun i => i.pkt.cls == 0 && i.pkt.type == 0 && i.pkt.fld 0x10 0 4 == 2) s.core.resp.inbox = some (i, rest) →
      i.port < 8 → s.portReady i.port = true → i.pkt.fld 0x14 0 32 ≠ 0 → (s.link i.port).txMap.contains (i.pkt.fld 0x11 0 4) = true →
      s.rd (R.GATE_LANES_TX_SPARE i.port) ≠ 15 → (s.link i.port).failSwitch = none → (s.link i.port).txFseq ≤ i.pkt.fld 0x14 0 32 →
      ∃ t, exec .laneFailArrival s = .next t ∧ (t.link i.port).failSwitch = some (i.pkt.fld 0x14 0 32, i.pkt.fld 0x11 0 4) ∧
        (t.link i.port).countdown = 0 ∧ (t.link i.port).txMap = (s.link i.port).txMap ∧ t.core.regs = s.core.regs) ∧
    (∀ i rest, takeFirst (fun i => i.pkt.cls == 0 && i.pkt.type == 0 && i.pkt.fld 0x10 0 4 == 2) s.core.resp.inbox = some (i, rest) →
      i.port < 8 → i.pkt.fld 0x14 0 32 ≠ 0 → i.pkt.fld 0x14 0 32 < (s.link i.port).txFseq →
      ∃ t, exec .laneFailArrival s = .next t ∧ t.core = { s.core with resp.inbox := rest } ∧ t.aon = s.aon) ∧
    (∀ i rest, takeFirst (fun i => i.pkt.cls == 0 && i.pkt.type == 0 && i.pkt.fld 0x10 0 4 == 3) s.core.resp.inbox = some (i, rest) →
      i.port < 8 → s.portReady i.port = true → s.on (R.GATE_NEG_X4 i.port) = false → i.pkt.fld 0x11 0 1 = 1 →
      (s.link i.port).txMap.length ≠ 4 → (s.rxMap i.port).length ≠ 4 →
      ∃ t, exec .widthArrival s = .next t ∧ t.portState i.port = 7 ∧
        (t.link i.port).txWidth.map (·.1) = some (((s.link i.port).txWidth.map (·.1)).getD (i.pkt.fld 0x14 0 32)) ∧
        (t.link i.port).txWidth.map (·.2) = some (i.pkt.fld 0x12 0 9) ∧
        (t.link i.port).rxWidth = some ((s.link i.port).rxWidth.getD (i.pkt.fld 0x18 0 32)) ∧
        (t.link i.port).failSwitch = none ∧ (t.link i.port).countdown = 0) ∧
    (∀ i rest, takeFirst (fun i => i.pkt.cls == 0 && i.pkt.type == 0 && i.pkt.fld 0x10 0 4 == 5) s.core.resp.inbox = some (i, rest) →
      i.port < 8 → (s.link i.port).cfg = [] → s.pins.iso = false → s.idle = false →
      ∃ t, exec .recalArrival s = .next t ∧ t.out = [.phyCfg i.port (i.pkt.fld 0x11 0 4) 3 (i.pkt.fld 0x12 0 16)] ∧
        (t.link i.port).cfg = [⟨i.pkt.fld 0x11 0 4, 3, i.pkt.fld 0x12 0 16⟩] ∧ t.core.regs = s.core.regs) ∧
    (∀ i rest, takeFirst (fun i => i.pkt.cls == 0 && i.pkt.type == 0 && i.pkt.fld 0x10 0 4 == 6) s.core.resp.inbox = some (i, rest) →
      i.port < 10 → s.portReady i.port = true →
      ∃ t, exec .downArrival s = .next t ∧ t.portState i.port = 8 ∧ t.rd (R.GATE_STATUS_CAUSE i.port) = 9) ∧
    (∀ (g : Gate) (n : Nat), s.portState g.val = 6 → s.on (R.GATE_CTL_ROTATE g.val) = true → s.rd (R.GATE_LANES_TX_SPARE g.val) ≠ 15 →
      (s.link g.val).countdown = 0 → (s.link g.val).failSwitch = none → (s.link g.val).txWidth = none →
      ((rotation (s.rd (R.GATE_LANES_TX_GOOD g.val)) (s.on (R.GATE_NEG_X4 g.val))).filter
        (fun x => decide (s.rd (R.GATE_LANES_TX_SPARE g.val) < x))).head? = some n →
      ∃ t, exec (.spareRotateStart g) s = .next t ∧ t.link g.val = { (s.link g.val) with countdown := 255, nextSp := n } ∧
        (∀ k, k ≠ g.val → t.link k = s.link k) ∧ t.core = { s.core with links := t.core.links } ∧ t.aon = s.aon) ∧
    (∀ (g : Gate) (lane spare : Nat), (s.link g.val).failSent = some (lane, spare) → s.portReady g.val = true → lane < 16 →
      ∃ t o, exec (.laneFailResend g) s = .next t ∧ t.core.router.queued = s.core.router.queued ++ [o] ∧ o.port = g.val ∧
        o.pkt.fld 0x10 0 4 = 2 ∧ o.pkt.fld 0x11 0 4 = lane ∧
        o.pkt.fld 0x14 0 32 = (if lane = spare then 0 else ((s.link g.val).rxFseq + 32) % 2 ^ 32) ∧ t.core.links = s.core.links) ∧
    (∀ (g : Gate) (n : Nat), (s.link g.val).rxWidth = some n → s.portState g.val = 7 →
      ∃ t o, exec (.widthResend g) s = .next t ∧ (t.link g.val).rxWidth = some (((s.link g.val).rxFseq + 32) % 2 ^ 32) ∧
        t.core.router.queued = s.core.router.queued ++ [o] ∧ o.pkt.fld 0x10 0 4 = 3 ∧
        o.pkt.fld 0x14 0 32 = ((s.link g.val).rxFseq + 32) % 2 ^ 32)

/-- R325, R357-R361, R459, R460: KEY_LOAD fills the slot of the next phase of a port in KEYS or READY; a phase that is not next, or a slot
already loaded, sets LOAD_ERR, as does a malformed message of any type, and loads nothing. KEY_ARM with both slots loaded arms the
transmit switch 64 frames ahead, and without them sets LOAD_ERR. REJECT ends KEYS or READY with cause 5. KEY_SWITCH names the receive switch. KEYX_OUT leaves in fragments of up to
512 bytes; a whole KEYX goes to the root-of-trust, which takes the beats in order.
The beats of a message as one operand are the model's (log entry 7). -/
def Obligations.SessionKeys : Prop :=
  ∀ (s : State) (m : KeyMsg), s.idle = false → s.pins.tst = false →
    (keyMsgOk m = true → keyMsgType m = 0x12 → bits m.header.toNat 12 1 = 0 → s.portState (keyMsgPort m) = 5 →
      bits m.header.toNat 13 1 = nextPhase (s.on (R.SECURITY_TX_CUR_VALID (keyMsgPort m))) (s.rd (R.SECURITY_TX_KPH (keyMsgPort m))) →
      s.on (R.SECURITY_TX_NEXT_LOADED (keyMsgPort m)) = false →
      ∃ t k, exec (.keyLoad m) s = .next t ∧ t.rd (R.SECURITY_TX_NEXT_LOADED (keyMsgPort m)) = 1 ∧
        SMap.get? (t.link (keyMsgPort m)).txKeys (bits m.header.toNat 13 1) = some k ∧ k.key.toNat = leAt (keyMsgBytes m) 0 32 ∧
        k.salt.toNat = leAt (keyMsgBytes m) 32 8 ∧ (t.link (keyMsgPort m)).rxKeys = (s.link (keyMsgPort m)).rxKeys ∧
        s.SameBut t [R.SECURITY_TX_NEXT_LOADED (keyMsgPort m)] ∧ s.SameAon t) ∧
    (keyMsgOk m = true → keyMsgType m = 0x12 → bits m.header.toNat 12 1 = 1 → s.on (R.SECURITY_RX_NEXT_LOADED (keyMsgPort m)) = true →
      ∃ t, exec (.keyLoad m) s = .next t ∧ t.rd R.SECURITY_STATUS_LOAD_ERR = 1 ∧ t.rd R.SECURITY_STATUS_LOAD_ERR_PORT = keyMsgPort m ∧
        t.core.links = s.core.links) ∧
    (keyMsgOk m = false → ∀ c ∈ [Instr.keyLoad m, .keyArm m, .reject m, .keyxOut m],
      ∃ t, exec c s = .next t ∧ t.rd R.SECURITY_STATUS_LOAD_ERR = 1 ∧ t.rd R.SECURITY_STATUS_LOAD_ERR_PORT = keyMsgPort m ∧
        s.SameBut t [R.SECURITY_STATUS_LOAD_ERR, R.SECURITY_STATUS_LOAD_ERR_PORT] ∧ s.SameCore t ∧ s.SameAon t) ∧
    (keyMsgOk m = true → keyMsgType m = 0x13 →
      (SMap.get? (s.link (keyMsgPort m)).txKeys (nextPhase (s.on (R.SECURITY_TX_CUR_VALID (keyMsgPort m)))
        (s.rd (R.SECURITY_TX_KPH (keyMsgPort m))))).isSome = true →
      (SMap.get? (s.link (keyMsgPort m)).rxKeys (nextPhase (s.on (R.SECURITY_TX_CUR_VALID (keyMsgPort m)))
        (s.rd (R.SECURITY_TX_KPH (keyMsgPort m))))).isSome = true → s.on (R.SECURITY_TX_ARMED (keyMsgPort m)) = false →
      ∃ t, exec (.keyArm m) s = .next t ∧ t.rd (R.SECURITY_TX_ARMED (keyMsgPort m)) = 1 ∧
        (t.link (keyMsgPort m)).txSwitch = some (((s.link (keyMsgPort m)).txFseq + 64) % 2 ^ 32,
          nextPhase (s.on (R.SECURITY_TX_CUR_VALID (keyMsgPort m))) (s.rd (R.SECURITY_TX_KPH (keyMsgPort m)))) ∧ s.SameAon t) ∧
    (keyMsgOk m = true → keyMsgType m = 0x13 →
      (SMap.get? (s.link (keyMsgPort m)).txKeys (nextPhase (s.on (R.SECURITY_TX_CUR_VALID (keyMsgPort m)))
        (s.rd (R.SECURITY_TX_KPH (keyMsgPort m))))).isNone = true ∨
      (SMap.get? (s.link (keyMsgPort m)).rxKeys (nextPhase (s.on (R.SECURITY_TX_CUR_VALID (keyMsgPort m)))
        (s.rd (R.SECURITY_TX_KPH (keyMsgPort m))))).isNone = true →
      ∃ t, exec (.keyArm m) s = .next t ∧ t.rd R.SECURITY_STATUS_LOAD_ERR = 1 ∧ t.rd R.SECURITY_STATUS_LOAD_ERR_PORT = keyMsgPort m ∧
        t.core.links = s.core.links) ∧
    (keyMsgOk m = true → keyMsgType m = 0x14 → s.portState (keyMsgPort m) = 5 ∨ s.portReady (keyMsgPort m) = true →
      ∃ t, exec (.reject m) s = .next t ∧ t.portState (keyMsgPort m) = 8 ∧ t.rd (R.GATE_STATUS_CAUSE (keyMsgPort m)) = 5 ∧
        (t.link (keyMsgPort m)).txKeys = [] ∧ (t.link (keyMsgPort m)).rxKeys = []) ∧
    (keyMsgOk m = true → keyMsgType m = 0x11 → s.portReady (keyMsgPort m) = true →
      ∃ t, exec (.keyxOut m) s = .next t ∧
        t.core.router.queued.length = s.core.router.queued.length + (keyMsgLen m + 511) / 512 ∧
        (t.link (keyMsgPort m)).msgOut = ((s.link (keyMsgPort m)).msgOut + 1) % 256 ∧ t.core.keyPort = s.core.keyPort) ∧
    (∀ i rest, takeFirst (fun i => i.pkt.cls == 0 && i.pkt.type == 0 && i.pkt.fld 0x10 0 4 == 4) s.core.resp.inbox = some (i, rest) →
      ∃ t, exec .keySwitchArrival s = .next t ∧ (t.link i.port).rxSwitch = some (i.pkt.fld 0x14 0 32, i.pkt.fld 0x11 0 1) ∧
        (∀ k, k ≠ i.port → t.link k = s.link k) ∧ t.core.regs = s.core.regs ∧ t.aon = s.aon) ∧
    (∀ i rest, takeFirst (fun i => i.pkt.cls == 0 && i.pkt.type == 5 && true) s.core.resp.inbox = some (i, rest) →
      i.pkt.fld 0x10 0 4 = 0 → i.pkt.fld 0x12 4 4 = 1 → (s.link i.port).keyx = none →
      i.pkt.payload.length = i.pkt.fld 0x14 0 13 → s.core.keyPort.out = [] → i.pkt.payload.length ≤ 512 →
      ∃ t h, exec .keyxArrival s = .next t ∧ (t.link i.port).keyx = none ∧ t.core.keyPort.out.head? = some h ∧ bits h.1 0 8 = 2 ∧
        t.core.keyPort.out.length = 1 + (i.pkt.payload.length + 7) / 8) ∧
    (∀ b last l, s.core.keyPort.out = (b, last) :: l →
      ∃ t, exec .keyPortBeatTaken s = .next t ∧ t.out = [.keyBeat b last] ∧ t.core = { s.core with keyPort.out := l } ∧ t.aon = s.aon)

/-! ## Bolts and fabric time (chapter 10) -/

/-- R261, R263, R264, R266, R391, R449: a BOLT_PUT that R261 refuses completes with its status; one of LENGTH 0 completes at once; another
queues a transfer on its circuit, from the first slot at least two slots ahead. A scratchpad slot takes the read that waits, and its line
joins its packet, or its error ends the reading with an ABORT marker due, as does a read that takes one request timeout. In ACK_WAIT the
acknowledgement completes the transfer with its bytes and SLIP, and one request timeout without it completes it with TIMEOUT, also where a
source fault had stopped it. A refusal with reason 0x00A waits for nothing.
The order in which the data of a packet are asked for is entry 33's choice. -/
def Obligations.BoltTransfers : Prop :=
  ∀ s : State, s.off = false →
    (∀ (q : QueueId) (h : Head) (n : Nat) (c : Circuit), s.ready q.val 0x20 (fun _ => []) = .ok h →
      s.boltRefusal (s.qFunc q.val) h.desc = none → dLength h.desc ≠ 0 → s.held q.val h (boltRanges h.desc) = false →
      s.allocTag q.val (s.qFunc q.val) = some n → s.circuit? (dCircuit h.desc) = some c →
      ∃ t c' x r, exec (.boltPut q) s = .next t ∧ t.circuit? (dCircuit h.desc) = some c' ∧ c'.xfers = c.xfers ++ [x] ∧
        x.op = s.core.nextId ∧ x.num = c.nextXfer ∧ x.tag = n ∧ x.phase = .waiting ∧ x.first = s.firstSlot c ∧
        c'.nextXfer = (c.nextXfer + 1) % 2 ^ 16 ∧ t.req? n = some r ∧ r.kind = .bolt ∧ r.ptr = dDstPtr h.desc ∧
        t.rd (R.QUEUE_SQ_HEAD_COUNT q.val) = (s.rd (R.QUEUE_SQ_HEAD_COUNT q.val) + h.slots) % 2 ^ 32 ∧ t.aon = s.aon ∧
        t.core.mem = s.core.mem ∧ t.core.router = s.core.router ∧ t.core.win = s.core.win) ∧
    (∀ (q : QueueId) (h : Head) (st de : Nat), s.ready q.val 0x20 (fun _ => []) = .ok h →
      s.boltRefusal (s.qFunc q.val) h.desc = some (st, de) → st = 0x05 ∨ s.held q.val h [] = false →
      ∃ t r, exec (.boltPut q) s = .next t ∧ (t.qs q.val).records = (s.qs q.val).records ++ [r] ∧ r.status = st ∧ r.detail = de ∧
        t.core.bolts = s.core.bolts ∧ t.core.rq.reqs = s.core.rq.reqs) ∧
    (∀ (i : SspId) (r : SspRead) (rest : List SspRead), s.fatal = false → s.pins.iso = false → s.idle = false →
      takeFirst (fun r => r.ssp == i.val) s.core.bolts.sspWait = some (r, rest) →
      ∃ t, exec (.scratchpadSlotOffer i) s = .next t ∧ t.out = [.sspRead i.val r.line] ∧
        t.core = { s.core with bolts.sspWait := rest, bolts.sspOut := s.core.bolts.sspOut ++ [r] } ∧ t.aon = s.aon) ∧
    (∀ (i : SspId) (line : BitVec 1024) (r : SspRead) (rest : List SspRead) (x : Transfer), s.idle = false →
      takeFirst (fun r => r.ssp == i.val) s.core.bolts.sspOut = some (r, rest) → s.xfer? r.circ (r.pkt / 2 ^ 32) = some x →
      (∃ t x', exec (.sspReadReturn i line false) s = .next t ∧ t.xfer? r.circ (r.pkt / 2 ^ 32) = some x' ∧
        x'.reads = x.reads.map (fun b => if b.pkt = r.pkt % 2 ^ 32 then b.line (toLE 128 line.toNat) else b) ∧
        t.core.bolts.sspOut = rest ∧ t.aon = s.aon ∧ t.core.regs = s.core.regs ∧ t.core.rq = s.core.rq) ∧
      (∃ t x', exec (.sspReadReturn i line true) s = .next t ∧ t.xfer? r.circ (r.pkt / 2 ^ 32) = some x' ∧ x'.phase = .abort ∧
        x'.reads = [] ∧ x'.fail = some (0x0F, 7 * 4096 + 0x07C, 0) ∧ t.core.bolts.sspOut = rest ∧
        ∃ e ∈ t.core.err.merging, e.cls = 4)) ∧
    (∀ (k : CircuitId) (c : Circuit) (y : Transfer), s.circuit? k.val = some c → c.role = 0 →
      c.xfers.find? (fun x => x.phase == .prefetch && x.reads.any (·.data.isNone)) = some y →
      ∃ t y', exec (.boltReadTimeout k) s = .next t ∧ t.xfer? k.val y.tag = some y' ∧ y'.phase = .abort ∧
        y'.fail = some (0x0F, 7 * 4096 + 0x07D, 0) ∧ t.core.rq = s.core.rq ∧ t.aon = s.aon) ∧
    (∀ (k : CircuitId) (c : Circuit) (x : Transfer) (r : Req) (o : Op), s.circuit? k.val = some c →
      c.xfers.find? (fun x => x.phase == .ackWait) = some x → s.req? x.tag = some r →
      x.fail = none ∧ s.mayRetry r = false ∨ x.fail.map (·.1) = some 0x01 →
      s.op? x.op = some o → o.done = none →
      ∃ t r' o', exec (.boltAckTimeout k) s = .next t ∧ t.req? x.tag = some r' ∧ r'.state = .quarantine ∧ t.op? x.op = some o' ∧
        o'.done = some (0x02, 8 * 4096 + 0x081)) ∧
    (∀ (i : InPkt) (rest : List InPkt) (r : Req) (k : Nat) (x : Transfer) (o : Op),
      takeFirst (fun i => i.pkt.cls == 3 && i.pkt.type == 5 && true) s.core.resp.inbox = some (i, rest) → s.req? i.pkt.tag = some r →
      r.state = .sent → r.kind = .bolt → s.xferOf i.pkt.tag = some (k, x) → x.phase = .ackWait → x.fail = none →
      s.op? x.op = some o → o.done = none → dCqe o.desc = true → i.pkt.rspStatus = 0 →
      ∃ t r', exec .boltAckReceive s = .next t ∧ t.req? i.pkt.tag = none ∧ (t.qs o.queue).records = (s.qs o.queue).records ++ [r'] ∧
        r'.status = (if x.slip ≤ dSlack o.desc then 0x00 else 0x14) ∧
        r'.result = i.pkt.fld 0x18 0 64 + x.slip % 2 ^ 32 * 2 ^ 64)

/-- R249, R255, R264, R265: when a slot begins, every READY port marks it; a circuit's reserved slot carries its transfer's next packet
when its data is there, else a marker, which SLIP counts; without a transfer, a pair's circuit carries the requests that wait for it, and a
hop's circuit what it holds for the slot; a slot begins once. A packet of a transfer that lands in its circuit's area is
checked as a write, and a marker is counted. -/
def Obligations.SlotsBegin : Prop :=
  ∀ s : State, s.off = false →
    (s.idle = false → s.core.bolts.slot ≠ some (s.now / 4096) →
      ∃ t, exec .slotBegin s = .next t ∧ t.core.bolts.slot = some (s.now / 4096) ∧ t.core.router = s.core.router ∧
        t.core.resp = s.core.resp ∧ t.aon = s.aon ∧
        ∀ p : Port, s.portReady p.val = true → ∃ l, (t.link p.val).tx = (s.link p.val).tx ++ ⟨3, 0, none, s.now / 4096 % 1024⟩ :: l) ∧
    (s.core.bolts.slot = some (s.now / 4096) → ∃ t, exec .slotBegin s = .next t ∧ t.core = s.core ∧ t.aon = s.aon) ∧
    (∀ (k : Nat) (c : Circuit), s.idle = false → s.core.bolts.slot ≠ some (s.now / 4096) → s.core.bolts.table = [(k, c)] →
      c.state = 2 → c.outPort < 10 → s.portReady c.outPort = true → inPattern c.start c.stride (s.now / 4096) = true → 0 < c.pkts →
      (∀ (x : Transfer) (b : BoltRead), c.role = 0 → c.xfers = [x] → x.phase = .prefetch → x.first ≤ s.now / 4096 → x.reads = [b] →
        (∀ data, b.data = some data → ∃ t o, exec .slotBegin s = .next t ∧
          (t.link c.outPort).tx = (s.link c.outPort).tx ++ ⟨3, 0, none, s.now / 4096 % 1024⟩ :: txItems o ∧ o.pkt.cls = 5 ∧ o.pkt.type = 0 ∧
          o.pkt.payload = data ∧ o.pkt.circuit = c.outIndex % 256 ∧ o.pkt.boltPkt = b.pkt % 2 ^ 32) ∧
        (b.data = none → ∃ t o c', exec .slotBegin s = .next t ∧
          (t.link c.outPort).tx = (s.link c.outPort).tx ++ ⟨3, 0, none, s.now / 4096 % 1024⟩ :: txItems o ∧ o.pkt.cls = 5 ∧ o.pkt.type = 1 ∧
          t.circuit? k = some c' ∧ c'.slip = (c.slip + 1) % 2 ^ 32)) ∧
      (c.role = 0 → c.xfers = [] → c.rev = true ∨ s.pairLate c (s.now / 4096) = false →
        ∃ t c', exec .slotBegin s = .next t ∧ (t.link c.outPort).tx =
            (s.link c.outPort).tx ++ ⟨3, 0, none, s.now / 4096 % 1024⟩ :: (c.tdm.take c.pkts).flatMap txItems ∧
          t.circuit? k = some c' ∧ c'.tdm = c.tdm.drop c.pkts) ∧
      (∀ (n stamp : Nat) (p : Packet), c.role = 1 → c.buf = [(n, stamp, p)] →
        ∃ t c', exec .slotBegin s = .next t ∧ t.circuit? k = some c' ∧ c'.buf = (if n = s.now / 4096 % 1024 then [] else c.buf) ∧
          (t.link c.outPort).tx = (s.link c.outPort).tx ++ ⟨3, 0, none, s.now / 4096 % 1024⟩ :: (if n = s.now / 4096 % 1024 then
            txItems ⟨c.inPort, c.outPort, false, stamp, none, none, p.set 0x0C 18 8 c.outIndex, 0⟩ else []))) ∧
    (∀ (i : InPkt) (rest : List InPkt) (k : Nat) (c : Circuit), takeFirst (fun i => i.pkt.cls == 5) s.core.resp.inbox = some (i, rest) →
      s.circuits.find? (fun x => x.2.role == 2 && x.2.inPort == i.port && x.2.inIndex == i.pkt.circuit) = some (k, c) → c.land = [] →
      (∀ w, i.pkt.type = 0 → 0 < c.pkts → s.fatal = false → s.lookupReq i.pkt = .ok w →
        ∃ t a j, exec .bltArrival s = .next t ∧ t.arr? s.core.nextId = some a ∧ a.pkt = i.pkt ∧ a.xfer = some k ∧
          SMap.get? t.core.jobs (s.core.nextId + 1) = some j ∧ j.acc = .probe ∧ j.func = w.func ∧
          j.va = (w.base + ptrOffset i.pkt.ptr) % 2 ^ 64 ∧ t.core.resp.inbox = rest ∧ t.core.win = s.core.win) ∧
      (i.pkt.type = 1 → i.pkt.fld 0x24 1 1 = 0 →
        ∃ t c', exec .bltArrival s = .next t ∧ t.circuit? k = some c' ∧ c'.slip = (c.slip + 1) % 2 ^ 32 ∧
          c'.land.map (fun l => (l.num, l.markers)) = [(i.pkt.xferNo, 1)]))

/-- R256-R260: SETUP holds a circuit at its source, or ends the command with the refusal; SETUP is discarded where its port is not routable; a command while one is in progress sets
CMD_LOST; TEARDOWN of an idle ACTIVE circuit, or of a BROKEN one, frees it. A SETUP that arrives at its destination makes an ACTIVE
circuit, or is refused when the landing pool is full; at a hop it holds one; a block without a valid ROUTE_SELF answers none. The answer commits or releases each circuit it passes, and
ends the command at the source; RELEASE frees, BREAK breaks; a PENDING circuit is released when no answer comes. -/
def Obligations.BoltCircuits : Prop :=
  ∀ s : State, s.off = false →
    (∀ (d : Word) (p : Nat), bits d.toNat 0 2 = 1 → s.on R.BOLT_STATUS_BUSY = false → s.routeReason (s.rd R.BOLT_SETUP_DEST_NODE) = none →
      s.rd R.BOLT_SETUP_DEST_NODE / 8 ≠ s.self / 8 → s.rd R.BOLT_SETUP_PAT_STRIDE_LOG2 ≤ 10 →
      s.pathPort 10 (s.rd R.BOLT_SETUP_DEST_NODE) = some p →
      s.admission p (s.rd R.BOLT_SETUP_DEST_FUNC) (s.rd R.BOLT_SETUP_PAT_START) (s.rd R.BOLT_SETUP_PAT_STRIDE_LOG2)
        (s.rd R.BOLT_SETUP_PAT_PKTS) (decide (s.stageUsed + 3 * s.rd R.BOLT_SETUP_PAT_PKTS * 512 ≤ s.build.boltStageKib * 1024)) = none →
      ∃ t c, exec (.boltSetupCmd d) s = .next t ∧ t.rd R.BOLT_STATUS_BUSY = 1 ∧ t.circuit? (p * 256 + s.freeIndex p) = some c ∧
        c.role = 0 ∧ c.state = 1 ∧ c.dest = s.rd R.BOLT_SETUP_DEST_NODE ∧ c.func = s.rd R.BOLT_SETUP_DEST_FUNC ∧ c.outPort = p ∧
        c.start = s.rd R.BOLT_SETUP_PAT_START ∧ c.stride = s.rd R.BOLT_SETUP_PAT_STRIDE_LOG2 ∧ c.pkts = s.rd R.BOLT_SETUP_PAT_PKTS ∧
        (s.routable p = true → ∃ o, t.core.router.queued = s.core.router.queued ++ [o] ∧ o.port = p ∧ o.pkt.cls = 0 ∧ o.pkt.type = 4 ∧
          o.pkt.fld 0x10 0 2 = 0 ∧ o.pkt.circuit = s.freeIndex p % 256) ∧
        (s.routable p = false → t.core.router.queued = s.core.router.queued) ∧
        (∀ k, k ≠ p * 256 + s.freeIndex p → t.circuit? k = s.circuit? k) ∧ s.SameAon t) ∧
    (∀ d : Word, bits d.toNat 0 2 = 1 → s.on R.BOLT_STATUS_BUSY = false →
      s.rd R.BOLT_SETUP_DEST_NODE / 8 = s.self / 8 ∨ s.routeReason (s.rd R.BOLT_SETUP_DEST_NODE) ≠ none →
      ∃ t, exec (.boltSetupCmd d) s = .next t ∧ t.rd R.BOLT_STATUS_BUSY = 0 ∧ t.rd R.BOLT_STATUS_STATUS = 0x11 ∧
        t.core.bolts = s.core.bolts) ∧
    (∀ d : Word, s.on R.BOLT_STATUS_BUSY = true → ∀ c ∈ [(Instr.boltSetupCmd d, 1), (.boltTeardownCmd d, 2)], bits d.toNat 0 2 = c.2 →
      ∃ t, exec c.1 s = .next t ∧ t.rd R.BOLT_STATUS_CMD_LOST = 1 ∧ s.SameBut t [R.BOLT_STATUS_CMD_LOST] ∧ s.SameAon t ∧ s.SameCore t) ∧
    (∀ (d : Word) (c : Circuit), bits d.toNat 0 2 = 2 → s.on R.BOLT_STATUS_BUSY = false → s.circuit? (bits d.toNat 4 11) = some c →
      c.role = 0 → c.state = 4 ∨ c.state = 2 ∧ c.xfers = [] ∧ c.pending_ = 0 →
      ∃ t, exec (.boltTeardownCmd d) s = .next t ∧ t.circuit? (bits d.toNat 4 11) = none ∧ t.rd R.BOLT_STATUS_STATUS = 0 ∧
        (∀ k, k ≠ bits d.toNat 4 11 → t.circuit? k = s.circuit? k)) ∧
    (∀ (i : InPkt) (rest : List InPkt),
      takeFirst (fun i => i.pkt.cls == 0 && i.pkt.type == 4 && i.pkt.fld 0x10 0 2 == 0) s.core.resp.inbox = some (i, rest) →
      (s.selfValid = false → ∃ t, exec .boltSetupArrival s = .next t ∧ t.core.bolts = s.core.bolts ∧ t.core.router = s.core.router) ∧
      (s.selfValid = true → i.pkt.dest = s.self → i.pkt.fld 0x10 2 1 = 0 → s.landUsed + 4 * i.pkt.fld 0x11 0 8 * 512 ≤ s.build.boltLandKib * 1024 →
        ∃ t c, exec .boltSetupArrival s = .next t ∧ t.circuit? (4096 + i.port * 256 + i.pkt.circuit) = some c ∧ c.role = 2 ∧ c.state = 2 ∧
          c.src = i.pkt.srcNode ∧ c.inPort = i.port ∧ c.inIndex = i.pkt.circuit ∧ c.pkts = i.pkt.fld 0x11 0 8 ∧
          c.rxSig = i.pkt.fld 0x18 0 96) ∧
      (s.selfValid = true → i.pkt.dest = s.self → s.build.boltLandKib * 1024 < s.landUsed + 4 * i.pkt.fld 0x11 0 8 * 512 → s.portReady i.port = true →
        ∃ t o, exec .boltSetupArrival s = .next t ∧ t.core.bolts = s.core.bolts ∧ t.core.router.queued = s.core.router.queued ++ [o] ∧
          o.port = i.port ∧ o.pkt.fld 0x10 0 2 = 1 ∧ o.pkt.fld 0x24 0 8 = 0x05 ∧ o.pkt.fld 0x25 0 12 = 0x076) ∧
      (∀ p, s.selfValid = true → i.pkt.dest ≠ s.self → s.pathPort i.port i.pkt.dest = some p →
        s.admission p (i.pkt.fld 0x14 0 6) ((i.pkt.fld 0x12 0 10 + s.advance i.port (i.pkt.fld 0x11 0 8)) % 1024) (i.pkt.fld 0x12 10 4)
          (i.pkt.fld 0x11 0 8) (decide (s.shareUsed i.port + (s.advance i.port (i.pkt.fld 0x11 0 8) + 1) * i.pkt.fld 0x11 0 8 * 9 ≤
            s.bltShare i.port)) = none →
        ∃ t c, exec .boltSetupArrival s = .next t ∧ t.circuit? (p * 256 + s.freeIndex p) = some c ∧ c.role = 1 ∧ c.state = 1 ∧
          c.inPort = i.port ∧ c.outPort = p ∧ c.start = (i.pkt.fld 0x12 0 10 + s.advance i.port (i.pkt.fld 0x11 0 8)) % 1024)) ∧
    (∀ (i : InPkt) (rest : List InPkt) (c : Circuit),
      takeFirst (fun i => i.pkt.cls == 0 && i.pkt.type == 4 && i.pkt.fld 0x10 0 2 == 1) s.core.resp.inbox = some (i, rest) →
      s.circuit? (i.port * 256 + i.pkt.circuit) = some c → c.state = 1 →
      (c.role = 1 → ∃ t, exec .boltAnswerArrival s = .next t ∧ t.circuit? (i.port * 256 + i.pkt.circuit) =
        if i.pkt.fld 0x24 0 8 = 0 then some { c with state := 2 } else none) ∧
      (c.role = 0 → c.rev = false → i.pkt.fld 0x24 0 8 = 0 →
        ∃ t, exec .boltAnswerArrival s = .next t ∧ t.circuit? (i.port * 256 + i.pkt.circuit) = some { c with state := 2 } ∧
          t.rd R.BOLT_STATUS_BUSY = 0 ∧ t.rd R.BOLT_STATUS_STATUS = 0 ∧
          t.rd R.BOLT_STATUS_CIRCUIT = (i.port * 256 + i.pkt.circuit) % 2 ^ 11)) ∧
    (∀ (i : InPkt) (rest : List InPkt) (k : Nat) (c : Circuit),
      takeFirst (fun i => i.pkt.cls == 0 && i.pkt.type == 4 && i.pkt.fld 0x10 0 2 == 2) s.core.resp.inbox = some (i, rest) →
      s.incoming i.port i.pkt.circuit = some (k, c) →
      ∃ t, exec .boltReleaseArrival s = .next t ∧ t.circuit? k = none ∧ t.aon = s.aon) ∧
    (∀ (i : InPkt) (rest : List InPkt) (k : Nat) (c : Circuit),
      takeFirst (fun i => i.pkt.cls == 0 && i.pkt.type == 4 && i.pkt.fld 0x10 0 2 == 3) s.core.resp.inbox = some (i, rest) →
      s.incoming i.port i.pkt.circuit = some (k, c) → c.dest = i.pkt.dest → c.state = 2 →
      ∃ t c', exec .boltBreakArrival s = .next t ∧ t.circuit? k = some c' ∧ c'.state = 4 ∧ c'.buf = [] ∧
        eventRecord 0x20 0 0 ∈ t.core.events) ∧
    (∀ (k : HopId) (c : Circuit), s.circuit? k.val = some c → c.state = 1 →
      ∃ t, exec (.boltSetupTimeout k) s = .next t ∧ t.circuit? k.val = none ∧ (∀ j, j ≠ k.val → t.circuit? j = s.circuit? j) ∧
        (c.role = 0 → c.rev = false → t.rd R.BOLT_STATUS_BUSY = 0))

/-- R249-R251: fabric time. Enabling a master sets the count from TIME_SET and locks, from holdover by a forward step only; disabling leads
to HOLDOVER, as does the time limit, but not for an enabled master. A block starts exchanges on READY ports,
answers a SYNC with DELAY_REQ, or sets LOOP at 255 hops, and a DELAY_REQ with its stamp; the response gives the path delay, and on the
parent port the first one sets the count. After HOLD_MAX superframes of holdover every circuit breaks.
The elapse of a time limit is given by its command (log entry 37). -/
def Obligations.FabricTime : Prop :=
  ∀ s : State, s.off = false →
    (∀ d : Word, bits d.toNat 0 1 = 1 → bits d.toNat 1 1 = 1 → s.on R.TIME_CTL_ENABLE = false → s.rd R.TIME_STATUS_STATE = 0 →
      ∃ t, exec (.timeEnable d) s = .next t ∧ t.now = s.timeSet ∧ t.rd R.TIME_STATUS_STATE = 2 ∧ t.rd R.TIME_STATUS_SYNCED = 1 ∧
        t.rd R.TIME_STATUS_HOPS = 0 ∧ t.rd R.TIME_CTL_ENABLE = 1 ∧ t.core.bolts = s.core.bolts) ∧
    (∀ d : Word, bits d.toNat 0 1 = 1 → bits d.toNat 1 1 = 1 → s.on R.TIME_CTL_ENABLE = false → s.rd R.TIME_STATUS_STATE = 3 →
      ∃ t, exec (.timeEnable d) s = .next t ∧ t.now = max s.now s.timeSet ∧ t.rd R.TIME_STATUS_STATE = 2) ∧
    (∀ d : Word, bits d.toNat 0 1 = 0 → s.on R.TIME_CTL_ENABLE = true → s.rd R.TIME_STATUS_STATE ≠ 0 →
      ∃ t, exec (.timeDisable d) s = .next t ∧ t.rd R.TIME_STATUS_STATE = 3 ∧ t.rd R.TIME_CTL_ENABLE = 0 ∧ t.now = s.now ∧
        t.rd R.TIME_CTL_MASTER = s.rd R.TIME_CTL_MASTER) ∧
    (∀ p : Port, s.portReady p.val = true →
      ∃ t o, exec (.timeExchangeStart p) s = .next t ∧ t.core.router.queued = s.core.router.queued ++ [o] ∧ o.port = p.val ∧
        o.pkt.type = 1 ∧ o.pkt.fld 0x10 0 2 = 0 ∧ o.pkt.fld 0x12 0 16 = SMap.getD s.core.time.xseq p.val 0 % 2 ^ 16 ∧
        SMap.getD t.core.time.xseq p.val 0 = (SMap.getD s.core.time.xseq p.val 0 + 1) % 2 ^ 16) ∧
    (∀ i rest, takeFirst (fun i => i.pkt.cls == 0 && i.pkt.type == 1 && i.pkt.fld 0x10 0 2 == 0) s.core.resp.inbox = some (i, rest) →
      s.portReady i.port = true → s.disciplines i.port (i.pkt.fld 0x10 2 1 == 1) = false ∨ i.pkt.fld 0x11 0 8 < 255 →
      ∃ t o e, exec .syncArrival s = .next t ∧ t.core.router.queued = s.core.router.queued ++ [o] ∧ o.port = i.port ∧
        o.pkt.fld 0x10 0 2 = 1 ∧ o.pkt.fld 0x12 0 16 = i.pkt.fld 0x12 0 16 ∧ SMap.get? t.core.time.exch i.port = some e ∧
        e.t1 = i.pkt.fld 0x18 0 64 ∧ e.t2 = i.stamp % 2 ^ 64 ∧ t.now = s.now) ∧
    (∀ i rest, takeFirst (fun i => i.pkt.cls == 0 && i.pkt.type == 1 && i.pkt.fld 0x10 0 2 == 0) s.core.resp.inbox = some (i, rest) →
      s.disciplines i.port (i.pkt.fld 0x10 2 1 == 1) = true → i.pkt.fld 0x11 0 8 = 255 →
      ∃ t, exec .syncArrival s = .next t ∧ t.rd R.TIME_STATUS_LOOP = 1 ∧ t.core.time = s.core.time ∧
        t.core.router = s.core.router) ∧
    (∀ i rest e, takeFirst (fun i => i.pkt.cls == 0 && i.pkt.type == 1 && i.pkt.fld 0x10 0 2 == 1) s.core.resp.inbox = some (i, rest) →
      s.portReady i.port = true → SMap.get? s.core.time.exch (i.port + 16) = some e → e.xseq = i.pkt.fld 0x12 0 16 →
      e.disc = false ∨ s.timeUp = true →
      ∃ t o, exec .delayReqArrival s = .next t ∧ SMap.get? t.core.time.exch (i.port + 16) = none ∧
        t.core.router.queued = s.core.router.queued ++ [o] ∧ o.pkt.fld 0x10 0 2 = 2 ∧ o.pkt.fld 0x18 0 64 = i.stamp % 2 ^ 64) ∧
    (∀ (i : InPkt) (rest : List InPkt) (e : Exchange) (off d : Int),
      takeFirst (fun i => i.pkt.cls == 0 && i.pkt.type == 1 && i.pkt.fld 0x10 0 2 == 2) s.core.resp.inbox = some (i, rest) → i.port < 10 →
      SMap.get? s.core.time.exch i.port = some e → e.parent = false → e.xseq = i.pkt.fld 0x12 0 16 →
      d = (toSigned 64 (subMod 64 e.t2 e.t1) + toSigned 64 (subMod 64 (i.pkt.fld 0x18 0 64) e.t3)) / 2 →
      off = toSigned 64 (subMod 64 e.t2 e.t1) - d - toSigned 16 (s.rd (R.TIME_ASYM_CORR i.port)) →
      ∃ t, exec .delayRespArrival s = .next t ∧ t.rd (R.TIME_PATH_DELAY i.port) = ofSigned 24 d ∧
        SMap.get? t.core.time.exch i.port = none ∧
        (s.disciplines i.port e.disc = false → t.now = s.now ∧ t.rd R.TIME_STATUS_STATE = s.rd R.TIME_STATUS_STATE) ∧
        (s.disciplines i.port e.disc = true → s.rd R.TIME_STATUS_STATE = 0 →
          t.rd R.TIME_STATUS_STATE = 1 ∧ t.now = ofSigned 64 ((s.now : Int) - off)) ∧
        (s.disciplines i.port e.disc = true → s.rd R.TIME_STATUS_STATE = 1 → off.natAbs < 16 → 3 ≤ s.core.time.good →
          t.rd R.TIME_STATUS_STATE = 2 ∧ t.now = s.now)) ∧
    (s.timeUp = true → s.on R.TIME_CTL_MASTER = false ∨ s.on R.TIME_CTL_ENABLE = false →
      ∃ t, exec .timeHoldoverTimeout s = .next t ∧ t.rd R.TIME_STATUS_STATE = 3 ∧ t.now = s.now ∧ t.core.bolts = s.core.bolts) ∧
    (s.timeUp = false ∨ s.on R.TIME_CTL_MASTER = true ∧ s.on R.TIME_CTL_ENABLE = true →
      ∃ t, exec .timeHoldoverTimeout s = .next t ∧ t.core = s.core ∧ t.aon = s.aon) ∧
    (s.rd R.TIME_STATUS_STATE = 3 →
      ∃ t, exec .timeHoldMax s = .next t ∧ ∀ k c, s.circuit? k = some c → c.state = 2 → ∃ c', t.circuit? k = some c' ∧ c'.state = 4)

/-! ## Groups and collectives (chapters 6 to 9) -/

/-- R43, R49, R50, R152, R162, R168, R191, R239, R299: RS, AG, COUNTX and PINTLE issue when nothing holds them: the descriptor leaves the ring
and becomes an operation, which joins its group's collectives as the last, with its chain as it then stands. One that fails R50, or a
condition its own opcode adds, completes with BAD_DESC and joins nothing; one with a peer that fails a route check completes with
NO_ROUTE, and nothing is sent. -/
def Obligations.CollectivesIssue : Prop :=
  ∀ (s : State) (q : QueueId) (h : Head), s.off = false →
    ∀ x ∈ ([(Instr.rs q, 0x10, s.colReasons (s.qMembers q.val) (s.qFunc q.val), colRanges (s.qMembers q.val)),
        (.ag q, 0x11, s.colReasons (s.qMembers q.val) (s.qFunc q.val), colRanges (s.qMembers q.val)),
        (.countx q, 0x12, fun d => if dSrc d % 8 ≠ 0 ∨ dColDst d % 8 ≠ 0 then [5] else [], countRanges (s.qMembers q.val)),
        (.pintle q, 0x13, fun _ => [], pintleRanges)] :
        List (Instr × Nat × (BitVec 1024 → List Nat) × (BitVec 1024 → List Range))),
      (∀ g, s.ready q.val x.2.1 x.2.2.1 = .ok h → s.held q.val h (x.2.2.2 h.desc) = false → s.group? (s.qGroup q.val) = some g →
        ((g.checked h.desc).map g.node).findSome? s.routeReason = none →
        ∃ t o y, exec x.1 s = .next t ∧ t.op? s.core.nextId = some o ∧ o.desc = h.desc ∧ o.queue = q.val ∧ o.func = s.qFunc q.val ∧
          o.done = none ∧ t.group? (s.qGroup q.val) = some y ∧ y = { g with issued := y.issued } ∧
          y.issued = g.issued ++ [(s.core.nextId, if x.2.1 < 0x12 ∧ dChain h.desc ≠ 0 then s.chain (dChain h.desc) else [])] ∧
          (∀ k, k ≠ s.qGroup q.val → t.group? k = s.group? k) ∧ .coll (s.qGroup q.val) ∈ t.core.work ∧ (t.qs q.val).head = none ∧
          (t.qs q.val).ranges = (s.qs q.val).ranges ++ (x.2.2.2 h.desc).map (fun r => { r with op := s.core.nextId }) ∧
          t.rd (R.QUEUE_SQ_HEAD_COUNT q.val) = (s.rd (R.QUEUE_SQ_HEAD_COUNT q.val) + h.slots) % 2 ^ 32 ∧ t.aon = s.aon ∧
          t.core.rq.reqs = s.core.rq.reqs ∧ t.core.resp = s.core.resp ∧ t.core.win = s.core.win ∧ t.core.router = s.core.router ∧
          t.core.mem = s.core.mem ∧ t.core.bolts = s.core.bolts) ∧
      (∀ g c, s.ready q.val x.2.1 x.2.2.1 = .ok h → s.held q.val h (x.2.2.2 h.desc) = false → s.group? (s.qGroup q.val) = some g →
        ((g.checked h.desc).map g.node).findSome? s.routeReason = some c →
        ∃ t r, exec x.1 s = .next t ∧ (t.qs q.val).records = (s.qs q.val).records ++ [r] ∧ r.status = 0x11 ∧ r.detail = 2 * 4096 + c ∧
          t.core.col = s.core.col ∧ t.core.router = s.core.router) ∧
      (∀ c, s.ready q.val x.2.1 x.2.2.1 = .fails h c →
        ∃ t r, exec x.1 s = .next t ∧ (t.qs q.val).records = (s.qs q.val).records ++ [r] ∧ r.status = 0x05 ∧ r.detail = c ∧
          r.userTag = dUserTag h.desc ∧ t.core.col = s.core.col ∧ t.core.rq.reqs = s.core.rq.reqs ∧ t.core.mem = s.core.mem)

/-- R150, R165, R243, R382: ACTIVATE reads the group's 64-byte entry in F0's space, BUSY set; while BUSY a command only sets CMD_LOST; for an active
group it sets CAUSE 5. When the reads have ended a failed check leaves its CAUSE; a group that passes becomes active once policy
firmware, which must be up, takes its work item: the thresholds of R165 are captured then, with its Pintle slots if the pool has room. DEACTIVATE removes an active group that no
enabled queue names, and otherwise sets CAUSE 5. -/
def Obligations.GroupsBecomeActive : Prop :=
  ∀ s : State, s.off = false →
    (∀ k : GroupId, s.on R.KEYRING_STATUS_BUSY = true → ∀ c ∈ [Instr.keyringActivate k, .keyringDeactivate k],
      ∃ t, exec c s = .next t ∧ t.rd R.KEYRING_STATUS_CMD_LOST = 1 ∧ s.SameBut t [R.KEYRING_STATUS_CMD_LOST] ∧ s.SameAon t ∧ s.SameCore t) ∧
    (∀ (k : GroupId) (x : Group), s.on R.KEYRING_STATUS_BUSY = false → s.group? k.val = some x →
      ∃ t, exec (.keyringActivate k) s = .next t ∧ t.rd R.KEYRING_STATUS_CAUSE = 5 ∧ s.SameBut t [R.KEYRING_STATUS_CAUSE] ∧
        s.SameAon t ∧ s.SameCore t) ∧
    (∀ k : GroupId, s.on R.KEYRING_STATUS_BUSY = false → s.group? k.val = none →
      ∃ t j, exec (.keyringActivate k) s = .next t ∧ t.rd R.KEYRING_STATUS_BUSY = 1 ∧ t.core.col.act = some ⟨k.val, [], none⟩ ∧
        t.core.col.groups = s.core.col.groups ∧ SMap.get? t.core.jobs s.core.nextId = some j ∧ j.func = 0 ∧ j.acc = .read ∧ j.len = 64 ∧
        j.va = (s.rd R.KEYRING_BASE_LO_BASE * 4096 + s.rd R.KEYRING_BASE_HI_BASE * 2 ^ 32 + k.val * 64) % 2 ^ 64 ∧
        s.SameBut t [R.KEYRING_STATUS_BUSY] ∧ s.SameAon t ∧ t.core.rq = s.core.rq ∧ t.core.mem = s.core.mem) ∧
    (∀ (a : Activation) (c : Nat), s.core.col.act = some a → a.ended = some (c, none) → c < 8 →
      ∃ t, exec .keyringActivateDone s = .next t ∧ t.core.col.act = none ∧ t.core.col.groups = s.core.col.groups ∧
        t.rd R.KEYRING_STATUS_BUSY = 0 ∧ t.rd R.KEYRING_STATUS_CAUSE = c ∧
        s.SameBut t [R.KEYRING_STATUS_BUSY, R.KEYRING_STATUS_CAUSE] ∧ s.SameAon t) ∧
    (∀ (a : Activation) (x : Group), s.core.col.act = some a → a.ended = some (0, some x) → s.itemDue (.activation a.group) = true →
      ∃ t y, exec .keyringActivateDone s = .next t ∧ t.core.col.act = none ∧ t.group? a.group = some y ∧
        y = { x with slots := y.slots, localOk := y.localOk, cause := y.cause, treeMax := s.treeMax, ringMin := s.ringMin } ∧
        y.slots = (let need := (x.arcs.map slotsFor).getD 0; if s.slotsUsed + need ≤ s.build.pintleSlots then need else 0) ∧
        (∀ k, k ≠ a.group → t.group? k = s.group? k) ∧ t.rd R.KEYRING_STATUS_BUSY = 0 ∧ t.rd R.KEYRING_STATUS_CAUSE = 0 ∧
        t.core.rq = s.core.rq ∧ t.core.mem = s.core.mem ∧ s.SameAon t) ∧
    (∀ (a : Activation) (x : Group), s.core.col.act = some a → a.ended = some (0, some x) → s.itemDue (.activation a.group) = false →
      ∃ t, exec .keyringActivateDone s = .next t ∧ t.core = s.core ∧ t.aon = s.aon) ∧
    (∀ (k : GroupId) (x : Group), s.on R.KEYRING_STATUS_BUSY = false → s.group? k.val = some x → s.groupQueued k.val = false →
      ∃ t, exec (.keyringDeactivate k) s = .next t ∧ t.group? k.val = none ∧ (∀ j, j ≠ k.val → t.group? j = s.group? j) ∧
        t.rd R.KEYRING_STATUS_CAUSE = 0 ∧ t.rd R.KEYRING_STATUS_ACTIVE = t.core.col.groups.length % 2 ^ 13 ∧
        t.core = { s.core with regs := t.core.regs, col.groups := t.core.col.groups } ∧ s.SameAon t) ∧
    (∀ k : GroupId, s.on R.KEYRING_STATUS_BUSY = false → s.group? k.val = none ∨ s.groupQueued k.val = true →
      ∃ t, exec (.keyringDeactivate k) s = .next t ∧ t.rd R.KEYRING_STATUS_CAUSE = 5 ∧ s.SameBut t [R.KEYRING_STATUS_CAUSE] ∧
        s.SameAon t ∧ s.SameCore t)

/-- R153-R158, R168, R169, R172, R174, R237: a group's messages. A READY of the current epoch and run is counted; one whose signature
differs from the running collective's faults the epoch. An ABORT faults the current epoch with its reason: nothing is issued or running
then; the first one of another epoch is relayed, a further one not. A child's SWEEP_UP is kept; a confirmation's SWEEP_DOWN from the parent sets the Pintle state. A COUNT is written into RECV.
A PROBE is answered at its target; the answers that have come are ticked off, and their paths kept. A message that names no active group, or an older epoch,
has no effect. -/
def Obligations.GroupMessagesArrive : Prop :=
  ∀ (s : State) (i : InPkt) (rest : List InPkt), s.off = false →
    (∀ x ∈ [(Instr.readyArrival, 0), (.abortArrival, 1), (.countArrival, 4), (.probeAnswerArrival, 6)],
      takeFirst (fun i => i.pkt.cls == 0 && i.pkt.type == 3 && i.pkt.fld 0x1C 0 4 == x.2) s.core.resp.inbox = some (i, rest) →
      s.group? i.pkt.grp = none →
      ∃ t, exec x.1 s = .next t ∧ t.core = { s.core with resp.inbox := rest } ∧ t.aon = s.aon) ∧
    (takeFirst (fun i => i.pkt.cls == 0 && i.pkt.type == 3 && i.pkt.fld 0x1C 0 4 == 0) s.core.resp.inbox = some (i, rest) →
      ∀ x, s.group? i.pkt.grp = some x → x.fresh = false → x.state = 3 →
      (i.pkt.epoch = x.epoch → i.pkt.run = x.run → (∀ c, x.coll = some c → c.seq = i.pkt.seqNo → c.sig = i.pkt.sig) →
        ∃ t y r, exec .readyArrival s = .next t ∧ t.group? i.pkt.grp = some y ∧ y = { x with readies := y.readies } ∧ r ∈ y.readies ∧
          r.node = i.pkt.srcNode ∧ r.epoch = i.pkt.epoch ∧ r.run = i.pkt.run ∧ r.seq = i.pkt.seqNo ∧ 1 ≤ r.count ∧
          (∀ k, k ≠ i.pkt.grp → t.group? k = s.group? k) ∧ t.core.resp.inbox = rest ∧ t.core.rq = s.core.rq ∧ t.aon = s.aon) ∧
      (∀ c, x.coll = some c → c.seq = i.pkt.seqNo → c.sig ≠ i.pkt.sig → i.pkt.epoch = x.epoch → i.pkt.run = x.run →
        ∃ t y, exec .readyArrival s = .next t ∧ t.group? i.pkt.grp = some y ∧ y.state = 4 ∧ y.faultEpoch = x.epoch ∧
          y.faultReason = 0x064 ∧ y.coll = none ∧ y.issued = [])) ∧
    (takeFirst (fun i => i.pkt.cls == 0 && i.pkt.type == 3 && i.pkt.fld 0x1C 0 4 == 1) s.core.resp.inbox = some (i, rest) →
      ∀ x, s.group? i.pkt.grp = some x → x.fresh = false →
      (x.state = 3 → i.pkt.epoch = x.epoch → i.pkt.run = x.run →
        ∃ t y, exec .abortArrival s = .next t ∧ t.group? i.pkt.grp = some y ∧ y.state = 4 ∧ y.epoch = x.epoch ∧ y.faultEpoch = x.epoch ∧
          y.faultReason = i.pkt.fld 0x1E 0 12 ∧ y.faultNode = i.pkt.fld 0x24 0 20 ∧ y.coll = none ∧ y.issued = [] ∧
          y.faults = (x.faults + 1) % 2 ^ 32 ∧ (∀ k, k ≠ i.pkt.grp → t.group? k = s.group? k)) ∧
      (i.pkt.epoch ≠ x.epoch → x.state ≠ 2 → x.aborts.contains (i.pkt.epoch, i.pkt.run) = true →
        ∃ t, exec .abortArrival s = .next t ∧ t.core = { s.core with resp.inbox := rest }) ∧
      (i.pkt.epoch ≠ x.epoch → x.state ≠ 2 → x.aborts.contains (i.pkt.epoch, i.pkt.run) = false →
        ∃ t, exec .abortArrival s = .next t ∧ t.group? i.pkt.grp = some (x.noteAbort i.pkt.epoch i.pkt.run) ∧
          (∀ k, k ≠ i.pkt.grp → t.group? k = s.group? k) ∧ ∀ m p e, x.treeUp = some m → x.treeDown = [] → x.node m ≠ i.pkt.srcNode →
            s.routeOf 10 (x.node m) = .out p e → ∃ o, t.core.router.queued = s.core.router.queued ++ [o] ∧ o.port = p ∧
              o.pkt.fld 0x1C 0 4 = 1 ∧ o.pkt.epoch = i.pkt.epoch ∧ o.pkt.fld 0x1E 0 12 = i.pkt.fld 0x1E 0 12)) ∧
    (takeFirst (fun i => i.pkt.cls == 0 && i.pkt.type == 3 && (i.pkt.fld 0x1C 0 4 == 2 || i.pkt.fld 0x1C 0 4 == 3)) s.core.resp.inbox =
        some (i, rest) → ∀ x, s.group? i.pkt.grp = some x →
      (∀ m, i.pkt.fld 0x1C 0 4 = 2 → m ∈ x.treeDown → x.node m = i.pkt.srcNode → x.ups = [] → x.stale i.pkt = false →
        (x.state = 4 → i.pkt.epoch = x.epoch) →
        ∃ t, exec .sweepArrival s = .next t ∧ t.group? i.pkt.grp = some { x with
          ups := [⟨i.pkt.srcNode, i.pkt.epoch, i.pkt.run, i.pkt.seqNo, i.pkt.fld 0x1D 3 1 == 1, i.pkt.fld 0x1D 2 1 == 1⟩] } ∧ t.aon = s.aon) ∧
      (∀ m w, i.pkt.fld 0x1C 0 4 = 3 → x.treeUp = some m → x.node m = i.pkt.srcNode → x.sweep = some w → w.upSent = true →
        w.confirm = true → i.pkt.fld 0x1D 3 1 = 1 → w.epoch = i.pkt.epoch → w.run = i.pkt.run → w.seq = i.pkt.seqNo → x.state ≠ 2 →
        ∃ t y, exec .sweepArrival s = .next t ∧ t.group? i.pkt.grp = some y ∧ y.sweep = none ∧
          y.pstate = (if i.pkt.fld 0x1D 2 1 = 1 then 1 else 2) ∧ y.epoch = x.epoch ∧ y.coll = x.coll ∧ t.aon = s.aon)) ∧
    (∀ x c o, takeFirst (fun i => i.pkt.cls == 0 && i.pkt.type == 3 && i.pkt.fld 0x1C 0 4 == 4) s.core.resp.inbox = some (i, rest) →
      s.running? i.pkt.grp = some (x, c, o) → x.state = 3 → dOpcode o.desc = 0x12 → i.pkt.epoch = x.epoch → i.pkt.run = x.run →
      i.pkt.seqNo = c.seq → i.pkt.fld 0x30 0 21 < x.n → i.pkt.fld 0x30 0 21 ≠ x.self → c.got.contains (i.pkt.fld 0x30 0 21) = false →
      SMap.get? c.deliv (i.pkt.fld 0x30 0 21) = none →
      ∃ t j, exec .countArrival s = .next t ∧ SMap.get? t.core.jobs s.core.nextId = some j ∧ j.func = o.func ∧ j.acc = .write ∧
        j.va = (dColDst o.desc + 8 * i.pkt.fld 0x30 0 21) % 2 ^ 64 ∧ j.len = 8 ∧ j.data = toLE 8 (i.pkt.fld 0x28 0 64) ∧
        t.core.rq = s.core.rq ∧ t.aon = s.aon) ∧
    (∀ x m p e, takeFirst (fun i => i.pkt.cls == 0 && i.pkt.type == 3 && i.pkt.fld 0x1C 0 4 == 5) s.core.resp.inbox = some (i, rest) →
      i.pkt.dest = s.self → s.group? i.pkt.grp = some x → x.member i.pkt.srcNode = some m → x.node m = i.pkt.srcNode →
      s.routeOf 10 i.pkt.srcNode = .out p e →
      ∃ t o, exec .probeArrival s = .next t ∧ t.core.router.queued = s.core.router.queued ++ [o] ∧ o.port = p ∧ o.pkt.type = 3 ∧ o.pkt.fld 0x1C 0 4 = 6 ∧
        o.pkt.grp = x.gid m % 2 ^ 12 ∧ o.pkt.fld 0x1D 0 2 = i.pkt.fld 0x1D 0 2 ∧ t.core.col = s.core.col) ∧
    (∀ x c m, takeFirst (fun i => i.pkt.cls == 0 && i.pkt.type == 3 && i.pkt.fld 0x1C 0 4 == 6) s.core.resp.inbox = some (i, rest) →
      s.group? i.pkt.grp = some x → x.coll = some c → x.member i.pkt.srcNode = some m → c.phase = .probe → c.probes.contains m = true →
      i.pkt.epoch = x.epoch → i.pkt.run = x.run → i.pkt.seqNo = c.seq → c.probes.filter (· != m) ≠ [] →
      ∃ t, exec .probeAnswerArrival s = .next t ∧ t.group? i.pkt.grp = some
        { x with coll := some { c with probes := c.probes.filter (· != m) }, paths := SMap.put x.paths m (i.pkt.fld 0x1D 1 1 == 0) } ∧ t.aon = s.aon)

/-- R24, R156, R171, R180, R313, R314: an operand packet that an action of the running collective expects, under a grant, lands; any other is
counted and dropped. A Knuckle unit takes the next group, in round robin, whose next action is a pass of that unit with its operands all
there: it performs the pass, and the collective goes on; otherwise the command changes nothing. A member that waits for a peer faults the
epoch when the progress time is over, naming the peer.
The order of the actions and the grants are the model's choices (log entries 27 and 28). -/
def Obligations.CollectiveData : Prop :=
  ∀ s : State, s.off = false →
    (∀ (i : InPkt) (rest : List InPkt), takeFirst (fun i => i.pkt.cls == 4 && i.pkt.type == 0 && true) s.core.resp.inbox = some (i, rest) →
      (s.group? i.pkt.grp = none → ∃ t, exec .colArrival s = .next t ∧ t.core.col = s.core.col ∧
        t.counter 82 11 = (s.counter 82 11 + 1) % 2 ^ 64 ∧ t.core.resp.inbox = rest ∧ t.aon = s.aon) ∧
      (∀ x c o m, s.running? i.pkt.grp = some (x, c, o) → x.state = 3 → x.fresh = false → x.member i.pkt.srcNode = some m →
        i.pkt.epoch = x.epoch → i.pkt.run = x.run →
        (colAccepts x c o i.pkt m = true → i.pkt.sig = c.sig →
          (c.landed.filter (fun l => l.src == m)).length + (c.deliv.filter (fun e => e.2.src == some m)).length <
            SMap.getD c.grants m 0 →
          ∃ t y d, exec .colArrival s = .next t ∧ t.group? i.pkt.grp = some y ∧ y.coll = some d ∧
            d.landed = c.landed ++ [⟨m, i.port, i.pkt⟩] ∧ d.grants = c.grants ∧ d.step = c.step ∧ .coll i.pkt.grp ∈ t.core.work ∧
            (∀ k, k ≠ i.pkt.grp → t.group? k = s.group? k) ∧ t.core.resp.inbox = rest ∧ t.aon = s.aon) ∧
        (colAccepts x c o i.pkt m = true → i.pkt.sig ≠ c.sig →
          ∃ t y, exec .colArrival s = .next t ∧ t.group? i.pkt.grp = some y ∧ y.state = 4 ∧ y.faultReason = 0x064 ∧ y.coll = none) ∧
        (colAccepts x c o i.pkt m = false →
          ∃ t, exec .colArrival s = .next t ∧ t.core.col = s.core.col ∧ t.counter 82 11 = (s.counter 82 11 + 1) % 2 ^ 64))) ∧
    (∀ (u : Gate) (g : Nat) (x : Group) (c : Coll) (o : Op) (act : Act) (a n : Nat), s.fatal = false →
      nextAfter (SMap.getD s.core.col.served u.val 4096) (s.unitPasses u.val) = some g → s.running? g = some (x, c, o) →
      s.colNext x c o.desc = .go act a n →
      ∃ t y d, exec (.knucklePass u) s = .next t ∧ t.group? g = some y ∧ y.coll = some d ∧ d.step = c.step + 1 ∧ d.unit = c.unit ∧
        d.opnds = [] ∧ y.epoch = x.epoch ∧ .coll g ∈ t.core.work ∧ SMap.get? t.core.col.served u.val = some g ∧
        (∀ k, k ≠ g → t.group? k = s.group? k) ∧ t.aon = s.aon ∧ t.core.win = s.core.win) ∧
    (∀ u : Gate, s.fatal = true ∨ s.unitPasses u.val = [] → ∃ t, exec (.knucklePass u) s = .next t ∧ t.core = s.core ∧ t.aon = s.aon) ∧
    (∀ (k : GroupId) (x : Group) (c : Coll) (o : Op), s.running? k.val = some (x, c, o) → s.fatal = false → c.phase = .data →
      (∀ m, dOpcode o.desc = 0x10 ∨ dOpcode o.desc = 0x11 → x.missing c o.desc = some m →
        ∃ t y, exec (.progressTimeout k) s = .next t ∧ t.group? k.val = some y ∧ y.state = 4 ∧ y.faultReason = 0x062 ∧
          y.faultNode = x.node m ∧ y.faultEpoch = x.epoch ∧ y.coll = none ∧ y.issued = []) ∧
      (∀ j, dOpcode o.desc = 0x12 → x.n ≤ c.sent →
        (List.range x.n).find? (fun j => !c.got.contains j && (SMap.get? c.deliv j).isNone) = some j →
        ∃ t y, exec (.progressTimeout k) s = .next t ∧ t.group? k.val = some y ∧ y.state = 4 ∧ y.faultReason = 0x062 ∧
          y.faultNode = (SMap.getD c.peers j (0, 0)).1 ∧ y.coll = none)) ∧
    (∀ k : GroupId, s.running? k.val = none → ∃ t, exec (.progressTimeout k) s = .next t ∧ t.core = s.core ∧ t.aon = s.aon)

/-- R156, R234, R240, R243-R246: a Pintle flit goes on while hops remain, one fewer, and a copy of one from its place on the arc, of work
that is due, is kept; one that names no active group is counted and dropped. A stage that waits past WAIT_US faults the epoch, naming
the first position whose flit is missing; a handover's flits are sent again.
Flits of the epoch being handed over are kept, the model's choice (log entry 35). -/
def Obligations.PintleFlits : Prop :=
  ∀ s : State, s.off = false →
    (∀ (i : InPkt) (rest : List InPkt), takeFirst (fun i => i.pkt.cls == 0 && i.pkt.type == 2 && true) s.core.resp.inbox = some (i, rest) →
      (s.group? i.pkt.grp = none → ∃ t, exec .pintleFlitArrival s = .next t ∧ t.core.col = s.core.col ∧
        t.counter 82 10 = (s.counter 82 10 + 1) % 2 ^ 64 ∧ t.core.router = s.core.router ∧ t.core.resp.inbox = rest ∧ t.aon = s.aon) ∧
      (∀ x, s.group? i.pkt.grp = some x → s.flitPlaced x i = true → x.flitDue i.pkt = true → x.pflits = [] →
        ∃ t f, exec .pintleFlitArrival s = .next t ∧ t.group? i.pkt.grp = some { x with pflits := [f] } ∧ f.seq = i.pkt.seqNo ∧
          f.epoch = i.pkt.epoch ∧ f.sig = i.pkt.sig ∧ f.stage = i.pkt.fld 0x1C 0 2 ∧ f.org = i.pkt.fld 0x1D 0 6 ∧ f.data = i.pkt.payload ∧
          .coll i.pkt.grp ∈ t.core.work ∧ (i.pkt.fld 0x20 0 6 ≤ 1 → t.core.router = s.core.router) ∧
          (1 < i.pkt.fld 0x20 0 6 → s.portReady (onward i.port) = true → ∃ o, t.core.router.queued = s.core.router.queued ++ [o] ∧
            o.port = onward i.port ∧ o.inPort = i.port ∧ o.pkt.fld 0x20 0 6 = i.pkt.fld 0x20 0 6 - 1 ∧ o.pkt.fld 0x1D 0 6 = i.pkt.fld 0x1D 0 6))) ∧
    (∀ (k : GroupId) (x : Group) (c : Coll) (o : Op) (r : PRun), s.running? k.val = some (x, c, o) → x.prun = some r → r.hand = false →
      r.sent = true → r.stage < 4 → s.fatal = false →
      (∀ n, s.pintleMissing x r = some n →
        ∃ t y, exec (.pintleStageTimeout k) s = .next t ∧ t.group? k.val = some y ∧ y.state = 4 ∧ y.faultReason = 0x062 ∧ y.faultNode = n ∧
          y.coll = none ∧ y.prun = none) ∧
      (s.pintleMissing x r = none → ∃ t, exec (.pintleStageTimeout k) s = .next t ∧ t.core = s.core)) ∧
    (∀ (k : GroupId) (x : Group) (r : PRun), s.group? k.val = some x → x.prun = some r → r.hand = true → r.sent = true → r.stage < 4 →
      s.fatal = false → s.portReady (regularPort r.stage false) = true → s.portReady (regularPort r.stage true) = true →
      0 < s.arcHops (x.arc r.stage) r.stage false → 0 < s.arcHops (x.arc r.stage) r.stage true →
      ∃ t a b, exec (.pintleHandoverResend k) s = .next t ∧ t.core.router.queued = s.core.router.queued ++ [a, b] ∧
        a.port = regularPort r.stage false ∧ b.port = regularPort r.stage true ∧ (∀ o ∈ [a, b], o.pkt.type = 2 ∧ o.pkt.epoch = r.epoch % 2 ^ 32 ∧
          o.pkt.fld 0x1C 0 2 = r.stage ∧ o.pkt.fld 0x1C 3 1 = 1) ∧ t.core.col = s.core.col ∧ t.aon = s.aon)

/-! ## Functions (chapter 14) and the Ward core (chapter 15) -/

/-- R346-R350, R369, R408, R453: ENABLE of a DISABLED function in RUN that meets R347 makes it ENABLED: its signal counters and event
counters are zero, its cached walks gone, and the clear beat of a range that is not empty leaves. A condition of R347 that fails leaves its CAUSE; in another state,
or outside RUN, CMD_ERR is set. DISABLE of an ENABLED function makes it DRAINING, with its view off and its queues draining. At the drain
deadline an operation still in progress ends with ABORTED, REASON 0x0E1, and DEADLINE_HIT is set.
The order of the deadline's effects is the model's choice (log entry 15). -/
def Obligations.FunctionsEnableAndDrain : Prop :=
  ∀ (s : State) (f : FuncId), s.off = false →
    (s.running = true → s.funcState f.val = 0 → s.stHoldsFunc f.val = false → s.enableCause f.val = none →
      ∃ t, exec (.funcEnable f) s = .next t ∧ t.funcState f.val = 1 ∧ t.rd (R.FUNC_STATUS_CAUSE f.val) = 0 ∧
        (∀ n, t.sig n = if (s.sigRange f.val).1 ≤ n ∧ n < (s.sigRange f.val).1 + (s.sigRange f.val).2 then 0 else s.sig n) ∧
        (∀ e < 32, t.counter (funcSlot f.val) e = 0) ∧ (∀ k e, k ≠ funcSlot f.val → e < 32 → t.counter k e = s.counter k e) ∧
        (∀ p ∈ t.core.xl.ptrs, p.func ≠ f.val) ∧
        (s.pins.iso = false → t.out = if (s.sigRange f.val).2 = 0 then [] else [.esClr (s.sigRange f.val).1 (s.sigRange f.val).2]) ∧
        s.SameBut t [R.FUNC_STATUS_STATE f.val, R.FUNC_STATUS_CAUSE f.val] ∧ s.SameAon t ∧ t.core.rq.ops = s.core.rq.ops ∧
        t.core.mem = s.core.mem ∧ t.core.win = s.core.win) ∧
    (∀ c, s.running = true → s.funcState f.val = 0 → s.stHoldsFunc f.val = false → s.enableCause f.val = some c →
      ∃ t, exec (.funcEnable f) s = .next t ∧ t.funcState f.val = 0 ∧ t.rd (R.FUNC_STATUS_CAUSE f.val) = c ∧
        s.SameBut t [R.FUNC_STATUS_CAUSE f.val] ∧ s.SameAon t ∧ s.SameCore t) ∧
    (s.running = false ∨ s.funcState f.val ≠ 0 →
      ∃ t, exec (.funcEnable f) s = .next t ∧ t.rd (R.FUNC_STATUS_CMD_ERR f.val) = 1 ∧
        s.SameBut t [R.FUNC_STATUS_CMD_ERR f.val] ∧ s.SameAon t ∧ s.SameCore t) ∧
    (s.funcState f.val = 1 →
      ∃ t, exec (.funcDisable f) s = .next t ∧ t.funcState f.val = 2 ∧ t.rd (R.CNT_VIEW_CTL_VIEW_EN f.val) = 0 ∧
        (∀ q : QueueId, s.qFunc q.val = f.val → s.qState q.val = 1 ∨ s.qState q.val = 2 → t.qState q.val = 3 ∨ t.qState q.val = 0) ∧
        .func f.val ∈ t.core.work ∧ t.core.win = s.core.win ∧ t.aon = s.aon) ∧
    (s.funcState f.val ≠ 1 →
      ∃ t, exec (.funcDisable f) s = .next t ∧ t.rd (R.FUNC_STATUS_CMD_ERR f.val) = 1 ∧
        s.SameBut t [R.FUNC_STATUS_CMD_ERR f.val] ∧ s.SameAon t ∧ s.SameCore t) ∧
    (∀ id o, s.funcState f.val = 2 → s.core.rq.ops = [(id, o)] → o.func = f.val → o.done = none → dOpcode o.desc ≠ 0x04 →
      dOpcode o.desc < 0x10 ∨ 0x13 < dOpcode o.desc →
      ∃ t o', exec (.funcDrainDeadline f) s = .next t ∧ t.rd (R.FUNC_STATUS_DEADLINE_HIT f.val) = 1 ∧ t.op? id = some o' ∧
        o'.done = some (0x12, 0x0E1) ∧ t.funcState f.val = 2 ∧ .func f.val ∈ t.core.work ∧ t.core.win = s.core.win ∧ t.aon = s.aon) ∧
    (s.funcState f.val ≠ 2 → ∃ t, exec (.funcDrainDeadline f) s = .next t ∧ t.core = s.core ∧ t.aon = s.aon)

/-- R379, R381, R384: STAGE erases the inactive slot and reads the image; an image that fails a check leaves its CAUSE and an empty slot, one
that passes is STAGED. A STAGE or SWITCH while staging, STARTING or at a CHECKPOINT sets CAUSE 7. An image that comes up makes the core
UP, which GLOBAL_READY shows. JQUERY captures its request for the policy firmware; while BUSY it is ignored.
That AES-GCM, SHA-384 and ECDSA are those published is presumed (log entry 42). -/
def Obligations.WardImages : Prop :=
  ∀ s : State, s.off = false →
    (s.wardBusy = true → ∀ c ∈ [Instr.wardStage, .wardSwitch],
      ∃ t, exec c s = .next t ∧ t.rd R.WARD_STATUS_CAUSE = 7 ∧ s.SameBut t [R.WARD_STATUS_CAUSE] ∧ s.SameAon t ∧ s.SameCore t) ∧
    (s.wardBusy = false → s.rd R.WARD_IMG_LEN_BYTES ≠ 0 →
      ∃ t j, exec .wardStage s = .next t ∧ t.rd R.WARD_STATUS_STAGED = 0 ∧ t.rd R.WARD_STATUS_STAGE_BUSY = 1 ∧
        t.image? s.inactiveSlot = none ∧ t.image? s.activeSlot = s.image? s.activeSlot ∧
        SMap.get? t.core.jobs s.core.nextId = some j ∧ j.acc = .read ∧ j.len = s.rd R.WARD_IMG_LEN_BYTES ∧
        j.va = s.rd R.WARD_IMG_LO_BASE * 4096 + s.rd R.WARD_IMG_HI_BASE * 2 ^ 32 ∧ j.space = .phys (s.rd R.WARD_IMG_HI_KEY_SEL) ∧
        s.SameBut t [R.WARD_STATUS_STAGED, R.WARD_STATUS_STAGE_BUSY] ∧ s.SameAon t ∧ t.core.rq = s.core.rq) ∧
    (∀ ok b, s.core.ward.read = some (ok, b) → s.on R.WARD_STATUS_STAGE_BUSY = true →
      imageCause ok (s.rd R.WARD_MIN_SVN_SVN) b ≠ 0 →
      ∃ t, exec .wardStageDone s = .next t ∧ t.rd R.WARD_STATUS_STAGE_BUSY = 0 ∧
        t.rd R.WARD_STATUS_CAUSE = imageCause ok (s.rd R.WARD_MIN_SVN_SVN) b ∧ t.core.ward = { s.core.ward with read := none } ∧
        s.SameBut t [R.WARD_STATUS_STAGE_BUSY, R.WARD_STATUS_CAUSE] ∧ s.SameAon t) ∧
    (∀ ok b, s.core.ward.read = some (ok, b) → s.on R.WARD_STATUS_STAGE_BUSY = true → s.pins.tst = false →
      imageCause ok (s.rd R.WARD_MIN_SVN_SVN) b = 0 →
      ∃ t i, exec .wardStageDone s = .next t ∧ t.rd R.WARD_STATUS_STAGE_BUSY = 0 ∧ t.rd R.WARD_STATUS_STAGED = 1 ∧
        t.image? s.inactiveSlot = some i ∧ i.svn = leAt b 8 4 ∧ t.image? s.activeSlot = s.image? s.activeSlot ∧
        s.SameBut t [R.WARD_STATUS_STAGE_BUSY, R.WARD_STATUS_STAGED] ∧ s.SameAon t) ∧
    (s.core.ward.read = none → ∃ t, exec .wardStageDone s = .next t ∧ t.core = s.core ∧ t.aon = s.aon) ∧
    (s.wardState = 1 → ∃ t, exec .wardImageUp s = .next t ∧ t.wardState = 2 ∧ t.rd R.GLOBAL_READY_WARD = 1 ∧
      s.SameBut t [R.WARD_STATUS_STATE, R.GLOBAL_READY_WARD, R.GLOBAL_READY_CHG_CHG] ∧ s.SameAon t ∧ s.SameCore t) ∧
    (s.wardState ≠ 1 → ∀ c ∈ [Instr.wardImageUp, .wardStartTimeout], ∃ t, exec c s = .next t ∧ t.core = s.core ∧ t.aon = s.aon) ∧
    (s.on R.WARD_SVC_STATUS_BUSY = true → ∃ t, exec .jquery s = .next t ∧ t.core = s.core ∧ t.aon = s.aon) ∧
    (s.on R.WARD_SVC_STATUS_BUSY = false → s.core.ward.items.length < 4096 →
      ∃ t, exec .jquery s = .next t ∧ t.rd R.WARD_SVC_STATUS_BUSY = 1 ∧
        t.core.ward.svc = (s.rd R.WARD_SVC_JID_LO_JID + s.rd R.WARD_SVC_JID_HI_JID * 2 ^ 32, s.rd R.WARD_SVC_NODE_NODE) ∧
        t.core.ward.items = s.core.ward.items ++ [.service] ∧ t.rd R.WARD_STATUS_ITEMS = s.core.ward.items.length + 1 ∧
        s.SameBut t [R.WARD_SVC_STATUS_BUSY, R.WARD_STATUS_ITEMS] ∧ s.SameAon t ∧ t.core.rq = s.core.rq)

/-- R380: the Ward core's switches. SWITCH starts a staged image from EMPTY or HALTED, and goes to CHECKPOINT from UP, where the yield
swaps the slots; HALT stops the image at its yield. A start that takes too long goes back to the image that ran before, once, or halts with
CAUSE 9; a yield that does not come cancels the switch with CAUSE 8; a heartbeat that does not come halts with CAUSE 10. -/
def Obligations.WardSwitches : Prop :=
  ∀ s : State, s.off = false →
    (s.wardBusy = false → s.wardState = 0 ∨ s.wardState = 4 → s.on R.WARD_STATUS_STAGED = true →
      ∃ t, exec .wardSwitch s = .next t ∧ t.wardState = 1 ∧ t.activeSlot = s.inactiveSlot ∧ t.rd R.WARD_STATUS_STAGED = 0 ∧
        t.rd R.WARD_ACTIVE_SVN_SVN = ((s.image? s.inactiveSlot).map (·.svn)).getD 0 % 2 ^ 32 ∧ t.core.ward.slots = s.core.ward.slots ∧
        t.core.ward.prev = (s.image? s.activeSlot).isSome) ∧
    (s.wardBusy = false → s.wardState = 2 → s.on R.WARD_STATUS_STAGED = true →
      ∃ t, exec .wardSwitch s = .next t ∧ t.wardState = 3 ∧ t.activeSlot = s.activeSlot ∧ s.SameCore t) ∧
    (s.wardBusy = false → s.wardState = 2 → s.on R.WARD_STATUS_STAGED = false →
      ∃ t, exec .wardSwitch s = .next t ∧ t.rd R.WARD_STATUS_CAUSE = 7 ∧ s.SameBut t [R.WARD_STATUS_CAUSE] ∧ s.SameAon t ∧ s.SameCore t) ∧
    (s.wardState = 2 ∨ s.wardState = 3 → ∃ t, exec .wardHalt s = .next t ∧ t.core = { s.core with ward.halting := true } ∧ t.aon = s.aon) ∧
    (s.wardState = 0 ∨ s.wardState = 1 ∨ s.wardState = 4 → ∃ t, exec .wardHalt s = .next t ∧ t.core = s.core ∧ t.aon = s.aon) ∧
    (s.wardState = 1 → s.core.ward.prev = true →
      ∃ t, exec .wardStartTimeout s = .next t ∧ t.wardState = 1 ∧ t.activeSlot = s.inactiveSlot ∧ t.rd R.WARD_STATUS_REVERTED = 1 ∧
        t.core.ward.prev = false) ∧
    (s.wardState = 1 → s.core.ward.prev = false →
      ∃ t, exec .wardStartTimeout s = .next t ∧ t.wardState = 4 ∧ t.rd R.WARD_STATUS_CAUSE = 9 ∧ t.activeSlot = s.activeSlot ∧
        ∃ r, t.core.events = s.core.events ++ [r]) ∧
    (s.core.ward.halting = true → s.wardState = 2 ∨ s.wardState = 3 → ∀ c ∈ [Instr.wardCheckpointYield, .wardCkptTimeout],
      ∃ t, exec c s = .next t ∧ t.wardState = 4 ∧ t.core.ward.halting = false ∧ t.rd R.GLOBAL_READY_WARD = 0 ∧
        t.rd R.WARD_STATUS_CAUSE = s.rd R.WARD_STATUS_CAUSE ∧ t.activeSlot = s.activeSlot) ∧
    (s.core.ward.halting = false → s.wardState = 3 →
      (∃ t, exec .wardCheckpointYield s = .next t ∧ t.wardState = 1 ∧ t.activeSlot = s.inactiveSlot ∧ t.core.ward.prev = true) ∧
      (∃ t, exec .wardCkptTimeout s = .next t ∧ t.wardState = 2 ∧ t.rd R.WARD_STATUS_CAUSE = 8 ∧ t.activeSlot = s.activeSlot ∧
        t.rd R.WARD_STATUS_STAGED = s.rd R.WARD_STATUS_STAGED)) ∧
    (s.core.ward.halting = false → s.wardState ≠ 3 → ∀ c ∈ [Instr.wardCheckpointYield, .wardCkptTimeout],
      ∃ t, exec c s = .next t ∧ t.core = s.core ∧ t.aon = s.aon) ∧
    (s.wardState = 2 → ∃ t, exec .wardHeartbeatMiss s = .next t ∧ t.wardState = 4 ∧ t.rd R.WARD_STATUS_WDOG = 1 ∧
      t.rd R.WARD_STATUS_CAUSE = 10) ∧
    (s.wardState ≠ 2 → ∃ t, exec .wardHeartbeatMiss s = .next t ∧ t.core = s.core ∧ t.aon = s.aon)

/-- R29, R383, R386: a policy write while an image runs changes the policy fields of its word and nothing else; a TOUT_US below the minimum
is raised to it; a word that would change another field, or that holds no policy field, sets DENIED, and the CLAMP bit that R386 gives
its register. With no image running it changes nothing. -/
def Obligations.PolicyWrites : Prop :=
  ∀ (s : State) (a : BitVec 21) (d : Word), s.off = false →
    (s.wardState = 0 ∨ s.wardState = 4 → ∃ t, exec (.wardPolicyWrite a d) s = .next t ∧ t.core = s.core ∧ t.aon = s.aon) ∧
    (s.wardState = 2 → s.policyDenied (4 * a.toNat) d = false → a.toNat < 0x80000 →
      ∃ t, exec (.wardPolicyWrite a d) s = .next t ∧ (∀ f ∈ policyFields s.build (4 * a.toNat), t.rd f = getField d f.lo f.width) ∧
        s.SameBut t (policyFields s.build (4 * a.toNat)) ∧ s.SameAon t ∧ s.SameCore t) ∧
    (∀ f : FuncId, s.wardState = 2 → 4 * a.toNat = (R.FUNC_TIMEOUT_TOUT_US f.val).addr → s.policyDenied (4 * a.toNat) d = false →
      ∃ t, exec (.wardPolicyWrite a d) s = .next t ∧
        t.rd (R.FUNC_TIMEOUT_TOUT_US f.val) = max (getField d 0 20) (max 1 (s.rd (R.FUNC_TIMEOUT_MIN_MIN_US f.val))) ∧
        (getField d 0 20 < max 1 (s.rd (R.FUNC_TIMEOUT_MIN_MIN_US f.val)) → t.rd R.WARD_CLAMP_TIMEOUT = 1) ∧
        s.SameBut t [R.FUNC_TIMEOUT_TOUT_US f.val, R.WARD_CLAMP_TIMEOUT] ∧ s.SameAon t ∧ s.SameCore t) ∧
    (s.wardState = 2 → policyFields s.build (4 * a.toNat) = [] →
      ∃ t, exec (.wardPolicyWrite a d) s = .next t ∧ t.rd R.WARD_STATUS_DENIED = 1 ∧
        (∀ f, clampBit (4 * a.toNat) = some f → t.rd f = 1) ∧
        s.SameBut t [R.WARD_STATUS_DENIED, R.WARD_CLAMP_INJ, R.WARD_CLAMP_TAGS, R.WARD_CLAMP_TIMEOUT, R.WARD_CLAMP_BOLT, R.WARD_CLAMP_CREDIT] ∧
        s.SameAon t ∧ s.SameCore t)

/-! ## Errors, self-tests, counters, trace and snapshots (chapters 16 and 17) -/

/-- R397, R398, R400, R401: a record that has merged for COALESCE_US is due. A corrected SRAM error is counted. An uncorrectable one in
a store whose state cannot be rebuilt is FATAL with its unit; in another it costs the entry that holds the word, a held latch, a cached
translation, walk or rate, or halts the Ward core with CAUSE 11.
The operands that name a store and an entry are the model's (log entry 7). -/
def Obligations.SramErrors : Prop :=
  ∀ s : State, s.off = false →
    (∀ r l, s.core.err.merging = r :: l →
      ∃ t, exec .errlogCoalesceExpire s = .next t ∧ t.aon = s.aon ∧ t.core = { s.core with
        err.merging := l, err.due := s.core.err.due ++ [r], work := s.core.work ++ [.errlog] }) ∧
    (s.core.err.merging = [] → ∃ t, exec .errlogCoalesceExpire s = .next t ∧ t.core = s.core ∧ t.aon = s.aon) ∧
    (∃ t, exec .correctedSramError s = .next t ∧ t.counter 82 0 = (s.counter 82 0 + 1) % 2 ^ 64 ∧
      t.core = { s.core with cnt := t.core.cnt } ∧ t.aon = s.aon) ∧
    (∀ st idx u, fatalUnit st = some u →
      ∃ t r, exec (.sramUncorrectable st idx) s = .next t ∧ t.rd R.ERRLOG_STATUS_FATAL = 1 ∧ t.rd R.ERRLOG_STATUS_FATAL_UNIT = u ∧
        t.core.err.due = s.core.err.due ++ [r] ∧ r.cls = 7 ∧ t.counter 82 1 = (s.counter 82 1 + 1) % 2 ^ 64 ∧
        s.SameBut t [R.ERRLOG_STATUS_FATAL, R.ERRLOG_STATUS_FATAL_UNIT] ∧ s.SameAon t ∧ t.core.win = s.core.win ∧ t.core.rq = s.core.rq) ∧
    (∀ st idx, fatalUnit st = none →
      ∃ t r, exec (.sramUncorrectable st idx) s = .next t ∧ t.rd R.ERRLOG_STATUS_FATAL = s.rd R.ERRLOG_STATUS_FATAL ∧
        t.core.err.due = s.core.err.due ++ [r] ∧ r.cls = 6 ∧ t.counter 82 1 = (s.counter 82 1 + 1) % 2 ^ 64 ∧
        (st = .holdSlot → SMap.get? t.core.resp.holds idx.toNat = none ∧
          ∀ k, k ≠ idx.toNat → SMap.get? t.core.resp.holds k = SMap.get? s.core.resp.holds k) ∧
        (st = .xlateCache → t.core.xl.leaves = dropAt s.core.xl.leaves idx.toNat ∧ t.core.xl.ptrs = s.core.xl.ptrs) ∧
        (st = .walkCache → t.core.xl.ptrs = dropAt s.core.xl.ptrs idx.toNat ∧ t.core.xl.leaves = s.core.xl.leaves) ∧
        (st = .rateCache → t.core.rq.rates = dropAt s.core.rq.rates idx.toNat) ∧
        (st = .wardMem → t.wardState = 4 ∧ t.rd R.WARD_STATUS_CAUSE = 11) ∧ (st ≠ .tumbler → t.core.win = s.core.win))

/-- R403-R405: REQUEST captures the test; while one waits or runs it sets CMD_ERR; a port, lane or test the block does not have ends it with
FEATURE; one whose condition does not hold waits, with CODE 0x15, until it does. CANCEL ends it with ABORTED. A port's BIST ends with its
result, recorded in GLOBAL_BIST; FUNC_PATH ends with what the block has seen, LANE_RECAL with the lane's state once the lane has been the
spare, or at once when the lane has failed.
That BIST's result is an operand is the model's choice (log entry 7). -/
def Obligations.SelfTests : Prop :=
  ∀ (s : State) (c : SelfTest), s.aonUp = true →
    c = ⟨s.rd R.GLOBAL_ST_ARG_KIND, s.rd R.GLOBAL_ST_ARG_TARGET, s.rd R.GLOBAL_ST_ARG_LANE,
      s.rd R.GLOBAL_ST_BUF_LO_BASE * 4096 + s.rd R.GLOBAL_ST_BUF_HI_BASE * 2 ^ 32, roundUp (s.rd R.GLOBAL_ST_LEN_KIB) 4 * 1024, 0, false, none⟩ →
    (s.stState = 1 ∨ s.stState = 2 →
      ∃ t, exec .stRequest s = .next t ∧ t.rd R.GLOBAL_ST_STATUS_CMD_ERR = 1 ∧ t.stState = s.stState ∧ t.aon.selfTest = s.aon.selfTest) ∧
    (s.stState = 0 ∨ s.stState = 3 →
      (s.stAbsent c = true → ∃ t, exec .stRequest s = .next t ∧ t.stState = 3 ∧ t.rd R.GLOBAL_ST_STATUS_CODE = 0x13 ∧
        t.rd R.GLOBAL_ST_INFO_DATA = 0) ∧
      (s.stAbsent c = false → s.stReady c = false → ∃ t, exec .stRequest s = .next t ∧ t.stState = 1 ∧
        t.rd R.GLOBAL_ST_STATUS_CODE = 0x15 ∧ t.aon.selfTest = c ∧ t.core.jobs = (if s.off then [] else s.core.jobs)) ∧
      (s.stAbsent c = false → s.stReady c = true → c.kind = 0 → ∃ t, exec .stRequest s = .next t ∧ t.stState = 2 ∧
        t.aon.selfTest = c ∧ t.core = s.core) ∧
      (s.stAbsent c = false → s.stReady c = true → c.kind = 2 → ∃ t, exec .stRequest s = .next t ∧ t.stState = 2 ∧
        t.aon.selfTest = { c with reading := decide (c.lane = s.rd (R.GATE_LANES_RX_SPARE c.target)) } ∧ t.core = s.core) ∧
      (s.stAbsent c = false → s.stReady c = true → c.kind = 1 → 0 < c.len → ∃ t j, exec .stRequest s = .next t ∧ t.stState = 2 ∧
        t.aon.selfTest = c ∧ SMap.get? t.core.jobs s.core.nextId = some j ∧ j.acc = .write ∧ j.func = c.target ∧ j.va = c.buf % 2 ^ 64 ∧
        j.len = 128)) ∧
    (s.stState = 1 ∨ s.stState = 2 → ∃ t, exec .stCancel s = .next t ∧ t.stState = 3 ∧ t.rd R.GLOBAL_ST_STATUS_CODE = 0x12 ∧
      t.rd R.GLOBAL_ST_INFO_DATA = 0) ∧
    (s.off = false → s.stState = 0 ∨ s.stState = 3 → ∃ t, exec .stCancel s = .next t ∧ t.core = s.core ∧ t.aon = s.aon) ∧
    (s.off = false → s.stState = 1 → s.stReady s.aon.selfTest = true → ∃ t, exec .stDeferredStart s = .next t ∧ t.stState = 2) ∧
    (s.off = false → s.stState ≠ 1 ∨ s.stReady s.aon.selfTest = false →
      ∃ t, exec .stDeferredStart s = .next t ∧ t.core = s.core ∧ t.aon = s.aon) ∧
    (∀ fail idx, s.off = false → s.stState = 2 → s.aon.selfTest.kind = 0 → s.aon.selfTest.target < 10 →
      ∃ t, exec (.stDone fail idx) s = .next t ∧ t.stState = 3 ∧ t.rd R.GLOBAL_ST_STATUS_CODE = (if fail then 0x08 else 0) ∧
        t.rd R.GLOBAL_ST_INFO_DATA = (if fail then idx.toNat else 0) ∧
        t.rd ⟨R.GLOBAL_BIST_GATE_FAIL.addr, s.aon.selfTest.target, 1, true⟩ = b2n fail) ∧
    (∀ fail idx r, s.off = false → s.stState = 2 → s.aon.selfTest.kind = 1 → s.aon.selfTest.result = some r →
      ∃ t, exec (.stDone fail idx) s = .next t ∧ t.stState = 3 ∧ t.rd R.GLOBAL_ST_STATUS_CODE = r.1 % 2 ^ 8 ∧
        t.rd R.GLOBAL_ST_INFO_DATA = r.2 % 2 ^ 32 ∧ t.core = s.core) ∧
    (∀ fail idx, s.off = false → s.stState = 2 → s.aon.selfTest.kind = 1 → s.aon.selfTest.result = none →
      ∃ t, exec (.stDone fail idx) s = .next t ∧ t.core = s.core ∧ t.aon = s.aon) ∧
    (∀ fail idx, s.off = false → s.stState = 2 → s.aon.selfTest.kind = 2 →
      (s.on (R.GATE_LANE_RX_OK s.aon.selfTest.target s.aon.selfTest.lane) = false ∨ s.aon.selfTest.reading = true →
        ∃ t, exec (.stDone fail idx) s = .next t ∧ t.stState = 3 ∧ t.core = s.core ∧ t.rd R.GLOBAL_ST_STATUS_CODE =
          (if s.on (R.GATE_LANE_RX_OK s.aon.selfTest.target s.aon.selfTest.lane) then 0 else 0x08) ∧
          t.rd R.GLOBAL_ST_INFO_DATA = s.rd (R.GATE_LANE_RX_SER_EXP s.aon.selfTest.target s.aon.selfTest.lane)) ∧
      (s.on (R.GATE_LANE_RX_OK s.aon.selfTest.target s.aon.selfTest.lane) = true → s.aon.selfTest.reading = false →
        ∃ t, exec (.stDone fail idx) s = .next t ∧ t.core = s.core ∧ t.aon = s.aon)) ∧
    (∀ fail idx, s.off = false → s.stState ≠ 2 → ∃ t, exec (.stDone fail idx) s = .next t ∧ t.core = s.core ∧ t.aon = s.aon)

/-- R411-R413: a dump captures every counter in one cycle and its writes begin at SEQ_OPEN; while one is written DUMP_NOW and DUMP_AT set
CMD_ERR. An armed dump fires once its instant is reached, at once if it has passed. Its end is counted, or sets FAULT. A view of a
function that is not DISABLED is one write of 256 bytes in its space.
A view as one write is the model's choice (log entry 20). -/
def Obligations.DumpsAndViews : Prop :=
  ∀ s : State, s.off = false →
    (s.on R.CNT_STATUS_BUSY = true → ∀ c ∈ [Instr.dumpNow, .dumpAt],
      ∃ t, exec c s = .next t ∧ t.rd R.CNT_STATUS_CMD_ERR = 1 ∧ s.SameBut t [R.CNT_STATUS_CMD_ERR] ∧ s.SameAon t ∧ s.SameCore t) ∧
    (s.on R.CNT_STATUS_BUSY = false →
      ∃ t j, exec .dumpNow s = .next t ∧ t.rd R.CNT_STATUS_BUSY = 1 ∧ t.core.dump.shadow = s.core.cnt ∧ t.core.dump.time = s.now ∧
        t.core.dump.num = s.core.dump.num + 1 ∧ t.core.dump.marks = 0 ∧ t.core.cnt = s.core.cnt ∧
        SMap.get? t.core.jobs s.core.nextId = some j ∧ j.acc = .write ∧ j.func = 0 ∧ j.va = (s.dumpBase + 4) % 2 ^ 64 ∧ j.len = 4 ∧
        s.SameBut t [R.CNT_STATUS_BUSY] ∧ s.SameAon t) ∧
    (s.on R.CNT_STATUS_BUSY = false → s.synced = true → s.now < s.rd R.CNT_AT_LO_TIME + s.rd R.CNT_AT_HI_TIME * 2 ^ 32 →
      ∃ t, exec .dumpAt s = .next t ∧ t.rd R.CNT_STATUS_ARMED = 1 ∧ s.SameBut t [R.CNT_STATUS_ARMED] ∧
        t.core.dump = { s.core.dump with instant := s.rd R.CNT_AT_LO_TIME + s.rd R.CNT_AT_HI_TIME * 2 ^ 32 } ∧ t.core.jobs = s.core.jobs) ∧
    (s.on R.CNT_STATUS_BUSY = false → s.synced = true → s.rd R.CNT_AT_LO_TIME + s.rd R.CNT_AT_HI_TIME * 2 ^ 32 ≤ s.now →
      ∃ t, exec .dumpAt s = .next t ∧ t.rd R.CNT_STATUS_LATE_ARM = 1 ∧ t.rd R.CNT_STATUS_BUSY = 1 ∧ t.rd R.CNT_STATUS_ARMED = 0 ∧
        t.core.dump.shadow = s.core.cnt ∧ t.core.dump.marks = 3) ∧
    (s.on R.CNT_STATUS_ARMED = true → s.core.dump.instant ≤ s.now → s.on R.CNT_STATUS_BUSY = false →
      ∃ t, exec .dumpTrigger s = .next t ∧ t.rd R.CNT_STATUS_BUSY = 1 ∧ t.rd R.CNT_STATUS_ARMED = 0 ∧ t.core.dump.shadow = s.core.cnt ∧
        t.core.dump.marks = 1) ∧
    (s.on R.CNT_STATUS_ARMED = false ∨ s.now < s.core.dump.instant →
      ∃ t, exec .dumpTrigger s = .next t ∧ t.core = s.core ∧ t.aon = s.aon) ∧
    (∀ ok, s.core.dump.ended = some ok →
      ∃ t, exec .dumpWriteDone s = .next t ∧ t.rd R.CNT_STATUS_BUSY = 0 ∧ t.core.dump.ended = none ∧
        t.rd R.CNT_STATUS_FAULT = (if ok then s.rd R.CNT_STATUS_FAULT else 1) ∧
        t.counter 82 16 = (if ok then (s.counter 82 16 + 1) % 2 ^ 64 else s.counter 82 16)) ∧
    (s.core.dump.ended = none → ∃ t, exec .dumpWriteDone s = .next t ∧ t.core = s.core ∧ t.aon = s.aon) ∧
    (∀ (f : FuncId) c, c = Instr.view f ∨ c = .viewPeriod f ∧ s.on (R.CNT_VIEW_CTL_VIEW_EN f.val) = true → s.funcEnabled f.val = true →
      ∃ t j, exec c s = .next t ∧ SMap.get? t.core.jobs s.core.nextId = some j ∧ j.acc = .write ∧ j.func = f.val ∧
        j.va = s.rd (R.CNT_VIEW_BASE_LO_BASE f.val) * 256 + s.rd (R.CNT_VIEW_BASE_HI_BASE f.val) * 2 ^ 32 ∧ j.len = 256 ∧
        t.core.regs = s.core.regs ∧ t.core.cnt = s.core.cnt ∧ t.aon = s.aon) ∧
    (∀ (f : FuncId), s.funcState f.val = 0 → ∀ c ∈ [Instr.view f, .viewPeriod f], ∃ t, exec c s = .next t ∧ t.core = s.core ∧ t.aon = s.aon)

/-- R414, R419-R422: the oldest trace record is written to the ring's next slot with its phase bit, behind a LOSS record that is due; it is
dropped when the ring is full or FAULT stands. A snapshot is refused while one is taken, and an armed one before synchronisation; it fires once its
instant is reached, or at once; when the capture is done its writes begin at SEQ_OPEN; it ends DONE or FAILED.
When a LOSS record is due again is the model's choice (log entry 21). -/
def Obligations.TraceAndSnapshots : Prop :=
  ∀ s : State, s.off = false →
    (s.core.trace.fifo = [] ∨ s.core.trace.writing = true → ∃ t, exec .traceRecordWrite s = .next t ∧ t.core = s.core ∧ t.aon = s.aon) ∧
    (∀ r l, s.core.trace.fifo = r :: l → s.core.trace.writing = false →
      (s.on R.TRACE_STATUS_FAULT = true ∨ s.traceRoom = false →
        ∃ t, exec .traceRecordWrite s = .next t ∧ t.core.trace.fifo = l ∧ t.core.trace.drops = s.core.trace.drops + 1 ∧
          t.rd R.TRACE_STATUS_LOSS_PEND = 1 ∧ t.core.jobs = s.core.jobs) ∧
      (s.on R.TRACE_STATUS_FAULT = false → s.traceRoom = true → s.core.trace.drops = 0 →
        ∃ t j, exec .traceRecordWrite s = .next t ∧ t.core.trace.fifo = l ∧ t.core.trace.writing = true ∧
          SMap.get? t.core.jobs s.core.nextId = some j ∧ j.acc = .write ∧ j.func = 0 ∧ j.len = 32 ∧
          j.data = toLE 32 (r + b2n (s.rd R.TRACE_TAIL_COUNT / 2 ^ s.traceLog2 % 2 = 0) * 2 ^ 15) ∧
          j.va = (s.rd R.TRACE_BASE_LO_BASE * 4096 + s.rd R.TRACE_BASE_HI_BASE * 2 ^ 32 +
            s.rd R.TRACE_TAIL_COUNT % 2 ^ s.traceLog2 * 32) % 2 ^ 64 ∧ t.core.regs = s.core.regs) ∧
      (s.on R.TRACE_STATUS_FAULT = false → s.traceRoom = true → 0 < s.core.trace.drops →
        ∃ t j, exec .traceRecordWrite s = .next t ∧ t.core.trace.fifo = r :: l ∧ t.core.trace.drops = 0 ∧
          t.core.trace.loss = some (s.core.trace.drops, s.core.trace.dropTime) ∧ t.rd R.TRACE_STATUS_LOSS_PEND = 0 ∧
          j.data.length = 32 ∧ SMap.get? t.core.jobs s.core.nextId = some j ∧ j.acc = .write ∧ j.len = 32)) ∧
    (s.khBusy = true → ∀ c ∈ [Instr.khArm, .khDisarm, .khNow],
      ∃ t, exec c s = .next t ∧ t.rd R.KH_STATUS_CMD_ERR = 1 ∧ s.SameBut t [R.KH_STATUS_CMD_ERR] ∧ s.SameAon t ∧ s.SameCore t) ∧
    (s.khBusy = false →
      (s.synced = false → ∃ t, exec .khArm s = .next t ∧ t.rd R.KH_STATUS_CMD_ERR = 1 ∧ s.SameBut t [R.KH_STATUS_CMD_ERR] ∧ s.SameCore t) ∧
      (s.synced = true → s.now < s.rd R.KH_AT_LO_TIME + s.rd R.KH_AT_HI_TIME * 2 ^ 32 →
        ∃ t, exec .khArm s = .next t ∧ t.khState = 1 ∧ t.core.kh.instant = s.rd R.KH_AT_LO_TIME + s.rd R.KH_AT_HI_TIME * 2 ^ 32 ∧
          t.core.kh.seq = s.core.kh.seq ∧ s.SameBut t [R.KH_STATUS_STATE]) ∧
      (s.synced = true → s.rd R.KH_AT_LO_TIME + s.rd R.KH_AT_HI_TIME * 2 ^ 32 ≤ s.now →
        ∃ t, exec .khArm s = .next t ∧ t.khState = 2 ∧ t.rd R.KH_STATUS_LATE_ARM = 1 ∧ t.core.kh.seq = s.core.kh.seq + 1) ∧
      (∃ t, exec .khNow s = .next t ∧ t.khState = 2 ∧ t.core.kh.instant = s.core.kh.instant ∧ t.core.kh.seq = s.core.kh.seq + 1 ∧ t.rd R.KH_STATUS_SEQ = (s.core.kh.seq + 1) % 2 ^ 16) ∧
      (∃ t, exec .khDisarm s = .next t ∧ t.khState = (if s.khState = 1 then 0 else s.khState) ∧ s.SameBut t [R.KH_STATUS_STATE] ∧
        s.SameCore t)) ∧
    (s.khState = 1 → s.core.kh.instant ≤ s.now →
      ∃ t, exec .khTrigger s = .next t ∧ t.khState = 2 ∧ t.core.kh.seq = s.core.kh.seq + 1) ∧
    (s.khState ≠ 1 ∨ s.now < s.core.kh.instant → ∃ t, exec .khTrigger s = .next t ∧ t.core = s.core ∧ t.aon = s.aon) ∧
    (s.khState = 2 → s.core.kh.pos = 0 →
      ∃ t j, exec .khCaptureDone s = .next t ∧ t.khState = 3 ∧ SMap.get? t.core.jobs s.core.nextId = some j ∧ j.acc = .write ∧ j.func = 0 ∧
        j.va = (s.khBase + 4) % 2 ^ 64 ∧ j.len = 4 ∧ s.SameBut t [R.KH_STATUS_STATE] ∧ t.core.cnt = s.core.cnt) ∧
    (s.khState ≠ 2 → ∃ t, exec .khCaptureDone s = .next t ∧ t.core = s.core ∧ t.aon = s.aon) ∧
    (∀ ok, s.khState = 3 → s.core.kh.ended = some ok →
      ∃ t, exec .khWriteDone s = .next t ∧ t.khState = (if ok then 4 else 5) ∧ t.core.kh.ended = none ∧
        t.counter 82 15 = (if ok then (s.counter 82 15 + 1) % 2 ^ 64 else s.counter 82 15)) ∧
    (s.core.kh.ended = none → ∃ t, exec .khWriteDone s = .next t ∧ t.core = s.core ∧ t.aon = s.aon)
end

