-- ==== Sys2Proof/Laws/Maps.lean ====
section
/-! SUPPORT. Laws of the sorted maps: a read after a write, and the canonical form is kept. -/

namespace Sys2Proof.Machine

@[simp] theorem SMap.get?_nil {α : Type} (k : Nat) : SMap.get? ([] : SMap α) k = none := rfl

@[simp] theorem SMap.getD_nil {α : Type} (k : Nat) (d : α) : SMap.getD ([] : SMap α) k d = d := rfl

theorem SMap.get?_put_self {α : Type} (m : SMap α) (k : Nat) (v : α) : SMap.get? (SMap.put m k v) k = some v := by
  induction m with
  | nil => simp [SMap.put, SMap.get?]
  | cons x t ih =>
    obtain ⟨j, u⟩ := x
    simp only [SMap.put]
    split
    · simp [SMap.get?]
    · split
      · simp [SMap.get?]
      · rename_i h1 h2
        simp [SMap.get?, Ne.symm h2, ih]

theorem SMap.get?_put_ne {α : Type} (m : SMap α) (k j : Nat) (v : α) (h : j ≠ k) : SMap.get? (SMap.put m k v) j = SMap.get? m j := by
  induction m with
  | nil => simp [SMap.put, SMap.get?, Ne.symm h]
  | cons x t ih =>
    obtain ⟨i, u⟩ := x
    simp only [SMap.put]
    split
    · simp [SMap.get?, Ne.symm h]
    · split
      · rename_i h1 h2
        subst h2
        simp [SMap.get?, Ne.symm h]
      · simp [SMap.get?, ih]

theorem SMap.get?_del_self {α : Type} (m : SMap α) (k : Nat) : SMap.get? (SMap.del m k) k = none := by
  induction m with
  | nil => rfl
  | cons x t ih =>
    obtain ⟨i, u⟩ := x
    by_cases h : i = k
    · simpa [SMap.del, h] using ih
    · simpa [SMap.del, SMap.get?, h] using ih

theorem SMap.get?_del_ne {α : Type} (m : SMap α) (k j : Nat) (h : j ≠ k) : SMap.get? (SMap.del m k) j = SMap.get? m j := by
  induction m with
  | nil => rfl
  | cons x t ih =>
    obtain ⟨i, u⟩ := x
    by_cases hk : i = k
    · subst hk
      simpa [SMap.del, SMap.get?, Ne.symm h] using ih
    · by_cases hj : i = j
      · subst hj
        simp [SMap.del, SMap.get?, h]
      · simpa [SMap.del, SMap.get?, hk, hj] using ih

@[simp] theorem SMap.getD_put_self {α : Type} (m : SMap α) (k : Nat) (v d : α) : SMap.getD (SMap.put m k v) k d = v := by
  simp [SMap.getD, SMap.get?_put_self]

theorem SMap.getD_put_ne {α : Type} (m : SMap α) (k j : Nat) (v d : α) (h : j ≠ k) :
    SMap.getD (SMap.put m k v) j d = SMap.getD m j d := by
  simp [SMap.getD, SMap.get?_put_ne m k j v h]

@[simp] theorem SMap.getD_putD_self {α : Type} [BEq α] [LawfulBEq α] (m : SMap α) (k : Nat) (v d : α) :
    SMap.getD (SMap.putD m k v d) k d = v := by
  unfold SMap.putD
  split
  · rename_i h
    simp [SMap.getD, SMap.get?_del_self, (eq_of_beq h).symm]
  · simp

theorem SMap.getD_putD_ne {α : Type} [BEq α] (m : SMap α) (k j : Nat) (v d e : α) (h : j ≠ k) :
    SMap.getD (SMap.putD m k v d) j e = SMap.getD m j e := by
  unfold SMap.putD
  split
  · simp [SMap.getD, SMap.get?_del_ne m k j h]
  · exact SMap.getD_put_ne m k j v e h

/-! ## Keys strictly rise -/

theorem SMap.wf_iff {α : Type} (m : SMap α) : SMap.wf m = true ↔ m.Pairwise (fun a b => a.1 < b.1) := by
  induction m with
  | nil => simp [SMap.wf]
  | cons x t ih =>
    match t with
    | [] => simp [SMap.wf]
    | y :: u =>
      obtain ⟨j, a⟩ := x
      obtain ⟨k, b⟩ := y
      simp only [SMap.wf, Bool.and_eq_true, decide_eq_true_eq, ih]
      constructor
      · rintro ⟨hjk, hp⟩
        refine List.pairwise_cons.2 ⟨?_, hp⟩
        intro z hz
        rcases List.mem_cons.1 hz with rfl | hz
        · exact hjk
        · exact Nat.lt_trans hjk ((List.pairwise_cons.1 hp).1 z hz)
      · intro hp
        obtain ⟨h1, h2⟩ := List.pairwise_cons.1 hp
        exact ⟨h1 (k, b) (by simp), h2⟩

/-- An entry of a map with one value set is that value or an entry of the map. -/
theorem SMap.mem_put {α : Type} (m : SMap α) (k : Nat) (v : α) (x : Nat × α) (h : x ∈ SMap.put m k v) : x = (k, v) ∨ x ∈ m := by
  induction m with
  | nil => simpa [SMap.put] using h
  | cons y t ih =>
    obtain ⟨j, u⟩ := y
    simp only [SMap.put] at h
    split at h
    · simpa using h
    · split at h
      · rcases List.mem_cons.1 h with h | h
        · exact .inl h
        · exact .inr (List.mem_cons_of_mem _ h)
      · rcases List.mem_cons.1 h with h | h
        · exact .inr (h ▸ List.mem_cons_self)
        · rcases ih h with h | h
          · exact .inl h
          · exact .inr (List.mem_cons_of_mem _ h)

theorem SMap.wf_put {α : Type} (m : SMap α) (k : Nat) (v : α) (h : SMap.wf m = true) : SMap.wf (SMap.put m k v) = true := by
  rw [SMap.wf_iff] at *
  induction m with
  | nil => simp [SMap.put]
  | cons x t ih =>
    obtain ⟨j, u⟩ := x
    obtain ⟨h1, h2⟩ := List.pairwise_cons.1 h
    simp only [SMap.put]
    split
    · rename_i hk
      refine List.pairwise_cons.2 ⟨?_, h⟩
      intro z hz
      rcases List.mem_cons.1 hz with rfl | hz
      · exact hk
      · exact Nat.lt_trans hk (h1 z hz)
    · split
      · rename_i _ hk
        subst hk
        exact List.pairwise_cons.2 ⟨h1, h2⟩
      · rename_i hk hne
        refine List.pairwise_cons.2 ⟨?_, ih h2⟩
        intro z hz
        rcases SMap.mem_put t k v z hz with rfl | hz
        · show j < k
          omega
        · exact h1 z hz

theorem SMap.wf_del {α : Type} (m : SMap α) (k : Nat) (h : SMap.wf m = true) : SMap.wf (SMap.del m k) = true := by
  rw [SMap.wf_iff] at *
  exact h.filter _

/-- Writing keeps the order of the keys. -/
theorem SMap.wf_putD {α : Type} [BEq α] (m : SMap α) (k : Nat) (v d : α) (h : SMap.wf m = true) :
    SMap.wf (SMap.putD m k v d) = true := by
  unfold SMap.putD
  split
  · exact SMap.wf_del m k h
  · exact SMap.wf_put m k v h

/-- Writing lists no default: an entry of the result is the new one, which is no default, or an entry of the map. -/
theorem SMap.mem_putD {α : Type} [BEq α] [LawfulBEq α] (m : SMap α) (k : Nat) (v d : α) (x : Nat × α) (h : x ∈ SMap.putD m k v d) :
    (x = (k, v) ∧ v ≠ d) ∨ x ∈ m := by
  unfold SMap.putD at h
  split at h
  · exact .inr (List.mem_filter.1 h).1
  · rename_i hne
    rcases SMap.mem_put m k v x h with h | h
    · exact .inl ⟨h, fun e => hne (by simp [e])⟩
    · exact .inr h

end Sys2Proof.Machine
end

