-- ==== Sys2Proof/Laws/State.lean ====
section
/-! SUPPORT. Laws of the state: what a register write, an output, work left, a count change, and what they leave. -/

namespace Sys2Proof.Machine

/-! ## Fields of a word -/

theorem getField_testBit (x : Word) (lo w i : Nat) : (getField x lo w).testBit i = (decide (i < w) && x.getLsbD (lo + i)) := by
  simp [getField, Nat.testBit_mod_two_pow, BitVec.testBit_toNat]

theorem getField_lt (x : Word) (lo w : Nat) : getField x lo w < 2 ^ w := Nat.mod_lt _ (Nat.two_pow_pos w)

theorem setField_getLsbD (x : Word) (lo w v i : Nat) (hi : i < 32) :
    (setField x lo w v).getLsbD i = if lo ≤ i ∧ i < lo + w then v.testBit (i - lo) else x.getLsbD i := by
  simp only [setField, BitVec.getLsbD_or, BitVec.getLsbD_and, BitVec.getLsbD_not, BitVec.getLsbD_shiftLeft, BitVec.getLsbD_ofNat,
    Nat.testBit_two_pow_sub_one, hi, decide_true, Bool.true_and]
  by_cases h1 : lo ≤ i
  · have h4 : (i < lo) = False := by simp; omega
    by_cases h2 : i < lo + w
    · have h3 : i - lo < w := by omega
      have h5 : i - lo < 32 := by omega
      simp [h1, h2, h3, h4, h5]
    · have h3 : ¬ (i - lo < w) := by omega
      simp [h2, h3]
  · have h4 : i < lo := by omega
    simp [h1, h4]

/-- A field reads back what was written to it, cut to its width. -/
theorem getField_setField_self (x : Word) (lo w v : Nat) (h : lo + w ≤ 32) : getField (setField x lo w v) lo w = v % 2 ^ w := by
  apply Nat.eq_of_testBit_eq
  intro i
  rw [getField_testBit, Nat.testBit_mod_two_pow]
  by_cases hi : i < w
  · rw [setField_getLsbD x lo w v (lo + i) (by omega)]
    have h1 : lo ≤ lo + i ∧ lo + i < lo + w := by omega
    simp [h1, hi]
  · simp [hi]

/-- A field keeps its value when bits outside it are written. -/
theorem getField_setField_ne (x : Word) (lo w v lo' w' : Nat) (h : lo + w ≤ lo' ∨ lo' + w' ≤ lo) :
    getField (setField x lo w v) lo' w' = getField x lo' w' := by
  apply Nat.eq_of_testBit_eq
  intro i
  rw [getField_testBit, getField_testBit]
  by_cases hi : i < w'
  · by_cases h32 : lo' + i < 32
    · rw [setField_getLsbD x lo w v (lo' + i) h32]
      have h1 : ¬ (lo ≤ lo' + i ∧ lo' + i < lo + w) := by omega
      simp [h1]
    · rw [BitVec.getLsbD_of_ge _ _ (by omega), BitVec.getLsbD_of_ge _ _ (by omega)]
  · simp [hi]

/-! ## Registers -/

theorem State.word_setWord_self (s : State) (aon : Bool) (a : Nat) (w : Word) : (s.setWord aon a w).word aon a = w := by
  cases aon <;> simp [State.setWord, State.word]

theorem State.word_setWord_ne (s : State) (aon aon' : Bool) (a a' : Nat) (w : Word) (h : aon' ≠ aon ∨ a' ≠ a) :
    (s.setWord aon a w).word aon' a' = s.word aon' a' := by
  cases aon <;> cases aon' <;> simp_all [State.setWord, State.word, SMap.getD_putD_ne]

/-- A field reads back what was written to it, cut to its width. -/
theorem State.rd_wr_self (s : State) (f : Fld) (v : Nat) (h : f.lo + f.width ≤ 32) : (s.wr f v).rd f = v % 2 ^ f.width := by
  simp [State.rd, State.wr, State.word_setWord_self, getField_setField_self _ _ _ _ h]

/-- A field keeps its value when another is written. -/
theorem State.rd_wr_ne (s : State) (f g : Fld) (v : Nat) (h : f.apart g) : (s.wr f v).rd g = s.rd g := by
  unfold Fld.apart at h
  by_cases ha : g.aon = f.aon ∧ g.addr = f.addr
  · have h' : f.lo + f.width ≤ g.lo ∨ g.lo + g.width ≤ f.lo := by
      rcases h with h | h | h
      · exact absurd ha.1 h
      · exact absurd ha.2 h
      · exact h
    simp only [State.rd, State.wr, ha.1, ha.2, State.word_setWord_self]
    exact getField_setField_ne _ _ _ _ _ _ h'
  · have h' : g.aon ≠ f.aon ∨ g.addr ≠ f.addr := by
      by_cases h1 : g.aon = f.aon
      · exact .inr (fun h2 => ha ⟨h1, h2⟩)
      · exact .inl h1
    simp only [State.rd, State.wr, State.word_setWord_ne _ _ _ _ _ _ h']

/-- A field is below the power of its width. -/
theorem State.rd_lt (s : State) (f : Fld) : s.rd f < 2 ^ f.width := getField_lt _ _ _

/-- What a field reads depends on the build and the registers alone. -/
theorem State.rd_congr (s t : State) (f : Fld) (hb : t.build = s.build) (ha : t.aon.regs = s.aon.regs) (hc : t.core.regs = s.core.regs) :
    t.rd f = s.rd f := by
  simp [State.rd, State.word, hb, ha, hc]

theorem State.on_eq (s : State) (f : Fld) : s.on f = (s.rd f == 1) := rfl

/-! ## What a register write leaves -/

@[simp] theorem State.setWord_build (s : State) (aon : Bool) (a : Nat) (w : Word) : (s.setWord aon a w).build = s.build := by
  cases aon <;> simp [State.setWord]
@[simp] theorem State.setWord_pins (s : State) (aon : Bool) (a : Nat) (w : Word) : (s.setWord aon a w).pins = s.pins := by
  cases aon <;> simp [State.setWord]
@[simp] theorem State.setWord_draws (s : State) (aon : Bool) (a : Nat) (w : Word) : (s.setWord aon a w).draws = s.draws := by
  cases aon <;> simp [State.setWord]
@[simp] theorem State.setWord_out (s : State) (aon : Bool) (a : Nat) (w : Word) : (s.setWord aon a w).out = s.out := by
  cases aon <;> simp [State.setWord]
@[simp] theorem State.setWord_pending (s : State) (aon : Bool) (a : Nat) (w : Word) : (s.setWord aon a w).pending = s.pending := by
  cases aon <;> simp [State.setWord]
@[simp] theorem State.setWord_core_jobs (s : State) (aon : Bool) (a : Nat) (w : Word) : (s.setWord aon a w).core.jobs = s.core.jobs := by
  cases aon <;> simp [State.setWord]
@[simp] theorem State.setWord_core_nextId (s : State) (aon : Bool) (a : Nat) (w : Word) : (s.setWord aon a w).core.nextId = s.core.nextId := by
  cases aon <;> simp [State.setWord]
@[simp] theorem State.setWord_core_work (s : State) (aon : Bool) (a : Nat) (w : Word) : (s.setWord aon a w).core.work = s.core.work := by
  cases aon <;> simp [State.setWord]
@[simp] theorem State.setWord_core_mem (s : State) (aon : Bool) (a : Nat) (w : Word) : (s.setWord aon a w).core.mem = s.core.mem := by
  cases aon <;> simp [State.setWord]
@[simp] theorem State.setWord_core_xl (s : State) (aon : Bool) (a : Nat) (w : Word) : (s.setWord aon a w).core.xl = s.core.xl := by
  cases aon <;> simp [State.setWord]
@[simp] theorem State.setWord_core_rq (s : State) (aon : Bool) (a : Nat) (w : Word) : (s.setWord aon a w).core.rq = s.core.rq := by
  cases aon <;> simp [State.setWord]
@[simp] theorem State.setWord_core_win (s : State) (aon : Bool) (a : Nat) (w : Word) : (s.setWord aon a w).core.win = s.core.win := by
  cases aon <;> simp [State.setWord]
@[simp] theorem State.setWord_core_resp (s : State) (aon : Bool) (a : Nat) (w : Word) : (s.setWord aon a w).core.resp = s.core.resp := by
  cases aon <;> simp [State.setWord]
@[simp] theorem State.setWord_core_tables (s : State) (aon : Bool) (a : Nat) (w : Word) : (s.setWord aon a w).core.tables = s.core.tables := by
  cases aon <;> simp [State.setWord]
@[simp] theorem State.setWord_core_router (s : State) (aon : Bool) (a : Nat) (w : Word) : (s.setWord aon a w).core.router = s.core.router := by
  cases aon <;> simp [State.setWord]
@[simp] theorem State.setWord_core_links (s : State) (aon : Bool) (a : Nat) (w : Word) : (s.setWord aon a w).core.links = s.core.links := by
  cases aon <;> simp [State.setWord]
@[simp] theorem State.setWord_core_keyPort (s : State) (aon : Bool) (a : Nat) (w : Word) : (s.setWord aon a w).core.keyPort = s.core.keyPort := by
  cases aon <;> simp [State.setWord]
@[simp] theorem State.setWord_core_bolts (s : State) (aon : Bool) (a : Nat) (w : Word) : (s.setWord aon a w).core.bolts = s.core.bolts := by
  cases aon <;> simp [State.setWord]
@[simp] theorem State.setWord_core_time (s : State) (aon : Bool) (a : Nat) (w : Word) : (s.setWord aon a w).core.time = s.core.time := by
  cases aon <;> simp [State.setWord]
@[simp] theorem State.setWord_core_events (s : State) (aon : Bool) (a : Nat) (w : Word) : (s.setWord aon a w).core.events = s.core.events := by
  cases aon <;> simp [State.setWord]
@[simp] theorem State.setWord_core_err (s : State) (aon : Bool) (a : Nat) (w : Word) : (s.setWord aon a w).core.err = s.core.err := by
  cases aon <;> simp [State.setWord]
@[simp] theorem State.setWord_core_trace (s : State) (aon : Bool) (a : Nat) (w : Word) : (s.setWord aon a w).core.trace = s.core.trace := by
  cases aon <;> simp [State.setWord]
@[simp] theorem State.setWord_core_dump (s : State) (aon : Bool) (a : Nat) (w : Word) : (s.setWord aon a w).core.dump = s.core.dump := by
  cases aon <;> simp [State.setWord]
@[simp] theorem State.setWord_core_kh (s : State) (aon : Bool) (a : Nat) (w : Word) : (s.setWord aon a w).core.kh = s.core.kh := by
  cases aon <;> simp [State.setWord]
@[simp] theorem State.setWord_core_ward (s : State) (aon : Bool) (a : Nat) (w : Word) : (s.setWord aon a w).core.ward = s.core.ward := by
  cases aon <;> simp [State.setWord]
@[simp] theorem State.setWord_core_col (s : State) (aon : Bool) (a : Nat) (w : Word) : (s.setWord aon a w).core.col = s.core.col := by
  cases aon <;> simp [State.setWord]
@[simp] theorem State.setWord_core_cnt (s : State) (aon : Bool) (a : Nat) (w : Word) : (s.setWord aon a w).core.cnt = s.core.cnt := by
  cases aon <;> simp [State.setWord]
@[simp] theorem State.setWord_aon_coefs (s : State) (aon : Bool) (a : Nat) (w : Word) : (s.setWord aon a w).aon.coefs = s.aon.coefs := by
  cases aon <;> simp [State.setWord]
@[simp] theorem State.setWord_aon_intReset (s : State) (aon : Bool) (a : Nat) (w : Word) : (s.setWord aon a w).aon.intReset = s.aon.intReset := by
  cases aon <;> simp [State.setWord]
@[simp] theorem State.setWord_aon_coldNext (s : State) (aon : Bool) (a : Nat) (w : Word) : (s.setWord aon a w).aon.coldNext = s.aon.coldNext := by
  cases aon <;> simp [State.setWord]
@[simp] theorem State.setWord_aon_selfTest (s : State) (aon : Bool) (a : Nat) (w : Word) : (s.setWord aon a w).aon.selfTest = s.aon.selfTest := by
  cases aon <;> simp [State.setWord]
@[simp] theorem State.wr_build (s : State) (f : Fld) (v : Nat) : (s.wr f v).build = s.build := by
  cases h : f.aon <;> simp [State.setWord, State.wr, h]
@[simp] theorem State.wr_pins (s : State) (f : Fld) (v : Nat) : (s.wr f v).pins = s.pins := by
  cases h : f.aon <;> simp [State.setWord, State.wr, h]
@[simp] theorem State.wr_draws (s : State) (f : Fld) (v : Nat) : (s.wr f v).draws = s.draws := by
  cases h : f.aon <;> simp [State.setWord, State.wr, h]
@[simp] theorem State.wr_out (s : State) (f : Fld) (v : Nat) : (s.wr f v).out = s.out := by
  cases h : f.aon <;> simp [State.setWord, State.wr, h]
@[simp] theorem State.wr_pending (s : State) (f : Fld) (v : Nat) : (s.wr f v).pending = s.pending := by
  cases h : f.aon <;> simp [State.setWord, State.wr, h]
@[simp] theorem State.wr_core_jobs (s : State) (f : Fld) (v : Nat) : (s.wr f v).core.jobs = s.core.jobs := by
  cases h : f.aon <;> simp [State.setWord, State.wr, h]
@[simp] theorem State.wr_core_nextId (s : State) (f : Fld) (v : Nat) : (s.wr f v).core.nextId = s.core.nextId := by
  cases h : f.aon <;> simp [State.setWord, State.wr, h]
@[simp] theorem State.wr_core_work (s : State) (f : Fld) (v : Nat) : (s.wr f v).core.work = s.core.work := by
  cases h : f.aon <;> simp [State.setWord, State.wr, h]
@[simp] theorem State.wr_core_mem (s : State) (f : Fld) (v : Nat) : (s.wr f v).core.mem = s.core.mem := by
  cases h : f.aon <;> simp [State.setWord, State.wr, h]
@[simp] theorem State.wr_core_xl (s : State) (f : Fld) (v : Nat) : (s.wr f v).core.xl = s.core.xl := by
  cases h : f.aon <;> simp [State.setWord, State.wr, h]
@[simp] theorem State.wr_core_rq (s : State) (f : Fld) (v : Nat) : (s.wr f v).core.rq = s.core.rq := by
  cases h : f.aon <;> simp [State.setWord, State.wr, h]
@[simp] theorem State.wr_core_win (s : State) (f : Fld) (v : Nat) : (s.wr f v).core.win = s.core.win := by
  cases h : f.aon <;> simp [State.setWord, State.wr, h]
@[simp] theorem State.wr_core_resp (s : State) (f : Fld) (v : Nat) : (s.wr f v).core.resp = s.core.resp := by
  cases h : f.aon <;> simp [State.setWord, State.wr, h]
@[simp] theorem State.wr_core_tables (s : State) (f : Fld) (v : Nat) : (s.wr f v).core.tables = s.core.tables := by
  cases h : f.aon <;> simp [State.setWord, State.wr, h]
@[simp] theorem State.wr_core_router (s : State) (f : Fld) (v : Nat) : (s.wr f v).core.router = s.core.router := by
  cases h : f.aon <;> simp [State.setWord, State.wr, h]
@[simp] theorem State.wr_core_links (s : State) (f : Fld) (v : Nat) : (s.wr f v).core.links = s.core.links := by
  cases h : f.aon <;> simp [State.setWord, State.wr, h]
@[simp] theorem State.wr_core_keyPort (s : State) (f : Fld) (v : Nat) : (s.wr f v).core.keyPort = s.core.keyPort := by
  cases h : f.aon <;> simp [State.setWord, State.wr, h]
@[simp] theorem State.wr_core_bolts (s : State) (f : Fld) (v : Nat) : (s.wr f v).core.bolts = s.core.bolts := by
  cases h : f.aon <;> simp [State.setWord, State.wr, h]
@[simp] theorem State.wr_core_time (s : State) (f : Fld) (v : Nat) : (s.wr f v).core.time = s.core.time := by
  cases h : f.aon <;> simp [State.setWord, State.wr, h]
@[simp] theorem State.wr_core_events (s : State) (f : Fld) (v : Nat) : (s.wr f v).core.events = s.core.events := by
  cases h : f.aon <;> simp [State.setWord, State.wr, h]
@[simp] theorem State.wr_core_err (s : State) (f : Fld) (v : Nat) : (s.wr f v).core.err = s.core.err := by
  cases h : f.aon <;> simp [State.setWord, State.wr, h]
@[simp] theorem State.wr_core_trace (s : State) (f : Fld) (v : Nat) : (s.wr f v).core.trace = s.core.trace := by
  cases h : f.aon <;> simp [State.setWord, State.wr, h]
@[simp] theorem State.wr_core_dump (s : State) (f : Fld) (v : Nat) : (s.wr f v).core.dump = s.core.dump := by
  cases h : f.aon <;> simp [State.setWord, State.wr, h]
@[simp] theorem State.wr_core_kh (s : State) (f : Fld) (v : Nat) : (s.wr f v).core.kh = s.core.kh := by
  cases h : f.aon <;> simp [State.setWord, State.wr, h]
@[simp] theorem State.wr_core_ward (s : State) (f : Fld) (v : Nat) : (s.wr f v).core.ward = s.core.ward := by
  cases h : f.aon <;> simp [State.setWord, State.wr, h]
@[simp] theorem State.wr_core_col (s : State) (f : Fld) (v : Nat) : (s.wr f v).core.col = s.core.col := by
  cases h : f.aon <;> simp [State.setWord, State.wr, h]
@[simp] theorem State.wr_core_cnt (s : State) (f : Fld) (v : Nat) : (s.wr f v).core.cnt = s.core.cnt := by
  cases h : f.aon <;> simp [State.setWord, State.wr, h]
@[simp] theorem State.wr_aon_coefs (s : State) (f : Fld) (v : Nat) : (s.wr f v).aon.coefs = s.aon.coefs := by
  cases h : f.aon <;> simp [State.setWord, State.wr, h]
@[simp] theorem State.wr_aon_intReset (s : State) (f : Fld) (v : Nat) : (s.wr f v).aon.intReset = s.aon.intReset := by
  cases h : f.aon <;> simp [State.setWord, State.wr, h]
@[simp] theorem State.wr_aon_coldNext (s : State) (f : Fld) (v : Nat) : (s.wr f v).aon.coldNext = s.aon.coldNext := by
  cases h : f.aon <;> simp [State.setWord, State.wr, h]
@[simp] theorem State.wr_aon_selfTest (s : State) (f : Fld) (v : Nat) : (s.wr f v).aon.selfTest = s.aon.selfTest := by
  cases h : f.aon <;> simp [State.setWord, State.wr, h]

/-! ## Work, outputs, draws, counts -/

@[simp] theorem State.post_build (s : State) (w : Work) : (s.post w).build = s.build := rfl
@[simp] theorem State.post_pins (s : State) (w : Work) : (s.post w).pins = s.pins := rfl
@[simp] theorem State.post_draws (s : State) (w : Work) : (s.post w).draws = s.draws := rfl
@[simp] theorem State.post_out (s : State) (w : Work) : (s.post w).out = s.out := rfl
@[simp] theorem State.post_pending (s : State) (w : Work) : (s.post w).pending = s.pending := rfl
@[simp] theorem State.post_aon (s : State) (w : Work) : (s.post w).aon = s.aon := rfl
@[simp] theorem State.post_core_regs (s : State) (w : Work) : (s.post w).core.regs = s.core.regs := rfl
@[simp] theorem State.post_core_jobs (s : State) (w : Work) : (s.post w).core.jobs = s.core.jobs := rfl
@[simp] theorem State.post_core_nextId (s : State) (w : Work) : (s.post w).core.nextId = s.core.nextId := rfl
@[simp] theorem State.post_core_mem (s : State) (w : Work) : (s.post w).core.mem = s.core.mem := rfl
@[simp] theorem State.post_core_xl (s : State) (w : Work) : (s.post w).core.xl = s.core.xl := rfl
@[simp] theorem State.post_core_rq (s : State) (w : Work) : (s.post w).core.rq = s.core.rq := rfl
@[simp] theorem State.post_core_win (s : State) (w : Work) : (s.post w).core.win = s.core.win := rfl
@[simp] theorem State.post_core_resp (s : State) (w : Work) : (s.post w).core.resp = s.core.resp := rfl
@[simp] theorem State.post_core_tables (s : State) (w : Work) : (s.post w).core.tables = s.core.tables := rfl
@[simp] theorem State.post_core_router (s : State) (w : Work) : (s.post w).core.router = s.core.router := rfl
@[simp] theorem State.post_core_links (s : State) (w : Work) : (s.post w).core.links = s.core.links := rfl
@[simp] theorem State.post_core_keyPort (s : State) (w : Work) : (s.post w).core.keyPort = s.core.keyPort := rfl
@[simp] theorem State.post_core_bolts (s : State) (w : Work) : (s.post w).core.bolts = s.core.bolts := rfl
@[simp] theorem State.post_core_time (s : State) (w : Work) : (s.post w).core.time = s.core.time := rfl
@[simp] theorem State.post_core_events (s : State) (w : Work) : (s.post w).core.events = s.core.events := rfl
@[simp] theorem State.post_core_err (s : State) (w : Work) : (s.post w).core.err = s.core.err := rfl
@[simp] theorem State.post_core_trace (s : State) (w : Work) : (s.post w).core.trace = s.core.trace := rfl
@[simp] theorem State.post_core_dump (s : State) (w : Work) : (s.post w).core.dump = s.core.dump := rfl
@[simp] theorem State.post_core_kh (s : State) (w : Work) : (s.post w).core.kh = s.core.kh := rfl
@[simp] theorem State.post_core_ward (s : State) (w : Work) : (s.post w).core.ward = s.core.ward := rfl
@[simp] theorem State.post_core_col (s : State) (w : Work) : (s.post w).core.col = s.core.col := rfl
@[simp] theorem State.post_core_cnt (s : State) (w : Work) : (s.post w).core.cnt = s.core.cnt := rfl
@[simp] theorem State.post_rd (s : State) (w : Work) (f : Fld) : (s.post w).rd f = s.rd f := rfl
@[simp] theorem State.post_core_work (s : State) (w : Work) : (s.post w).core.work = s.core.work ++ [w] := rfl
@[simp] theorem State.emit_build (s : State) (o : Output) : (s.emit o).build = s.build := rfl
@[simp] theorem State.emit_pins (s : State) (o : Output) : (s.emit o).pins = s.pins := rfl
@[simp] theorem State.emit_draws (s : State) (o : Output) : (s.emit o).draws = s.draws := rfl
@[simp] theorem State.emit_pending (s : State) (o : Output) : (s.emit o).pending = s.pending := rfl
@[simp] theorem State.emit_aon (s : State) (o : Output) : (s.emit o).aon = s.aon := rfl
@[simp] theorem State.emit_core (s : State) (o : Output) : (s.emit o).core = s.core := rfl
@[simp] theorem State.emit_rd (s : State) (o : Output) (f : Fld) : (s.emit o).rd f = s.rd f := rfl
@[simp] theorem State.emit_out (s : State) (o : Output) : (s.emit o).out = s.out ++ [o] := rfl
@[simp] theorem State.countN_build (s : State) (slot event n : Nat) : (s.countN slot event n).build = s.build := rfl
@[simp] theorem State.countN_pins (s : State) (slot event n : Nat) : (s.countN slot event n).pins = s.pins := rfl
@[simp] theorem State.countN_draws (s : State) (slot event n : Nat) : (s.countN slot event n).draws = s.draws := rfl
@[simp] theorem State.countN_out (s : State) (slot event n : Nat) : (s.countN slot event n).out = s.out := rfl
@[simp] theorem State.countN_pending (s : State) (slot event n : Nat) : (s.countN slot event n).pending = s.pending := rfl
@[simp] theorem State.countN_aon (s : State) (slot event n : Nat) : (s.countN slot event n).aon = s.aon := rfl
@[simp] theorem State.countN_core_regs (s : State) (slot event n : Nat) : (s.countN slot event n).core.regs = s.core.regs := rfl
@[simp] theorem State.countN_core_jobs (s : State) (slot event n : Nat) : (s.countN slot event n).core.jobs = s.core.jobs := rfl
@[simp] theorem State.countN_core_nextId (s : State) (slot event n : Nat) : (s.countN slot event n).core.nextId = s.core.nextId := rfl
@[simp] theorem State.countN_core_work (s : State) (slot event n : Nat) : (s.countN slot event n).core.work = s.core.work := rfl
@[simp] theorem State.countN_core_mem (s : State) (slot event n : Nat) : (s.countN slot event n).core.mem = s.core.mem := rfl
@[simp] theorem State.countN_core_xl (s : State) (slot event n : Nat) : (s.countN slot event n).core.xl = s.core.xl := rfl
@[simp] theorem State.countN_core_rq (s : State) (slot event n : Nat) : (s.countN slot event n).core.rq = s.core.rq := rfl
@[simp] theorem State.countN_core_win (s : State) (slot event n : Nat) : (s.countN slot event n).core.win = s.core.win := rfl
@[simp] theorem State.countN_core_resp (s : State) (slot event n : Nat) : (s.countN slot event n).core.resp = s.core.resp := rfl
@[simp] theorem State.countN_core_tables (s : State) (slot event n : Nat) : (s.countN slot event n).core.tables = s.core.tables := rfl
@[simp] theorem State.countN_core_router (s : State) (slot event n : Nat) : (s.countN slot event n).core.router = s.core.router := rfl
@[simp] theorem State.countN_core_links (s : State) (slot event n : Nat) : (s.countN slot event n).core.links = s.core.links := rfl
@[simp] theorem State.countN_core_keyPort (s : State) (slot event n : Nat) : (s.countN slot event n).core.keyPort = s.core.keyPort := rfl
@[simp] theorem State.countN_core_bolts (s : State) (slot event n : Nat) : (s.countN slot event n).core.bolts = s.core.bolts := rfl
@[simp] theorem State.countN_core_time (s : State) (slot event n : Nat) : (s.countN slot event n).core.time = s.core.time := rfl
@[simp] theorem State.countN_core_events (s : State) (slot event n : Nat) : (s.countN slot event n).core.events = s.core.events := rfl
@[simp] theorem State.countN_core_err (s : State) (slot event n : Nat) : (s.countN slot event n).core.err = s.core.err := rfl
@[simp] theorem State.countN_core_trace (s : State) (slot event n : Nat) : (s.countN slot event n).core.trace = s.core.trace := rfl
@[simp] theorem State.countN_core_dump (s : State) (slot event n : Nat) : (s.countN slot event n).core.dump = s.core.dump := rfl
@[simp] theorem State.countN_core_kh (s : State) (slot event n : Nat) : (s.countN slot event n).core.kh = s.core.kh := rfl
@[simp] theorem State.countN_core_ward (s : State) (slot event n : Nat) : (s.countN slot event n).core.ward = s.core.ward := rfl
@[simp] theorem State.countN_core_col (s : State) (slot event n : Nat) : (s.countN slot event n).core.col = s.core.col := rfl
@[simp] theorem State.countN_rd (s : State) (slot event n : Nat) (f : Fld) : (s.countN slot event n).rd f = s.rd f := rfl
@[simp] theorem State.draw_core (s : State) : s.draw.2.core = s.core := rfl
@[simp] theorem State.draw_aon (s : State) : s.draw.2.aon = s.aon := rfl
@[simp] theorem State.draw_rd (s : State) (f : Fld) : s.draw.2.rd f = s.rd f := rfl
@[simp] theorem State.draw_draws (s : State) : s.draw.2.draws = s.draws + 1 := rfl

/-- A count: the event's counter goes up modulo 2^64 (R409). -/
theorem State.countN_self (s : State) (slot event n : Nat) :
    SMap.getD (s.countN slot event n).core.cnt (slot * 32 + event) 0 = (SMap.getD s.core.cnt (slot * 32 + event) 0 + n) % 2 ^ 64 := by
  simp [State.countN]

/-- A count leaves the other counters. -/
theorem State.countN_ne (s : State) (slot event n k : Nat) (h : k ≠ slot * 32 + event) :
    SMap.getD (s.countN slot event n).core.cnt k 0 = SMap.getD s.core.cnt k 0 := by
  simp [State.countN, SMap.getD_putD_ne _ _ _ _ _ _ h]

/-- Setting a signal counter (R66). -/
theorem State.sig_setSig_self (s : State) (i v : Nat) : (s.setSig i v).sig i = v := by
  simp [State.sig, State.setSig, State.post, State.emit]

/-- The other signal counters stay. -/
theorem State.sig_setSig_ne (s : State) (i j v : Nat) (h : j ≠ i) : (s.setSig i v).sig j = s.sig j := by
  simp [State.sig, State.setSig, State.post, State.emit, SMap.getD_putD_ne _ _ _ _ _ _ h]

@[simp] theorem State.setSig_rd (s : State) (i v : Nat) (f : Fld) : (s.setSig i v).rd f = s.rd f := rfl

/-! ## The reset wiring -/

/-- The wiring touches the core domain, in OFF, and the outputs alone. -/
theorem wire_eq (s : State) : wire s = { s with core := if s.off then Core.reset else s.core, out := (wire s).out } := by
  unfold wire
  cases h : s.off <;> simp only [Bool.false_eq_true, if_false, if_true] <;> (repeat' split) <;> rfl

/-- Where the ports are served and pwr_iso is 0 the wiring changes nothing. -/
theorem wire_id (s : State) (h : s.idle = false) (hi : s.pins.iso = false) : wire s = s := by
  have ho : s.off = false := by
    simp only [State.idle, Bool.or_eq_false_iff] at h
    exact h.1
  simp [wire, h, hi, ho]

/-- In OFF only the AON domain keeps anything, and only CSR read data leaves the block (R366, R374). -/
theorem wire_off (s : State) (h : s.off = true) : wire s = { s with core := Core.reset, out := s.out.filter Output.isCsr } := by
  have hi : ({ s with core := Core.reset } : State).idle = true := by
    change (s.off || s.seq == 5) = true
    simp [h]
  simp [wire, h, hi]

/-- Outside OFF the wiring touches nothing but the outputs. -/
theorem wire_core (s : State) (h : s.off = false) : (wire s).core = s.core := by
  rw [wire_eq]
  simp [h]

@[simp] theorem wire_aon (s : State) : (wire s).aon = s.aon := by rw [wire_eq]
@[simp] theorem wire_pins (s : State) : (wire s).pins = s.pins := by rw [wire_eq]
@[simp] theorem wire_build (s : State) : (wire s).build = s.build := by rw [wire_eq]
@[simp] theorem wire_draws (s : State) : (wire s).draws = s.draws := by rw [wire_eq]
@[simp] theorem wire_pending (s : State) : (wire s).pending = s.pending := by rw [wire_eq]

/-- Outside OFF every register field reads through the wiring. -/
theorem wire_rd (s : State) (h : s.off = false) (f : Fld) : (wire s).rd f = s.rd f :=
  State.rd_congr _ _ f (wire_build s) (by rw [wire_aon]) (by rw [wire_core s h])

/-- AON fields read through the wiring. -/
theorem wire_rd_aon (s : State) (f : Fld) (h : f.aon = true) : (wire s).rd f = s.rd f := by
  simp [State.rd, State.word, h]

/-- A core-domain command outside OFF is its body under the wiring. -/
theorem coreCmd_on (body : State → State) (s : State) (h : s.off = false) : coreCmd body s = .next (wire (body { s with out := [] })) := by
  have h' : ({ s with out := [] } : State).off = false := h
  simp [coreCmd, aonCmd, h']

/-- A core-domain command in OFF changes nothing that the wiring does not (R374). -/
theorem coreCmd_off (body : State → State) (s : State) (h : s.off = true) : coreCmd body s = .next (wire { s with out := [] }) := by
  have h' : ({ s with out := [] } : State).off = true := h
  simp [coreCmd, aonCmd, h']

/-- A port command where the ports are served is its body under the wiring. -/
theorem portCmd_on (body : State → State) (s : State) (h : s.idle = false) : portCmd body s = .next (wire (body { s with out := [] })) := by
  have h' : ({ s with out := [] } : State).idle = false := h
  simp [portCmd, aonCmd, h']

/-- A port command while the ports stand idle changes nothing that the wiring does not (R368, R374). -/
theorem portCmd_idle (body : State → State) (s : State) (h : s.idle = true) : portCmd body s = .next (wire { s with out := [] }) := by
  have h' : ({ s with out := [] } : State).idle = true := h
  simp [portCmd, aonCmd, h']

end Sys2Proof.Machine
end

