-- ==== Sys2Proof/Tests/Slice0.lean ====
section
/-! SUPPORT. The model's own tests: an ill-formed command for each check, one small state per claim that meets the claim's
hypotheses, and what the command leaves there. -/

namespace Sys2Proof.Tests

set_option Elab.async false

open Sys2Proof.Machine

/-- The state a command leaves. -/
def after (c : Instr) (s : State) : State :=
  match exec c s with
  | .next t => t
  | _ => s

/-- The state with some fields set. -/
def set (fs : List (Fld × Nat)) (s : State) : State := fs.foldl (fun s x => s.wr x.1 x.2) s

/-- Inputs of a block in service: both resets released, clk_core_ok 1. -/
def pinsUp : Pins := ⟨true, true, true, false, false, false, 0, 0, 0⟩

/-- A block whose sequencer is in a state, the start done. -/
def inSeq (st : Nat) : State :=
  set [(R.GLOBAL_START_STATUS_STATE, st)] { State.reset with pins := pinsUp, aon.coldNext := false }

/-- A block in RUN. -/
def run : State := inSeq 4

/-! ## Well-formed commands -/

theorem test_word_short_refused : WellFormed (.frameReceive 0 ⟨.gate [[1, 2]] [], ⟨0, 0, 0⟩⟩) = false := by decide
theorem test_word_whole : WellFormed (.frameReceive 0 ⟨.gate [List.replicate 272 0] [], ⟨0, 0, 159⟩⟩) = true := by decide +kernel
theorem test_crossing_refused :
    WellFormed (.frameSend ⟨0, ⟨0, 0, 160⟩⟩) = false ∧ WellFormed (.frameReceive 8 ⟨.hinge [], ⟨0, 0, 160⟩⟩) = false := by decide
theorem test_key_message_refused :
    WellFormed (.keyLoad ⟨0, [0], 0⟩) = false ∧ WellFormed (.keyArm ⟨0, [], 1⟩) = false ∧ WellFormed (.reject ⟨0, [], 2⟩) = false ∧
    WellFormed (.keyxOut ⟨0, [0, 0], 1⟩) = false := by decide

/-! ## Starts -/

/-- AON reset, with and without core reset released. -/
def inAonReset (core : Bool) : State := { State.reset with pins := { pinsUp with rstAon := false, rstCore := core } }

theorem test_starts_aon :
    (after .aonResetAssert run).seq = 0 ∧ (inAonReset true).pins.rstAon = false ∧ (inAonReset true).pins.rstCore = true ∧
    (inAonReset true).pins.clkOk = true ∧ (after .aonResetDeassert (inAonReset true)).seq = 1 ∧
    (after .aonResetDeassert (inAonReset true)).rd R.GLOBAL_START_STATUS_HOLDING = 1 ∧
    (inAonReset false).pins.rstCore = false ∧ (after .aonResetDeassert (inAonReset false)).seq = 0 := by decide +kernel

/-- OFF, with core reset asserted after a start. -/
def heldCore : State := { inSeq 0 with pins := { pinsUp with rstCore := false } }

theorem test_starts_core :
    heldCore.pins.rstCore = false ∧ heldCore.aonUp = true ∧ heldCore.aon.intReset = none ∧ heldCore.aon.coldNext = false ∧
    heldCore.off = true ∧ heldCore.pins.clkOk = true ∧ (after .coreResetDeassert heldCore).seq = 1 ∧
    (after .coreResetDeassert heldCore).rd R.GLOBAL_START_STATUS_WARM = 1 ∧
    (after .coreResetDeassert heldCore).rd R.GLOBAL_START_STATUS_STARTS = 1 ∧
    run.off = false ∧ (after .coreResetAssert run).seq = 0 ∧ (after .clkCoreOkFall run).seq = 0 := by decide +kernel

/-- OFF, with the clock stopped. -/
def stopped : State := { inSeq 0 with pins := { pinsUp with clkOk := false } }

/-- OFF, in the internal reset. -/
def inInternal : State := { inSeq 0 with aon.intReset := some false }

theorem test_starts_clock_and_restart :
    stopped.pins.clkOk = false ∧ stopped.aonUp = true ∧ stopped.aon.intReset = none ∧ stopped.off = true ∧ stopped.pins.rstCore = true ∧
    (after .clkCoreOkRise stopped).seq = 1 ∧ run.aonUp = true ∧ (after .warmRestart run).seq = 0 ∧
    (after .warmRestart run).aon.intReset = some false ∧ (after .coldRestart run).aon.intReset = some true ∧
    inInternal.aon.intReset.isSome = true ∧ inInternal.off = true ∧ inInternal.pins.rstAon = true ∧ inInternal.pins.rstCore = true ∧
    inInternal.pins.clkOk = true ∧ (after .internalResetEnd inInternal).seq = 1 := by decide +kernel

/-- WAIT_KEYS without the key port. -/
def waitKeys : State := inSeq 2

theorem test_sequencer_go :
    (inSeq 1).aonUp = true ∧ (inSeq 1).seq = 1 ∧ (inSeq 1).pins.rot = false ∧ (inSeq 1).on R.GLOBAL_START_CTL_KEYS_OPTIONAL = false ∧
    (after .go (inSeq 1)).seq = 2 ∧
    (set [(R.GLOBAL_START_CTL_KEYS_OPTIONAL, 1)] (inSeq 1)).on R.GLOBAL_START_CTL_KEYS_OPTIONAL = true ∧
    (set [(R.GLOBAL_START_CTL_KEYS_OPTIONAL, 1)] (inSeq 1)).bistRequired = true ∧
    (after .go (set [(R.GLOBAL_START_CTL_KEYS_OPTIONAL, 1)] (inSeq 1))).seq = 3 ∧
    run.seq = 4 ∧ (after .go run).rd R.GLOBAL_START_STATUS_CMD_ERR = 1 := by decide +kernel

theorem test_sequencer_keys :
    waitKeys.aonUp = true ∧ waitKeys.seq = 2 ∧ waitKeys.on R.GLOBAL_READY_KEYPORT = false ∧ waitKeys.bistRequired = true ∧
    (after (.kpRotReadyChange true) waitKeys).seq = 3 ∧
    (set [(R.GLOBAL_READY_KEYPORT, 1)] run).on R.GLOBAL_READY_KEYPORT = true ∧
    (after (.kpRotReadyChange false) (set [(R.GLOBAL_READY_KEYPORT, 1)] run)).rd R.GLOBAL_READY_KEYPORT = 0 := by decide +kernel

theorem test_sequencer_bist :
    (inSeq 3).seq = 3 ∧ (∀ p : Port, (inSeq 3).on (R.GATE_CTL_ENABLE p.val) = false) ∧ (after (.bistDone 0 0 true) (inSeq 3)).seq = 5 ∧
    (after (.bistDone 0 0 false) (inSeq 3)).seq = 4 ∧
    (after .requestHoldEnd (set [(R.GLOBAL_START_STATUS_HOLDING, 1)] run)).rd R.GLOBAL_START_STATUS_HOLDING = 0 := by decide +kernel

theorem test_pins_and_clock :
    (after (.pwrIsoChange true) run).pins.iso = true ∧ (inAonReset true).pins.rstAon = false ∧
    (after (.tstModeChange true) (inAonReset true)).pins.tst = true ∧ run.pins.rstAon = true ∧
    (after (.tstModeChange true) run).pins.tst = false ∧ (after (.clkMeasure 17600) run).rd R.GLOBAL_CLK_CORE_MHZ = 1760 ∧
    (after (.clkMeasure 17600) run).rd R.GLOBAL_CLK_DRIFT = 1 ∧ (after (.clkMeasure 17550) run).rd R.GLOBAL_CLK_DRIFT = 0 := by decide +kernel

theorem test_off_is_still :
    (inSeq 0).off = true ∧ (inSeq 0).pending = [] ∧ ofAon (.boltPut 0) = false ∧
    (inSeq 5).seq = 5 ∧ ofPort .slotBegin = true := by decide +kernel

/-! ## Registers -/

theorem test_csr_write_types :
    run.off = false ∧ run.aonUp = true ∧ csrOwnRow 0x8 = false ∧ csrOwnRow 0xC = true ∧
    (⟨0, 1, .rws, true⟩ : FieldRow) ∈ csrFields run 0x8 ∧ csrOpen run 0x8 1 = true ∧
    (after (.csrWrite 2 1) run).rd R.GLOBAL_START_CTL_KEYS_OPTIONAL = 1 ∧
    (after (.csrWrite 4 0x10) (set [(R.GLOBAL_START_STATUS_CMD_ERR, 1)] run)).rd R.GLOBAL_START_STATUS_CMD_ERR = 0 ∧
    (after (.csrWrite 4 0x07) run).seq = 4 ∧ (after (.csrWrite 0x40 0x5000) run).rd R.JOURNAL_BASE_LO_BASE = 5 ∧
    (after (.csrWrite 0x40 0x5000) (set [(R.JOURNAL_SIZE_LOG2, 12)] run)).rd R.JOURNAL_BASE_LO_BASE = 0 := by decide +kernel

theorem test_csr_write_off :
    (inSeq 0).off = true ∧ (inSeq 0).aonUp = true ∧ csrOwnRow 0xC0104 = false ∧ csrOpen (inSeq 0) 0xC0104 7 = true ∧
    (after (.csrWrite 0x30041 7) (inSeq 0)).rd (R.TIME_ASYM_CORR 0) = 7 ∧
    (after (.csrWrite 0x30004 7) (inSeq 0)).rd R.TIME_SET_LO_COUNT = 0 := by decide +kernel

theorem test_latching_reads :
    (after .timeNowRead { run with core.time.count := 0x500000003 * 2 ^ 24 }).out = [.csrRead 3] ∧
    (after .timeNowRead { run with core.time.count := 0x500000003 * 2 ^ 24 }).rd R.TIME_NOW_HI_COUNT = 5 ∧
    counterSlot (run.rd R.CNT_SEL_GROUP) (run.rd R.CNT_SEL_INST) = some 0 ∧
    (after .cntValRead (run.countN 0 0 0x700000009)).out = [.csrRead 9] ∧
    (after .cntValRead (run.countN 0 0 0x700000009)).rd R.CNT_VAL_HI_COUNT = 7 ∧
    (inSeq 0).off = true ∧ (after .timeNowRead (inSeq 0)).out = [.csrRead 0] := by decide +kernel

/-- Extents of a fabric of 4 x 4 x 4 packages of two dies. -/
def extents : State := set [(R.ROUTE_EXTENT_EX, 4), (R.ROUTE_EXTENT_EY, 4), (R.ROUTE_EXTENT_EZ, 4), (R.ROUTE_EXTENT_DIES, 2)] run

theorem test_locking_writes :
    run.rd R.JOURNAL_SIZE_LOG2 = 0 ∧ (after (.journalSizeWrite 10) run).rd R.JOURNAL_SIZE_LOG2 = 10 ∧
    (after (.journalSizeWrite 24) run).rd R.JOURNAL_SIZE_LOG2 = 24 ∧ (after (.journalSizeWrite 25) run).rd R.JOURNAL_SIZE_LOG2 = 0 ∧
    (after (.journalSizeWrite 9) run).rd R.JOURNAL_SIZE_LOG2 = 0 ∧
    extents.on R.ROUTE_SELF_VALID = false ∧ (after (.routeSelfWrite 0x80000000) extents).rd R.ROUTE_SELF_VALID = 1 ∧
    (after (.routeSelfWrite 0x80000000) extents).rd R.ROUTE_STATUS_SELF_ERR = 0 ∧
    nodeX 0xFFFFF ≥ extents.extent 0 ∧ (after (.routeSelfWrite 0x800FFFFF) extents).rd R.ROUTE_STATUS_SELF_ERR = 1 ∧
    (set [(R.ROUTE_SELF_VALID, 1)] run).on R.ROUTE_SELF_VALID = true := by decide +kernel

theorem test_chain_validate :
    run.on (R.KNUCKLE_CHAIN_HDR_VALID 1) = false ∧ (after (.chainValidate 1 1) run).rd R.KNUCKLE_STATUS_PROG_ERR = 1 ∧
    (after (.chainValidate 1 3) (set [(R.KNUCKLE_STAGE_CTL_OP 1 0, 1)] run)).rd (R.KNUCKLE_CHAIN_HDR_VALID 1) = 1 ∧
    (after (.chainValidate 1 0x13) run).rd (R.KNUCKLE_CHAIN_HDR_VALID 1) = 0 := by decide +kernel

/-! ## Queues -/

/-- F0 ENABLED, queue 0 a data queue of F0 in a state, rings of 64. -/
def queueIn (st : Nat) : State :=
  set [(R.FUNC_STATUS_STATE 0, 1), (R.QUEUE_SQ_SIZE_LOG2 0, 6), (R.QUEUE_CQ_SIZE_LOG2 0, 6), (R.QUEUE_STATUS_STATE 0, st),
    (R.QUEUE_CTL_ENABLE 0, 1)] run

/-- Queue 0 RUNNING with a descriptor at its head, its completion slot translated. -/
def headed (d : BitVec 1024) : State :=
  (queueIn 1).modQs 0 (fun x => { x with reserved := 1, head := some ⟨d, if dLong d then 2 else 1, 0, 1, false⟩ })

/-- A short descriptor with CQE of an opcode, and fields (byte offset, value). -/
def desc (op : Nat) (fs : List (Nat × Nat)) : BitVec 1024 := BitVec.ofNat 1024 (op + 2 * 256 + (fs.map (fun x => x.2 * 2 ^ (8 * x.1))).sum)

/-- The head `headed` places. -/
def headOf (d : BitVec 1024) : Head := ⟨d, if dLong d then 2 else 1, 0, 1, false⟩

theorem test_doorbells :
    run.running = true ∧ run.qState 0 = 0 ∧ (queueIn 1).qState 0 = 1 ∧ (queueIn 3).qState 0 = 3 ∧
    subMod 32 65 ((queueIn 1).rd (R.QUEUE_SQ_HEAD_COUNT 0)) > 2 ^ (queueIn 1).rd (R.QUEUE_SQ_SIZE_LOG2 0) ∧
    (after (.doorbellSqTail 0 65 15) (queueIn 1)).rd (R.QUEUE_STATUS_DB_OVF 0) = 1 ∧
    (after (.doorbellSqTail 0 65 15) (queueIn 1)).qState 0 = 2 ∧
    (after (.doorbellSqTail 0 64 15) (queueIn 1)).rd (R.QUEUE_SQ_TAIL_COUNT 0) = 64 ∧
    (after (.doorbellCqHead 0 1 15) (queueIn 1)).rd (R.QUEUE_STATUS_DB_OVF 0) = 1 ∧
    (after (.doorbellCqHead 0 0 15) (queueIn 2)).rd (R.QUEUE_CQ_HEAD_COUNT 0) = 0 ∧
    (after (.doorbellSqTail 0 99 15) (queueIn 3)).rd (R.QUEUE_SQ_TAIL_COUNT 0) = 99 ∧
    (after (.doorbellCqHead 0 1 15) (queueIn 3)).rd (R.QUEUE_STATUS_DB_OVF 0) = 1 ∧
    (after (.doorbellCqHead 0 1 15) (queueIn 3)).qState 0 = 3 ∧ (after (.resume 0 1 15) (queueIn 3)).qState 0 = 3 := by decide +kernel

theorem test_resume :
    (after (.resume 0 1 15) (set [(R.QUEUE_STATUS_ERR 0, 1)] (queueIn 2))).qState 0 = 1 ∧
    (after (.resume 0 1 15) (set [(R.QUEUE_STATUS_ERR 0, 1)] (queueIn 2))).rd (R.QUEUE_STATUS_ERR 0) = 0 ∧
    (set [(R.QUEUE_STATUS_DB_OVF 0, 1)] (queueIn 2)).on (R.QUEUE_STATUS_DB_OVF 0) = true ∧
    (after (.resume 0 1 15) (set [(R.QUEUE_STATUS_DB_OVF 0, 1)] (queueIn 2))).qState 0 = 2 ∧
    (after (.resume 0 1 15) (queueIn 1)).qState 0 = 1 ∧ (after (.doorbellSqTail 0 5 7) (queueIn 1)).rd (R.QUEUE_SQ_TAIL_COUNT 0) = 0 ∧
    (after (.resume 0 0 15) (queueIn 2)).qState 0 = 2 := by decide +kernel

theorem test_queue_enable :
    (queueIn 0).qState 0 = 0 ∧ (queueIn 0).funcState 0 = 1 ∧ (after (.queueEnable 0 0x00050001) (queueIn 0)).qState 0 = 1 ∧
    (after (.queueEnable 0 0x00050001) (queueIn 0)).rd (R.QUEUE_CTL_GROUP 0) = 5 ∧ run.funcState 0 ≠ 1 ∧
    (after (.queueEnable 0 1) run).rd (R.QUEUE_STATUS_CFG_ERR 0) = 1 ∧ (after (.queueEnable 0 1) run).qState 0 = 0 := by decide +kernel

theorem test_queue_disable :
    ((headed (desc 0x3F [(8, 7)])).qs 0).head = some (headOf (desc 0x3F [(8, 7)])) ∧
    (after (.queueDisable 0 0) (headed (desc 0x3F [(8, 7)]))).qState 0 = 3 ∧
    ((after (.queueDisable 0 0) (headed (desc 0x3F [(8, 7)]))).qs 0).records.map (fun r => (r.status, r.userTag)) = [(0x12, 7)] ∧
    (queueIn 1).qs 0 = QState.empty ∧ (queueIn 1).core.rq.ops = [] ∧ (after (.queueDisable 0 0) (queueIn 1)).qState 0 = 0 := by decide +kernel

theorem test_nop_fence_wait :
    (headed (desc 0x3F [(8, 7)])).ready 0 0x3F (fun _ => []) = .ok (headOf (desc 0x3F [(8, 7)])) ∧
    (headed (desc 0x3F [(8, 7)])).held 0 (headOf (desc 0x3F [(8, 7)])) [] = false ∧
    ((after (.nop 0) (headed (desc 0x3F [(8, 7)]))).qs 0).records.map (fun r => (r.status, r.userTag)) = [(0, 7)] ∧
    (headed (desc 0x06 [])).ready 0 0x06 (fun _ => []) = .ok (headOf (desc 0x06 [])) ∧
    ((after (.fence 0) (headed (desc 0x06 []))).qs 0).hold = some 0 ∧
    (set [(R.FUNC_SIG_COUNT_COUNT 0, 4)] (headed (desc 0x08 []))).ready 0 0x08 (fun _ => []) = .ok (headOf (desc 0x08 [])) ∧
    ((after (.wait 0) (set [(R.FUNC_SIG_COUNT_COUNT 0, 4)] (headed (desc 0x08 [])))).qs 0).hold = some 0 := by decide +kernel

/-- A NOP behind a hold. -/
def heldNop : State := (headed (desc 0x3F [])).modQs 0 (fun x => { x with hold := some 9 })

/-- A NOP with a NOT_BEFORE that has passed. -/
def nbNop : State := set [(R.TIME_STATUS_SYNCED, 1)] (headed (desc 0x3F [(1, 8)]))

/-- A WAIT for threshold 5 that has issued. -/
def waiting (counters : Nat) : State :=
  after (.wait 0) (set [(R.FUNC_SIG_COUNT_COUNT 0, 4)] (headed (desc 0x08 [(0x18, 5), (0x20, 100)]))) |> set [(R.FUNC_SIG_COUNT_COUNT 0, counters)]

theorem test_holds_and_timeouts :
    heldNop.held 0 (headOf (desc 0x3F [])) [] = true ∧ (heldNop.qs 0).head = some (headOf (desc 0x3F [])) ∧
    heldNop.r50 (heldNop.rd (R.QUEUE_CTL_KIND 0)) (heldNop.qFunc 0) (desc 0x3F []) [] = none ∧
    ((after (.nop 0) heldNop).qs 0).head = some (headOf (desc 0x3F [])) ∧
    dNb (desc 0x3F [(1, 8)]) = true ∧ nbNop.nbReached 0 = true ∧
    ((after (.notBeforeRelease 0) nbNop).qs 0).head = some { headOf (desc 0x3F [(1, 8)]) with nbOk := true } ∧
    ((waiting 4).op? 0).isSome = true ∧ (waiting 4).counterOf 0 0 = some 0 ∧ (waiting 0).counterOf 0 0 = none ∧
    waitOk 0 (dThreshold (desc 0x08 [(0x18, 5), (0x20, 100)])) = false ∧ dTimeout (desc 0x08 [(0x18, 5), (0x20, 100)]) ≠ 0 ∧
    (after (.waitTimeout 0) (waiting 4)).rd (R.QUEUE_STATUS_WAIT_TO 0) = 1 ∧
    ((after (.waitTimeout 0) (waiting 4)).qs 0).records.map (·.status) = [0x02] ∧
    (after (.waitTimeout 0) (waiting 0)).qState 0 = 2 := by decide +kernel

/-! ## The requester -/

/-- Node 0 of a fabric of 4 x 4 x 4 packages of two dies. -/
def placed (s : State) : State :=
  set [(R.ROUTE_EXTENT_EX, 4), (R.ROUTE_EXTENT_EY, 4), (R.ROUTE_EXTENT_EZ, 4), (R.ROUTE_EXTENT_DIES, 2), (R.ROUTE_SELF_VALID, 1)]
    { s with core.time.khz := 1750000 }

/-- A transfer of 64 bytes between the block's own node and memory. -/
def xfer (op : Nat) : BitVec 1024 := desc op [(8, 7), (0x30, 64)]

/-- Queue 0 of the placed block with a descriptor at its head. -/
def issuing (d : BitVec 1024) : State := placed (headed d)

theorem test_transfers_issue :
    (∀ x ∈ [(Instr.put 0, 0x01), (.get 0, 0x02), (.copy 0, 0x03), (.latchPut 0, 0x05)],
      (issuing (xfer x.2)).ready 0 x.2 (fun _ => []) = .ok (headOf (xfer x.2)) ∧
      (after x.1 (issuing (xfer x.2))).core.work = [.fetch 0, .cut 0] ∧
      ((after x.1 (issuing (xfer x.2))).op? 0).map (·.desc) = some (xfer x.2) ∧
      (after x.1 (issuing (xfer x.2))).rd (R.QUEUE_SQ_HEAD_COUNT 0) = 1) ∧
    (issuing (xfer 1)).held 0 (headOf (xfer 1)) (putRanges (xfer 1)) = false ∧
    (issuing (xfer 1)).issueRoute 0 [ptrNode (dDstPtr (xfer 1))] = none ∧ dLength (xfer 1) ≠ 0 ∧
    (issuing (desc 4 [])).ready 0 0x04 (fun _ => []) = .ok (headOf (desc 4 [])) ∧
    ((after (.atomic 0) (issuing (desc 4 []))).op? 0).isSome = true := by decide +kernel

theorem test_transfers_end_at_issue :
    (issuing (desc 1 [(0x34, 7)])).ready 0 0x01 (fun _ => []) = .fails (headOf (desc 1 [(0x34, 7)])) 1 ∧
    ((after (.put 0) (issuing (desc 1 [(0x34, 7)]))).qs 0).records.map (fun r => (r.status, r.detail)) = [(5, 1)] ∧
    (issuing (desc 2 [])).ready 0 0x02 (fun _ => []) = .ok (headOf (desc 2 [])) ∧
    ((after (.get 0) (issuing (desc 2 []))).qs 0).records.map (·.status) = [0] ∧
    (headed (xfer 3)).issueRoute 0 [0, 0] = some 0x024 ∧ (headed (xfer 3)).ready 0 0x03 (fun _ => []) = .ok (headOf (xfer 3)) ∧
    ((after (.copy 0) (headed (xfer 3))).qs 0).records.map (fun r => (r.status, r.detail)) = [(0x11, 0x2024)] := by decide +kernel

/-- A SIGNAL behind a PUT that has issued. -/
def signalling : State :=
  (after (.put 0) (issuing (xfer 1))).modQs 0 (fun x => { x with reserved := 2, head := some (headOf (desc 7 [(0x1C, 4)])) })

/-- The SIGNAL's writes are over, with or without a failure. -/
def signalDue (failed : Bool) : State :=
  after (.signal 0) (issuing (desc 7 [])) |> fun s => match s.op? 0 with
    | some o => s.setOp 0 { o with failedCover := failed }
    | none => s

theorem test_signal :
    signalling.ready 0 0x07 (fun _ => []) = .ok (headOf (desc 7 [(0x1C, 4)])) ∧ signalling.held 0 (headOf (desc 7 [(0x1C, 4)])) [] = false ∧
    signalling.issueRoute 0 [0] = none ∧ ((after (.signal 0) signalling).op? 1).map (·.waitsFor) = some [0] ∧
    ((signalDue true).op? 0).map (·.failedCover) = some true ∧
    ((after (.signalSend 0) (signalDue true)).qs 0).records.map (·.status) = [0x12] ∧
    ((signalDue false).op? 0).map (·.failedCover) = some false ∧ (signalDue false).allocTag 0 0 = some 0 ∧
    (signalDue false).tdmPair 0 0 = none ∧ (signalDue false).rateEntry 0 0 = none ∧ (signalDue false).injOk 0 1 = true ∧
    ((after (.signalSend 0) (signalDue false)).req? 0).map (fun r => (r.kind, r.state)) = some (.signal, .sent) := by decide +kernel

/-- A request of an operation under tag 0. -/
def asking (kind : ReqKind) (st : ReqState) (d : BitVec 1024) : State :=
  let s := issuing d
  let (id, s) := s.issue 0 (headOf d) []
  match s.op? id with
  | some o => (s.setOp id { o with pkts := 1, open_ := 1, cutDone := true }).setReq 0 { newReq kind st id o 64 0 with tout := 1000 }
  | none => s

theorem test_requests_leave :
    ((asking .write .ready (xfer 1)).nextReady 0).isSome = true ∧ (asking .write .ready (xfer 1)).fatal = false ∧
    (asking .write .ready (xfer 1)).rateOk 0 0 2 = true ∧ (asking .write .ready (xfer 1)).injOk 0 2 = true ∧
    ((after (.reqPacketSend 0) (asking .write .ready (xfer 1))).req? 0).map (·.state) = some .sent ∧
    (set [(R.GLOBAL_START_STATUS_HOLDING, 1)] run).on R.GLOBAL_START_STATUS_HOLDING = true ∧
    ((asking .latch .held (xfer 5)).nextHeld 0).isSome = true ∧ (asking .write .ready (xfer 1)).strictTo 0 0 = false ∧
    ((after (.latchResend 0) (asking .latch .held (xfer 5))).req? 0).map (·.state) = some .sent := by decide +kernel

/-- The request's function has an ACTIVE TDM pair to its node. -/
def pairing : State :=
  (asking .write .ready (xfer 1)).setCircuit 0 { newCircuit 0 1 0 0 0 10 0 0 0 0 0 0 1 0 0 0 false with state := 2 }

/-- The request of a strict function goes to node 8, outside the package. -/
def cutting : State :=
  let s := set [(R.FUNC_CTL_STRICT 0, 1)] (asking .write .ready (xfer 1))
  match s.req? 0 with
  | some r => s.setReq 0 { r with node := 8 }
  | none => s

theorem test_requests_of_pairs :
    (pairing.nextReady 0).isSome = true ∧ (pairing.tdmPair 0 0).map (·.1) = some 0 ∧
    ((after (.reqPacketSend 0) pairing).circuit? 0).map (fun c => (c.pending_, c.tdm.map (fun o => (o.pkt.tdm, o.pkt.circuit)))) =
      some (1, [(true, 0)]) ∧
    (cutting.nextReady 0).isSome = true ∧ cutting.strictCut 0 8 = true ∧ (after (.reqPacketSend 0) cutting).req? 0 = none ∧
    ((after (.reqPacketSend 0) cutting).op? 0).map (fun o => o.firstFail.map (fun x => (x.1, x.2.1, x.2.2.1))) = some (some (0, 0x11, 0x2025)) := by
  decide +kernel
/-- The state with a packet for the local units. -/
def withIn (p : Packet) (s : State) : State := s.deliver ⟨10, 0, p⟩

/-- A response of a type to tag 0 with a status and fields. -/
def rsp (type status : Nat) (fs : List (Nat × Nat × Nat)) : Packet := mkPacket 3 type 0 0 0 0 0 (hf 0x10 0 8 status :: fs) []

theorem test_responses :
    ((asking .write .sent (xfer 1)).req? 0).map (·.state) = some .sent ∧ ((asking .write .sent (xfer 1)).op? 0).isSome = true ∧
    (after .ackReceive (withIn (rsp 0 0 []) (asking .write .sent (xfer 1)))).req? 0 = none ∧
    ((after .ackReceive (withIn (rsp 0 0 []) (asking .write .sent (xfer 1)))).op? 0).map (fun o => (o.open_, o.bytes)) = some (0, 64) ∧
    ((after .ackReceive (withIn (rsp 0 4 []) (asking .signal .sent (desc 7 [])))).op? 0).map (fun o => o.firstFail.map (·.2.1)) =
      some (some 4) ∧
    ((after .dataReceive (withIn (rsp 1 0 []) (asking .read .sent (xfer 2)))).req? 0).map (·.state) = some .landing ∧
    ((after .dataReceive (withIn (rsp 1 0 []) (asking .copyRead .sent (xfer 3)))).req? 0).map (·.kind) = some .copyWrite ∧
    ((after .atomicRspReceive (withIn (rsp 2 0 [hf 0x20 0 64 9]) (asking .atomic .sent (desc 4 [])))).op? 0).map (·.result) = some 9 ∧
    ((after .noTrackReceive (withIn (rsp 4 0 []) (asking .latch .sent (xfer 5)))).req? 0).map (·.state) = some .held := by decide +kernel

theorem test_late_response :
    ((asking .write .quarantine (xfer 1)).req? 0).map (·.state) = some .quarantine ∧
    (after .ackReceive (withIn (rsp 0 0 []) (asking .write .quarantine (xfer 1)))).core.resp.inbox = [] ∧
    SMap.getD (after .ackReceive (withIn (rsp 0 0 []) (asking .write .quarantine (xfer 1)))).core.cnt (blockSlot * 32 + 8) 0 = 1 := by
  decide +kernel

/-- A queue that allows retries, a Ward image UP, and work items. -/
def firmware (items : List WorkItem) (s : State) : State :=
  { set [(R.QUEUE_CTL_RETRY_OK 0, 1), (R.WARD_STATUS_STATE, 2)] s with core.ward.items := items }

theorem test_timeouts :
    ((after (.requestTimeout 0) (asking .write .sent (xfer 1))).req? 0).map (·.state) = some .quarantine ∧
    ((after (.requestTimeout 0) (asking .write .sent (xfer 1))).op? 0).map (fun o => o.firstFail.map (·.2.1)) = some (some 2) ∧
    (firmware [] (asking .write .sent (xfer 1))).mayRetry (newReq .write .sent 0 ⟨0, 0, 0, 0, 1, ⟨0, 0, 0, 0⟩, 0, 0, false, false, none, none,
      0, false, 0, false, 0, 0, none, [], false, false, 0, none⟩ 64 0) = true ∧
    (after (.requestTimeout 0) (firmware [] (asking .write .sent (xfer 1)))).core.ward.items = [.retry 0] ∧
    (after (.atomicTimeout 0) { asking .atomic .sent (desc 4 []) with core.time.count := 1024 * 2 ^ 24 }).core.ward.items = [.atomic 0] ∧
    (asking .atomic .sent (desc 4 [])).now < 1024 ∧ (after (.atomicTimeout 0) (asking .atomic .sent (desc 4 []))).core.ward.items = [] ∧
    (after (.tagQuarantineEnd 0) (asking .write .quarantine (xfer 1))).req? 0 = none := by decide +kernel

/-- A journal query under tag 1 for the atomic of tag 0. -/
def querying : State :=
  let s := asking .atomic .firmware (desc 4 [])
  match s.req? 0 with
  | some r => s.setReq 1 { r with kind := .jquery, state := .sent, pkt := 0 }
  | none => s

theorem test_firmware :
    (after .workItemPost { run with core.ward.waiting := [.service] }).core.ward.items = [.service] ∧
    (firmware [.retry 0] (asking .write .firmware (xfer 1))).itemDue (.retry 0) = true ∧
    (firmware [.retry 0] (asking .write .firmware (xfer 1))).allocTag 0 0 = some 1 ∧
    ((after (.retryReissue 0) (firmware [.retry 0] (asking .write .firmware (xfer 1)))).req? 1).map (fun r => (r.state, r.tries)) =
      some (.prep, 1) ∧
    (firmware [.atomic 0] (asking .atomic .firmware (desc 4 []))).itemDue (.atomic 0) = true ∧
    ((after (.journalQuerySend 0) (firmware [.atomic 0] (asking .atomic .firmware (desc 4 [])))).req? 1).map (·.kind) = some .jquery ∧
    (querying.req? 1).map (fun r => (r.kind, r.pkt)) = some (.jquery, 0) ∧
    ((after .janswerReceive (withIn ((rsp 3 0 [hf 0x20 0 64 9]).set 0x0C 0 18 1) querying)).op? 0).map (·.result) = some 9 ∧
    (after .janswerReceive (withIn ((rsp 3 0 [hf 0x20 0 64 9]).set 0x0C 0 18 1) querying)).req? 1 = none := by decide +kernel

/-! ## Router -/

/-- Gate 0 READY with credits of every class, and a packet of a class and type queued for it. -/
def sending (c t : Nat) : State :=
  let s := (set [(R.GATE_STATUS_STATE 0, 6)] run).setFlow 0 { Flow.empty with pSize := [(0, 64), (1, 64), (2, 64), (3, 64), (4, 64)] }
  { s with core.router.queued := [⟨10, 0, true, 0, none, none, mkPacket c t 1 0 0 0 0 [] [], 0⟩] }

theorem test_ports_send :
    ((sending 0 2).pickClass 0 0 (fun o => o.pkt.type == 2)).isSome = true ∧
    (after (.packetSend 0) (sending 0 2)).core.router.queued = [] ∧ ((after (.packetSend 0) (sending 0 2)).link 0).tx.length = 1 ∧
    (sending 1 6).pickClass 0 0 (fun o => o.pkt.type == 2) = none ∧ (sending 1 6).pickClass 0 0 (fun o => o.pkt.type != 2) = none ∧
    ((sending 1 6).drr 0 6 0 0 []).isSome = true ∧ ((sending 0 3).pickClass 0 0 (fun o => o.pkt.type != 2)).isSome = true ∧
    ((sending 0 3).flow 0).ctlSent.length + 1 ≤ (sending 0 3).ctlCap 0 ∧
    ((after (.packetSend 0) (sending 0 3)).link 0).tx.length = 1 ∧ (after (.packetSend 0) (sending 1 6)).core.router.queued = [] ∧
    SMap.getD ((after (.packetSend 0) (sending 1 6)).flow 0).txc 1 0 = 1 ∧ (sending 1 6).portReady 0 = true ∧
    ((after (.lcfSend 0) (sending 1 6)).link 0).tx.map (·.kind) = [2] ∧ ((sending 1 6).flow 0).guard = [] ∧
    ((after (.ringEntryGuard 0 1) (sending 1 6)).flow 0).guard = [1] ∧
    (after (.ringEntryGuard 0 1) (sending 1 6)).rd (R.ROUTE_TELEM_GUARD_COUNT 0) = 1 := by decide +kernel

/-- The block in a route state. -/
def routing (st : Nat) : State := set [(R.ROUTE_STATUS_STATE, st), (R.ROUTE_FLIP_Z_FLIP, 5)] run

theorem test_route_commands :
    (after .routeHold (routing 0)).rd R.ROUTE_STATUS_STATE = 1 ∧ (after .routeHold (routing 2)).rd R.ROUTE_STATUS_CMD_ERR = 1 ∧
    (after .routeDrainDone (routing 1)).rd R.ROUTE_STATUS_STATE = 2 ∧ (after .routeRelease (routing 2)).rd R.ROUTE_STATUS_STATE = 0 ∧
    (after .routeCommit (routing 1)).rd R.ROUTE_STATUS_CMD_ERR = 1 ∧ (after .routeCommit (routing 2)).rd R.ROUTE_STATUS_EPOCH = 1 ∧
    (after .routeCommit (routing 2)).core.router.active.flipZ = 5 ∧
    (after .clearPeaks (set [(R.ROUTE_TELEM_PEAK_FLITS 3, 9)] run)).rd (R.ROUTE_TELEM_PEAK_FLITS 3) = 0 := by decide +kernel

/-- A rate entry of function 0 for node 1. -/
def rated (rate : Nat) : State := { set [(R.RATE_CURVE_INCR, 24)] run with core.rq.rates := [⟨0, 1, rate, 0, none⟩] }

theorem test_announce_and_rates :
    ((after .announceArrival (withIn (mkPacket 0 6 0 0 0 0 0 [] []) run)).flow 10).ann.isSome = true ∧
    (after (.rateRecovery 0 1) (rated 100)).core.rq.rates.map (·.rate) = [124] ∧
    (after (.rateRecovery 0 1) (rated 1000)).core.rq.rates = [] := by decide +kernel

/-! ## Memory side, windows, translation, engine signal port -/

/-- A block with one access of 64 bytes out under read tag 0 or write tag 0 of MSP 0. -/
def accessing (acc : Acc) : State :=
  let s : State := { run with core.mem.rqCredit := [(0, 1)], core.mem.wqCredit := [(0, 1)], core.mem.wdCredit := [(0, 2)] }
  let s := s.physJob 0 0 64 0 acc (if acc = .write then List.replicate 64 1 else []) 5 .errRecord
  s.jobStep 0

/-- The same, for a purpose whose failure is logged. -/
def accessingPlain : State :=
  let s : State := { run with core.mem.rqCredit := [(0, 1)] }
  (s.physJob 0 0 64 0 .read [] 5 .wardImage).jobStep 0

theorem test_memory_answers :
    (SMap.get? (accessing .read).core.mem.reads 0).map (fun r => (r.owner, r.bad)) = some (.job 0, false) ∧
    (SMap.get? (accessing .read).core.jobs 0).map (·.acc) = some .read ∧
    (SMap.get? (after (.mspReadReturn 0 0 7 false false) (accessing .read)).core.mem.reads 0).map (·.got.length) = some 128 ∧
    (after (.mspReadReturn 0 0 7 true false) (accessing .read)).core.work =
      [.job 0, .done .errRecord ⟨none, 7 :: List.replicate 63 0, 0, 0, 64, 0⟩, .func 0] ∧
    (after (.mspReadReturn 0 0 7 true true) accessingPlain).core.work =
      [.job 0, .done .wardImage ⟨some (.msp 0), [], 0, 0, 0, 0⟩, .func 0] ∧
    (after (.mspReadReturn 0 0 7 true true) accessingPlain).core.err.merging.map (·.cls) = [4] ∧
    (SMap.get? (accessing .write).core.mem.writes 0).isSome = true ∧
    (after (.mspWriteAck 0 0 false) (accessing .write)).core.jobs = [] := by decide +kernel

/-- A read waits for a credit. -/
def noCredit : State := (run.physJob 0 0 64 0 .read [] 5 .wardImage).jobStep 0

theorem test_credits :
    run.core.mem.waiting = [] ∧ (0 : MspId).val < run.build.msps ∧
    (after (.mspCreditReturn 0 .writeData) run).core.mem.wdCredit = [(0, 1)] ∧
    SMap.getD (after (.mspCreditReturn 3 .readRequest) { run with core.mem.rqCredit := [(3, 4095)] }).core.mem.rqCredit 3 0 = 4095 ∧
    noCredit.core.mem.waiting.length = 1 ∧ (mspChoose 0 false { noCredit.core.mem with rqCredit := [(0, 1)] }).isSome = true ∧
    (after (.mspCreditReturn 0 .readRequest) noCredit).out = [.mspRead 0 0 0 0 0 0 5] := by decide +kernel

/-- An OPEN of 4096 bytes with read and write, from a function with a quota. -/
def opening (quota : Nat) (d : BitVec 1024) : State := set [(R.WINDOW_QUOTA_MAX 0, quota)] (issuing d)

/-- The OPEN's descriptor. -/
def openDesc : BitVec 1024 := desc 0x31 [(0x20, 4096), (0x26, 3)]

theorem test_windows_open :
    (opening 4 openDesc).readyWin 0 0 = .ok (headOf openDesc) ∧ (opening 4 openDesc).openRefusal 0 openDesc = none ∧
    (opening 4 openDesc).held 0 (headOf openDesc) [] = false ∧ dCqe openDesc = true ∧
    ((after (.windowOpen 0) (opening 4 openDesc)).win 0).state = .opened ∧
    ((after (.windowOpen 0) (opening 4 openDesc)).win 0).gen = 1 ∧
    ((after (.windowOpen 0) (opening 4 openDesc)).qs 0).records.map (·.status) = [0] ∧
    (opening 0 openDesc).openRefusal 0 openDesc = some 0x031 ∧
    ((after (.windowOpen 0) (opening 0 openDesc)).qs 0).records.map (fun r => (r.status, r.detail)) = [(5, 0x3031)] := by decide +kernel

/-- A manager queue of F0 with a window in a state, held by function `f`. -/
def windowed (st : WinState) (f : Nat) (d : BitVec 1024) : State :=
  (set [(R.QUEUE_CTL_KIND 0, 2)] (issuing d)).setWin 3 { Window.empty with state := st, func := f, gen := 1, size := 64, perm := 3 }

/-- A WINDOW_OP on window 3, aliased to node 0. -/
def winOp (sub : Nat) : BitVec 1024 := desc 0x31 [(0x10, sub), (0x12, 3), (0x28, if sub = 2 then 2 ^ 52 else 0)]

theorem test_windows_close_and_alias :
    (windowed .opened 0 (winOp 1)).readyWin 0 1 = .ok (headOf (winOp 1)) ∧ (windowed .opened 0 (winOp 1)).qFunc 0 = 0 ∧
    ((after (.windowClose 0) (windowed .opened 0 (winOp 1))).win 3).state = .closing ∧
    (after (.windowClose 0) (windowed .opened 0 (winOp 1))).core.work.contains (.window 3) = true ∧
    (set [(R.QUEUE_CTL_FUNC 0, 1), (R.FUNC_STATUS_STATE 1, 1)] (windowed .opened 0 (winOp 1))).qFunc 0 = 1 ∧
    (set [(R.QUEUE_CTL_KIND 0, 0), (R.QUEUE_CTL_FUNC 0, 1)] (windowed .opened 0 (winOp 1))).readyWin 0 1 = .ok (headOf (winOp 1)) ∧
    ((after (.windowClose 0) (set [(R.QUEUE_CTL_KIND 0, 0), (R.QUEUE_CTL_FUNC 0, 1)] (windowed .opened 0 (winOp 1)))).qs 0).records.map
      (fun r => (r.status, r.detail)) = [(5, 0x3030)] ∧
    ((after (.windowClose 0) (windowed .free 0 (winOp 1))).qs 0).records.map (fun r => (r.status, r.detail)) = [(3, 0x3032)] ∧
    (windowed .opened 0 (winOp 2)).readyWin 0 2 = .ok (headOf (winOp 2)) ∧
    (windowed .opened 0 (winOp 2)).aliasRefusal 0 ((windowed .opened 0 (winOp 2)).win 3) (dAliasTo (winOp 2)) = none ∧
    ((after (.windowAlias 0) (windowed .opened 0 (winOp 2))).win 3).state = .aliased ∧
    (windowed .opened 1 (winOp 2)).aliasRefusal 0 ((windowed .opened 1 (winOp 2)).win 3) (dAliasTo (winOp 2)) = some (5, 0x030) ∧
    ((after (.windowAlias 0) (windowed .opened 1 (winOp 2))).qs 0).records.map (·.status) = [5] ∧
    (after (.windowQuarantineEnd 3) (windowed .quarantine 0 0)).core.win.freed = [3] := by decide +kernel

/-- An XLATE_INV of an extent, with cached leaves of functions 0 and 1. -/
def invalidating (ext : Nat) (inv : List Inval) : State :=
  { set [(R.QUEUE_CTL_KIND 0, 2)] (issuing (desc 0x32 [(0x1F, ext), (0x1A, if ext = 0 then 1 else 0)])) with core.xl.leaves := [⟨0, 12, 0, 5, true, true, 0⟩, ⟨1, 12, 0, 6, true, true, 0⟩], core.xl.walks := [(9, ⟨0, 7, 0, 0, false, false, []⟩)], core.xl.invals := inv }

theorem test_xlate_inv :
    (∀ e ∈ [0, 1, 2], (invalidating e []).ready 0 0x32 (fun _ => []) =
      .ok (headOf (desc 0x32 [(0x1F, e), (0x1A, if e = 0 then 1 else 0)]))) ∧
    (after (.xlateInv 0) (invalidating 1 [])).core.xl.leaves.map (·.func) = [1] ∧
    (after (.xlateInv 0) (invalidating 1 [])).core.xl.walks.map (·.2.stale) = [true] ∧
    (after (.xlateInv 0) (invalidating 0 [])).core.xl.leaves.map (·.func) = [1] ∧
    (after (.xlateInv 0) (invalidating 2 [])).core.xl.invals.map (·.op) = [0] ∧
    (after (.xlateInv 0) (invalidating 1 (List.replicate 8 ⟨0, [], [], [], []⟩))).core.xl.invals.length = 8 := by decide +kernel

theorem test_engine_signals :
    (after (.esRead 5 9) (run.setSig 5 77)).out = [.esRsp 9 77] ∧ (after (.esWrite 5 1 9) run).sig 5 = 1 ∧
    (after (.esAdd 5 (BitVec.ofNat 64 (2 ^ 63 + 3)) 9) (run.setSig 5 (2 ^ 63 + 2))).sig 5 = 2 ^ 63 + 5 := by decide +kernel

/-! ## The responder, the atomic unit and its journal -/

/-- The placed block with F0 ENABLED, an open window 3 of F0, and a packet for the local units. -/
def serving (perm : Nat) (p : Packet) : State :=
  withIn p ((placed (queueIn 1)).setWin 3 { Window.empty with state := .opened, gen := 1, size := 4096, base := 8192, perm := perm })

/-- A request of a type, generation 1 or another, at window 3, from the block's own node. -/
def reqTo (t gen : Nat) (fs : List (Nat × Nat × Nat)) (data : Bytes) : Packet :=
  mkPacket 1 t 0 0 0 5 64 (hf 0x10 52 8 gen :: hf 0x10 60 16 3 :: fs) data

theorem test_requests_are_checked :
    (∀ x ∈ [(Instr.writeArrival, 0), (.readArrival, 1), (.atomicArrival, 2), (.latchArrival, 3)],
      (match (serving 7 (reqTo x.2 1 [hf 0x1E 4 4 1] [])).lookupReq (reqTo x.2 1 [hf 0x1E 4 4 1] []) with
        | .ok w => w.base
        | _ => 0) = 8192 ∧
      (SMap.get? (after x.1 (serving 7 (reqTo x.2 1 [hf 0x1E 4 4 1] []))).core.jobs 1).map (·.va) = some 8192 ∧
      (serving 7 (reqTo x.2 2 [] [])).lookupReq (reqTo x.2 2 [] []) = .fails 0x04 0x012 (some 0) ∧
      (after x.1 (serving 7 (reqTo x.2 2 [] []))).core.resp.inbox.map (fun i => (i.pkt.cls, i.pkt.tag, i.pkt.rspStatus, i.pkt.rspDetail)) =
        [(3, 5, 0x04, 0x3012)]) ∧
    (serving 7 (reqTo 0 2 [] [])).routeOf 10 0 = .deliver ∧ (reqTo 0 2 [] []).tdm = false := by decide +kernel

/-- Window 3 aliased to generation 1 of window 5 of node 1, and gate 8 routable. -/
def atAlias (p : Packet) : State :=
  withIn p (((set [(R.GATE_STATUS_STATE 8, 6)] (placed (queueIn 1))).modFlow 8 (fun f => { f with ann := some true })).setWin 3
    { Window.empty with state := .aliased, gen := 1, size := 4096, aliasTo := 2 ^ 76 + 5 * 2 ^ 60 + 2 ^ 52, perm := 7 })

theorem test_alias_forwards :
    (match (atAlias (reqTo 0 1 [] [])).lookupReq (reqTo 0 1 [] []) with
      | .alias_ w => w.aliasTo
      | _ => 0) = 2 ^ 76 + 5 * 2 ^ 60 + 2 ^ 52 ∧
    (atAlias (reqTo 0 1 [] [])).routeOf 10 1 = .out 8 true ∧
    (after .writeArrival (atAlias (reqTo 0 1 [] []))).core.router.queued.map (fun o => (o.pkt.cls, ptrWindow o.pkt.ptr)) = [(2, 5)] ∧
    (after .latchArrival (atAlias (reqTo 3 1 [] []))).core.resp.inbox.map (fun i => i.pkt.rspDetail) = [0x3021] := by decide +kernel

theorem test_fatal_refuses :
    (set [(R.ERRLOG_STATUS_FATAL, 1)] (serving 7 (reqTo 0 1 [] []))).fatal = true ∧
    (after .writeArrival (set [(R.ERRLOG_STATUS_FATAL, 1)] (serving 7 (reqTo 0 1 [] [])))).core.resp.inbox.map (fun i => i.pkt.rspStatus) =
      [0x12] := by decide +kernel

theorem test_signal_arrives :
    (match (serving 8 (reqTo 4 1 [hf 0x10 0 48 16, hf 0x38 0 64 9] [])).lookupReq (reqTo 4 1 [hf 0x10 0 48 16, hf 0x38 0 64 9] []) with
      | .ok w => w.base
      | _ => 0) = 8192 ∧
    (after .signalArrival (serving 8 (reqTo 4 1 [hf 0x10 0 48 16, hf 0x38 0 64 9] []))).sig 1026 = 9 := by decide +kernel

/-- A WINDOW-3 write of a Nyesh block, well formed or of reserved version, with a given number of blocks held. -/
def nyBlock (ok : Bool) : Packet :=
  let h := nyHeader 0 0 16 16 16 0 0
  reqTo 5 1 [hf 0x30 0 128 (if ok then h else h + 2 ^ 90)] (List.replicate 16 3)

theorem test_nyesh_checked :
    (serving 7 (nyBlock true)).tumblerHeld ((serving 7 (nyBlock true)).tumblerOf 10 0) < 32 ∧
    nyChecks (nyBlock true).nyhdr (nyBlock true).payload (nyBlock true).crcMode true none = none ∧
    ((after .nyeshArrival (serving 7 (nyBlock true))).arr? 0).map (·.phase) = some .check ∧
    nyChecks (nyBlock false).nyhdr (nyBlock false).payload (nyBlock false).crcMode true none = some (8, 0x050) ∧
    (after .nyeshArrival (serving 7 (nyBlock false))).core.resp.inbox.map (fun i => (i.pkt.rspStatus, i.pkt.rspDetail)) = [(8, 0x5050)] := by
  decide +kernel

/-- A journal entry of a time, in a journal of 1,024. -/
def journaled (time : Nat) : State :=
  { set [(R.JOURNAL_SIZE_LOG2, 10), (R.TIME_STATUS_SYNCED, 1)] (serving 7 (mkPacket 1 6 0 0 0 5 0 [hf 0x30 0 64 77, hf 0x29 0 20 1, hf 0x24 0 40 0x100000] [])) with core.resp.journal := [⟨77, time, 1, 9⟩], core.resp.cover := some 0, core.time.count := 2 ^ 28 * 2 ^ 24 }

theorem test_latches_and_journal :
    ({ run with core.resp.holds := [(2, ⟨0, 0, 0, reqTo 3 1 [] []⟩)] } : State).pastDeadline 0 = true ∧
    (after (.latchDeadline 2) { run with core.resp.holds := [(2, ⟨0, 0, 0, reqTo 3 1 [] []⟩)] }).core.resp.holds = [] ∧
    run.pastDeadline 5 = false ∧
    (after .journalReclaim (journaled 0)).core.resp.journal = [] ∧ (after .journalReclaim (journaled 0)).core.resp.cover = some 256 ∧
    (after .journalReclaim (journaled (2 ^ 30))).core.resp.journal.length = 1 ∧
    (SMap.get? (after .jqueryArrival (journaled 0x100000)).core.jobs 1).map (·.len) = some 32 ∧
    (after .jqueryArrival (journaled 0)).core.resp.inbox.map (fun i => i.pkt.fld 0x13 0 2) = [1] ∧
    (after .jqueryArrival { journaled 0 with core.resp.cover := none }).core.resp.inbox.map (fun i => i.pkt.fld 0x13 0 2) = [2] := by
  decide +kernel

theorem test_local_atomics :
    (after (.laAtomic ⟨16, 15, 0, 1, 0, 0, 4⟩) run).out = [.laRsp 4 0 2 0] ∧ (after (.laAtomic ⟨17, 0, 1, 1, 0, 0, 4⟩) run).out = [.laRsp 4 0 3 0] ∧
    ((after (.laAtomic ⟨16, 0, 1, 1, 0, 0, 4⟩) run).arr? 0).map (·.phase) = some .granule ∧
    (after (.laAtomic ⟨16, 0, 1, 1, 0, 0, 4⟩) run).core.mem.locks = [(1, 1)] := by decide +kernel

/-- A TABLE_LOAD at the head of a manager queue. -/
def loading (n : Nat) : State := set [(R.QUEUE_CTL_KIND 0, 2)] (issuing (desc 0x30 [(0x18, n)]))

/-- A load whose image has been read. -/
def loaded (img : Bytes) : State :=
  let s := after (.tableLoad 0) (loading 32)
  s.tableRead 0 ⟨none, img, 0, 0, 32, 0⟩

theorem test_code_tables :
    (loading 32).ready 0 0x30 (fun _ => []) = .ok (headOf (desc 0x30 [(0x18, 32)])) ∧ (loading 32).tableRefusal (desc 0x30 [(0x18, 32)]) = none ∧
    (after (.tableLoad 0) (loading 32)).tblState 0 0 = 1 ∧ (loading 0).tableRefusal (desc 0x30 []) = some 0x05C ∧
    ((after (.tableLoad 0) (loading 0)).qs 0).records.map (fun r => (r.status, r.detail)) = [(5, 0x505C)] ∧
    (set [(R.TUMBLER_TBL_STATE_A 0, 2)] (loading 0)).tableRefusal (desc 0x30 []) = none ∧
    (after (.tableLoad 0) (set [(R.TUMBLER_TBL_STATE_A 0, 2)] (loading 0))).tblState 0 0 = 0 ∧
    (after .tableLoadReadDone (loaded (List.replicate 32 0))).tblState 0 0 = 0 ∧
    (after .tableLoadReadDone (loaded (List.replicate 32 0))).core.tables.loads = [] := by decide +kernel

/-! ## Gates and hinge ports, session keys -/

/-- Gate 0 in a state with 9 lanes locked, its rate acknowledged, and a link state. -/
def gateIn (st : Nat) (l : Link) : State :=
  (set [(R.GATE_STATUS_STATE 0, st), (R.GATE_CTL_ENABLE 0, 1)] { run with pins := { pinsUp with lock := 511, rateAck := 1 } }).setLink 0
    { l with rateAck := true }

/-- A hinge port READY. -/
def hingeReady (l : Link) : State := (set [(R.GATE_STATUS_STATE 8, 6)] run).setLink 8 l

/-- A frame sent at a cycle's start. -/
def cross : Crossing := ⟨0, 0, 0⟩

/-- Hinge port 8 READY under the key of phase 0. -/
def hingeKeyed (l : Link) : State := set [(R.SECURITY_TX_CUR_VALID 8, 1)] (hingeReady { l with txKeys := [(0, ⟨5, 7⟩)] })

theorem test_frames_leave :
    (hingeReady { Link.empty with tx := [⟨2, 5, none, 0⟩], txFseq := 7 }).framing 8 = true ∧
    ((after (.frameSend ⟨8, cross⟩) (hingeReady { Link.empty with tx := [⟨2, 5, none, 0⟩], txFseq := 7 })).out.length = 2) ∧
    ((after (.frameSend ⟨8, cross⟩) (hingeReady { Link.empty with tx := [⟨2, 5, none, 0⟩], txFseq := 7 })).link 8).txFseq = 8 ∧
    (hingeKeyed { Link.empty with txFseq := 2 ^ 32 - 1 }).on (R.SECURITY_TX_CUR_VALID 8) = true ∧
    (after (.frameSend ⟨8, cross⟩) (hingeKeyed { Link.empty with txFseq := 2 ^ 32 - 1 })).portState 8 = 8 ∧
    (gateIn 6 Link.empty).framing 0 = true := by
  decide +kernel

theorem test_frame_key_switch :
    (hingeKeyed { Link.empty with txFseq := 9 }).framing 8 = true ∧ (hingeKeyed { Link.empty with txFseq := 9 }).idle = false ∧
    ((hingeReady { Link.empty with txKeys := [(1, ⟨5, 7⟩)], txFseq := 9, txSwitch := some (9, 1) }).txKeySwitch 8).on
      (R.SECURITY_TX_CUR_VALID 8) = true ∧
    (((hingeReady { Link.empty with txKeys := [(1, ⟨5, 7⟩)], txFseq := 9, txSwitch := some (9, 1) }).txKeySwitch 8).link 8).txFseq = 0 := by
  decide +kernel

theorem crc_zeros (n : Nat) : (List.replicate n (0 : Byte)).foldl (fun c b => crcByte c b.toNat) 0 = 0 := by
  induction n with
  | zero => rfl
  | succ n ih => rw [List.replicate_succ, List.foldl_cons]; exact ih

theorem toLE_zeros (n : Nat) : toLE n 0 = List.replicate n (0 : Byte) := by
  induction n with
  | zero => rfl
  | succ n ih => simp [toLE, List.replicate_succ, ih]

theorem flitBytes_zeros (n : Nat) : flitBytes (List.replicate n 0) = List.replicate (64 * n) (0 : Byte) := by
  induction n with
  | zero => rfl
  | succ n ih =>
    have z : toLE 64 (0 : Flit).toNat = List.replicate 64 0 := by rw [show (0 : Flit).toNat = 0 from BitVec.toNat_zero, toLE_zeros]
    unfold flitBytes at ih ⊢
    rw [List.replicate_succ (n := n), List.flatMap_cons, ih, z, List.replicate_append_replicate, Nat.mul_succ, Nat.add_comm]

/-- The trailer of a hinge's frame of a number, without its tag. -/
def frameHead (kinds : Nat) : Nat := trailerHead 0 0 0 0 0 9 0 63 0 63 0 kinds

/-- The CRC's register after some bytes. -/
def crcAfter (bs : Bytes) : Nat := bs.foldl (fun c b => crcByte c b.toNat) 0xFFFFFFFF

/-- A flit whose last four bytes bring the CRC's register to zero, where the zeros of the frame's other positions leave it. -/
def settling (kinds f : Nat) : Flit := BitVec.ofNat 512 (f + crcAfter (toLE 48 (frameHead kinds) ++ toLE 60 f) * 2 ^ 480)

/-- Frame 9 of a hinge port that carries the flit in position 0. -/
def frameOf (kinds f : Nat) : Frame :=
  ⟨settling kinds f :: List.replicate 63 0, BitVec.ofNat 512 (frameHead kinds + 0xFFFFFFFF * 2 ^ 384), false, 0⟩

theorem crc_of_frame (kinds f : Nat) (h : crcAfter (toLE 48 (frameHead kinds) ++ toLE 64 (settling kinds f).toNat) = 0) :
    crc32c (toLE 48 (frameHead kinds) ++ flitBytes (settling kinds f :: List.replicate 63 0)) = 0xFFFFFFFF := by
  have e : flitBytes (settling kinds f :: List.replicate 63 0) = toLE 64 (settling kinds f).toNat ++ List.replicate 4032 0 := by
    rw [show 4032 = 64 * 63 from rfl, ← flitBytes_zeros 63, flitBytes, List.flatMap_cons, ← flitBytes]
  rw [e, ← List.append_assoc, crc32c, List.foldl_append]
  rw [show List.foldl (fun c b => crcByte c b.toNat) 0xFFFFFFFF (toLE 48 (frameHead kinds) ++ toLE 64 (settling kinds f).toNat) = 0 from h]
  rw [crc_zeros]; rfl

/-- A LINK packet's flit, SUB 5. -/
def linkFlit : Nat := (mkPacket 0 0 0 0 0 0 0 [hf 0x10 0 4 5] []).hdr.toNat

theorem test_frame_idle :
    (hingeReady Link.empty).checkFrame 8 (frameOf 0 0) = (0, settling 0 0 :: List.replicate 63 0) ∧
    (hingeReady Link.empty).framing 8 = true ∧ (∀ i < 64, bits (frameOf 0 0).trailer.toNat (128 + 2 * i) 2 = 0) := by
  have h := crc_of_frame 0 0 (by decide +kernel)
  have hb : State.checkFrame.padBody (bodyLen 8) (frameOf 0 0).body = settling 0 0 :: List.replicate 63 0 := rfl
  have ha : (frameOf 0 0).trailer.toNat % 2 ^ 384 = frameHead 0 := by decide +kernel
  refine ⟨?_, by decide +kernel, by decide +kernel⟩
  unfold State.checkFrame
  simp only [hb, ha, h]
  decide +kernel

theorem test_frame_with_packet :
    (hingeReady Link.empty).checkFrame 8 (frameOf 1 linkFlit) = (0, settling 1 linkFlit :: List.replicate 63 0) ∧
    headerOk ⟨settling 1 linkFlit, []⟩ = true ∧ (Packet.mk (settling 1 linkFlit) []).type = 0 ∧
    (Packet.mk (settling 1 linkFlit) []).tdm = false ∧ bits (frameOf 1 linkFlit).trailer.toNat 128 2 = 1 := by
  have h := crc_of_frame 1 linkFlit (by decide +kernel)
  have hb : State.checkFrame.padBody (bodyLen 8) (frameOf 1 linkFlit).body = settling 1 linkFlit :: List.replicate 63 0 := rfl
  have ha : (frameOf 1 linkFlit).trailer.toNat % 2 ^ 384 = frameHead 1 := by decide +kernel
  refine ⟨?_, by decide +kernel, by decide +kernel, by decide +kernel, by decide +kernel⟩
  unfold State.checkFrame
  simp only [hb, ha, h]
  decide +kernel

/-- A frame of the number, encrypted or not, with nothing of its tag right. -/
def badFrame (n enc : Nat) : Frame :=
  ⟨List.replicate 64 0, BitVec.ofNat 512 (trailerHead enc 0 0 0 0 n 0 63 0 63 0 0), false, 0⟩

/-- The beats of a frame arrive at hinge port 8. -/
def hinged (f : Frame) (s : State) : State := after (.frameReceive 8 ⟨.hinge (hingeBeats f), cross⟩) s

/-- Nothing in a frame is right. -/
def noFrame : Frame := ⟨List.replicate 64 0, 0, false, 0⟩

/-- What a hinge's four beats complete is the frame they carry. -/
theorem test_hinge_frame :
    (hingeReady Link.empty).arriving 8 (.hinge (hingeBeats (frameOf 1 linkFlit))) = some (frameOf 1 linkFlit) ∧
    (hingeReady Link.empty).arriving 8 (.hinge (hingeBeats (badFrame 9 1))) = some (badFrame 9 1) ∧
    (after (.frameReceive 8 ⟨.hinge [⟨2, 0, 0⟩], cross⟩) (hingeReady { Link.empty with rxBeats := [⟨0, 0, 0⟩] })).rd (R.GATE_STATUS_UNCORR 8) = 1 := by
  decide +kernel

theorem test_frames_bad :
    ((hingeReady Link.empty).checkFrame 8 (badFrame 9 1)).1 = 4 ∧
    (hinged (badFrame 9 1) (hingeReady Link.empty)).rd (R.GATE_STATUS_AUTH_FAIL 8) = 1 ∧
    (hinged (badFrame 9 1) (hingeReady { Link.empty with authFails := 63 })).rd (R.GATE_STATUS_CAUSE 8) = 12 ∧
    ((hingeReady { Link.empty with rxSync := true }).checkFrame 8 (badFrame 9 0)).1 = 3 ∧
    (hinged (badFrame 9 0) (hingeReady { Link.empty with rxSync := true })).rd (R.GATE_STATUS_FSEQ_ERR 8) = 1 ∧
    (hinged (badFrame 9 0) (hingeReady { Link.empty with rxSync := true, fseqFails := 3 })).portState 8 = 8 ∧
    ((hingeReady Link.empty).checkFrame 8 noFrame).1 = 2 ∧
    (hinged noFrame (hingeReady Link.empty)).rd (R.GATE_STATUS_UNCORR 8) = 1 := by
  decide +kernel

theorem test_ports_enable :
    run.portPresent 0 = true ∧ run.permits 0 = true ∧ (after (.gateEnable 0 3) run).portState 0 = 1 ∧
    (after (.gateEnable 0 0x201) (set [(R.GATE_STATUS_COEF_VALID 0, 1)] run)).portState 0 = 2 ∧
    (after (.gateDisable 0 0) (gateIn 6 Link.empty)).portState 0 = 0 ∧ run.permits 8 = true ∧
    (after (.hingeEnable 0 1) run).portState 8 = 9 ∧ (after (.hingeEnable 0 0) (hingeReady Link.empty)).rd (R.GATE_STATUS_CAUSE 8) = 11 ∧
    (after (.retrain 0) (gateIn 6 Link.empty)).portState 0 = 8 ∧
    (after (.retrain 0) (set [(R.GATE_STATUS_ATTEMPTS 0, 4)] run)).rd (R.GATE_STATUS_ATTEMPTS 0) = 0 ∧
    (after (.retry 0) (gateIn 8 Link.empty)).portState 0 = 1 ∧
    (after (.retry 0) (set [(R.GATE_CTL_WARM_OK 0, 1), (R.GATE_STATUS_COEF_VALID 0, 1)] (gateIn 8 Link.empty))).portState 0 = 2 ∧ (after (.backoffEnd 0) (gateIn 8 Link.empty)).rd (R.GATE_STATUS_ATTEMPTS 0) = 1 ∧
    (after (.retry 0) (gateIn 6 Link.empty)).portState 0 = 6 := by decide +kernel

/-- Hinge 0 in a state, its link up or not. -/
def hingeIn (st up : Nat) : State := set [(R.GATE_STATUS_STATE 8, st)] { run with pins := { pinsUp with linkUp := up } }

theorem test_training_times_out :
    (after (.fastTimeout 0) (gateIn 2 Link.empty)).portState 0 = 1 ∧ (after (.probeTimeout 0) (gateIn 1 Link.empty)).portState 0 = 3 ∧
    (after (.probeTimeout 0) (set [(R.GATE_STATUS_STATE 0, 1)] run)).rd (R.GATE_STATUS_CAUSE 0) = 1 ∧
    (after (.waitPhyTimeout 0) (hingeIn 9 0)).portState 8 = 8 ∧ (after (.keysTimeout 0) (gateIn 5 Link.empty)).portState 0 = 8 ∧
    ((after (.equalizeWindowEnd 0) (set [(R.GATE_RECAL_FAIL_LOG2 0, 0)] (gateIn 4 Link.empty))).link 0).mine.map (fun k => (k.fld 0x11 2 1, k.fld 0x12 0 9)) =
      some (1, 511) ∧
    ((after (.equalizeWindowEnd 0) (set [(R.GATE_STATUS_STATE 0, 4)] run)).link 0).mine.map (fun k => k.fld 0x11 2 1) = some 0 ∧
    (after (.hingeLinkChange 0 true) (hingeIn 9 0)).portState 8 = 3 ∧ (after (.hingeLinkChange 0 false) (hingeIn 6 1)).portState 8 = 8 := by
  decide +kernel

/-- A LINK packet that came by a port. -/
def linkIn (port sub : Nat) (fs : List (Nat × Nat × Nat)) (s : State) : State :=
  s.deliver ⟨port, 0, mkPacket 0 0 0 0 0 0 0 (hf 0x10 0 4 sub :: fs) []⟩

theorem test_discover :
    (after .discoverArrival (linkIn 0 0 [] (gateIn 3 { Link.empty with ctl := 0x1C6, sentGood := 511 }))).rd (R.GATE_STATUS_CAUSE 0) = 2 ∧
    (after .discoverArrival (linkIn 0 0 [hf 0x11 0 3 7] (set [(R.GATE_STATUS_STATE 0, 3)] run))).rd (R.GATE_STATUS_CAUSE 0) = 3 ∧
    (after .discoverArrival (linkIn 0 0 [hf 0x11 0 3 7, hf 0x11 3 2 1, hf 0x12 0 9 511] (gateIn 3 { Link.empty with ctl := 0x1C6, sentGood := 511 }))).portState 0 = 4 ∧
    ((after .discoverArrival (linkIn 0 0 [hf 0x11 0 3 7, hf 0x11 3 2 1, hf 0x12 0 9 511] (gateIn 3 { Link.empty with ctl := 0x1C6, sentGood := 511 }))).link 0).target = 1 ∧
    (after .discoverArrival (linkIn 8 0 [hf 0x11 0 3 7] (hingeIn 3 1))).portState 8 = 5 := by decide +kernel

/-- A TRAIN_RESULT of this end. -/
def result (pass : Nat) : Packet := mkPacket 0 0 0 0 0 0 0 [hf 0x11 2 1 pass, hf 0x12 0 9 511] []

theorem test_train_result :
    ((after .trainResultArrival (linkIn 0 1 [] (gateIn 4 Link.empty))).link 0).theirs.isSome = true ∧
    (after .trainResultArrival (linkIn 0 1 [hf 0x11 2 1 1, hf 0x12 0 9 511] (gateIn 4 { Link.empty with resultOut := true, mine := some (result 1), target := 3 }))).rd
      (R.GATE_NEG_RATE 0) = 3 ∧
    ((after .trainResultArrival (linkIn 0 1 [] (gateIn 4 { Link.empty with resultOut := true, mine := some (result 1), target := 3 }))).link 0).target = 2 ∧
    (after .trainResultArrival (linkIn 0 1 [] (gateIn 4 { Link.empty with resultOut := true, mine := some (result 1) }))).rd (R.GATE_STATUS_CAUSE 0) = 4 := by
  decide +kernel

/-- Gate 0 READY with nine healthy lanes, lane 8 the spare of both directions. -/
def sparing (l : Link) : State := ((gateIn 6 l).setRxLanes 0 511 (List.range 8) 8).setTxLanes 0 511 (List.range 8) 8

theorem test_lanes_in_service :
    (after (.laneLockChange 0 2 true) run).pins.lock = 4 ∧
    (after (.laneLockChange 0 2 false) { sparing Link.empty with pins := { pinsUp with lock := 4 } }).rd (R.GATE_STATUS_CAUSE 0) = 6 ∧
    (after (.laneLockLossTimeout 0 2) (sparing Link.empty)).core.router.queued.length = 0 ∧
    (2 ∈ (sparing Link.empty).rxMap 0) ∧
    (after (.laneLockLossTimeout 0 2) { sparing Link.empty with pins := { pinsUp with lock := 507 } }).core.router.queued.map
      (fun o => (o.pkt.fld 0x11 0 4, o.pkt.fld 0x14 0 32)) = [(2, 32)] ∧
    (after (.laneSerWindow 0 2 20) (sparing Link.empty)).rd (R.GATE_LANE_RX_SER_EXP 0 2) = 20 ∧
    (after (.laneSerWindow 0 2 1) (set [(R.GATE_RECAL_FAIL_LOG2 0, 9)] (sparing Link.empty))).rd (R.GATE_LANES_RX_GOOD 0) = 507 ∧
    (after (.laneSerWindow 0 8 1) (set [(R.GATE_RECAL_FAIL_LOG2 0, 9)] (sparing Link.empty))).rd (R.GATE_LANES_RX_GOOD 0) = 511 ∧
    ((after (.rateAckChange 3 true) run).link 3).rateAck = true ∧
    SMap.get? (after (.phyCfgDone 0 77 false) (gateIn 5 { Link.empty with cfg := [⟨4, 1, 0⟩] })).aon.coefs 4 = some 77 ∧
    ((after (.phyCfgTimeout 0) (gateIn 4 { Link.empty with cfg := [⟨4, 2, 0⟩] })).link 0).bad = 16 := by decide +kernel

theorem test_lane_messages :
    ((after .laneFailArrival (linkIn 0 2 [hf 0x11 0 4 2, hf 0x14 0 32 40] (sparing Link.empty))).link 0).failSwitch = some (40, 2) ∧
    ((after .laneFailArrival (linkIn 0 2 [hf 0x11 0 4 2, hf 0x14 0 32 40] (sparing { Link.empty with txFseq := 50 }))).link 0).failSwitch = none ∧
    (after .widthArrival (linkIn 0 3 [hf 0x11 0 1 1, hf 0x12 0 9 31] (sparing Link.empty))).portState 0 = 7 ∧
    (after .recalArrival (linkIn 0 5 [hf 0x11 0 4 2, hf 0x12 0 16 9] (sparing Link.empty))).out = [.phyCfg 0 2 3 9] ∧
    ((after .widthArrival (linkIn 0 3 [hf 0x11 0 1 1, hf 0x12 0 9 31, hf 0x14 0 32 8] (set [(R.GATE_STATUS_STATE 0, 7)]
      (sparing { Link.empty with txWidth := some (4, 15) })))).link 0).txWidth = some (4, 31) ∧
    (after .downArrival (linkIn 0 6 [] (sparing Link.empty))).rd (R.GATE_STATUS_CAUSE 0) = 9 ∧
    ((after (.spareRotateStart 0) (set [(R.GATE_CTL_ROTATE 0, 1), (R.GATE_LANES_TX_SPARE 0, 4)] (sparing Link.empty))).link 0).nextSp = 5 ∧
    (after (.laneFailResend 0) (sparing { Link.empty with failSent := some (2, 8) })).core.router.queued.length = 1 ∧
    (after (.widthResend 0) (set [(R.GATE_STATUS_STATE 0, 7)] (sparing { Link.empty with rxWidth := some 9 }))).core.router.queued.length = 1 := by
  decide +kernel

/-- A key-port message for port 0 of a type, with flags and a payload of zeros. -/
def keyMsg (type flags len : Nat) : KeyMsg :=
  ⟨BitVec.ofNat 64 (type + flags * 2 ^ 12 + len * 2 ^ 32), List.replicate ((len + 7) / 8) 0, (len + 7) / 8⟩

theorem test_session_keys :
    keyMsgOk (keyMsg 0x12 0 40) = true ∧ ((after (.keyLoad (keyMsg 0x12 0 40)) (gateIn 5 Link.empty)).link 0).txKeys.length = 1 ∧
    (after (.keyLoad (keyMsg 0x12 1 40)) (set [(R.SECURITY_RX_NEXT_LOADED 0, 1)] (gateIn 5 Link.empty))).rd R.SECURITY_STATUS_LOAD_ERR = 1 ∧
    keyMsgOk (keyMsg 0x12 0 41) = false ∧ (after (.keyArm (keyMsg 0x12 0 41)) run).rd R.SECURITY_STATUS_LOAD_ERR = 1 ∧
    keyMsgOk (keyMsg 0x13 0 0) = true ∧
    ((after (.keyArm (keyMsg 0x13 0 0)) (gateIn 5 { Link.empty with txKeys := [(0, ⟨1, 2⟩)], rxKeys := [(0, ⟨1, 2⟩)] })).link 0).txSwitch =
      some (64, 0) ∧
    (after (.keyArm (keyMsg 0x13 0 0)) (gateIn 5 Link.empty)).rd R.SECURITY_STATUS_LOAD_ERR = 1 ∧ keyMsgOk (keyMsg 0x14 0 0) = true ∧ (after (.reject (keyMsg 0x14 0 0)) (gateIn 5 Link.empty)).portState 0 = 8 ∧
    keyMsgOk (keyMsg 0x11 0 600) = true ∧ (after (.keyxOut (keyMsg 0x11 0 600)) (gateIn 6 Link.empty)).core.router.queued.length = 2 ∧
    ((after .keySwitchArrival (linkIn 0 4 [hf 0x11 0 1 1, hf 0x14 0 32 90] run)).link 0).rxSwitch = some (90, 1) ∧
    (after .keyxArrival (run.deliver ⟨0, 0, mkPacket 0 5 0 0 0 0 9 [hf 0x12 4 4 1, hf 0x14 0 13 9] (List.replicate 9 1)⟩)).core.keyPort.out.length = 3 ∧
    (after .keyPortBeatTaken { run with core.keyPort.out := [(5, false), (6, true)] }).out = [.keyBeat 5 false] := by decide +kernel

/-! ## Bolts and fabric time -/

/-- Gates 0 and 1 READY and routable in the placed, locked block, 44 packets a slot allowed to F0. -/
def bolting : State :=
  let s := set [(R.GATE_STATUS_STATE 0, 6), (R.GATE_STATUS_STATE 1, 6), (R.GATE_NEG_VERSION 0, 3), (R.GATE_NEG_VERSION 1, 3),
    (R.GATE_NEG_RATE 0, 0), (R.GATE_NEG_SHORT 0, 1), (R.TIME_STATUS_STATE, 2), (R.TIME_STATUS_SYNCED, 1), (R.BOLT_PORT_LIMIT_MAX_PKTS 0, 44),
    (R.BOLT_FUNC_SHARE_MAX 0, 100000), (R.BOLT_SETUP_DEST_NODE, 2 ^ 14), (R.BOLT_SETUP_PAT_START, 5), (R.BOLT_SETUP_PAT_STRIDE_LOG2, 2),
    (R.BOLT_SETUP_PAT_PKTS, 1)] (placed (queueIn 1))
  (s.setFlow 0 { Flow.empty with ann := some true }).setFlow 1 { Flow.empty with ann := some true }

/-- A circuit of F0 to node X = 1 in every slot, one packet each. -/
def circ (role st : Nat) (xs : List Transfer) : Circuit :=
  { newCircuit role 0 0 (2 ^ 14) 0 10 0 0 0 0 0 0 1 0 0 0 false with state := st, xfers := xs }

/-- A transfer of operation 0 under tag 0. -/
def transfer (ph : XferPhase) (reads : List BoltRead) : Transfer := ⟨0, 3, 0, 0, ph, none, 1, true, reads, 0, none⟩

/-- A 64-byte BOLT_PUT on circuit 0 at node X = 1. -/
def boltDesc : BitVec 1024 := desc 0x20 [(8, 7), (0x30, 64), (0x28, 2 ^ 14 * 2 ^ 12)]

theorem test_bolt_put :
    ((bolting.modQs 0 (fun x => { x with reserved := 1, head := some (headOf boltDesc) })).setCircuit 0 (circ 0 2 [])).ready 0 0x20 (fun _ => []) =
      .ok (headOf boltDesc) ∧
    ((bolting.modQs 0 (fun x => { x with reserved := 1, head := some (headOf boltDesc) })).setCircuit 0 (circ 0 2 [])).boltRefusal 0 boltDesc = none ∧
    ((after (.boltPut 0) ((bolting.modQs 0 (fun x => { x with reserved := 1, head := some (headOf boltDesc) })).setCircuit 0 (circ 0 2 []))).circuit? 0).map
      (fun c => c.xfers.map (fun x => (x.tag, x.phase))) = some [(0, .waiting)] ∧
    (bolting.modQs 0 (fun x => { x with reserved := 1, head := some (headOf boltDesc) })).boltRefusal 0 boltDesc = some (5, 0x00A) ∧
    ((after (.boltPut 0) (bolting.modQs 0 (fun x => { x with reserved := 1, head := some (headOf boltDesc) }))).qs 0).records.map (·.status) = [5] := by
  decide +kernel

/-- A scratchpad read of the transfer's packet 0, waiting or out. -/
def reading (waits : Bool) : State :=
  let s := bolting.setCircuit 0 (circ 0 2 [transfer .prefetch [⟨0, 0, 0, 64, true, [], none⟩]])
  { s with core.bolts.sspWait := if waits then [⟨1, 9, 0, 0⟩] else [], core.bolts.sspOut := if waits then [] else [⟨1, 9, 0, 0⟩] }

theorem test_bolt_reads :
    (after (.scratchpadSlotOffer 1) (reading true)).out = [.sspRead 1 9] ∧ ((reading false).xfer? 0 0).isSome = true ∧
    ((after (.sspReadReturn 1 5 false) (reading false)).xfer? 0 0).map (fun x => x.reads.map (fun b => b.data.map (·.length))) = some [some 64] ∧
    ((after (.sspReadReturn 1 5 true) (reading false)).xfer? 0 0).map (·.phase) = some .abort ∧
    ((after (.boltReadTimeout 0) (reading false)).xfer? 0 0).map (·.fail) = some (some (0x0F, 0x707D, 0)) := by decide +kernel

/-- A transfer that awaits its acknowledgement. -/
def acking : State := (asking .bolt .sent boltDesc).setCircuit 0 (circ 0 2 [transfer .ackWait []])

theorem test_bolt_ack :
    (acking.req? 0).map (·.state) = some .sent ∧ (acking.op? 0).map (·.done) = some none ∧
    ((after (.boltAckTimeout 0) acking).req? 0).map (·.state) = some .quarantine ∧
    ((after (.boltAckTimeout 0) (acking.setCircuit 0 (circ 0 2 [{ transfer .ackWait [] with fail := some (1, 0x1001, 7) }]))).op? 0).map (·.done) =
      some (some (2, 0x8081)) ∧
    ((after (.boltAckTimeout 0) acking).op? 0).map (·.done) = some (some (2, 0x8081)) ∧
    (acking.xferOf 0).map (fun x => (x.1, x.2.phase)) = some (0, .ackWait) ∧
    ((after .boltAckReceive (withIn (rsp 5 0 [hf 0x18 0 64 64]) acking)).qs 0).records.map (fun r => (r.status, r.result)) = [(0, 64)] := by
  decide +kernel

/-- A slot whose packet's data is there, or not. -/
def slotting (data : Option Bytes) : State :=
  bolting.setCircuit 0 (circ 0 2 [transfer .prefetch [⟨0, 0, 0, 64, true, [], data⟩]])

/-- A request that waits for its pair's slot. -/
def waiter : OutPkt := ⟨10, 0, false, 0, some 0, none, mkPacket 1 1 (2 ^ 14) 0 0 0 64 [] [], 0⟩

theorem test_slots :
    ((after .slotBegin bolting).link 0).tx.map (·.kind) = [3] ∧ (after .slotBegin bolting).core.bolts.slot = some 0 ∧
    inPattern 0 0 ((slotting none).now / 4096) = true ∧
    ((after .slotBegin (slotting (some (List.replicate 64 7)))).link 0).tx.map (·.kind) = [3, 1, 1] ∧
    ((after .slotBegin (slotting none)).circuit? 0).map (·.slip) = some 1 ∧
    (bolting.setCircuit 0 { circ 0 2 [] with kind := 1, tdm := [waiter] }).pairLate (circ 0 2 []) 0 = false ∧
    ((after .slotBegin (bolting.setCircuit 0 { circ 0 2 [] with kind := 1, tdm := [waiter] })).link 0).tx.map (·.kind) = [3, 1] ∧
    ((after .slotBegin (bolting.setCircuit 0 { circ 1 2 [] with buf := [(0, 9, waiter.pkt)] })).link 0).tx.map (·.kind) = [3, 1] ∧
    ((after .slotBegin (bolting.setCircuit 0 { circ 1 2 [] with buf := [(4, 9, waiter.pkt)] })).circuit? 0).map (·.buf.length) = some 1 ∧
    (after .slotBegin { slotting none with core.bolts.slot := some 0 }).core.bolts.slot = some 0 := by decide +kernel

/-- A landing circuit by gate 0, and a bolt packet of a type for it. -/
def landing (type : Nat) : State :=
  let s := (serving 7 (mkPacket 5 type 0 0 0 0 64 [hf 0x10 52 8 1, hf 0x10 60 16 3] (List.replicate 64 1))).setCircuit 4096
    { circ 2 2 [] with inPort := 10 }
  s

theorem test_landing :
    ((after .bltArrival (landing 0)).arr? 0).map (·.xfer) = some (some 4096) ∧ ((after .bltArrival (landing 1)).circuit? 4096).map (·.slip) = some 1 := by
  decide +kernel

theorem test_bolt_commands :
    bolting.pathPort 10 (2 ^ 14) = some 0 ∧ bolting.routeReason (2 ^ 14) = none ∧ bolting.admission 0 0 5 2 1 true = none ∧
    ((after (.boltSetupCmd 1) bolting).circuit? 0).map (fun c => (c.role, c.state, c.start)) = some (0, 1, 5) ∧
    (after (.boltSetupCmd 1) bolting).core.router.queued.length = 1 ∧
    ((after (.boltSetupCmd 1) (bolting.setFlow 0 Flow.empty)).core.router.queued.length = 0 ∧ (bolting.setFlow 0 Flow.empty).routable 0 = false) ∧
    (after (.boltSetupCmd 1) (set [(R.BOLT_SETUP_DEST_NODE, 1)] bolting)).rd R.BOLT_STATUS_STATUS = 0x11 ∧
    (after (.boltTeardownCmd 2) (set [(R.BOLT_STATUS_BUSY, 1)] bolting)).rd R.BOLT_STATUS_CMD_LOST = 1 ∧
    (after (.boltTeardownCmd 2) (bolting.setCircuit 0 (circ 0 4 []))).core.bolts.table = [] ∧
    (after (.boltTeardownCmd 2) (bolting.setCircuit 0 (circ 0 2 []))).core.bolts.table = [] ∧
    (after (.boltSetupTimeout 0) (bolting.setCircuit 0 (circ 1 1 []))).core.bolts.table = [] := by
  decide +kernel

/-- A BOLT message that came by gate 1. -/
def boltIn (sub dest : Nat) (fs : List (Nat × Nat × Nat)) (s : State) : State :=
  s.deliver ⟨1, 0, boltMsg dest (2 ^ 14 + 1) sub 0 6 1 5 2 0 fs⟩

theorem test_bolt_arrivals :
    ((after .boltSetupArrival (boltIn 0 0 [] bolting)).circuit? (4096 + 256 + 6)).map (fun c => (c.role, c.state)) = some (2, 2) ∧
    (after .boltSetupArrival (boltIn 0 0 [] { bolting with build.boltLandKib := 0 })).core.router.queued.map (fun o => o.pkt.fld 0x25 0 12) =
      [0x076] ∧
    (after .boltSetupArrival (boltIn 0 0 [] (set [(R.ROUTE_SELF_VALID, 0)] bolting))).core.bolts.table = [] ∧
    (set [(R.GATE_NEG_SHORT 1, 1)] bolting).pathPort 1 (2 ^ 14) = some 0 ∧
    ((after .boltSetupArrival (boltIn 0 (2 ^ 14) [] (set [(R.GATE_NEG_SHORT 1, 1), (R.GATE_RXBUF_SIZE 1, 64)] bolting))).circuit? 0).map
      (fun c => (c.role, c.state)) = some (1, 1) ∧
    ((after .boltAnswerArrival (boltIn 1 0 [] (bolting.setCircuit (256 + 6) (circ 1 1 [])))).circuit? (256 + 6)).map (·.state) = some 2 ∧
    (after .boltAnswerArrival (boltIn 1 0 [hf 0x24 0 8 5] (bolting.setCircuit (256 + 6) (circ 1 1 [])))).core.bolts.table = [] ∧
    (after .boltAnswerArrival (boltIn 1 0 [] (set [(R.BOLT_STATUS_BUSY, 1)] (bolting.setCircuit (256 + 6) (circ 0 1 []))))).rd R.BOLT_STATUS_CIRCUIT =
      262 ∧
    (after .boltReleaseArrival (boltIn 2 (2 ^ 14) [] (bolting.setCircuit 0 { circ 1 2 [] with inPort := 1, inIndex := 6 }))).core.bolts.table = [] ∧
    ((after .boltBreakArrival (boltIn 3 (2 ^ 14) [] (bolting.setCircuit 0 { circ 1 2 [] with inPort := 1, inIndex := 6 }))).circuit? 0).map (·.state) =
      some 4 := by decide +kernel

theorem test_time_commands :
    (after (.timeEnable 3) (set [(R.TIME_SET_LO_COUNT, 77)] run)).now = 77 ∧ (after (.timeEnable 3) run).rd R.TIME_STATUS_STATE = 2 ∧
    (after (.timeEnable 3) (set [(R.TIME_SET_LO_COUNT, 77), (R.TIME_STATUS_STATE, 3)] run)).now = 77 ∧
    (after (.timeDisable 0) (set [(R.TIME_CTL_ENABLE, 1), (R.TIME_STATUS_STATE, 2)] run)).rd R.TIME_STATUS_STATE = 3 ∧
    bolting.rd R.TIME_CTL_PARENT ≠ 1 ∧ (after (.timeExchangeStart 1) bolting).core.router.queued.length = 1 ∧
    (after .timeHoldoverTimeout bolting).rd R.TIME_STATUS_STATE = 3 ∧
    (after .timeHoldoverTimeout (set [(R.TIME_CTL_ENABLE, 1), (R.TIME_CTL_MASTER, 1)] bolting)).rd R.TIME_STATUS_STATE = 2 ∧
    ((after .timeHoldMax (set [(R.TIME_STATUS_STATE, 3)] (bolting.setCircuit 0 (circ 1 2 [])))).circuit? 0).map (·.state) = some 4 := by
  decide +kernel

/-- A TIME packet that came by gate 1, the block a child of gate 1 in a state. -/
def timeIn (st sub : Nat) (fs : List (Nat × Nat × Nat)) (e : SMap Exchange) : State :=
  { (set [(R.TIME_CTL_ENABLE, 1), (R.TIME_CTL_PARENT, 1), (R.TIME_STATUS_STATE, st)] bolting).deliver
      ⟨1, 500, mkPacket 0 1 0 1 0 0 0 (hf 0x10 0 2 sub :: fs) []⟩ with core.time.exch := e, core.time.good := 3, core.time.count := 2 ^ 40 }

theorem test_time_exchange :
    (after .syncArrival (timeIn 2 0 [hf 0x10 2 1 1, hf 0x18 0 64 90] [])).core.time.exch = [(1, ⟨0, false, true, 90, 500, 0⟩)] ∧
    (timeIn 2 0 [hf 0x10 2 1 1, hf 0x11 0 8 255] []).disciplines 1 true = true ∧
    (after .syncArrival (timeIn 2 0 [hf 0x10 2 1 1, hf 0x11 0 8 255] [])).rd R.TIME_STATUS_LOOP = 1 ∧
    (after .delayReqArrival (timeIn 2 1 [] [(17, ⟨0, true, true, 0, 0, 0⟩)])).core.router.queued.map (fun o => o.pkt.fld 0x18 0 64) = [500] ∧
    (after .delayRespArrival (timeIn 0 2 [hf 0x18 0 64 130] [(1, ⟨0, false, true, 100, 110, 120⟩)])).rd (R.TIME_PATH_DELAY 1) = 10 ∧
    (after .delayRespArrival (timeIn 0 2 [hf 0x18 0 64 130] [(1, ⟨0, false, true, 100, 120, 120⟩)])).now = 2 ^ 16 - 5 ∧
    (after .delayRespArrival (timeIn 1 2 [hf 0x18 0 64 130] [(1, ⟨0, false, true, 100, 120, 120⟩)])).rd R.TIME_STATUS_STATE = 2 ∧
    (after .delayRespArrival (timeIn 1 2 [hf 0x18 0 64 130] [(1, ⟨0, false, false, 100, 110, 120⟩)])).rd R.TIME_STATUS_STATE = 1 := by
  decide +kernel


/-! ## Groups and collectives -/

/-- A group of two members, this one and the one on node X = 1, with epoch 0 current. -/
def pair : Group :=
  { bolting.newGroup (pack [(0, 21, 2), (64, 21, 2), (96, 21, 1)]) (toLE 4 (5 * 2 ^ 20) ++ toLE 4 (2 ^ 14 + 5 * 2 ^ 20)) with state := 3, fresh := false }

/-- Group 5 active, queue 0 its queue. -/
def grouped (x : Group) : State := (set [(R.QUEUE_CTL_KIND 0, 1), (R.QUEUE_CTL_GROUP 0, 5)] bolting).setGroup 5 x

/-- A group descriptor at the head of queue 0. -/
def joining (d : BitVec 1024) : State := (grouped pair).modQs 0 (fun x => { x with reserved := 2, head := some ⟨d, if dLong d then 2 else 1, 0, 1, false⟩ })

/-- RS and AG of FP64 with chunks of 4 KiB. -/
def colDesc (op bytes : Nat) : BitVec 1024 := desc op [(1, 1), (8, 7), (0x18, 0x100000), (0x30, bytes), (0x40, 9 + 9 * 16 + 12 * 4096)]
def countxDesc : BitVec 1024 := desc 0x12 [(8, 7), (0x18, 0x100000)]
def pintleDesc : BitVec 1024 := desc 0x13 [(8, 7), (0x18, 0x100000), (0x24, 1), (0x25, 1)]

theorem test_collectives_issue :
    (∀ x ∈ [(Instr.rs 0, colDesc 0x10 1024), (.ag 0, colDesc 0x11 64), (.countx 0, countxDesc), (.pintle 0, pintleDesc)],
      ((after x.1 (joining x.2)).group? 5).map (fun g => g.issued) = some [(0, [])]) ∧
    (joining (colDesc 0x10 1024)).ready 0 0x10 ((joining (colDesc 0x10 1024)).colReasons 2 0) = .ok (headOf (colDesc 0x10 1024)) ∧
    (joining (colDesc 0x10 1024)).held 0 (headOf (colDesc 0x10 1024)) (colRanges 2 (colDesc 0x10 1024)) = false ∧
    (((pair.checked (colDesc 0x10 1024)).map pair.node).findSome? (joining (colDesc 0x10 1024)).routeReason = none ∧
      ((pair.checked (colDesc 0x10 1024)).map pair.node).findSome? (set [(R.ROUTE_EXTENT_EX, 1)] (joining (colDesc 0x10 1024))).routeReason = some 0x021) ∧
    ((after (.rs 0) (set [(R.ROUTE_EXTENT_EX, 1)] (joining (colDesc 0x10 1024)))).qs 0).records.map (fun r => (r.status, r.detail)) = [(0x11, 0x2021)] ∧
    (joining (colDesc 0x10 0)).ready 0 0x10 ((joining (colDesc 0x10 0)).colReasons 2 0) = .fails (headOf (colDesc 0x10 0)) 4 ∧
    ((after (.rs 0) (joining (colDesc 0x10 0))).qs 0).records.map (fun r => (r.status, r.detail)) = [(5, 4)] := by decide +kernel

/-- An activation of group 5 whose reads have ended. -/
def activating (cause : Nat) (x : Option Group) : State :=
  let s := set [(R.WARD_STATUS_STATE, 2), (R.KEYRING_STATUS_BUSY, 1)] bolting
  { s with core.col.act := some ⟨5, [], some (cause, x)⟩, core.ward.items := [.activation 5] }

theorem test_groups :
    (after (.keyringActivate 5) (set [(R.KEYRING_STATUS_BUSY, 1)] bolting)).rd R.KEYRING_STATUS_CMD_LOST = 1 ∧
    (after (.keyringActivate 5) (grouped pair)).rd R.KEYRING_STATUS_CAUSE = 5 ∧ bolting.group? 5 = none ∧
    (after (.keyringActivate 5) bolting).rd R.KEYRING_STATUS_BUSY = 1 ∧
    (after .keyringActivateDone (activating 3 none)).rd R.KEYRING_STATUS_CAUSE = 3 ∧
    (activating 0 (some pair)).itemDue (.activation 5) = true ∧
    ((after .keyringActivateDone (activating 0 (some pair))).group? 5).map (·.slots) = some 2 ∧
    (set [(R.WARD_STATUS_STATE, 4)] (activating 0 (some pair))).itemDue (.activation 5) = false ∧
    (bolting.setGroup 5 pair).groupQueued 5 = false ∧ (after (.keyringDeactivate 5) (bolting.setGroup 5 pair)).group? 5 = none ∧
    (grouped pair).groupQueued 5 = true ∧ (after (.keyringDeactivate 5) (grouped pair)).rd R.KEYRING_STATUS_CAUSE = 5 := by decide +kernel

/-- A group message from node X = 1. -/
def groupMsg (sub : Nat) (fs : List (Nat × Nat × Nat)) (s : State) : State :=
  s.deliver ⟨0, 0, mkPacket 0 3 0 (2 ^ 14) 0 0 0 (groupFields 5 0 0 0 7 ++ [hf 0x1C 0 4 sub] ++ fs) []⟩

/-- Queue 0 with a collective of group 5 running, in its data phase. -/
def collecting (d : BitVec 1024) (f : Coll → Coll) : State :=
  let (id, s) := (grouped pair).issue 0 (headOf d) []
  s.setGroup 5 { pair with issued := [(id, [])], coll := some (f { newColl id 0 0 7 true with phase := .data }) }

theorem test_group_messages :
    pair.treeDown = [1] ∧ pair.node 1 = 2 ^ 14 ∧ pair.member (2 ^ 14) = some 1 ∧
    (after .readyArrival (groupMsg 0 [] bolting)).core.resp.inbox.length = 0 ∧
    ((after .readyArrival (groupMsg 0 [] (grouped pair))).group? 5).map (fun x => x.readies.map (·.count)) = some [1] ∧
    ((after .readyArrival (groupMsg 0 [] (collecting countxDesc (fun c => { c with sig := 8 })))).group? 5).map (·.faultReason) = some 0x064 ∧
    ((after .abortArrival (groupMsg 1 [hf 0x1E 0 12 0x62] (grouped pair))).group? 5).map (fun x => (x.state, x.faultReason)) = some (4, 0x62) ∧
    ((after .abortArrival (groupMsg 1 [] (grouped { pair with epoch := 3 }))).group? 5).map (·.state) = some 3 ∧
    ((after .abortArrival (groupMsg 1 [] (grouped { pair with self := 1, epoch := 3, cache := [(0, (2 ^ 15, 5))] }))).core.router.queued.length = 1 ∧
      (grouped pair).routeOf 10 (2 ^ 15) = .out 0 true) ∧
    (after .abortArrival (groupMsg 1 [] (grouped { pair with epoch := 3, aborts := [(0, 0)] }))).core.router.queued = [] ∧
    ((after .sweepArrival (groupMsg 2 [] (grouped pair))).group? 5).map (fun x => x.ups.length) = some 1 ∧
    ({ pair with self := 1, cache := [(0, (2 ^ 14, 5))] } : Group).treeUp = some 0 ∧
    ((after .sweepArrival (groupMsg 3 [hf 0x1D 2 1 1, hf 0x1D 3 1 1] (grouped { pair with
      self := 1, cache := [(0, (2 ^ 14, 5))], sweep := some ⟨0, 0, 0, true, true⟩ }))).group? 5).map (·.pstate) = some 1 ∧
    (after .countArrival (groupMsg 4 [hf 0x28 0 64 9, hf 0x30 0 21 1] (collecting countxDesc id))).core.jobs.map (fun j => (j.2.va, j.2.data)) =
      [(0x100008, toLE 8 9)] ∧
    (grouped pair).routeOf 10 (2 ^ 14) = .out 0 true ∧
    (after .probeArrival (groupMsg 5 [hf 0x1D 0 2 3] (grouped pair))).core.router.queued.map (fun o => (o.pkt.fld 0x1C 0 4, o.pkt.fld 0x1D 0 2)) =
      [(6, 3)] ∧
    ((after .probeAnswerArrival (groupMsg 6 [] (collecting countxDesc (fun c => { c with phase := .probe, probes := [1, 2] })))).group? 5).map
      (fun x => x.coll.map (·.probes)) = some (some [2]) := by decide +kernel

/-- An operand packet of the reduce-scatter from the other member. -/
def operandIn (sig stage : Nat) (s : State) : State :=
  s.deliver ⟨0, 0, mkPacket 4 0 0 (2 ^ 14) 0 0 512 (groupFields 5 0 0 0 sig ++ [hf 0x24 0 10 64, hf 0x26 0 2 stage]) (List.replicate 512 0)⟩

/-- A reduce-scatter with a grant to the other member, its own operand read. -/
def reducing : State := collecting (colDesc 0x10 1024) (fun c => { c with grants := [(1, 4)], opnds := [(0, List.replicate 512 0)] })

/-- A gather whose own contribution has been read. -/
def gathering : State := collecting (colDesc 0x11 64) (fun c => { c with opnds := [(0, List.replicate 64 0)] })

theorem test_collective_data :
    (after .colArrival (operandIn 7 3 bolting)).counter 82 11 = 1 ∧
    ((after .colArrival (operandIn 7 3 reducing)).group? 5).map (fun x => x.coll.map (fun c => c.landed.map (·.src))) = some (some [1]) ∧
    ((after .colArrival (operandIn 8 3 reducing)).group? 5).map (·.faultReason) = some 0x064 ∧
    (after .colArrival (operandIn 7 2 reducing)).counter 82 11 = 1 ∧
    (gathering.running? 5).map (fun x => match gathering.colNext x.1 x.2.1 x.2.2.desc with
      | .go _ a n => a == 0 && n == 8
      | _ => false) = some true ∧
    nextAfter (SMap.getD gathering.core.col.served 0 4096) (gathering.unitPasses 0) = some 5 ∧
    ((after (.knucklePass 0) gathering).group? 5).map (fun x => x.coll.map (·.step)) = some (some 1) ∧
    (reducing.running? 5).map (fun x => x.1.missing x.2.1 x.2.2.desc) = some (some 1) ∧ reducing.unitPasses 0 = [] ∧
    ((after (.knucklePass 0) reducing).group? 5).map (fun x => x.coll.map (·.step)) = some (some 0) ∧
    ((after (.progressTimeout 5) (collecting countxDesc (fun c => { c with sent := 2, got := [0], peers := [(1, (2 ^ 14, 5))] }))).group? 5).map
      (fun x => (x.faultReason, x.faultNode)) = some (0x062, 2 ^ 14) ∧
    ((after (.progressTimeout 5) reducing).group? 5).map (fun x => (x.faultReason, x.faultNode)) = some (0x062, 2 ^ 14) ∧
    bolting.running? 5 = none := by decide +kernel

/-- A flit of the first dimension from the other member. -/
def flitIn (hops : Nat) (s : State) : State :=
  s.deliver ⟨1, 0, mkPacket 0 2 0 (2 ^ 14) 0 0 8 (groupFields 5 0 0 0 7 ++ pintleFields 0 1 hops 1 0 1 0 false false) (List.replicate 8 1)⟩

/-- Pintle work of stage 0 that waits. -/
def staging (hand : Bool) (arcs : List Arc) : State :=
  let s := collecting pintleDesc id
  s.setGroup 5 { pair with coll := some { newColl 0 0 3 7 true with phase := .data }, arcs := some arcs, prun := some ⟨hand, 0, 0, 0, [], true, 0⟩ }

theorem test_pintle_flits :
    (after .pintleFlitArrival (flitIn 1 bolting)).counter 82 10 = 1 ∧
    ((after .pintleFlitArrival (flitIn 1 (grouped pair))).group? 5).map (fun x => x.pflits.map (·.org)) = some [1] ∧
    (after .pintleFlitArrival (flitIn 1 (grouped pair))).core.router.queued = [] ∧
    (after .pintleFlitArrival (flitIn 2 (grouped pair))).core.router.queued.map (fun o => (o.port, o.pkt.fld 0x20 0 6)) = [(0, 1)] ∧
    ((after (.pintleStageTimeout 5) (staging false [⟨0, 2⟩, ⟨0, 1⟩, ⟨0, 1⟩, ⟨0, 1⟩])).group? 5).map (fun x => (x.faultReason, x.faultNode)) =
      some (0x062, 2 ^ 14) ∧
    (let s := staging true [⟨0, 4⟩, ⟨0, 1⟩, ⟨0, 1⟩, ⟨0, 1⟩]
     s.portReady 0 = true ∧ s.portReady 1 = true ∧ 0 < s.arcHops ⟨0, 4⟩ 0 false ∧ 0 < s.arcHops ⟨0, 4⟩ 0 true ∧ s.fatal = false) := by decide +kernel

/-! ## Functions and the Ward core -/

/-- F1 DISABLED with a root and four signal counters. -/
def enabling : State := set [(R.XLATE_ROOT_LO_VALID 1, 1), (R.FUNC_SIG_COUNT_COUNT 1, 4)] run

theorem test_functions :
    enabling.enableCause 1 = none ∧ enabling.stHoldsFunc 1 = false ∧ enabling.running = true ∧
    (after (.funcEnable 1) enabling).funcState 1 = 1 ∧ (after (.funcEnable 1) enabling).out = [.esClr 0 4] ∧
    (after (.funcEnable 1) { enabling with core.rq.signals := [(2, 9), (5, 9)] }).core.rq.signals = [(5, 9)] ∧
    run.enableCause 1 = some 5 ∧ (after (.funcEnable 1) run).rd (R.FUNC_STATUS_CAUSE 1) = 5 ∧
    (inSeq 1).running = false ∧ (after (.funcEnable 1) (inSeq 1)).rd (R.FUNC_STATUS_CMD_ERR 1) = 1 ∧
    (after (.funcDisable 0) (headed (xfer 1))).funcState 0 = 2 ∧ (after (.funcDisable 0) (headed (xfer 1))).qState 0 = 3 ∧
    (after (.funcDisable 1) run).rd (R.FUNC_STATUS_CMD_ERR 1) = 1 ∧
    (set [(R.FUNC_STATUS_STATE 0, 2)] (asking .write .sent (xfer 1))).core.rq.ops.length = 1 ∧
    ((after (.funcDrainDeadline 0) (set [(R.FUNC_STATUS_STATE 0, 2)] (asking .write .sent (xfer 1)))).op? 0).map (·.done) =
      some (some (0x12, 0x0E1)) ∧
    (after (.funcDrainDeadline 0) run).rd (R.FUNC_STATUS_DEADLINE_HIT 0) = 0 := by decide +kernel

/-- The Ward core in a state, with images in its slots. -/
def wardIn (st : Nat) (fs : List (Fld × Nat)) (slots : SMap WardImage) (f : Ward → Ward) : State :=
  let s := set ((R.WARD_STATUS_STATE, st) :: fs) run
  { s with core.ward := f { s.core.ward with slots := slots } }

theorem test_ward_images :
    (wardIn 1 [] [] id).wardBusy = true ∧ (after .wardStage (wardIn 1 [] [] id)).rd R.WARD_STATUS_CAUSE = 7 ∧
    (after .wardSwitch (wardIn 3 [] [] id)).rd R.WARD_STATUS_CAUSE = 7 ∧
    (after .wardStage (wardIn 2 [(R.WARD_IMG_LEN_BYTES, 512)] [(1, ⟨3, 0, [], []⟩)] id)).core.ward.slots = [] ∧
    (after .wardStage (wardIn 2 [(R.WARD_IMG_LEN_BYTES, 512)] [] id)).rd R.WARD_STATUS_STAGE_BUSY = 1 ∧
    (after .wardStageDone (wardIn 0 [(R.WARD_STATUS_STAGE_BUSY, 1)] [] (fun w => { w with read := some (false, []) }))).rd R.WARD_STATUS_CAUSE = 1 ∧
    (after .wardStageDone (wardIn 0 [(R.WARD_STATUS_STAGE_BUSY, 1)] [] (fun w => { w with read := some (true, [1]) }))).rd R.WARD_STATUS_CAUSE = 2 ∧
    (after .wardImageUp (wardIn 1 [] [] id)).wardState = 2 ∧ (after .wardImageUp (wardIn 1 [] [] id)).rd R.GLOBAL_READY_WARD = 1 ∧
    (after .wardImageUp (wardIn 0 [] [] id)).wardState = 0 ∧
    (after .jquery (set [(R.WARD_SVC_JID_LO_JID, 5)] run)).core.ward.items = [.service] ∧
    (after .jquery (set [(R.WARD_SVC_STATUS_BUSY, 1)] run)).core.ward.items = [] := by decide +kernel

/-- An image of 16 code bytes. -/
def wardImg : Bytes :=
  toLE 4 0x57445246 ++ toLE 2 1 ++ toLE 2 0x0301 ++ toLE 4 9 ++ toLE 4 16 ++ List.replicate 240 0 ++ List.replicate 16 1

/-- Under an anchor and a signature that match, which are the configuration's, the image passes. -/
theorem test_ward_image_passes (h1 : sha384 (slice wardImg 0x40 96) = Config.wardAnchor)
    (h2 : ecdsaP384Verify (slice wardImg 0x40 96) (slice wardImg 0xA0 96) (wardImg.take 0xA0 ++ wardImg.drop 256) = true) :
    imageCause true 0 wardImg = 0 := by
  simp only [imageCause, h1, h2, ne_eq, not_true_eq_false, if_false]
  decide +kernel

theorem test_ward_switches :
    (after .wardSwitch (wardIn 0 [(R.WARD_STATUS_STAGED, 1)] [(1, ⟨3, 0, [], []⟩)] id)).rd R.WARD_ACTIVE_SVN_SVN = 3 ∧
    (after .wardSwitch (wardIn 4 [(R.WARD_STATUS_STAGED, 1)] [(1, ⟨3, 0, [], []⟩)] id)).activeSlot = 1 ∧
    (after .wardSwitch (wardIn 2 [(R.WARD_STATUS_STAGED, 1)] [] id)).wardState = 3 ∧
    (after .wardSwitch (wardIn 2 [] [] id)).rd R.WARD_STATUS_CAUSE = 7 ∧
    (after .wardHalt (wardIn 2 [] [] id)).core.ward.halting = true ∧ (after .wardHalt (wardIn 4 [] [] id)).core.ward.halting = false ∧
    (after .wardStartTimeout (wardIn 1 [] [] (fun w => { w with prev := true }))).rd R.WARD_STATUS_REVERTED = 1 ∧
    (after .wardStartTimeout (wardIn 1 [] [] id)).rd R.WARD_STATUS_CAUSE = 9 ∧
    (after .wardCheckpointYield (wardIn 2 [] [] (fun w => { w with halting := true }))).wardState = 4 ∧
    (after .wardCkptTimeout (wardIn 3 [] [] (fun w => { w with halting := true }))).wardState = 4 ∧
    (after .wardCheckpointYield (wardIn 3 [] [] id)).activeSlot = 1 ∧ (after .wardCkptTimeout (wardIn 3 [] [] id)).rd R.WARD_STATUS_CAUSE = 8 ∧
    (after .wardCheckpointYield (wardIn 2 [] [] id)).wardState = 2 ∧
    (after .wardHeartbeatMiss (wardIn 2 [] [] id)).rd R.WARD_STATUS_CAUSE = 10 ∧ (after .wardHeartbeatMiss (wardIn 4 [] [] id)).wardState = 4 := by
  decide +kernel

theorem test_policy_writes :
    (wardIn 2 [] [] id).policyDenied 0xB0804 5 = false ∧
    (after (.wardPolicyWrite (0xB0804 / 4) 5) (wardIn 2 [] [] id)).rd R.RATE_CURVE_DECR = 5 ∧
    (after (.wardPolicyWrite (0xB0804 / 4) 5) (wardIn 4 [] [] id)).word false 0xB0804 = (wardIn 4 [] [] id).word false 0xB0804 ∧
    (wardIn 2 [] [] id).policyDenied 0x200020 5 = false ∧
    (after (.wardPolicyWrite 0x80008 5) (wardIn 2 [(R.FUNC_TIMEOUT_MIN_MIN_US 0, 9)] [] id)).rd (R.FUNC_TIMEOUT_TOUT_US 0) = 9 ∧
    (after (.wardPolicyWrite 0x80008 5) (wardIn 2 [(R.FUNC_TIMEOUT_MIN_MIN_US 0, 9)] [] id)).rd R.WARD_CLAMP_TIMEOUT = 1 ∧
    policyFields (wardIn 2 [] [] id).build 0x200014 = [] ∧
    (after (.wardPolicyWrite 0x80005 5) (wardIn 2 [] [] id)).rd R.WARD_STATUS_DENIED = 1 ∧
    (after (.wardPolicyWrite 0x80005 5) (wardIn 2 [] [] id)).rd R.WARD_CLAMP_INJ = 1 := by decide +kernel

/-! ## Errors, self-tests, counters, trace and snapshots -/

theorem test_sram_errors :
    (after .errlogCoalesceExpire { run with core.err.merging := [⟨1, 2, 0, 15, none, 0, 0, 1, 0, 0⟩] }).core.err.due.length = 1 ∧
    (after .errlogCoalesceExpire run).core.err.due = [] ∧ (after .correctedSramError run).counter 82 0 = 1 ∧
    (after (.sramUncorrectable .groupState 3) run).rd R.ERRLOG_STATUS_FATAL_UNIT = 7 ∧
    (after (.sramUncorrectable .groupState 3) run).core.err.due.map (fun r => (r.cls, r.info)) = [(7, 7 + 3 * 256)] ∧
    fatalUnit .holdSlot = none ∧ fatalUnit .xlateCache = none ∧ fatalUnit .walkCache = none ∧ fatalUnit .rateCache = none ∧
    (after (.sramUncorrectable .wardMem 0) (wardIn 2 [] [] id)).rd R.WARD_STATUS_CAUSE = 11 ∧
    (after (.sramUncorrectable .holdSlot 3) { run with core.resp.holds := [(3, ⟨0, 0, 0, ⟨0, []⟩⟩)] }).core.resp.holds = [] := by decide +kernel

/-- A block in RUN with a self-test named in ST_ARG, whose last test is in a state. -/
def testing (kind target lane st : Nat) : State :=
  set [(R.GLOBAL_ST_ARG_KIND, kind), (R.GLOBAL_ST_ARG_TARGET, target), (R.GLOBAL_ST_ARG_LANE, lane), (R.GLOBAL_ST_STATUS_STATE, st),
    (R.GLOBAL_ST_LEN_KIB, 4), (R.XLATE_ROOT_LO_VALID 1, 1)] run

/-- A test that runs. -/
def testRuns (t : SelfTest) : State := { testing 0 0 0 2 with aon.selfTest := t }

theorem test_self_tests :
    run.aonUp = true ∧ (after .stRequest (testing 0 0 0 1)).rd R.GLOBAL_ST_STATUS_CMD_ERR = 1 ∧
    (after .stRequest (testing 3 0 0 0)).rd R.GLOBAL_ST_STATUS_CODE = 0x13 ∧
    (after .stRequest (testing 2 0 0 0)).rd R.GLOBAL_ST_STATUS_CODE = 0x15 ∧ (after .stRequest (testing 0 2 0 3)).stState = 2 ∧
    (after .stRequest (testing 1 1 0 0)).core.jobs.map (fun j => (j.2.func, j.2.len)) = [(1, 128)] ∧
    (after .stCancel (testing 0 0 0 1)).rd R.GLOBAL_ST_STATUS_CODE = 0x12 ∧ (after .stCancel (testing 0 0 0 3)).stState = 3 ∧
    (after .stDeferredStart (testing 0 0 0 1)).stState = 2 ∧
    (after .stDeferredStart (set [(R.GATE_STATUS_STATE 0, 6)] (testing 0 0 0 1))).stState = 1 ∧
    (after (.stDone true 9) (testRuns ⟨0, 3, 0, 0, 0, 0, false, none⟩)).rd R.GLOBAL_BIST_GATE_FAIL = 8 ∧
    (after (.stDone true 9) (testRuns ⟨0, 3, 0, 0, 0, 0, false, none⟩)).rd R.GLOBAL_ST_INFO_DATA = 9 ∧
    (after (.stDone false 0) (testRuns ⟨1, 1, 0, 0, 4096, 0, true, some (8, 128)⟩)).rd R.GLOBAL_ST_STATUS_CODE = 8 ∧
    (after (.stDone false 0) (testRuns ⟨2, 0, 1, 0, 0, 0, false, none⟩)).rd R.GLOBAL_ST_STATUS_CODE = 8 ∧
    (after (.stDone false 0) (testRuns ⟨1, 1, 0, 0, 4096, 0, true, none⟩)).stState = 2 := by decide +kernel

/-- A gate in READY that rotates, with a LANE_RECAL of lane 3 named in ST_ARG; the lane is good. -/
def recalling (spare : Nat) : State :=
  set [(R.GATE_STATUS_STATE 0, 6), (R.GATE_CTL_ROTATE 0, 1), (R.GATE_LANES_RX_SPARE 0, spare), (R.GATE_LANE_RX_OK 0 3, 1)] (testing 2 0 3 0)

theorem test_lane_recal :
    (after .stRequest (recalling 3)).aon.selfTest.reading = true ∧ (after .stRequest (recalling 5)).aon.selfTest.reading = false ∧
    (after .stRequest (recalling 5)).stState = 2 ∧ (after .stRequest (recalling 15)).stState = 1 ∧
    (after (.stDone false 0) (set [(R.GLOBAL_ST_STATUS_STATE, 2)] { recalling 3 with aon.selfTest := ⟨2, 0, 3, 0, 0, 0, true, none⟩ })).stState = 3 ∧
    (after (.stDone false 0) (set [(R.GLOBAL_ST_STATUS_STATE, 2)] { recalling 3 with aon.selfTest := ⟨2, 0, 3, 0, 0, 0, false, none⟩ })).stState = 2 := by
  decide +kernel

theorem test_dumps_and_views :
    (after .dumpNow (set [(R.CNT_STATUS_BUSY, 1)] run)).rd R.CNT_STATUS_CMD_ERR = 1 ∧
    (after .dumpNow { run with core.cnt := [(5, 7)] }).core.dump.shadow = [(5, 7)] ∧
    (after .dumpNow run).core.jobs.map (fun j => (j.2.va, j.2.data)) = [(4, toLE 4 1)] ∧
    (after .dumpAt (set [(R.TIME_STATUS_SYNCED, 1), (R.CNT_AT_LO_TIME, 5)] run)).rd R.CNT_STATUS_ARMED = 1 ∧
    (after .dumpAt (set [(R.TIME_STATUS_SYNCED, 1)] run)).rd R.CNT_STATUS_LATE_ARM = 1 ∧
    (after .dumpTrigger (set [(R.CNT_STATUS_ARMED, 1)] run)).rd R.CNT_STATUS_BUSY = 1 ∧ (after .dumpTrigger run).rd R.CNT_STATUS_BUSY = 0 ∧
    (after .dumpWriteDone (set [(R.CNT_STATUS_BUSY, 1)] { run with core.dump.ended := some true })).counter 82 16 = 1 ∧
    (after .dumpWriteDone (set [(R.CNT_STATUS_BUSY, 1)] { run with core.dump.ended := some false })).rd R.CNT_STATUS_FAULT = 1 ∧
    (after (.view 0) (queueIn 1)).core.jobs.map (fun j => j.2.func) = [0] ∧ (after (.view 0) run).core.jobs = [] ∧
    (after (.viewPeriod 0) (set [(R.CNT_VIEW_CTL_VIEW_EN 0, 1)] (queueIn 1))).core.jobs.map (fun j => j.2.len) = [256] ∧
    (after (.viewPeriod 0) (queueIn 1)).core.jobs = [] := by decide +kernel

/-- A trace FIFO with one record. -/
def tracing (drops : Nat) (fs : List (Fld × Nat)) : State := { set fs run with core.trace.fifo := [5], core.trace.drops := drops }

/-- The Keyhole unit in a state, its instant in the past. -/
def khIn (st : Nat) (fs : List (Fld × Nat)) : State := set ((R.KH_STATUS_STATE, st) :: fs) run

theorem test_trace_and_snapshots :
    (after .traceRecordWrite run).core.trace.writing = false ∧
    (after .traceRecordWrite (tracing 0 [(R.TRACE_STATUS_FAULT, 1)])).core.trace.drops = 1 ∧
    (tracing 0 []).traceRoom = true ∧ (after .traceRecordWrite (tracing 0 [])).core.jobs.map (fun j => j.2.data) = [toLE 32 (5 + 2 ^ 15)] ∧
    (after .traceRecordWrite (tracing 3 [])).core.trace.fifo = [5] ∧ (after .traceRecordWrite (tracing 3 [])).core.trace.drops = 0 ∧
    (after .khArm (khIn 2 [])).rd R.KH_STATUS_CMD_ERR = 1 ∧ (after .khArm (khIn 0 [])).rd R.KH_STATUS_CMD_ERR = 1 ∧
    (after .khArm (khIn 0 [(R.TIME_STATUS_SYNCED, 1), (R.KH_AT_LO_TIME, 9)])).khState = 1 ∧
    (after .khArm (khIn 0 [(R.TIME_STATUS_SYNCED, 1)])).rd R.KH_STATUS_LATE_ARM = 1 ∧
    (after .khNow (khIn 4 [])).khState = 2 ∧ (after .khDisarm (khIn 1 [])).khState = 0 ∧ (after .khDisarm (khIn 5 [])).khState = 5 ∧
    (after .khTrigger (khIn 1 [])).khState = 2 ∧ (after .khTrigger (khIn 4 [])).khState = 4 ∧
    (after .khCaptureDone (khIn 2 [])).khState = 3 ∧ (after .khCaptureDone (khIn 2 [])).core.jobs.map (fun j => (j.2.va, j.2.len)) = [(4, 4)] ∧
    (after .khCaptureDone (khIn 1 [])).khState = 1 ∧
    (after .khWriteDone { khIn 3 [] with core.kh.ended := some true }).khState = 4 ∧
    (after .khWriteDone { khIn 3 [] with core.kh.ended := some false }).khState = 5 ∧ (after .khWriteDone (khIn 3 [])).khState = 3 := by
  decide +kernel
end Sys2Proof.Tests
end

namespace Sys2Proof.Machine

/-! ## Core commands -/

/-- The sequencer's state is an AON field: a write to the core domain keeps it. -/
theorem State.off_wr (s : State) (f : Fld) (v : Nat) (h : f.aon = false) : (s.wr f v).off = s.off := by
  have hr : (s.wr f v).rd R.GLOBAL_START_STATUS_STATE = s.rd R.GLOBAL_START_STATUS_STATE :=
    State.rd_wr_ne s f _ v (.inl (by simp [h, R.GLOBAL_START_STATUS_STATE]))
  simp [State.off, State.seq, hr]

/-- Outside OFF a core-domain command whose body stays outside OFF answers the body's state, but for the outputs. -/
theorem coreCmd_next (body : State → State) (s u : State) (h : s.off = false) (hb : body { s with out := [] } = u) (hu : u.off = false) :
    ∃ t, coreCmd body s = .next t ∧ t.core = u.core ∧ t.aon = u.aon ∧ ∀ f, t.rd f = u.rd f := by
  subst hb
  exact ⟨_, coreCmd_on body s h, wire_core _ hu, wire_aon _, wire_rd _ hu⟩

/-! ## Frames of register writes -/

theorem State.SameBut.refl (s : State) (fs : List Fld) : s.SameBut s fs := fun _ _ => rfl

/-- Writing a named field keeps the frame. -/
theorem State.SameBut.wr {s u : State} {fs : List Fld} (h : s.SameBut u fs) (f : Fld) (v : Nat) (hf : f ∈ fs) : s.SameBut (u.wr f v) fs :=
  fun g hg => (State.rd_wr_ne u f g v (hg f hf)).trans (h g hg)

theorem State.SameAon.refl (s : State) : s.SameAon s := rfl

theorem State.SameAon.wr {s u : State} (h : s.SameAon u) (f : Fld) (v : Nat) : s.SameAon (u.wr f v) := by
  unfold State.SameAon at *
  cases hf : f.aon <;> simp only [State.wr, State.setWord, hf, if_true, Bool.false_eq_true, if_false]
  · exact h
  · rw [h]

theorem State.SameCore.refl (s : State) : s.SameCore s := rfl

theorem State.SameCore.wr {s u : State} (h : s.SameCore u) (f : Fld) (v : Nat) : s.SameCore (u.wr f v) := by
  unfold State.SameCore at *
  cases hf : f.aon <;> simp only [State.wr, State.setWord, hf, if_true, Bool.false_eq_true, if_false]
  · rw [h]
  · exact h

/-! ## Policy writes (R29, R383, R386) -/

/-- Every policy field of a word lies in it, in the core domain. -/
theorem policyFields_inWord (b : Build) (a : Nat) : ∀ f ∈ policyFields b a, f.addr = a ∧ f.lo + f.width ≤ 32 ∧ f.aon = false := by
  unfold policyFields
  split_ifs <;>
    simp [R.FUNC_TIMEOUT_TOUT_US, R.RATE_CURVE_DECR, R.RATE_CURVE_INCR, R.RATE_CURVE_INTERVAL, R.RATE_CURVE_CUT_GAP,
      R.RATE_CTL_MIN_RATE, R.RATE_CTL_RESP_THRESH, R.KEYRING_ALGO_TREE_MAX_LOG2, R.KEYRING_ALGO_RING_MIN_LOG2, R.KEYRING_CTL_WAIT_US,
      R.GATE_CM_THRESH, R.GATE_RECAL_DWELL_US, R.GATE_RECAL_FAIL_LOG2, R.GATE_RECAL_SHORT_LOG2] <;>
    omega

/-- The policy fields of a word share no bit. -/
theorem policyFields_apart (b : Build) (a : Nat) : (policyFields b a).Pairwise Fld.apart := by
  unfold policyFields
  split_ifs <;>
    simp [Fld.apart, R.RATE_CURVE_DECR, R.RATE_CURVE_INCR, R.RATE_CURVE_INTERVAL, R.RATE_CURVE_CUT_GAP,
      R.RATE_CTL_MIN_RATE, R.RATE_CTL_RESP_THRESH, R.KEYRING_ALGO_TREE_MAX_LOG2, R.KEYRING_ALGO_RING_MIN_LOG2,
      R.GATE_RECAL_DWELL_US, R.GATE_RECAL_FAIL_LOG2, R.GATE_RECAL_SHORT_LOG2]

/-- The policy fields of a function's timeout word (R345). -/
theorem policyFields_timeout (b : Build) (f : FuncId) :
    policyFields b (R.FUNC_TIMEOUT_TOUT_US f.val).addr = [R.FUNC_TIMEOUT_TOUT_US f.val] := by
  have hf := f.isLt
  have ha : 0x200000 ≤ 0x200020 + f.val * 0x8000 ∧ 0x200020 + f.val * 0x8000 < 0x400000 ∧ (0x200020 + f.val * 0x8000) % 0x8000 = 0x20 := by
    omega
  have hi : (0x200020 + f.val * 0x8000 - 0x200000) / 0x8000 = f.val := by omega
  simp only [policyFields, R.FUNC_TIMEOUT_TOUT_US, ha, hi, and_self, if_true]

/-- The fields of a word written from another word. -/
def State.wrFields (s : State) (d : Word) (fs : List Fld) : State := fs.foldl (fun s f => s.wr f (getField d f.lo f.width)) s

@[simp] theorem State.wrFields_nil (s : State) (d : Word) : s.wrFields d [] = s := rfl
@[simp] theorem State.wrFields_cons (s : State) (d : Word) (f : Fld) (fs : List Fld) :
    s.wrFields d (f :: fs) = (s.wr f (getField d f.lo f.width)).wrFields d fs := rfl

/-- Written fields change nothing but themselves. -/
theorem State.wrFields_frame (d : Word) (l fs : List Fld) (s u : State) (hl : ∀ f ∈ fs, f ∈ l ∧ f.aon = false)
    (hb : s.SameBut u l) (ha : s.SameAon u) (hc : s.SameCore u) :
    s.SameBut (u.wrFields d fs) l ∧ s.SameAon (u.wrFields d fs) ∧ s.SameCore (u.wrFields d fs) ∧ (u.wrFields d fs).off = u.off := by
  induction fs generalizing u with
  | nil => exact ⟨hb, ha, hc, rfl⟩
  | cons f fs ih =>
    obtain ⟨hf, hfs⟩ := List.forall_mem_cons.1 hl
    obtain ⟨h1, h2, h3, h4⟩ := ih (u.wr f _) hfs (hb.wr f _ hf.1) (ha.wr f _) (hc.wr f _)
    exact ⟨h1, h2, h3, h4.trans (State.off_wr u f _ hf.2)⟩

theorem Fld.apart_comm {f g : Fld} (h : f.apart g) : g.apart f := by
  rcases h with h | h | h
  · exact .inl h.symm
  · exact .inr (.inl h.symm)
  · exact .inr (.inr h.symm)

theorem State.wrFields_rd_ne (d : Word) (fs : List Fld) (s : State) (g : Fld) (h : ∀ f ∈ fs, f.apart g) :
    (s.wrFields d fs).rd g = s.rd g := by
  induction fs generalizing s with
  | nil => rfl
  | cons f fs ih =>
    obtain ⟨hf, hfs⟩ := List.forall_mem_cons.1 h
    exact (ih _ hfs).trans (State.rd_wr_ne s f g _ hf)

/-- Fields that share no bit read back what was written to them. -/
theorem State.wrFields_rd (d : Word) (fs : List Fld) (s : State) (hp : fs.Pairwise Fld.apart) (hw : ∀ f ∈ fs, f.lo + f.width ≤ 32) :
    ∀ f ∈ fs, (s.wrFields d fs).rd f = getField d f.lo f.width := by
  induction fs generalizing s with
  | nil => simp
  | cons g fs ih =>
    obtain ⟨hg, hfs⟩ := List.pairwise_cons.1 hp
    obtain ⟨hgw, hfw⟩ := List.forall_mem_cons.1 hw
    refine List.forall_mem_cons.2 ⟨?_, ih _ hfs hfw⟩
    rw [wrFields_cons, State.wrFields_rd_ne d fs _ g (fun f hf => Fld.apart_comm (hg f hf)), State.rd_wr_self _ _ _ hgw]
    exact Nat.mod_eq_of_lt (getField_lt _ _ _)

/-- Below the functions' registers a policy field is written as it stands. -/
theorem State.foldl_policyField (d : Word) (fs : List Fld) (s : State) (h : ∀ f ∈ fs, f.addr < 0x200000) :
    fs.foldl (fun s f => s.policyField f (getField d f.lo f.width)) s = s.wrFields d fs := by
  induction fs generalizing s with
  | nil => rfl
  | cons f fs ih =>
    obtain ⟨hf, hfs⟩ := List.forall_mem_cons.1 h
    rw [List.foldl_cons, ih _ hfs, State.wrFields_cons, State.policyField, if_neg (by omega)]

/-- A policy write in UP that would change no other field writes its policy fields. -/
theorem wardPolicyWrite_allowed (a : BitVec 21) (d : Word) (s : State) (hs : s.wardState = 2)
    (hd : s.policyDenied (4 * a.toNat) d = false) :
    wardPolicyWrite a d s =
      (policyFields s.build (4 * a.toNat)).foldl (fun s f => s.policyField f (getField d f.lo f.width)) s := by
  simp [wardPolicyWrite, hs, hd]

/-- A policy write in UP to a word without policy fields sets DENIED, and the CLAMP bit of its register. -/
theorem wardPolicyWrite_foreign (a : BitVec 21) (d : Word) (s : State) (hs : s.wardState = 2)
    (hf : policyFields s.build (4 * a.toNat) = []) :
    wardPolicyWrite a d s = match clampBit (4 * a.toNat) with
      | some f => (s.wr R.WARD_STATUS_DENIED 1).wr f 1
      | none => s.wr R.WARD_STATUS_DENIED 1 := by
  have hd : s.policyDenied (4 * a.toNat) d = true := by simp [State.policyDenied, hf]
  simp only [wardPolicyWrite, hs, hd, hf, List.foldl_nil]
  rfl

/-- The CLAMP bits a policy write can set are bits of WARD_CLAMP (R386). -/
theorem clampBit_some {a : Nat} {f : Fld} (h : clampBit a = some f) :
    f ∈ [R.WARD_CLAMP_INJ, R.WARD_CLAMP_TAGS, R.WARD_CLAMP_TIMEOUT, R.WARD_CLAMP_BOLT, R.WARD_CLAMP_CREDIT] ∧
      f.aon = false ∧ f.lo + f.width ≤ 32 ∧ f.width = 1 ∧ f.apart R.WARD_STATUS_DENIED := by
  unfold clampBit at h
  split_ifs at h <;> cases h <;> refine ⟨by decide, rfl, by decide, rfl, .inr (.inl (by decide))⟩

/-- What a policy write to a word without policy fields leaves (R383, R386). -/
theorem wardPolicyWrite_denied (a : BitVec 21) (d : Word) (s : State) (hs : s.wardState = 2)
    (hf : policyFields s.build (4 * a.toNat) = []) :
    let t := wardPolicyWrite a d s
    t.rd R.WARD_STATUS_DENIED = 1 ∧ (∀ f, clampBit (4 * a.toNat) = some f → t.rd f = 1) ∧
      s.SameBut t [R.WARD_STATUS_DENIED, R.WARD_CLAMP_INJ, R.WARD_CLAMP_TAGS, R.WARD_CLAMP_TIMEOUT, R.WARD_CLAMP_BOLT, R.WARD_CLAMP_CREDIT] ∧
      s.SameAon t ∧ s.SameCore t ∧ t.off = s.off := by
  intro t
  have hden : (s.wr R.WARD_STATUS_DENIED 1).rd R.WARD_STATUS_DENIED = 1 := State.rd_wr_self _ _ _ (by decide)
  have hB := (State.SameBut.refl s [R.WARD_STATUS_DENIED, R.WARD_CLAMP_INJ, R.WARD_CLAMP_TAGS, R.WARD_CLAMP_TIMEOUT, R.WARD_CLAMP_BOLT,
    R.WARD_CLAMP_CREDIT]).wr R.WARD_STATUS_DENIED 1 (by simp)
  have hA := (State.SameAon.refl s).wr R.WARD_STATUS_DENIED 1
  have hC := (State.SameCore.refl s).wr R.WARD_STATUS_DENIED 1
  have ho := State.off_wr s R.WARD_STATUS_DENIED 1 rfl
  have ht : t = _ := wardPolicyWrite_foreign a d s hs hf
  cases hcl : clampBit (4 * a.toNat) with
  | none =>
    simp only [hcl] at ht
    rw [ht]
    exact ⟨hden, by simp, hB, hA, hC, ho⟩
  | some c =>
    obtain ⟨hmem, haon, hwide, hone, hap⟩ := clampBit_some hcl
    simp only [hcl] at ht
    rw [ht]
    refine ⟨(State.rd_wr_ne _ c _ _ hap).trans hden, fun f hfc => ?_, hB.wr c 1 (List.mem_cons_of_mem _ hmem), hA.wr c 1, hC.wr c 1,
      (State.off_wr _ c 1 haon).trans ho⟩
    rw [← Option.some.inj hfc, State.rd_wr_self _ _ _ hwide, hone]
    rfl

/-- A TOUT_US below the minimum is raised to it, and CLAMP.TIMEOUT is set (R29, R386). -/
theorem policyField_timeout (s : State) (i v : Nat) (hv : v < 2 ^ 20) :
    let f := R.FUNC_TIMEOUT_TOUT_US i
    let m := max 1 (s.rd (R.FUNC_TIMEOUT_MIN_MIN_US i))
    let t := s.policyField f v
    t.rd f = max v m ∧ (v < m → t.rd R.WARD_CLAMP_TIMEOUT = 1) ∧ s.SameBut t [f, R.WARD_CLAMP_TIMEOUT] ∧ s.SameAon t ∧ s.SameCore t ∧
      t.off = s.off := by
  intro f m t
  have ha : 0x200000 ≤ f.addr := by simp only [f, R.FUNC_TIMEOUT_TOUT_US]; omega
  have hm : m = max 1 (getField (s.word false (f.addr + 4)) 0 20) := by
    simp only [m, f, State.rd, R.FUNC_TIMEOUT_MIN_MIN_US, R.FUNC_TIMEOUT_TOUT_US]
    rw [show 0x200024 + i * 0x8000 = 0x200020 + i * 0x8000 + 4 by omega]
  have hlt : m < 2 ^ 20 := by
    have := getField_lt (s.word false (f.addr + 4)) 0 20
    omega
  have hc : R.WARD_CLAMP_TIMEOUT.apart f := .inr (.inl (by simp only [f, R.WARD_CLAMP_TIMEOUT, R.FUNC_TIMEOUT_TOUT_US]; omega))
  have hw : ∀ x < 2 ^ 20, (s.wr f x).rd f = x := fun x hx => by
    rw [State.rd_wr_self _ _ _ (by decide : 0 + 20 ≤ 32)]
    exact Nat.mod_eq_of_lt hx
  have hf : ∀ x, s.SameBut (s.wr f x) [f, R.WARD_CLAMP_TIMEOUT] := fun x => (State.SameBut.refl s _).wr f x (by simp)
  by_cases h : v < m
  · have ht : t = (s.wr f m).wr R.WARD_CLAMP_TIMEOUT 1 := by simp only [t, State.policyField, if_pos ha, ← hm, if_pos h]
    rw [ht]
    refine ⟨?_, fun _ => ?_, (hf m).wr _ _ (by simp), ((State.SameAon.refl s).wr _ _).wr _ _, ((State.SameCore.refl s).wr _ _).wr _ _, ?_⟩
    · rw [State.rd_wr_ne _ _ _ _ hc, hw m hlt]
      omega
    · exact State.rd_wr_self _ _ _ (by decide)
    · rw [State.off_wr _ _ _ rfl, State.off_wr _ _ _ rfl]
  · have ht : t = s.wr f v := by simp only [t, State.policyField, if_pos ha, ← hm, if_neg h]
    rw [ht]
    refine ⟨?_, fun h' => absurd h' h, hf v, (State.SameAon.refl s).wr _ _, (State.SameCore.refl s).wr _ _, State.off_wr _ _ _ rfl⟩
    rw [hw v hv]
    omega

/-- A core-domain command that writes registers alone leaves the rest of both domains. -/
theorem coreCmd_writes {body : State → State} {s u : State} {fs : List Fld} (h : s.off = false) (hb : body { s with out := [] } = u)
    (hu : u.off = false) (hf : ({ s with out := [] } : State).SameBut u fs) (ha : ({ s with out := [] } : State).SameAon u)
    (hc : ({ s with out := [] } : State).SameCore u) :
    ∃ t, coreCmd body s = .next t ∧ (∀ f, t.rd f = u.rd f) ∧ s.SameBut t fs ∧ s.SameAon t ∧ s.SameCore t := by
  obtain ⟨t, ht, hcore, haon, hrd⟩ := coreCmd_next body s u h hb hu
  refine ⟨t, ht, hrd, fun f hfs => (hrd f).trans (hf f hfs), ?_, ?_⟩
  · unfold State.SameAon at *
    rw [haon]
    exact ha
  · unfold State.SameCore at *
    rw [hcore]
    exact hc

/-- Settles O56: the fields a policy write names take their values, TOUT_US is raised to its minimum, and a word without policy fields
sets DENIED and its CLAMP bit; with no image running nothing changes. -/
theorem policyWrites : Obligations.PolicyWrites := by
  intro s a d hoff
  have hexec : exec (.wardPolicyWrite a d) s = coreCmd (wardPolicyWrite a d) s := rfl
  rw [hexec]
  refine ⟨fun hs => ?_, fun hs hd ha => ?_, fun f hs ha hd => ?_, fun hs hf => ?_⟩
  · have hb : wardPolicyWrite a d { s with out := [] } = { s with out := [] } := if_pos hs
    obtain ⟨t, ht, hcore, haon, _⟩ := coreCmd_next _ s _ hoff hb hoff
    exact ⟨t, ht, hcore, haon⟩
  · have hin := policyFields_inWord s.build (4 * a.toNat)
    have hb : wardPolicyWrite a d { s with out := [] } =
        ({ s with out := [] } : State).wrFields d (policyFields s.build (4 * a.toNat)) :=
      (wardPolicyWrite_allowed a d { s with out := [] } hs hd).trans
        (State.foldl_policyField d _ _ fun f hf => by have := (hin f hf).1; omega)
    obtain ⟨hB, hA, hC, ho⟩ := State.wrFields_frame d (policyFields s.build (4 * a.toNat)) (policyFields s.build (4 * a.toNat))
      { s with out := [] } { s with out := [] } (fun f hf => ⟨hf, (hin f hf).2.2⟩) (.refl _ _) (.refl _) (.refl _)
    obtain ⟨t, ht, hrd, hframe⟩ := coreCmd_writes hoff hb (ho.trans hoff) hB hA hC
    exact ⟨t, ht, fun f hf => (hrd f).trans
      (State.wrFields_rd d _ _ (policyFields_apart _ _) (fun g hg => (hin g hg).2.1) f hf), hframe⟩
  · have hb : wardPolicyWrite a d { s with out := [] } =
        ({ s with out := [] } : State).policyField (R.FUNC_TIMEOUT_TOUT_US f.val) (getField d 0 20) := by
      rw [wardPolicyWrite_allowed a d { s with out := [] } hs hd, ha, policyFields_timeout]
      rfl
    obtain ⟨hv, hclamp, hB, hA, hC, ho⟩ := policyField_timeout { s with out := [] } f.val (getField d 0 20) (getField_lt _ _ _)
    obtain ⟨t, ht, hrd, hframe⟩ := coreCmd_writes hoff hb (ho.trans hoff) hB hA hC
    exact ⟨t, ht, (hrd _).trans hv, fun h => (hrd _).trans (hclamp h), hframe⟩
  · obtain ⟨hden, hclamp, hB, hA, hC, ho⟩ := wardPolicyWrite_denied a d { s with out := [] } hs hf
    obtain ⟨t, ht, hrd, hframe⟩ := coreCmd_writes hoff rfl (ho.trans hoff) hB hA hC
    exact ⟨t, ht, (hrd _).trans hden, fun f hfc => (hrd _).trans (hclamp f hfc), hframe⟩

end Sys2Proof.Machine

namespace Sys2Proof.Machine

/-! ## Routing depends on the route registers, the port states and the announcements alone (R305) -/

/-- `t` has the router's active set and announcements of `s`, and its registers below the trace unit's. -/
structure State.SameRoutes (s t : State) : Prop where
  active : t.core.router.active = s.core.router.active
  flow : t.core.router.flow = s.core.router.flow
  rd : ∀ f : Fld, f.addr < 0x160000 → t.rd f = s.rd f

section
variable {s t : State}

theorem State.SameRoutes.extent (h : s.SameRoutes t) (dim : Nat) : t.extent dim = s.extent dim := by
  simp only [State.extent, h.rd R.ROUTE_EXTENT_EX (by decide), h.rd R.ROUTE_EXTENT_EY (by decide), h.rd R.ROUTE_EXTENT_EZ (by decide),
    h.rd R.ROUTE_EXTENT_DIES (by decide)]

theorem State.SameRoutes.self (h : s.SameRoutes t) : t.self = s.self := h.rd _ (by decide)

theorem State.SameRoutes.selfValid (h : s.SameRoutes t) : t.selfValid = s.selfValid := by
  simp only [State.selfValid, State.on, h.rd R.ROUTE_SELF_VALID (by decide), h.rd R.ROUTE_STATUS_SELF_ERR (by decide)]

theorem State.SameRoutes.auxWord (h : s.SameRoutes t) (p : Nat) : t.auxWord p = s.auxWord p := by
  simp only [State.auxWord, h.active]

theorem State.SameRoutes.auxMode (h : s.SameRoutes t) (p : Nat) : t.auxMode p = s.auxMode p := by
  simp only [State.auxMode, h.auxWord, h.extent]

theorem State.SameRoutes.flip (h : s.SameRoutes t) (dim c : Nat) : t.flip dim c = s.flip dim c := by
  simp only [State.flip, h.active]

theorem State.SameRoutes.portReady (h : s.SameRoutes t) {p : Nat} (hp : p < 10) : t.portReady p = s.portReady p := by
  have : t.portState p = s.portState p := h.rd _ (by simp only [R.GATE_STATUS_STATE]; omega)
  simp only [State.portReady, this]

theorem State.SameRoutes.routable (h : s.SameRoutes t) {p : Nat} (hp : p < 10) : t.routable p = s.routable p := by
  simp only [State.routable, h.portReady hp, State.flow, h.flow, h.auxMode]

theorem State.SameRoutes.expressGate (h : s.SameRoutes t) (dim : Nat) (minus : Bool) : t.expressGate dim minus = s.expressGate dim minus := by
  simp only [State.expressGate, List.find?, h.auxMode, h.auxWord, h.routable (show 6 < 10 by decide), h.routable (show 7 < 10 by decide)]

theorem State.expressGate_lt {dim p : Nat} {minus : Bool} (h : s.expressGate dim minus = some p) : p < 10 := by
  have := List.mem_of_find?_eq_some h
  simp only [List.mem_cons, List.not_mem_nil, or_false] at this
  omega

theorem regularPort_lt {dim : Nat} (minus : Bool) (h : dim ≤ 3) : regularPort dim minus < 10 := by
  unfold regularPort b2n
  split <;> split <;> omega

theorem State.SameRoutes.routeOf (h : s.SameRoutes t) (inPort dest : Nat) : t.routeOf inPort dest = s.routeOf inPort dest := by
  simp only [State.routeOf, h.selfValid, h.self, h.extent, h.auxWord, h.auxMode, h.flip, h.expressGate]
  refine ite_congr rfl (fun _ => rfl) fun _ => ite_congr rfl (fun _ => rfl) fun _ => ite_congr rfl (fun _ => rfl) fun _ => ?_
  generalize hd : (if nodeX s.self ≠ nodeX dest then 0 else if nodeY s.self ≠ nodeY dest then 1
    else if nodeZ s.self ≠ nodeZ dest then 2 else 3) = dim
  have hdim : dim ≤ 3 := by rw [← hd]; split_ifs <;> omega
  simp only [h.routable (regularPort_lt _ hdim)]
  refine ite_congr rfl (fun _ => rfl) fun _ => ?_
  split
  · rename_i x hx
    rw [h.routable (State.expressGate_lt hx)]
  · rfl

end

end Sys2Proof.Machine

namespace Sys2Proof.Machine

/-! ## Header fields (R272, R273) -/

theorem bits_testBit (n lo w i : Nat) : (bits n lo w).testBit i = (decide (i < w) && n.testBit (lo + i)) := by
  rw [bits, Nat.testBit_mod_two_pow, ← Nat.testBit_add, Nat.add_comm lo i]

theorem bits_lt (n lo w : Nat) : bits n lo w < 2 ^ w := Nat.mod_lt _ (Nat.two_pow_pos w)

/-- The bits of a number put together from three parts. -/
theorem testBit_parts (hi mid low lo w i : Nat) (hm : mid < 2 ^ w) (hl : low < 2 ^ lo) :
    (2 ^ lo * (2 ^ w * hi + mid) + low).testBit i =
      if i < lo then low.testBit i else if i < lo + w then mid.testBit (i - lo) else hi.testBit (i - lo - w) := by
  rw [Nat.testBit_two_pow_mul_add _ hl, Nat.testBit_two_pow_mul_add _ hm]
  refine ite_congr rfl (fun _ => rfl) fun h => ite_congr ?_ (fun _ => rfl) fun _ => rfl
  exact propext (by omega)

/-- A number is its bits above a field, the field, and its bits below. -/
theorem eq_parts (n lo w : Nat) : n = 2 ^ lo * (2 ^ w * (n / 2 ^ (lo + w)) + bits n lo w) + n % 2 ^ lo := by
  rw [bits, Nat.pow_add, ← Nat.div_div_eq_div_mul, Nat.div_add_mod, Nat.div_add_mod]

/-- Setting a clear field of a number changes the field's bits alone. -/
theorem testBit_add_field (n v lo w i : Nat) (hv : v < 2 ^ w) (h0 : bits n lo w = 0) :
    (v * 2 ^ lo + n).testBit i = if lo ≤ i ∧ i < lo + w then v.testBit (i - lo) else n.testBit i := by
  have hlow := Nat.mod_lt n (Nat.two_pow_pos lo)
  have hsum : v * 2 ^ lo + n = 2 ^ lo * (2 ^ w * (n / 2 ^ (lo + w)) + v) + n % 2 ^ lo := by
    conv_lhs => rw [eq_parts n lo w, h0]
    ring
  have hn := testBit_parts (n / 2 ^ (lo + w)) _ _ lo w i (bits_lt n lo w) hlow
  rw [← eq_parts n lo w] at hn
  rw [hsum, testBit_parts _ _ _ _ _ _ hv hlow, hn]
  by_cases hi : i < lo
  · simp [hi, Nat.not_le.2 hi]
  · have hle : lo ≤ i := Nat.le_of_not_lt hi
    by_cases hw : i < lo + w <;> simp [hi, hle, hw]

theorem bits_add_field_self (n v lo w : Nat) (hv : v < 2 ^ w) (h0 : bits n lo w = 0) : bits (v * 2 ^ lo + n) lo w = v := by
  apply Nat.eq_of_testBit_eq
  intro i
  rw [bits_testBit, testBit_add_field n v lo w _ hv h0]
  by_cases hi : i < w
  · simp [hi]
  · simp [hi, Nat.testBit_lt_two_pow (Nat.lt_of_lt_of_le hv (Nat.pow_le_pow_right (by decide) (Nat.le_of_not_lt hi)))]

theorem bits_add_field_ne (n v lo w lo' w' : Nat) (hv : v < 2 ^ w) (h0 : bits n lo w = 0) (h : lo + w ≤ lo' ∨ lo' + w' ≤ lo) :
    bits (v * 2 ^ lo + n) lo' w' = bits n lo' w' := by
  apply Nat.eq_of_testBit_eq
  intro i
  rw [bits_testBit, bits_testBit, testBit_add_field n v lo w _ hv h0]
  by_cases hi : i < w'
  · rw [if_neg (by omega)]
  · simp [hi]

/-- Two fields (lo, width, value) of a word share no bit. -/
def bitsApart (f g : Nat × Nat × Nat) : Prop := f.1 + f.2.1 ≤ g.1 ∨ g.1 + g.2.1 ≤ f.1

/-- A word put together is clear outside its fields. -/
theorem bits_pack_apart (l : List (Nat × Nat × Nat)) (hl : l.Pairwise bitsApart) (g : Nat × Nat × Nat) (hg : ∀ f ∈ l, bitsApart f g) :
    bits (pack l) g.1 g.2.1 = 0 := by
  induction l generalizing g with
  | nil => simp [pack, bits]
  | cons f l ih =>
    obtain ⟨hf, hl⟩ := List.pairwise_cons.1 hl
    obtain ⟨hfg, hg⟩ := List.forall_mem_cons.1 hg
    have hclear := ih hl f (fun x hx => (hf x hx).symm)
    rw [pack, bits_add_field_ne _ _ _ _ _ _ (Nat.mod_lt _ (Nat.two_pow_pos _)) hclear hfg]
    exact ih hl g hg

/-- A word put together holds its fields. -/
theorem bits_pack_mem (l : List (Nat × Nat × Nat)) (hl : l.Pairwise bitsApart) (g : Nat × Nat × Nat) (hg : g ∈ l) :
    bits (pack l) g.1 g.2.1 = g.2.2 % 2 ^ g.2.1 := by
  induction l with
  | nil => simp at hg
  | cons f l ih =>
    obtain ⟨hf, hl⟩ := List.pairwise_cons.1 hl
    have hclear := bits_pack_apart l hl f (fun x hx => (hf x hx).symm)
    have hlt : f.2.2 % 2 ^ f.2.1 < 2 ^ f.2.1 := Nat.mod_lt _ (Nat.two_pow_pos _)
    rcases List.mem_cons.1 hg with rfl | hg
    · exact bits_add_field_self _ _ _ _ hlt hclear
    · exact (bits_add_field_ne _ _ _ _ _ _ hlt hclear (hf g hg)).trans (ih hl hg)

/-- The bits a header flit keeps of a number. -/
theorem bits_flit (n lo w : Nat) (h : lo + w ≤ 512) : bits (BitVec.ofNat 512 n).toNat lo w = bits n lo w := by
  apply Nat.eq_of_testBit_eq
  intro i
  rw [bits_testBit, bits_testBit, BitVec.testBit_toNat, BitVec.getLsbD_ofNat]
  by_cases hi : i < w
  · have : lo + i < 512 := by omega
    simp only [this, decide_true, Bool.true_and]
  · simp only [hi, decide_false, Bool.false_and]

theorem bits_mul_le (n lo w : Nat) : bits n lo w * 2 ^ lo ≤ n :=
  (Nat.mul_le_mul_right _ (Nat.mod_le _ _)).trans (Nat.div_mul_le_self n _)

/-- A field cleared reads 0. -/
theorem bits_sub_bits_self (n lo w : Nat) : bits (n - bits n lo w * 2 ^ lo) lo w = 0 := by
  have hs : n - bits n lo w * 2 ^ lo = 2 ^ lo * (2 ^ w * (n / 2 ^ (lo + w)) + 0) + n % 2 ^ lo := by
    refine Nat.sub_eq_of_eq_add ?_
    conv_lhs => rw [eq_parts n lo w]
    ring
  apply Nat.eq_of_testBit_eq
  intro i
  rw [bits_testBit, hs, testBit_parts _ _ _ _ _ _ (Nat.two_pow_pos w) (Nat.mod_lt n (Nat.two_pow_pos lo))]
  by_cases hi : i < w <;> simp [hi]

/-- The fields beside one that is cleared stay. -/
theorem bits_sub_bits_ne (n lo w lo' w' : Nat) (h : lo + w ≤ lo' ∨ lo' + w' ≤ lo) :
    bits (n - bits n lo w * 2 ^ lo) lo' w' = bits n lo' w' := by
  have hne := bits_add_field_ne _ _ lo w lo' w' (bits_lt n lo w) (bits_sub_bits_self n lo w) h
  rwa [Nat.add_sub_cancel' (bits_mul_le n lo w), eq_comm] at hne

/-! ## Packets -/

/-- A header field reads back what was set, cut to its width. -/
theorem Packet.fld_set_self (p : Packet) (off lo w v : Nat) (h : 8 * off + lo + w ≤ 512) : (p.set off lo w v).fld off lo w = v % 2 ^ w := by
  unfold Packet.fld Packet.set
  rw [bits_flit _ _ _ h, Nat.add_comm, bits_add_field_self _ _ _ _ (Nat.mod_lt _ (Nat.two_pow_pos _)) (bits_sub_bits_self _ _ _)]

/-- A header field keeps its value when another is set. -/
theorem Packet.fld_set_ne (p : Packet) (off lo w v off' lo' w' : Nat) (hb : 8 * off' + lo' + w' ≤ 512)
    (h : 8 * off + lo + w ≤ 8 * off' + lo' ∨ 8 * off' + lo' + w' ≤ 8 * off + lo) :
    (p.set off lo w v).fld off' lo' w' = p.fld off' lo' w' := by
  unfold Packet.fld Packet.set
  rw [bits_flit _ _ _ hb, Nat.add_comm,
    bits_add_field_ne _ _ _ _ _ _ (Nat.mod_lt _ (Nat.two_pow_pos _)) (bits_sub_bits_self _ _ _) h, bits_sub_bits_ne _ _ _ _ _ h]

@[simp] theorem Packet.set_payload (p : Packet) (off lo w v : Nat) : (p.set off lo w v).payload = p.payload := rfl

/-- The fields of the common header (R273). -/
def headFields (c t dest src queue tag len plen : Nat) : List (Nat × Nat × Nat) :=
  [hf 0 0 3 c, hf 0 3 5 t, hf 1 0 4 plen, hf 2 0 10 len, hf 4 0 20 dest, hf 4 20 20 src, hf 4 40 12 queue, hf 0x0C 0 18 tag]

/-- A packet made of header fields holds them. -/
theorem mkPacket_fld (c t dest src queue tag len : Nat) (fields : List (Nat × Nat × Nat)) (payload : Bytes) (off lo w v : Nat)
    (hp : (headFields c t dest src queue tag len ((payload.length + 63) / 64) ++ fields).Pairwise bitsApart)
    (hm : hf off lo w v ∈ headFields c t dest src queue tag len ((payload.length + 63) / 64) ++ fields) (hb : 8 * off + lo + w ≤ 512) :
    (mkPacket c t dest src queue tag len fields payload).fld off lo w = v % 2 ^ w := by
  unfold Packet.fld mkPacket
  rw [bits_flit _ _ _ hb]
  exact bits_pack_mem _ hp _ hm

/-- A response: its class, type, requester, tag, status and detail (R278). -/
structure Packet.IsRsp (p : Packet) (type dest tag status detail : Nat) : Prop where
  cls : p.cls = 3
  type : p.type = type % 2 ^ 5
  dest : p.dest = dest % 2 ^ 20
  tag : p.tag = tag % 2 ^ 18
  status : p.rspStatus = status % 2 ^ 8
  detail : p.rspDetail = detail % 2 ^ 16

theorem mkPacket_isRsp (type dest src queue tag cm status detail : Nat) :
    (mkPacket 3 type dest src queue tag 0 [hf 1 5 1 cm, hf 0x10 0 8 status, hf 0x11 0 16 detail] []).IsRsp type dest tag status detail := by
  have hp : (headFields 3 type dest src queue tag 0 0 ++ [hf 1 5 1 cm, hf 0x10 0 8 status, hf 0x11 0 16 detail]).Pairwise bitsApart := by
    simp [headFields, hf, bitsApart]
  have hfld := mkPacket_fld 3 type dest src queue tag 0 [hf 1 5 1 cm, hf 0x10 0 8 status, hf 0x11 0 16 detail] []
  exact ⟨hfld 0x00 0 3 3 hp (by simp [headFields]) (by decide), hfld 0x00 3 5 type hp (by simp [headFields]) (by decide),
    hfld 0x04 0 20 dest hp (by simp [headFields]) (by decide), hfld 0x0C 0 18 tag hp (by simp [headFields]) (by decide),
    hfld 0x10 0 8 status hp (by simp) (by decide), hfld 0x11 0 16 detail hp (by simp) (by decide)⟩

/-- The congestion mark of R292 leaves a response one. -/
theorem Packet.IsRsp.mark {p : Packet} {type dest tag status detail : Nat} (h : p.IsRsp type dest tag status detail) :
    (p.set 1 4 1 1).IsRsp type dest tag status detail where
  cls := (p.fld_set_ne _ _ _ _ _ _ _ (by decide) (by decide)).trans h.cls
  type := (p.fld_set_ne _ _ _ _ _ _ _ (by decide) (by decide)).trans h.type
  dest := (p.fld_set_ne _ _ _ _ _ _ _ (by decide) (by decide)).trans h.dest
  tag := (p.fld_set_ne _ _ _ _ _ _ _ (by decide) (by decide)).trans h.tag
  status := (p.fld_set_ne _ _ _ _ _ _ _ (by decide) (by decide)).trans h.status
  detail := (p.fld_set_ne _ _ _ _ _ _ _ (by decide) (by decide)).trans h.detail

end Sys2Proof.Machine

namespace Sys2Proof.Machine

/-! ## What tracing and counting leave (R409, R415-R419) -/

/-- The registers the trace unit's FIFO changes. -/
def traceFields : List Fld := [R.TRACE_LOST_COUNT, R.TRACE_STATUS_LOSS_PEND, R.TRACE_STATUS_FIFO_PEAK]

/-- `t` is `s` after trace events and counts: the FIFO's registers, its records and the counters aside, nothing differs. -/
structure State.Traced (s t : State) : Prop where
  build : t.build = s.build
  aon : t.aon = s.aon
  core : t.core = { s.core with regs := t.core.regs, cnt := t.core.cnt, trace := t.core.trace }
  rd : s.SameBut t traceFields

theorem State.wr_core_aon (s : State) (f : Fld) (v : Nat) (h : f.aon = false) :
    (s.wr f v).aon = s.aon ∧ (s.wr f v).core = { s.core with regs := (s.wr f v).core.regs } := by
  simp [State.wr, State.setWord, h]

section
variable {s t u : State}

theorem State.Traced.refl (s : State) : s.Traced s := ⟨rfl, rfl, rfl, .refl _ _⟩

theorem State.Traced.trans (h : s.Traced t) (g : t.Traced u) : s.Traced u where
  build := g.build.trans h.build
  aon := g.aon.trans h.aon
  core := g.core.trans (by rw [h.core])
  rd := fun f hf => (g.rd f hf).trans (h.rd f hf)

theorem State.Traced.ite (c : Prop) [Decidable c] (h : s.Traced t) (g : s.Traced u) : s.Traced (if c then t else u) := by
  split
  · exact h
  · exact g

theorem State.Traced.countN (h : s.Traced t) (slot event n : Nat) : s.Traced (t.countN slot event n) :=
  h.trans ⟨rfl, rfl, rfl, .refl _ _⟩

theorem State.Traced.count (h : s.Traced t) (slot event : Nat) : s.Traced (t.count slot event) := h.countN _ _ _

theorem State.Traced.wr (h : s.Traced t) (f : Fld) (v : Nat) (hf : f ∈ traceFields) : s.Traced (t.wr f v) := by
  have haon : f.aon = false := by
    simp only [traceFields, List.mem_cons, List.not_mem_nil, or_false] at hf
    rcases hf with rfl | rfl | rfl <;> rfl
  obtain ⟨ha, hc⟩ := State.wr_core_aon t f v haon
  exact h.trans ⟨State.wr_build _ _ _, ha, by rw [hc], (State.SameBut.refl _ _).wr _ _ hf⟩

theorem State.Traced.setTrace (h : s.Traced t) (x : TraceUnit) : s.Traced { t with core.trace := x } :=
  h.trans ⟨rfl, rfl, rfl, .refl _ _⟩

theorem State.Traced.traceTake (h : s.Traced t) (r : Nat) : s.Traced (t.traceTake r) := by
  have hdrop : s.Traced t.traceDrop :=
    (((h.setTrace _).wr _ _ (by simp [traceFields])).wr _ _ (by simp [traceFields])).count _ _
  exact .ite _ hdrop ((h.setTrace _).wr _ _ (by simp [traceFields]))

theorem State.Traced.traceEv (h : s.Traced t) (cat : Option Fld) (kind port cls status : Nat) (func : Option Nat)
    (src queue dest type tag len time arg : Nat) :
    s.Traced (t.traceEv cat kind port cls status func src queue dest type tag len time arg) := by
  exact .ite _ (h.traceTake _) h

theorem State.Traced.tracePkt (h : s.Traced t) (cat : Fld) (kind port status : Nat) (func : Option Nat) (p : Packet) (time arg : Nat) :
    s.Traced (t.tracePkt cat kind port status func p time arg) := by
  exact .ite _ (h.traceEv _ _ _ _ _ _ _ _ _ _ _ _ _ _) h

theorem State.Traced.traceRecv (h : s.Traced t) (port stamp : Nat) (func : Option Nat) (status : Nat) (p : Packet) :
    s.Traced (t.traceRecv port stamp func status p) := h.tracePkt _ _ _ _ _ _ _ _

theorem State.Traced.countRefused (h : s.Traced t) (owner : Option Nat) (status : Nat) : s.Traced (t.countRefused owner status) := by
  cases owner with
  | none => exact h
  | some f => exact h.count _ _

theorem State.Traced.sameRoutes (h : s.Traced t) : s.SameRoutes t where
  active := congrArg (·.router.active) h.core
  flow := congrArg (·.router.flow) h.core
  rd := fun f hf => h.rd f fun g hg => by
    have hga : 0x160000 ≤ g.addr := by
      simp only [traceFields, List.mem_cons, List.not_mem_nil, or_false] at hg
      rcases hg with rfl | rfl | rfl <;> decide
    exact .inr (.inl (by omega))

theorem State.off_eq_of (hb : t.build = s.build) (ha : t.aon = s.aon) : t.off = s.off := by
  simp [State.off, State.seq, State.rd, State.word, R.GLOBAL_START_STATUS_STATE, hb, ha]

/-! ## What sending leaves -/

/-- `t` is `s` but for what sending, tracing, counting and logging change: registers of the core domain, the router, the links, the
circuits, the error log, the trace unit, the counters, the rate cache and the queues' latch tables. -/
structure State.Quiet (s t : State) : Prop where
  build : t.build = s.build
  aon : t.aon = s.aon
  core : t.core = { s.core with
    regs := t.core.regs, rq := { s.core.rq with rates := t.core.rq.rates, queues := t.core.rq.queues }, router := t.core.router,
    links := t.core.links, bolts := t.core.bolts, err := t.core.err, trace := t.core.trace, cnt := t.core.cnt }

theorem State.Quiet.refl (s : State) : s.Quiet s := ⟨rfl, rfl, rfl⟩

theorem State.Quiet.trans (h : s.Quiet t) (g : t.Quiet u) : s.Quiet u where
  build := g.build.trans h.build
  aon := g.aon.trans h.aon
  core := g.core.trans (by rw [h.core])

theorem State.Quiet.ite (c : Prop) [Decidable c] (h : s.Quiet t) (g : s.Quiet u) : s.Quiet (if c then t else u) := by
  split
  · exact h
  · exact g

theorem State.Traced.quiet (h : s.Traced t) : s.Quiet t := ⟨h.build, h.aon, by rw [h.core]⟩

theorem State.Quiet.wr (h : s.Quiet t) (f : Fld) (v : Nat) (hf : f.aon = false) : s.Quiet (t.wr f v) := by
  obtain ⟨ha, hc⟩ := State.wr_core_aon t f v hf
  exact h.trans ⟨State.wr_build _ _ _, ha, by rw [hc]⟩

theorem State.Quiet.countN (h : s.Quiet t) (slot event n : Nat) : s.Quiet (t.countN slot event n) := h.trans ⟨rfl, rfl, rfl⟩

theorem State.Quiet.count (h : s.Quiet t) (slot event : Nat) : s.Quiet (t.count slot event) := h.countN _ _ _

theorem State.Quiet.modLink (h : s.Quiet t) (p : Nat) (g : Link → Link) : s.Quiet (t.modLink p g) := h.trans ⟨rfl, rfl, rfl⟩

theorem State.Quiet.setQueued (h : s.Quiet t) (l : List OutPkt) : s.Quiet { t with core.router.queued := l } := h.trans ⟨rfl, rfl, rfl⟩

theorem State.Quiet.delCircuit (h : s.Quiet t) (k : Nat) : s.Quiet (t.delCircuit k) := h.trans ⟨rfl, rfl, rfl⟩

theorem State.Quiet.setCircuit (h : s.Quiet t) (k : Nat) (c : Circuit) : s.Quiet (t.setCircuit k c) := h.trans ⟨rfl, rfl, rfl⟩

theorem State.Quiet.modQs (h : s.Quiet t) (q : Nat) (f : QState → QState) : s.Quiet (t.modQs q f) := h.trans ⟨rfl, rfl, rfl⟩

theorem State.Quiet.setRates (h : s.Quiet t) (l : List RateEntry) : s.Quiet { t with core.rq.rates := l } := h.trans ⟨rfl, rfl, rfl⟩

theorem State.Quiet.enqueue (h : s.Quiet t) (o : OutPkt) : s.Quiet (t.enqueue o) := by
  exact .setQueued (.wr (.ite _ (h.count _ _) h) _ _ rfl) _

theorem State.Quiet.sendPort (h : s.Quiet t) (p : Nat) (k : Packet) : s.Quiet (t.sendPort p k) := by
  exact .ite _ (h.enqueue _) (.ite _ (h.modLink _ _) h)

/-- An error of CLASS 9 waits to be merged (R401). -/
theorem State.Quiet.logDiscard (h : s.Quiet t) (port out node : Nat) : s.Quiet (t.logDiscard port out node) :=
  h.trans (.ite _ ⟨rfl, rfl, rfl⟩ ⟨rfl, rfl, rfl⟩)

/-- A packet without a tag that is discarded is only logged (R306, R388). -/
theorem State.Quiet.discardFor (h : s.Quiet t) (inPort port dest : Nat) : s.Quiet (t.discardFor inPort port none dest) :=
  (State.Quiet.ite _ (h.wr _ _ rfl) h).logDiscard _ _ _

theorem State.Quiet.closeCheck (h : s.Quiet t) (k : Nat) : s.Quiet (t.closeCheck k) := by
  unfold State.closeCheck
  split
  · split
    · exact (h.delCircuit k).sendPort _ _
    · exact h
  · exact h

theorem State.Quiet.tdmDone (h : s.Quiet t) (r : Req) : s.Quiet (t.tdmDone r) := by
  unfold State.tdmDone
  split
  · exact h
  · split
    · exact h
    · exact (h.setCircuit _ _).closeCheck _

theorem State.Quiet.writeEnded (h : s.Quiet t) (r : Req) (failed : Bool) : s.Quiet (t.writeEnded r failed) := by
  unfold State.writeEnded
  have hu : s.Quiet (if r.uncounted then t.modQs r.queue (fun x => { x with uncounted := x.uncounted - 1 }) else t) :=
    .ite _ (h.modQs _ _) h
  cases r.counted with
  | none => exact hu
  | some _ => exact hu.modQs _ _

theorem State.Quiet.rateRoom (h : s.Quiet t) (f node : Nat) : s.Quiet (t.rateRoom f node) := by
  refine .ite _ h (.ite _ h ?_)
  split
  · exact h
  · exact .ite _ (((h.setRates _).wr _ _ rfl).count _ _) (h.setRates _)

theorem State.Quiet.echo (h : s.Quiet t) (f node : Nat) : s.Quiet (t.echo f node) := by
  refine .ite _ (h.count _ _) (.setRates ?_ _)
  split
  · exact h.count _ _
  · exact ((h.count _ _).rateRoom f node).trans ⟨rfl, rfl, rfl⟩

end

end Sys2Proof.Machine

namespace Sys2Proof.Machine

/-! ## Taking packets (log entry 6) -/

theorem takeFirst_sat {α : Type} {p : α → Bool} {l rest : List α} {x : α} (h : takeFirst p l = some (x, rest)) : p x = true := by
  induction l generalizing rest with
  | nil => simp [takeFirst] at h
  | cons y l ih =>
    by_cases hy : p y = true
    · simp only [takeFirst, hy, if_true, Option.some.injEq, Prod.mk.injEq] at h
      rw [← h.1]
      exact hy
    · simp only [takeFirst, hy, Bool.false_eq_true, if_false, Option.map_eq_some_iff, Prod.mk.injEq] at h
      obtain ⟨⟨z, r⟩, hz, rfl, -⟩ := h
      exact ih hz

theorem State.withReq_some {s : State} {t : Nat} {i : InPkt} {rest : List InPkt} (f : InPkt → State → State)
    (h : takeFirst (fun i => (i.pkt.cls == 1 || i.pkt.cls == 2) && i.pkt.type == t) s.core.resp.inbox = some (i, rest)) :
    s.withReq t f = f i { s with core.resp.inbox := rest } := by
  simp [State.withReq, State.takePkt, h]

theorem State.withPkt_some {s : State} {c t : Nat} {g : Packet → Bool} {i : InPkt} {rest : List InPkt} (f : InPkt → State → State)
    (h : takeFirst (fun i => i.pkt.cls == c && i.pkt.type == t && g i.pkt) s.core.resp.inbox = some (i, rest)) :
    s.withPkt c t g f = f i { s with core.resp.inbox := rest } := by
  simp [State.withPkt, State.takePkt, h]

/-! ## Packets of the local units (R305, R306, R311) -/

section
variable {s t u : State}

/-- A queued packet stands last in the router's queue, perhaps with the congestion mark of R292. -/
theorem State.enqueue_last (s : State) (o : OutPkt) :
    ∃ l x, (s.enqueue o).core.router.queued = l ++ [x] ∧ x.port = o.port ∧ x.entry = o.entry ∧
      (x.pkt = o.pkt ∨ x.pkt = o.pkt.set 1 4 1 1) := by
  unfold State.enqueue
  dsimp only
  refine ⟨_, _, rfl, ?_⟩
  split <;> simp

theorem State.inject_deliver (func : Option Nat) (p : Packet) (h : s.routeOf 10 p.dest = .deliver) :
    s.inject func none p = s.deliver ⟨10, 0, p⟩ := by
  unfold State.inject State.routePacket
  rw [h]
  cases func <;> rfl

theorem State.inject_out (func : Option Nat) (p : Packet) {port : Nat} {entry : Bool} (h : s.routeOf 10 p.dest = .out port entry) :
    s.inject func none p = s.enqueue ⟨10, port, entry, 0, func, none, p, 0⟩ := by
  unfold State.inject State.routePacket
  rw [h]

theorem State.inject_discard (func : Option Nat) (p : Packet) {port : Nat} (h : s.routeOf 10 p.dest = .discard port) :
    s.inject func none p = s.discardFor 10 port none p.dest := by
  unfold State.inject State.routePacket
  rw [h]

/-- A packet without a tag changes the local units' store and what sending changes. -/
theorem State.inject_quiet (s : State) (func : Option Nat) (p : Packet) :
    ({ s with core.resp.inbox := (s.inject func none p).core.resp.inbox } : State).Quiet (s.inject func none p) := by
  cases h : s.routeOf 10 p.dest with
  | deliver =>
    rw [State.inject_deliver func p h]
    exact .refl _
  | out port entry =>
    rw [State.inject_out func p h]
    have hq := (State.Quiet.refl s).enqueue ⟨10, port, entry, 0, func, none, p, 0⟩
    exact ⟨hq.build, hq.aon, by rw [hq.core]⟩
  | discard port =>
    rw [State.inject_discard func p h]
    have hq := (State.Quiet.refl s).discardFor 10 port p.dest
    exact ⟨hq.build, hq.aon, by rw [hq.core]⟩

/-! ## Responses (R278) -/

/-- The response to a request outside TDM pairs, routed after its trace event. -/
theorem State.respond_eq (s : State) (port : Nat) (req : Packet) (func : Option Nat) (type : Nat) (cm : Bool) (status detail : Nat)
    (h : req.tdm = false) :
    ∃ v, s.Traced v ∧ s.respond port req func type cm status detail [] [] =
      v.inject func none (mkPacket 3 type req.srcNode s.self req.squeue req.tag 0
        [hf 1 5 1 (b2n cm), hf 0x10 0 8 status, hf 0x11 0 16 detail] []) := by
  unfold State.respond
  simp only [h, Bool.false_eq_true, if_false]
  exact ⟨_, .ite _ ((State.Traced.refl s).tracePkt _ _ _ _ _ _ _ _) (.refl s), rfl⟩

theorem Packet.fld_lt (p : Packet) (off lo w : Nat) : p.fld off lo w < 2 ^ w := bits_lt _ _ _

/-- A request outside TDM pairs is answered (R278, R305). -/
theorem State.respond_answered (hr : s.SameRoutes u) (port : Nat) (req : Packet) (func : Option Nat) (type : Nat) (cm : Bool)
    (status detail : Nat) (h : req.tdm = false) :
    s.Answered (u.respond port req func type cm status detail [] []) req
      (fun p => p.type = type % 2 ^ 5 ∧ p.rspStatus = status % 2 ^ 8 ∧ p.rspDetail = detail % 2 ^ 16) := by
  obtain ⟨v, hv, hresp⟩ := u.respond_eq port req func type cm status detail h
  rw [hresp]
  have hp := mkPacket_isRsp type req.srcNode u.self req.squeue req.tag (b2n cm) status detail
  have hdest : ∀ k : Packet, k.IsRsp type req.srcNode req.tag status detail → k.dest = req.srcNode := fun k hk =>
    hk.dest.trans (Nat.mod_eq_of_lt (req.fld_lt _ _ _))
  have htag : ∀ k : Packet, k.IsRsp type req.srcNode req.tag status detail → k.tag = req.tag := fun k hk =>
    hk.tag.trans (Nat.mod_eq_of_lt (req.fld_lt _ _ _))
  have hroute : ∀ d, v.routeOf 10 d = s.routeOf 10 d := fun d => (hv.sameRoutes.routeOf 10 d).trans (hr.routeOf 10 d)
  constructor
  · intro hd
    rw [State.inject_deliver _ _ (by rw [hroute, hdest _ hp, hd])]
    exact ⟨_, _, rfl, hp.cls, hdest _ hp, htag _ hp, hp.type, hp.status, hp.detail⟩
  · intro port entry ho
    rw [State.inject_out _ _ (by rw [hroute, hdest _ hp, ho])]
    obtain ⟨l, x, hl, hport, hentry, hpkt⟩ := v.enqueue_last ⟨10, port, entry, 0, func, none, _, 0⟩
    have hx : x.pkt.IsRsp type req.srcNode req.tag status detail := by
      rcases hpkt with hx | hx <;> rw [hx]
      · exact hp
      · exact hp.mark
    exact ⟨l, x, hl, hport, hentry, hx.cls, hdest _ hx, htag _ hx, hx.type, hx.status, hx.detail⟩

/-! ## Frames of the responder -/

/-- `t` is `s` but for what answering a request changes: what sending changes, the local units' store, the latch tracker, the next
identifier and the work left. -/
structure State.Served (s t : State) : Prop where
  build : t.build = s.build
  aon : t.aon = s.aon
  core : t.core = { s.core with
    regs := t.core.regs, rq := { s.core.rq with rates := t.core.rq.rates, queues := t.core.rq.queues }, router := t.core.router,
    links := t.core.links, bolts := t.core.bolts, err := t.core.err, trace := t.core.trace, cnt := t.core.cnt,
    work := t.core.work, nextId := t.core.nextId, resp := { s.core.resp with inbox := t.core.resp.inbox, tracks := t.core.resp.tracks } }

theorem State.Served.refl (s : State) : s.Served s := ⟨rfl, rfl, rfl⟩

theorem State.Served.trans (h : s.Served t) (g : t.Served u) : s.Served u where
  build := g.build.trans h.build
  aon := g.aon.trans h.aon
  core := g.core.trans (by rw [h.core])

theorem State.Quiet.served (h : s.Quiet t) : s.Served t := ⟨h.build, h.aon, by rw [h.core]⟩

theorem State.Served.setArrivals (h : s.Served t) (x : SMap Arrival) :
    ({ s with core.resp.arrivals := x } : State).Served { t with core.resp.arrivals := x } :=
  ⟨h.build, h.aon, by rw [h.core]⟩

theorem State.Served.inject (h : s.Served t) (func : Option Nat) (p : Packet) : s.Served (t.inject func none p) := by
  have hq := t.inject_quiet func p
  exact h.trans ⟨hq.build, hq.aon, by rw [hq.core]⟩

theorem State.Served.trackEnd (h : s.Served t) (p : Packet) (ok : Bool) : s.Served (t.trackEnd p ok) := by
  unfold State.trackEnd
  split
  · exact h
  · exact h.trans ⟨rfl, rfl, rfl⟩

theorem State.Served.trackAway (h : s.Served t) (p : Packet) : s.Served (t.trackAway p) := by
  unfold State.trackAway
  split
  · exact h
  · exact h.trans ⟨rfl, rfl, rfl⟩

theorem State.Served.refuse (h : s.Served t) (port : Nat) (p : Packet) (func : Option Nat) (cm : Bool) (status detail : Nat)
    (htdm : p.tdm = false) : s.Served (t.refuse port p func cm status detail) := by
  obtain ⟨v, hv, hresp⟩ := (t.trackEnd p false).respond_eq port p func (rspType p.type) cm status detail htdm
  rw [State.refuse, hresp]
  exact ((h.trackEnd p false).trans hv.quiet.served).inject _ _

end

end Sys2Proof.Machine

namespace Sys2Proof.Machine

/-! ## The lookup of an arrival (R20, R111) -/

section
variable {s t : State}

/-- The arrival a request becomes. -/
def newArrival (i : InPkt) : Arrival :=
  ⟨i.pkt, i.port, i.stamp, .check, false, none, 0, 0, 0, 0, 0, false, 0, 0, 0, 0, 0, none, 0, 0, none, none⟩

/-- The state in which a request is looked up: it has an identifier, and a counted write is tracked (R92). -/
def State.entered (s : State) (i : InPkt) : State :=
  (({ s with core.nextId := s.core.nextId + 1 } : State).trackIn i.pkt).setArr s.core.nextId (newArrival i)

theorem State.arrive_eq (s : State) (i : InPkt) (hf : s.fatal = false) :
    s.arrive i false = (s.entered i).arrLook s.core.nextId (newArrival i) none := by
  simp only [State.arrive, hf, Bool.false_eq_true, if_false]
  rfl

theorem State.arrive_fatal (s : State) (i : InPkt) (hf : s.fatal = true) :
    s.arrive i false = (s.traceRecv i.port i.stamp none 0x12 i.pkt).refuse i.port i.pkt none i.pkt.cm 0x12 (det 3 0x0F0) := by
  simp only [State.arrive, hf, if_true]

theorem State.trackIn_eq (s : State) (p : Packet) :
    s.trackIn p = { s with core.work := (s.trackIn p).core.work, core.resp.tracks := (s.trackIn p).core.resp.tracks } := by
  unfold State.trackIn
  dsimp only
  split
  · rfl
  · split
    · rfl
    · split <;> rfl

/-- Entering changes the identifier, the tracker, the work left and the arrivals. -/
theorem State.entered_eq (s : State) (i : InPkt) :
    s.entered i = { s with
      core.nextId := s.core.nextId + 1, core.work := (s.entered i).core.work,
      core.resp.tracks := (s.entered i).core.resp.tracks,
      core.resp.arrivals := SMap.put s.core.resp.arrivals s.core.nextId (newArrival i) } := by
  have h := State.trackIn_eq { s with core.nextId := s.core.nextId + 1 } i.pkt
  unfold State.entered State.setArr
  rw [h]

theorem State.entered_rd (s : State) (i : InPkt) (f : Fld) : (s.entered i).rd f = s.rd f := by
  rw [State.entered_eq]
  rfl

theorem State.entered_lookup (s : State) (i : InPkt) (p : Packet) : (s.entered i).lookupReq p = s.lookupReq p := by
  rw [State.entered_eq]
  rfl

theorem State.entered_routes (s : State) (i : InPkt) : s.SameRoutes (s.entered i) where
  active := by rw [State.entered_eq]
  flow := by rw [State.entered_eq]
  rd := fun f _ => s.entered_rd i f

theorem State.SameRoutes.trans {u : State} (h : s.SameRoutes t) (g : t.SameRoutes u) : s.SameRoutes u where
  active := g.active.trans h.active
  flow := g.flow.trans h.flow
  rd := fun f hf => (g.rd f hf).trans (h.rd f hf)

/-- The arrival gone again, what entering leaves is what answering may change. -/
theorem State.entered_served (s : State) (i : InPkt) (x : SMap Arrival) :
    ({ s with core.resp.arrivals := x } : State).Served { s.entered i with core.resp.arrivals := x } := by
  rw [State.entered_eq]
  exact ⟨rfl, rfl, rfl⟩

theorem State.delArr_routes (s : State) (id : Nat) : s.SameRoutes (s.delArr id) := ⟨rfl, rfl, fun _ _ => rfl⟩

theorem State.trackEnd_routes (s : State) (p : Packet) (ok : Bool) : s.SameRoutes (s.trackEnd p ok) := by
  unfold State.trackEnd
  split <;> exact ⟨rfl, rfl, fun _ _ => rfl⟩

theorem State.trackAway_routes (s : State) (p : Packet) : s.SameRoutes (s.trackAway p) := by
  unfold State.trackAway
  split <;> exact ⟨rfl, rfl, fun _ _ => rfl⟩

/-- A refused arrival is answered and gone (R111). -/
theorem State.refuseArr_entered (s : State) (i : InPkt) (htdm : i.pkt.tdm = false) (owner : Option Nat) (status detail : Nat) :
    let t := (s.entered i).refuseArr s.core.nextId (newArrival i) owner status detail
    s.Answered t i.pkt (fun p => p.type = rspType i.pkt.type % 2 ^ 5 ∧ p.rspStatus = status % 2 ^ 8 ∧ p.rspDetail = detail % 2 ^ 16) ∧
      t.arr? s.core.nextId = none ∧ ∃ x, ({ s with core.resp.arrivals := x } : State).Served t := by
  intro t
  obtain ⟨v, hv, ht⟩ : ∃ v, (s.entered i).Traced v ∧
      t = (v.delArr s.core.nextId).refuse i.port i.pkt owner i.pkt.cm status detail :=
    ⟨_, ((State.Traced.refl _).traceRecv _ _ _ _ _).countRefused _ _, rfl⟩
  have hserved : (v.delArr s.core.nextId).Served t := by
    rw [ht]
    exact (State.Served.refl _).refuse _ _ _ _ _ _ htdm
  have harr : t.core.resp.arrivals = SMap.del v.core.resp.arrivals s.core.nextId := congrArg (·.resp.arrivals) hserved.core
  have hroutes : s.SameRoutes ((v.delArr s.core.nextId).trackEnd i.pkt false) :=
    (((s.entered_routes i).trans hv.sameRoutes).trans (v.delArr_routes _)).trans (State.trackEnd_routes _ _ _)
  refine ⟨?_, ?_, SMap.del v.core.resp.arrivals s.core.nextId, ?_⟩
  · rw [ht]
    exact State.respond_answered hroutes _ _ _ _ _ _ _ htdm
  · rw [State.arr?, harr, SMap.get?_del_self]
  · exact ((s.entered_served i _).trans (hv.quiet.served.setArrivals _)).trans hserved

/-- In FATAL an arrival at a window is answered with ABORTED (R398). -/
theorem State.arrive_fatal_spec (s : State) (i : InPkt) (hf : s.fatal = true) (htdm : i.pkt.tdm = false) :
    let t := s.arrive i false
    s.Answered t i.pkt (fun p => p.type = rspType i.pkt.type % 2 ^ 5 ∧ p.rspStatus = 0x12 % 2 ^ 8 ∧
      p.rspDetail = det 3 0x0F0 % 2 ^ 16) ∧ s.Served t := by
  intro t
  have hv := (State.Traced.refl s).traceRecv i.port i.stamp none 0x12 i.pkt
  have ht : t = _ := s.arrive_fatal i hf
  rw [ht]
  exact ⟨State.respond_answered (hv.sameRoutes.trans (State.trackEnd_routes _ _ _)) _ _ _ _ _ _ _ htdm,
    hv.quiet.served.refuse _ _ _ _ _ _ htdm⟩

/-- Check 5 of an arrival that passes checks 1 to 4 begins (R20, R113). -/
theorem State.arrive_ok (s : State) (i : InPkt) (w : Window) (hf : s.fatal = false) (hw : s.lookupReq i.pkt = .ok w) (h4 : i.pkt.type ≠ 4) :
    s.arrive i false = (s.entered i).checkFive s.core.nextId (newArrival i) w := by
  rw [State.arrive_eq s i hf, State.arrLook, show (newArrival i).pkt = i.pkt from rfl, s.entered_lookup, hw]
  exact if_neg h4

theorem State.arrive_fails (s : State) (i : InPkt) (st re : Nat) (owner : Option Nat) (hf : s.fatal = false)
    (hw : s.lookupReq i.pkt = .fails st re owner) :
    s.arrive i false = (s.entered i).refuseArr s.core.nextId (newArrival i) owner st (det 3 re) := by
  rw [State.arrive_eq s i hf, State.arrLook, show (newArrival i).pkt = i.pkt from rfl, s.entered_lookup, hw]

theorem State.arrive_alias (s : State) (i : InPkt) (w : Window) (hf : s.fatal = false) (hw : s.lookupReq i.pkt = .alias_ w) :
    s.arrive i false = (s.entered i).forward s.core.nextId (newArrival i) w := by
  rw [State.arrive_eq s i hf, State.arrLook, show (newArrival i).pkt = i.pkt from rfl, s.entered_lookup, hw]

/-- The statuses and REASONs of checks 1 to 4 fit their fields (R112, R278). -/
theorem State.lookup_fails {ptr perm st re : Nat} {len : Option Nat} {owner : Option Nat} (h : s.lookup ptr perm len = .fails st re owner) :
    st % 2 ^ 8 = st ∧ det 3 re % 2 ^ 16 = 3 * 4096 + re := by
  unfold State.lookup at h
  cases len <;> dsimp only at h <;> split_ifs at h <;> cases h <;> decide

/-- An access that passes check 4 has a length (R112). -/
theorem State.lookup_ok_len {ptr perm : Nat} {len : Option Nat} {w : Window} (h : s.lookup ptr perm len = .ok w) :
    some (len.getD 0) = len := by
  cases len with
  | some n => rfl
  | none =>
    unfold State.lookup at h
    dsimp only at h
    split_ifs at h

/-! ## Forwarding (R118, R277) -/

/-- The FWD packet of a request at a window that forwards. -/
def fwdPacket (p : Packet) (target : Nat) : Packet :=
  (((p.set 0x10 0 96 (ptrAdd target (ptrOffset p.ptr))).set 0 0 3 2).set 4 0 20 (ptrNode target)).set 0x0C 18 9 0

/-- A packet that carries a request on to the target of a forwarding window. -/
structure Packet.Forwards (k p : Packet) (target : Nat) : Prop where
  cls : k.cls = 2
  type : k.type = p.type
  ptr : k.ptr = ptrAdd target (ptrOffset p.ptr) % 2 ^ 96
  dest : k.dest = ptrNode target
  srcNode : k.srcNode = p.srcNode
  tag : k.tag = p.tag
  payload : k.payload = p.payload

theorem Packet.Forwards.mark {k p : Packet} {target : Nat} (h : k.Forwards p target) : (k.set 1 4 1 1).Forwards p target where
  cls := (k.fld_set_ne _ _ _ _ _ _ _ (by decide) (by decide)).trans h.cls
  type := (k.fld_set_ne _ _ _ _ _ _ _ (by decide) (by decide)).trans h.type
  ptr := (k.fld_set_ne _ _ _ _ _ _ _ (by decide) (by decide)).trans h.ptr
  dest := (k.fld_set_ne _ _ _ _ _ _ _ (by decide) (by decide)).trans h.dest
  srcNode := (k.fld_set_ne _ _ _ _ _ _ _ (by decide) (by decide)).trans h.srcNode
  tag := (k.fld_set_ne _ _ _ _ _ _ _ (by decide) (by decide)).trans h.tag
  payload := (k.set_payload _ _ _ _).trans h.payload

theorem fwdPacket_forwards (p : Packet) (target : Nat) : (fwdPacket p target).Forwards p target := by
  unfold fwdPacket
  constructor
  · unfold Packet.cls
    rw [Packet.fld_set_ne _ _ _ _ _ _ _ _ (by decide) (by decide), Packet.fld_set_ne _ _ _ _ _ _ _ _ (by decide) (by decide),
      Packet.fld_set_self _ _ _ _ _ (by decide)]
    rfl
  · unfold Packet.type
    rw [Packet.fld_set_ne _ _ _ _ _ _ _ _ (by decide) (by decide), Packet.fld_set_ne _ _ _ _ _ _ _ _ (by decide) (by decide),
      Packet.fld_set_ne _ _ _ _ _ _ _ _ (by decide) (by decide), Packet.fld_set_ne _ _ _ _ _ _ _ _ (by decide) (by decide)]
  · unfold Packet.ptr
    rw [Packet.fld_set_ne _ _ _ _ _ _ _ _ (by decide) (by decide), Packet.fld_set_ne _ _ _ _ _ _ _ _ (by decide) (by decide),
      Packet.fld_set_ne _ _ _ _ _ _ _ _ (by decide) (by decide), Packet.fld_set_self _ _ _ _ _ (by decide)]
  · unfold Packet.dest
    rw [Packet.fld_set_ne _ _ _ _ _ _ _ _ (by decide) (by decide), Packet.fld_set_self _ _ _ _ _ (by decide)]
    exact Nat.mod_eq_of_lt (bits_lt _ _ _)
  · unfold Packet.srcNode
    rw [Packet.fld_set_ne _ _ _ _ _ _ _ _ (by decide) (by decide), Packet.fld_set_ne _ _ _ _ _ _ _ _ (by decide) (by decide),
      Packet.fld_set_ne _ _ _ _ _ _ _ _ (by decide) (by decide), Packet.fld_set_ne _ _ _ _ _ _ _ _ (by decide) (by decide)]
  · unfold Packet.tag
    rw [Packet.fld_set_ne _ _ _ _ _ _ _ _ (by decide) (by decide), Packet.fld_set_ne _ _ _ _ _ _ _ _ (by decide) (by decide),
      Packet.fld_set_ne _ _ _ _ _ _ _ _ (by decide) (by decide), Packet.fld_set_ne _ _ _ _ _ _ _ _ (by decide) (by decide)]
  · rw [Packet.set_payload, Packet.set_payload, Packet.set_payload, Packet.set_payload]

/-- A WRITE or READ of class REQ at a forwarding window leaves as a FWD packet (R118, R277). -/
theorem State.forward_entered (s : State) (i : InPkt) (w : Window) {port : Nat} {entry : Bool} (ht : i.pkt.type = 0 ∨ i.pkt.type = 1)
    (hc : i.pkt.cls = 1) (hr : s.routeOf 10 (ptrNode w.aliasTo) = .out port entry) :
    let t := (s.entered i).forward s.core.nextId (newArrival i) w
    (∃ l o, t.core.router.queued = l ++ [o] ∧ o.port = port ∧ o.pkt.Forwards i.pkt w.aliasTo) ∧
      t.arr? s.core.nextId = none ∧ ∃ x, ({ s with core.resp.arrivals := x } : State).Served t := by
  intro t
  have h3 : i.pkt.type ≠ 3 := by omega
  have h2 : i.pkt.type ≠ 2 := by omega
  have hc2 : i.pkt.cls ≠ 2 := by omega
  obtain ⟨v, hv, heq⟩ : ∃ v, (s.entered i).Traced v ∧
      t = ((v.delArr s.core.nextId).trackAway i.pkt).inject none none (fwdPacket i.pkt w.aliasTo) :=
    ⟨_, (State.Traced.refl _).traceRecv i.port i.stamp (some w.func) 0 i.pkt, by
      simp only [t, State.forward, show (newArrival i).pkt = i.pkt from rfl, h3, h2, hc2, if_false]
      rfl⟩
  have hfwd := fwdPacket_forwards i.pkt w.aliasTo
  have hroutes : s.SameRoutes ((v.delArr s.core.nextId).trackAway i.pkt) :=
    (((s.entered_routes i).trans hv.sameRoutes).trans (v.delArr_routes _)).trans (State.trackAway_routes _ _)
  have hserved : (v.delArr s.core.nextId).Served t := by
    rw [heq]
    exact ((State.Served.refl _).trackAway _).inject _ _
  have harr : t.core.resp.arrivals = SMap.del v.core.resp.arrivals s.core.nextId := congrArg (·.resp.arrivals) hserved.core
  refine ⟨?_, ?_, SMap.del v.core.resp.arrivals s.core.nextId, ?_⟩
  · rw [heq, State.inject_out _ _ ((hroutes.routeOf 10 _).trans (by rw [hfwd.dest, hr]))]
    obtain ⟨l, o, hl, hport, -, hpkt⟩ := State.enqueue_last ((v.delArr s.core.nextId).trackAway i.pkt)
      ⟨10, port, entry, 0, none, none, fwdPacket i.pkt w.aliasTo, 0⟩
    refine ⟨l, o, hl, hport, ?_⟩
    rcases hpkt with h | h <;> rw [h]
    · exact hfwd
    · exact hfwd.mark
  · rw [State.arr?, harr, SMap.get?_del_self]
  · exact ((s.entered_served i _).trans (hv.quiet.served.setArrivals _)).trans hserved

end

end Sys2Proof.Machine

namespace Sys2Proof.Machine

/-! ## The checks of arriving requests (R20, R111, R113, R118, R398) -/

section
variable {s t u : State}

theorem State.SameRoutes.refl (s : State) : s.SameRoutes s := ⟨rfl, rfl, fun _ _ => rfl⟩

theorem State.Answered.congr {s' : State} {req : Packet} {ok ok' : Packet → Prop} (h : s.Answered u req ok) (hr : s'.SameRoutes s)
    (hc : t.core = u.core) (hok : ∀ p, ok p → ok' p) : s'.Answered t req ok' := by
  obtain ⟨hd, ho⟩ := h
  constructor
  · intro hs
    obtain ⟨l, x, hl, hcls, hdest, htag, hx⟩ := hd ((hr.routeOf _ _).trans hs)
    exact ⟨l, x, by rw [hc, hl], hcls, hdest, htag, hok _ hx⟩
  · intro p e hs
    obtain ⟨l, o, hl, hp, he, hcls, hdest, htag, hx⟩ := ho p e ((hr.routeOf _ _).trans hs)
    exact ⟨l, o, by rw [hc, hl], hp, he, hcls, hdest, htag, hok _ hx⟩

/-- The commands of arriving requests, with the type each takes. -/
theorem exec_arrivalCmd (s : State) : ∀ x ∈ [(Instr.writeArrival, 0), (.readArrival, 1), (.atomicArrival, 2), (.latchArrival, 3), (.signalArrival, 4)],
    exec x.1 s = coreCmd (fun s => s.withReq x.2 (fun i s => s.arrive i false)) s ∧ x.2 ≤ 4 := by
  simp only [List.forall_mem_cons]
  exact ⟨⟨rfl, by decide⟩, ⟨rfl, by decide⟩, ⟨rfl, by decide⟩, ⟨rfl, by decide⟩, ⟨rfl, by decide⟩, by simp⟩

/-- The state in which an arrival is served: its packet is taken, and no output stands. -/
def State.taken (s : State) (rest : List InPkt) : State := { s with out := [], core.resp.inbox := rest }

theorem State.taken_routes (s : State) (rest : List InPkt) : s.SameRoutes (s.taken rest) := ⟨rfl, rfl, fun _ _ => rfl⟩

/-- An arrival command serves the first packet of its type. -/
theorem exec_arrival {x : Instr × Nat} {i : InPkt} {rest : List InPkt}
    (hx : x ∈ [(Instr.writeArrival, 0), (.readArrival, 1), (.atomicArrival, 2), (.latchArrival, 3), (.signalArrival, 4)])
    (hoff : s.off = false)
    (htake : takeFirst (fun i => (i.pkt.cls == 1 || i.pkt.cls == 2) && i.pkt.type == x.2) s.core.resp.inbox = some (i, rest))
    (hb : ((s.taken rest).arrive i false).build = s.build) (ha : ((s.taken rest).arrive i false).aon = s.aon) :
    ∃ t, exec x.1 s = .next t ∧ t.core = ((s.taken rest).arrive i false).core ∧ t.aon = s.aon := by
  obtain ⟨hexec, -⟩ := exec_arrivalCmd s x hx
  obtain ⟨t, ht, hcore, haon, -⟩ := coreCmd_next (fun s => s.withReq x.2 (fun i s => s.arrive i false)) s
    ((s.taken rest).arrive i false) hoff (State.withReq_some _ htake) ((State.off_eq_of hb ha).trans hoff)
  exact ⟨t, hexec.trans ht, hcore, haon.trans ha⟩

/-- What check 5 starts (R113). -/
theorem State.checkFive_spec (s : State) (i : InPkt) (w : Window) :
    let u := (s.entered i).checkFive s.core.nextId (newArrival i) w
    let n := (arrivalLen i.pkt).getD 0
    let va := (w.base + ptrOffset i.pkt.ptr) % 2 ^ 64
    u.arr? s.core.nextId = some { newArrival i with va := va, len := n, func := w.func } ∧
      SMap.get? u.core.jobs (s.core.nextId + 1) = some ⟨w.func, va, n, .virt (i.pkt.type == 1 || i.pkt.type == 2) (i.pkt.type != 1)
        (some w.ksel), .probe, [], 4, 1, 0, 0, 0, 0, 0, .arrCheck s.core.nextId⟩ ∧
      u.build = s.build ∧ u.aon = s.aon ∧ u.core.resp.inbox = s.core.resp.inbox ∧ u.core.win = s.core.win ∧ u.core.rq = s.core.rq ∧
      u.core.mem = s.core.mem ∧ u.core.regs = s.core.regs := by
  intro u n va
  have hE := s.entered_eq i
  have hid : (s.entered i).core.nextId = s.core.nextId + 1 := congrArg (·.core.nextId) hE
  refine ⟨SMap.get?_put_self _ _ _, ?_, congrArg (·.build) hE, congrArg (·.aon) hE, congrArg (·.core.resp.inbox) hE,
    congrArg (·.core.win) hE, congrArg (·.core.rq) hE, congrArg (·.core.mem) hE, congrArg (·.core.regs) hE⟩
  rw [← hid]
  exact SMap.get?_put_self _ _ _

theorem rspType_mod (n : Nat) : rspType n % 2 ^ 5 = rspType n := by
  unfold rspType
  split_ifs <;> rfl

/-- What a forwarding window does not pass on is refused under R120. -/
theorem State.forward_refused (s : State) (id : Nat) (a : Arrival) (w : Window) (h : a.pkt.type = 2 ∨ a.pkt.type = 3 ∨ a.pkt.cls = 2) :
    s.forward id a w = s.refuseArr id a (some w.func) 0x05
      (det 3 (if a.pkt.type = 3 then 0x021 else if a.pkt.type = 2 then 0x023 else 0x022)) := by
  unfold State.forward
  dsimp only
  by_cases h3 : a.pkt.type = 3
  · simp only [h3, if_true]
  · by_cases h2 : a.pkt.type = 2
    · simp only [h2, if_true, if_neg (show ¬ 2 = 3 by decide)]
    · have hc : a.pkt.cls = 2 := by tauto
      simp only [h3, h2, hc, if_false, if_true]

/-- What a forwarding window does not pass on is refused. -/
theorem State.arrive_alias_refused (s : State) (i : InPkt) (w : Window) (hf : s.fatal = false) (hw : s.lookupReq i.pkt = .alias_ w)
    (h : i.pkt.type = 2 ∨ i.pkt.type = 3 ∨ i.pkt.cls = 2) :
    s.arrive i false = (s.entered i).refuseArr s.core.nextId (newArrival i) (some w.func) 0x05
      (det 3 (if i.pkt.type = 3 then 0x021 else if i.pkt.type = 2 then 0x023 else 0x022)) :=
  (s.arrive_alias i w hf hw).trans (State.forward_refused _ _ (newArrival i) w h)

theorem State.arr?_congr (h : t.core = u.core) (id : Nat) : t.arr? id = u.arr? id := by
  rw [State.arr?, h, State.arr?]

/-- An arrival command takes a packet of its type. -/
theorem arrival_type {n : Nat} {i : InPkt} {l rest : List InPkt}
    (h : takeFirst (fun i => (i.pkt.cls == 1 || i.pkt.cls == 2) && i.pkt.type == n) l = some (i, rest)) : i.pkt.type = n := by
  have := takeFirst_sat h
  simp only [Bool.and_eq_true, beq_iff_eq] at this
  exact this.2

/-- An arrival that is refused is answered; no window, operation, access or byte of memory changes. -/
theorem exec_arrival_refused {x : Instr × Nat} {i : InPkt} {rest : List InPkt} {owner : Option Nat} {status detail : Nat}
    (hx : x ∈ [(Instr.writeArrival, 0), (.readArrival, 1), (.atomicArrival, 2), (.latchArrival, 3), (.signalArrival, 4)])
    (hoff : s.off = false) (htdm : i.pkt.tdm = false)
    (htake : takeFirst (fun i => (i.pkt.cls == 1 || i.pkt.cls == 2) && i.pkt.type == x.2) s.core.resp.inbox = some (i, rest))
    (hu : (s.taken rest).arrive i false = ((s.taken rest).entered i).refuseArr s.core.nextId (newArrival i) owner status detail) :
    ∃ t, exec x.1 s = .next t ∧
      s.Answered t i.pkt (fun p => p.type = rspType x.2 ∧ p.rspStatus = status % 2 ^ 8 ∧ p.rspDetail = detail % 2 ^ 16) ∧
      t.arr? s.core.nextId = none ∧ t.core.win = s.core.win ∧ t.core.rq.ops = s.core.rq.ops ∧ t.core.mem = s.core.mem ∧
      t.core.jobs = s.core.jobs ∧ t.aon = s.aon := by
  obtain ⟨hans, harr, y, hserved⟩ := (s.taken rest).refuseArr_entered i htdm owner status detail
  rw [show (s.taken rest).core.nextId = s.core.nextId from rfl, ← hu] at hans harr hserved
  obtain ⟨t, ht, hcore, ha⟩ := exec_arrival hx hoff htake hserved.build hserved.aon
  have hc := hcore.trans hserved.core
  rw [arrival_type htake, rspType_mod] at hans
  exact ⟨t, ht, hans.congr (s.taken_routes rest) hcore fun _ hp => hp, (State.arr?_congr hcore _).trans harr, congrArg (·.win) hc,
    congrArg (·.rq.ops) hc, congrArg (·.mem) hc, congrArg (·.jobs) hc, ha⟩

end

/-- Settles O30: checks 1 to 4 lead an arrival to check 5, to its refusal or on to the target of a forwarding window; in FATAL it is aborted. -/
theorem requestsAreChecked : Obligations.RequestsAreChecked := by
  constructor
  · intro s i rest hoff hfatal x hx htake
    have hx5 : x ∈ [(Instr.writeArrival, 0), (.readArrival, 1), (.atomicArrival, 2), (.latchArrival, 3), (.signalArrival, 4)] :=
      List.mem_append_left [(Instr.signalArrival, 4)] hx
    have hx4 : x.2 ≠ 4 := by
      simp only [List.mem_cons, List.not_mem_nil, or_false] at hx
      rcases hx with rfl | rfl | rfl | rfl <;> decide
    have htype := arrival_type htake
    have hf : (s.taken rest).fatal = false := hfatal
    refine ⟨fun w hw => ?_, fun st re owner hw htdm => ?_, fun w hw htdm hno => ?_, fun w port entry hw hty hcls hroute => ?_⟩
    · have hu := (s.taken rest).arrive_ok i w hf hw (by omega)
      obtain ⟨harr, hjob, hbuild, haon, hin, hwin, hrq, hmem, hregs⟩ := (s.taken rest).checkFive_spec i w
      rw [← hu] at harr hjob hbuild haon hin hwin hrq hmem hregs
      obtain ⟨t, ht, hcore, ha⟩ := exec_arrival hx5 hoff htake hbuild haon
      rw [← hcore] at hin hwin hrq hmem hregs hjob
      rw [htype] at hjob
      exact ⟨t, _, _, ht, (State.arr?_congr hcore _).trans harr, rfl, rfl, rfl, hjob, rfl, rfl, rfl, State.lookup_ok_len hw, rfl, hin,
        hwin, hrq, hmem, hregs, ha⟩
    · obtain ⟨hst, hre⟩ := State.lookup_fails hw
      have := exec_arrival_refused hx5 hoff htdm htake ((s.taken rest).arrive_fails i st re owner hf hw)
      rwa [hst, hre] at this
    · have hu := (s.taken rest).arrive_alias_refused i w hf hw (by rwa [htype])
      rw [htype] at hu
      obtain ⟨t, ht, hans, harr, hwin, -, hmem, hjobs, ha⟩ := exec_arrival_refused hx5 hoff htdm htake hu
      refine ⟨t, ht, hans.congr (.refl s) rfl fun p hp => ⟨hp.1, hp.2.1, hp.2.2.trans ?_⟩, harr, hwin, hmem, hjobs, ha⟩
      split_ifs <;> rfl
    · have hu := (s.taken rest).arrive_alias i w hf hw
      obtain ⟨⟨l, o, hl, hport, hfwd⟩, harr, y, hserved⟩ := (s.taken rest).forward_entered i w (by rwa [htype]) hcls
        (((s.taken_routes rest).routeOf _ _).trans hroute)
      rw [← hu] at hl harr hserved
      obtain ⟨t, ht, hcore, ha⟩ := exec_arrival hx5 hoff htake hserved.build hserved.aon
      have hc := hcore.trans hserved.core
      exact ⟨t, l, o, ht, by rw [hcore, hl], hport, hfwd.cls, hfwd.type.trans htype, hfwd.ptr, hfwd.dest, hfwd.srcNode, hfwd.tag,
        hfwd.payload, (State.arr?_congr hcore _).trans harr, congrArg (·.win) hc, congrArg (·.mem) hc, congrArg (·.jobs) hc, ha⟩
  · intro s i rest hoff hfatal htdm x hx htake
    obtain ⟨hans, hserved⟩ := (s.taken rest).arrive_fatal_spec i hfatal htdm
    obtain ⟨t, ht, hcore, ha⟩ := exec_arrival hx hoff htake hserved.build hserved.aon
    have hc := hcore.trans hserved.core
    rw [arrival_type htake, rspType_mod] at hans
    exact ⟨t, ht, hans.congr (s.taken_routes rest) hcore fun _ hp => hp, congrArg (·.resp.arrivals) hc, congrArg (·.win) hc,
      congrArg (·.mem) hc, congrArg (·.jobs) hc, congrArg (·.rq.signals) hc⟩

end Sys2Proof.Machine

namespace Sys2Proof.Machine

/-! ## Responses (R22, R74, R77, R78, R88, R93, R390) -/

section
variable {s t u : State}

/-- The response to a request that was sent reaches it, after its trace event and its echo (R278, R293). -/
theorem State.withRsp_sent {type : Nat} {i : InPkt} {rest : List InPkt} {r : Req} (f : Nat → Req → InPkt → State → State)
    (htake : takeFirst (fun i => i.pkt.cls == 3 && i.pkt.type == type && true) s.core.resp.inbox = some (i, rest))
    (hr : s.req? i.pkt.tag = some r) (hs : r.state = .sent) :
    ∃ v, ({ s with core.resp.inbox := rest } : State).Quiet v ∧ s.withRsp type f = f i.pkt.tag r i v := by
  have hr' : ({ s with core.resp.inbox := rest } : State).req? i.pkt.tag = some r := hr
  rw [State.withRsp, State.withPkt_some _ htake]
  simp only [hr', hs]
  refine ⟨_, ?_, rfl⟩
  have hq := (((State.Traced.refl { s with core.resp.inbox := rest }).count (funcSlot r.func) 3).tracePkt R.TRACE_CTL_PKT 0x14
    (if i.port < 10 then i.port else 15) i.pkt.rspStatus (some r.func) i.pkt
    (State.now { s with core.resp.inbox := rest }) i.stamp).quiet
  exact .ite _ (hq.echo _ _) hq

/-- The response of a quarantined tag is discarded and counted (R390). -/
theorem State.withRsp_quarantine {type : Nat} {i : InPkt} {rest : List InPkt} {r : Req} (f : Nat → Req → InPkt → State → State)
    (htake : takeFirst (fun i => i.pkt.cls == 3 && i.pkt.type == type && true) s.core.resp.inbox = some (i, rest))
    (hr : s.req? i.pkt.tag = some r) (hs : r.state = .quarantine) :
    s.withRsp type f =
      let v := ({ s with core.resp.inbox := rest } : State).count blockSlot 8
      if r.func < 64 then v.count (funcSlot r.func) 20 else v := by
  have hr' : ({ s with core.resp.inbox := rest } : State).req? i.pkt.tag = some r := hr
  rw [State.withRsp, State.withPkt_some _ htake]
  simp only [hr', hs, true_or, if_true]

/-! ### The end of a request -/

theorem State.foldl_post {α : Type} (g : α → Work) (l : List α) (s : State) :
    l.foldl (fun s x => s.post (g x)) s = { s with core.work := s.core.work ++ l.map g } := by
  induction l generalizing s with
  | nil => simp
  | cons x l ih =>
    rw [List.foldl_cons, ih]
    simp only [State.post, List.map_cons, List.append_assoc, List.cons_append, List.nil_append]

/-- A tag freed is no request's; requests and work aside, nothing changes. -/
theorem State.freeTag_spec (s : State) (t : Nat) :
    (s.freeTag t).req? t = none ∧ ∃ reqs work, s.freeTag t = { s with core.rq.reqs := reqs, core.work := work } := by
  unfold State.freeTag
  split
  · exact ⟨‹_›, _, _, rfl⟩
  · dsimp only
    rw [State.foldl_post (fun p : Nat × Op => Work.cut p.1)]
    exact ⟨SMap.get?_del_self _ _, _, _, rfl⟩

/-- An operation after one of its packets has ended (R22, R74). -/
def Op.afterPacket (o : Op) (r : Req) (status detail : Nat) : Op :=
  let ff := if status = 0 then o.firstFail
    else match o.firstFail with
      | some (n, a, b, c) => if n ≤ r.pkt then some (n, a, b, c) else some (r.pkt, status, detail, r.failResult o.desc status)
      | none => some (r.pkt, status, detail, r.failResult o.desc status)
  { o with open_ := o.open_ - 1, bytes := o.bytes + (if status = 0 then r.delivered (dExpand o.desc) else 0), firstFail := ff }

theorem State.opPacket_some {r : Req} {o : Op} (ho : s.op? r.op = some o) (status detail : Nat) :
    s.opPacket r status detail = (s.setOp r.op (o.afterPacket r status detail)).post (.settle r.op) := by
  unfold State.opPacket
  rw [ho]
  rfl

theorem State.op?_congr (h : t.core.rq.ops = s.core.rq.ops) (n : Nat) : t.op? n = s.op? n := by rw [State.op?, h, State.op?]

theorem State.req?_congr (h : t.core.rq.reqs = s.core.rq.reqs) (n : Nat) : t.req? n = s.req? n := by rw [State.req?, h, State.req?]

theorem State.Quiet.op? (h : s.Quiet t) (n : Nat) : t.op? n = s.op? n := State.op?_congr (congrArg (·.rq.ops) h.core) n

theorem State.req?_of_put {m : SMap Req} {n : Nat} {r : Req} (h : s.core.rq.reqs = SMap.put m n r) : s.req? n = some r := by
  rw [State.req?, h, SMap.get?_put_self]

theorem State.op?_of_put {m : SMap Op} {n : Nat} {o : Op} (h : s.core.rq.ops = SMap.put m n o) : s.op? n = some o := by
  rw [State.op?, h, SMap.get?_put_self]

/-- A request that ends frees its tag, and its operation learns of it. -/
theorem State.reqEnd_spec (s : State) (t : Nat) (r : Req) (o : Op) (ho : s.op? r.op = some o) (status detail : Nat) :
    let u := s.reqEnd t r status detail
    u.req? t = none ∧ u.op? r.op = some (o.afterPacket r status detail) ∧ .settle r.op ∈ u.core.work ∧ u.build = s.build ∧ u.aon = s.aon ∧
      u.core.resp = s.core.resp ∧ u.core.win = s.core.win ∧ u.core.mem = s.core.mem := by
  intro u
  obtain ⟨v, hv, hu⟩ : ∃ v, s.Quiet v ∧ u = (v.freeTag t).opPacket r status detail :=
    ⟨_, (State.Quiet.ite _ (((State.Quiet.refl s).writeEnded r (status != 0)).countN _ _ _)
      ((State.Quiet.refl s).writeEnded r (status != 0))).tdmDone r, rfl⟩
  obtain ⟨hfree, reqs, work, hw⟩ := v.freeTag_spec t
  have hop : (v.freeTag t).op? r.op = some o := by
    rw [hw]
    exact (hv.op? _).trans ho
  rw [State.opPacket_some hop] at hu
  have huv : u.core = { v.core with
      rq.reqs := reqs, rq.ops := SMap.put v.core.rq.ops r.op (o.afterPacket r status detail), work := work ++ [.settle r.op] } := by
    rw [hu, hw]
    rfl
  have hreqs : u.core.rq.reqs = (v.freeTag t).core.rq.reqs := by rw [huv, hw]
  refine ⟨(State.req?_congr hreqs t).trans hfree, State.op?_of_put (congrArg (·.rq.ops) huv), by rw [huv]; simp, ?_, ?_, ?_, ?_, ?_⟩
  · rw [hu, hw]
    exact hv.build
  · rw [hu, hw]
    exact hv.aon
  · exact (congrArg (·.resp) huv).trans (congrArg (·.resp) hv.core)
  · exact (congrArg (·.win) huv).trans (congrArg (·.win) hv.core)
  · exact (congrArg (·.mem) huv).trans (congrArg (·.mem) hv.core)

/-- A command of a response that was sent for hands it to its request, by `g`; tracing and the echo are all that comes before. -/
theorem exec_rsp_sent {c : Instr} {type : Nat} {f : Nat → Req → InPkt → State → State} {i : InPkt} {rest : List InPkt} {r : Req}
    (hexec : exec c s = coreCmd (fun s => s.withRsp type f) s) (hoff : s.off = false)
    (htake : takeFirst (fun i => i.pkt.cls == 3 && i.pkt.type == type && true) s.core.resp.inbox = some (i, rest))
    (hr : s.req? i.pkt.tag = some r) (hs : r.state = .sent) (g : State → State)
    (hg : ∀ v, (s.taken rest).Quiet v → f i.pkt.tag r i v = g v ∧ (g v).build = v.build ∧ (g v).aon = v.aon) :
    ∃ t v, exec c s = .next t ∧ (s.taken rest).Quiet v ∧ t.core = (g v).core := by
  obtain ⟨v, hv, hbody⟩ := State.withRsp_sent (s := { s with out := [] }) f htake hr hs
  obtain ⟨hf, hb, ha⟩ := hg v hv
  obtain ⟨t, ht, hcore, -, -⟩ := coreCmd_next (fun s => s.withRsp type f) s (g v) hoff (hbody.trans hf)
    ((State.off_eq_of (hb.trans hv.build) (ha.trans hv.aon)).trans hoff)
  exact ⟨t, v, hexec.trans ht, hv, hcore⟩

/-- A command of a response that ends its request: the tag is free, and the operation learns of it. -/
theorem exec_rsp_ends {c : Instr} {type : Nat} {f : Nat → Req → InPkt → State → State} {i : InPkt} {rest : List InPkt} {r : Req} {o : Op}
    (hexec : exec c s = coreCmd (fun s => s.withRsp type f) s) (hoff : s.off = false)
    (htake : takeFirst (fun i => i.pkt.cls == 3 && i.pkt.type == type && true) s.core.resp.inbox = some (i, rest))
    (hr : s.req? i.pkt.tag = some r) (hs : r.state = .sent) (ho : s.op? r.op = some o) (status detail : Nat)
    (hf : ∀ v, f i.pkt.tag r i v = v.reqEnd i.pkt.tag r status detail) :
    ∃ t, exec c s = .next t ∧ t.req? i.pkt.tag = none ∧ t.op? r.op = some (o.afterPacket r status detail) ∧ .settle r.op ∈ t.core.work ∧
      t.core.resp.inbox = rest ∧ t.core.win = s.core.win ∧ t.core.mem = s.core.mem := by
  have hend : ∀ v, (s.taken rest).Quiet v → _ := fun v hv =>
    v.reqEnd_spec i.pkt.tag r o ((hv.op? _).trans ho) status detail
  obtain ⟨t, v, ht, hv, hcore⟩ := exec_rsp_sent hexec hoff htake hr hs (fun v => v.reqEnd i.pkt.tag r status detail)
    fun v hv => ⟨hf v, (hend v hv).2.2.2.1, (hend v hv).2.2.2.2.1⟩
  obtain ⟨hreq, hop, hwork, -, -, hresp, hwin, hmem⟩ := hend v hv
  rw [← hcore] at hresp hwin hmem hwork
  exact ⟨t, ht, (State.req?_congr (congrArg (·.rq.reqs) hcore) _).trans hreq, (State.op?_congr (congrArg (·.rq.ops) hcore) _).trans hop,
    hwork, (congrArg (·.inbox) hresp).trans (congrArg (·.resp.inbox) hv.core), hwin.trans (congrArg (·.win) hv.core),
    hmem.trans (congrArg (·.mem) hv.core)⟩

/-- An atomic's response leaves its result, cut to the operand's size (R81, R88). -/
theorem State.atomicOk_spec (s : State) (t : Nat) (r : Req) (o : Op) (ho : s.op? r.op = some o) (old : Nat) :
    let u := s.atomicOk t r old
    u.build = s.build ∧ u.aon = s.aon ∧ u.req? t = none ∧
      ∃ o', u.op? r.op = some o' ∧ o'.open_ = o.open_ - 1 ∧ o'.result = old % 2 ^ (8 * atypeBytes (dAtype o.desc)) := by
  intro u
  have ho' : (s.count (funcSlot r.func) 6).op? r.op = some o := ho
  have hu : u = ((s.count (funcSlot r.func) 6).setOp r.op { o with
      result := old % 2 ^ (8 * atypeBytes (dAtype o.desc)),
      ieee := (atomicNew (dAop o.desc) (dAtype o.desc) (old % 2 ^ (8 * atypeBytes (dAtype o.desc))) (dOperand o.desc) (dCompare o.desc)).2 }).reqEnd
      t r 0 0 := by
    simp only [u, State.atomicOk, ho']
  obtain ⟨hreq, hop, -, hb, ha, -⟩ := State.reqEnd_spec ((s.count (funcSlot r.func) 6).setOp r.op _) t r _
    (State.op?_of_put rfl) 0 0
  rw [← hu] at hreq hop hb ha
  exact ⟨hb, ha, hreq, _, hop, rfl, rfl⟩

/-- Every command of a response takes the first response of its type. -/
theorem exec_rspCmd (s : State) : ∀ x ∈ [(Instr.ackReceive, 0), (.dataReceive, 1), (.atomicRspReceive, 2), (.janswerReceive, 3),
    (.noTrackReceive, 4), (.boltAckReceive, 5)], ∃ f, exec x.1 s = coreCmd (fun s => s.withRsp x.2 f) s := by
  simp only [List.forall_mem_cons]
  exact ⟨⟨_, rfl⟩, ⟨_, rfl⟩, ⟨_, rfl⟩, ⟨_, rfl⟩, ⟨_, rfl⟩, ⟨_, rfl⟩, by simp⟩

end

/-- Settles O20: the responses of requests that were sent, and those of quarantined tags. -/
theorem responsesArrive : Obligations.ResponsesArrive := by
  constructor
  · intro s i rest r o hoff hr hs ho
    refine ⟨fun htake hk hst => ?_, fun htake hk hst hff => ?_, fun htake hk hst => ?_, fun htake hk htdm hst => ?_,
      fun htake hk hst => ?_, fun htake hk htdm => ?_⟩
    · obtain ⟨t, ht, hreq, hop, hwork, hin, hwin, hmem⟩ := exec_rsp_ends (c := .ackReceive) rfl hoff htake hr hs ho _ _
        fun v => if_pos (by simp [hk])
      rw [hst] at hop
      refine ⟨t, _, ht, hreq, hop, rfl, ?_, rfl, hwork, hin, hwin, hmem⟩
      simp [Op.afterPacket, Req.delivered, hk]
    · obtain ⟨t, ht, hreq, hop, -⟩ := exec_rsp_ends (c := .ackReceive) rfl hoff htake hr hs ho _ _ fun v => if_pos (by simp [hk])
      refine ⟨t, _, ht, hreq, hop, rfl, ?_, ?_⟩ <;> simp [Op.afterPacket, hst, hff]
    · obtain ⟨t, v, ht, hv, hcore⟩ := exec_rsp_sent (c := .dataReceive) rfl hoff htake hr hs
        (fun v => (v.setReq i.pkt.tag { r with state := .landing }).physJob r.func r.pa r.len r.ksel .write (padTo r.len i.pkt.payload) 2
          (.reqLand i.pkt.tag)) fun v _ => ⟨by simp only [hk, hst]; rfl, rfl, rfl⟩
      have hid : v.core.nextId = s.core.nextId := congrArg (·.nextId) hv.core
      rw [← hid]
      refine ⟨t, ht, State.req?_of_put (congrArg (·.rq.reqs) hcore), by rw [hcore]; rfl, ?_,
        (State.op?_congr (congrArg (·.rq.ops) hcore) _).trans ((hv.op? _).trans ho)⟩
      rw [hcore]
      exact congrArg (Option.map _) (SMap.get?_put_self _ _ _)
    · obtain ⟨t, v, ht, hv, hcore⟩ := exec_rsp_sent (c := .dataReceive) rfl hoff htake hr hs
        (fun v => v.setReq i.pkt.tag { r with
          kind := .copyWrite, state := .ready, node := ptrNode r.rptr, payload := padTo r.len i.pkt.payload, tdm := none, heldBy := 0 })
        fun v _ => ⟨by simp only [hk, hst, State.tdmDone, htdm]; rfl, rfl, rfl⟩
      exact ⟨t, _, ht, State.req?_of_put (congrArg (·.rq.reqs) hcore), rfl, rfl, rfl, rfl,
        (State.op?_congr (congrArg (·.rq.ops) hcore) _).trans ((hv.op? _).trans ho)⟩
    · have hend : ∀ v, (s.taken rest).Quiet v → _ := fun v hv => v.atomicOk_spec i.pkt.tag r o ((hv.op? _).trans ho) (i.pkt.fld 0x20 0 128)
      obtain ⟨t, v, ht, hv, hcore⟩ := exec_rsp_sent (c := .atomicRspReceive) rfl hoff htake hr hs
        (fun v => v.atomicOk i.pkt.tag r (i.pkt.fld 0x20 0 128))
        fun v hv => ⟨by simp only [hk, hst]; rfl, (hend v hv).1, (hend v hv).2.1⟩
      obtain ⟨-, -, hreq, o', hop, hopen, hres⟩ := hend v hv
      exact ⟨t, o', ht, (State.req?_congr (congrArg (·.rq.reqs) hcore) _).trans hreq,
        (State.op?_congr (congrArg (·.rq.ops) hcore) _).trans hop, hres, hopen⟩
    · have hheld : ({ r with state := .held, tdm := none } : Req) = { r with state := .held } := by rw [← htdm]
      obtain ⟨t, v, ht, hv, hcore⟩ := exec_rsp_sent (c := .noTrackReceive) rfl hoff htake hr hs
        (fun v => v.setReq i.pkt.tag { r with state := .held, tdm := none })
        fun v _ => ⟨by simp only [hk, State.tdmDone, htdm]; rfl, rfl, rfl⟩
      rw [hheld] at hcore
      exact ⟨t, ht, State.req?_of_put (congrArg (·.rq.reqs) hcore),
        (State.op?_congr (congrArg (·.rq.ops) hcore) _).trans ((hv.op? _).trans ho)⟩
  · intro s i rest r hoff hr hs x hx htake
    obtain ⟨f, hexec⟩ := exec_rspCmd s x hx
    have hbody := State.withRsp_quarantine (s := { s with out := [] }) f htake hr hs
    have hoff' : (if r.func < 64 then ((s.taken rest).count blockSlot 8).count (funcSlot r.func) 20
        else (s.taken rest).count blockSlot 8).off = false := by
      split <;> exact hoff
    obtain ⟨t, ht, hcore, haon, -⟩ := coreCmd_next (fun s => s.withRsp x.2 f) s _ hoff hbody hoff'
    have hcnt := State.countN_self (s.taken rest) blockSlot 8 1
    have hne := State.countN_ne ((s.taken rest).count blockSlot 8) (funcSlot r.func) 20 1 (blockSlot * 32 + 8)
      (by unfold blockSlot funcSlot; omega)
    refine ⟨t, hexec.trans ht, ?_⟩
    rw [hcore, haon]
    by_cases hfunc : r.func < 64
    · rw [if_pos hfunc]
      exact ⟨rfl, rfl, hne.trans hcnt, rfl, rfl, rfl, rfl⟩
    · rw [if_neg hfunc]
      exact ⟨rfl, rfl, hcnt, rfl, rfl, rfl, rfl⟩

end Sys2Proof.Machine

namespace Sys2Proof.Machine

/-! ## What the collective engine does outside its own store -/

/-- `t` is `s` but for what lies outside the always-on domain, the collective engine and the windows. -/
structure State.Aside (s t : State) : Prop where
  build : t.build = s.build
  aon : t.aon = s.aon
  col : t.core.col = s.core.col
  win : t.core.win = s.core.win

section
variable {s t u : State}

theorem State.Aside.refl (s : State) : s.Aside s := ⟨rfl, rfl, rfl, rfl⟩

theorem State.Aside.trans (h : s.Aside t) (g : t.Aside u) : s.Aside u :=
  ⟨g.build.trans h.build, g.aon.trans h.aon, g.col.trans h.col, g.win.trans h.win⟩

theorem State.Aside.ite (c : Prop) [Decidable c] (h : s.Aside t) (g : s.Aside u) : s.Aside (if c then t else u) := by
  split
  · exact h
  · exact g

theorem State.Aside.foldl {α : Type} {f : State → α → State} (hf : ∀ (u : State) (x : α), u.Aside (f u x)) (h : s.Aside t) (l : List α) :
    s.Aside (l.foldl f t) := by
  induction l generalizing t with
  | nil => exact h
  | cons x l ih => exact ih (h.trans (hf t x))

theorem State.Quiet.aside (h : s.Quiet t) : s.Aside t :=
  ⟨h.build, h.aon, congrArg (·.col) h.core, congrArg (·.win) h.core⟩

theorem State.Aside.post (h : s.Aside t) (w : Work) : s.Aside (t.post w) := h.trans ⟨rfl, rfl, rfl, rfl⟩

theorem State.Aside.countN (h : s.Aside t) (slot event n : Nat) : s.Aside (t.countN slot event n) := h.trans ⟨rfl, rfl, rfl, rfl⟩

theorem State.Aside.count (h : s.Aside t) (slot event : Nat) : s.Aside (t.count slot event) := h.countN _ _ _

theorem State.Aside.wr (h : s.Aside t) (f : Fld) (v : Nat) (hf : f.aon = false) : s.Aside (t.wr f v) :=
  h.trans ((State.Quiet.refl t).wr f v hf).aside

theorem State.Aside.traceEv (h : s.Aside t) (cat : Option Fld) (kind port cls status : Nat) (func : Option Nat)
    (src queue dest type tag len time arg : Nat) :
    s.Aside (t.traceEv cat kind port cls status func src queue dest type tag len time arg) :=
  h.trans ((State.Traced.refl t).traceEv _ _ _ _ _ _ _ _ _ _ _ _ _ _).quiet.aside

theorem State.Aside.inject (h : s.Aside t) (func : Option Nat) (p : Packet) : s.Aside (t.inject func none p) := by
  have hq := (t.inject_quiet func p).aside
  exact h.trans ⟨hq.build, hq.aon, hq.col, hq.win⟩

theorem State.Aside.setSig (h : s.Aside t) (i v : Nat) : s.Aside (t.setSig i v) := h.trans ⟨rfl, rfl, rfl, rfl⟩

theorem State.Aside.addSig (h : s.Aside t) (i n : Nat) : s.Aside (t.addSig i n) := by
  unfold State.addSig
  exact h.setSig _ _

theorem State.Aside.virtJob (h : s.Aside t) (func va len : Nat) (acc : Acc) (data : Bytes) (src queue : Nat) (p : Purpose) :
    s.Aside (t.virtJob func va len acc data src queue p) := h.trans ⟨rfl, rfl, rfl, rfl⟩

theorem State.Aside.setTblRefs (h : s.Aside t) (n k v : Nat) : s.Aside (t.setTblRefs n k v) := by
  unfold State.setTblRefs
  refine h.wr _ _ ?_
  split <;> rfl

theorem State.Aside.takeRef (h : s.Aside t) (key : Nat) : s.Aside (t.takeRef key) := by
  unfold State.takeRef
  exact h.setTblRefs _ _ _

theorem State.Aside.dropRef (h : s.Aside t) (key : Nat) : s.Aside (t.dropRef key) := by
  unfold State.dropRef
  exact (h.setTblRefs _ _ _).post _

theorem State.Aside.dropRef? (h : s.Aside t) (ref : Option Nat) : s.Aside (t.dropRef? ref) := by
  cases ref with
  | none => exact h
  | some key => exact h.dropRef key

theorem State.Aside.dropRefs (h : s.Aside t) (c : Coll) : s.Aside (t.dropRefs c) :=
  h.foldl (fun u => (State.Aside.refl u).dropRef?) _

theorem State.Aside.sendMember (h : s.Aside t) (x : Group) (m queue sub run seq epoch sig : Nat) (fields : List (Nat × Nat × Nat)) :
    s.Aside (t.sendMember x m queue sub run seq epoch sig fields) := by
  unfold State.sendMember State.sendGroup
  exact h.inject _ _

theorem State.Aside.sendAbort (h : s.Aside t) (x : Group) (epoch run reason chunk node : Nat) (came : Option Nat) :
    s.Aside (t.sendAbort x epoch run reason chunk node came) :=
  h.foldl (fun u _ => (State.Aside.refl u).sendMember _ _ _ _ _ _ _ _ _) _

/-- An operation that fails leaves a record (R70). -/
theorem State.Aside.endOp (h : s.Aside t) (id detail result stamp : Nat) {status : Nat} (hst : status ≠ 0) :
    s.Aside (t.endOp id status detail result stamp) := by
  unfold State.endOp
  cases t.op? id with
  | none => exact h
  | some o =>
    dsimp only
    rw [if_neg (show ¬ (status = 0 ∧ ¬ dCqe o.desc = true) from fun hc => hst hc.1)]
    exact .ite _ h ((State.Aside.ite _ (h.count _ _) h).trans ⟨rfl, rfl, rfl, rfl⟩)

/-! ## Groups and their running collectives -/

theorem State.running?_eq_some {g : Nat} {x : Group} {c : Coll} {o : Op} :
    s.running? g = some (x, c, o) ↔ s.group? g = some x ∧ x.coll = some c ∧ s.op? c.op = some o := by
  unfold State.running?
  constructor
  · intro h
    split at h
    · simp at h
    · split at h
      · simp at h
      · simp only [Option.map_eq_some_iff, Prod.mk.injEq] at h
        obtain ⟨_, ho, rfl, rfl, rfl⟩ := h
        exact ⟨‹_›, ‹_›, ho⟩
  · rintro ⟨hg, hc, ho⟩
    simp [hg, hc, ho]

theorem State.group?_congr (h : t.core.col = s.core.col) (g : Nat) : t.group? g = s.group? g := by rw [State.group?, h, State.group?]

@[simp] theorem State.group?_setGroup_self (s : State) (g : Nat) (x : Group) : (s.setGroup g x).group? g = some x := SMap.get?_put_self _ _ _

theorem State.group?_setGroup_ne (s : State) {g k : Nat} (x : Group) (h : k ≠ g) : (s.setGroup g x).group? k = s.group? k :=
  SMap.get?_put_ne _ _ _ _ h

/-- What a fault leaves of a group (R157, R173). -/
structure Group.Faulted (x y : Group) (reason node : Nat) : Prop where
  state : y.state = 4
  reason : y.faultReason = reason
  node : y.faultNode = node
  epoch : y.faultEpoch = x.epoch
  coll : y.coll = none
  issued : y.issued = []
  prun : y.prun = none

/-- A fault of an epoch faults its group and leaves the others. -/
theorem State.epochFault_spec {g : Nat} {x : Group} (hx : s.group? g = some x) (run reason chunk node : Nat) (came : Option Nat)
    (status : Nat) :
    ∃ v y, s.Aside v ∧ x.Faulted y reason node ∧ (v.setGroup g y).Aside (s.epochFault g run reason chunk node came status) := by
  unfold State.epochFault
  simp only [hx]
  have hend : ∀ (u : State) (i : Nat × List Stage), u.Aside
      (if status = 0x12 then u.endOp i.1 0x12 (det 6 0x068) 0 0 else u.endOp i.1 0x0E (det 6 reason) (faultResult x.epoch chunk node) 0) :=
    fun u i => .ite _ ((State.Aside.refl u).endOp _ _ _ _ (by decide)) ((State.Aside.refl u).endOp _ _ _ _ (by decide))
  have hv : s.Aside ((s.sendAbort x x.epoch run reason chunk node came).dropJobs (fun j => j.purpose.ofGroup g)) :=
    ((State.Aside.refl s).sendAbort x x.epoch run reason chunk node came).trans ⟨rfl, rfl, rfl, rfl⟩
  exact ⟨_, _, hv, ⟨rfl, rfl, rfl, rfl, rfl, rfl, rfl⟩, ((State.Aside.refl _).traceEv _ _ _ _ _ _ _ _ _ _ _ _ _ _).foldl hend _⟩

/-- A fault cause of the running collective faults the group's epoch (R157). -/
theorem State.collFault_spec {g : Nat} {x : Group} (hx : s.group? g = some x) (reason chunk node : Nat) :
    ∃ y, (s.collFault g reason chunk node).group? g = some y ∧ x.Faulted y reason node ∧
      (s.collFault g reason chunk node).build = s.build ∧ (s.collFault g reason chunk node).aon = s.aon := by
  obtain ⟨u, hu, hfault⟩ : ∃ u, s.Aside u ∧ s.collFault g reason chunk node = u.epochFault g x.run reason chunk node none 0x0E := by
    unfold State.collFault
    simp only [hx]
    cases x.coll with
    | none => exact ⟨s, .refl s, rfl⟩
    | some c => exact ⟨_, (State.Aside.refl s).dropRefs c, rfl⟩
  obtain ⟨v, y, hv, hy, hw⟩ := State.epochFault_spec ((State.group?_congr hu.col g).trans hx) x.run reason chunk node none 0x0E
  rw [← hfault] at hw
  exact ⟨y, (State.group?_congr hw.col g).trans (State.group?_setGroup_self v g y), hy, hw.build.trans (hv.build.trans hu.build),
    hw.aon.trans (hv.aon.trans hu.aon)⟩

/-- A core-domain command whose body faults the running collective. -/
theorem coreCmd_collFault {body : State → State} {g reason chunk node : Nat} {x : Group} (hoff : s.off = false) (v : State)
    (hvb : v.build = s.build) (hva : v.aon = s.aon) (hx : v.group? g = some x) (hb : body { s with out := [] } = v.collFault g reason chunk node) :
    ∃ t y, coreCmd body s = .next t ∧ t.group? g = some y ∧ x.Faulted y reason node := by
  obtain ⟨y, hy, hf, hbuild, haon⟩ := State.collFault_spec hx reason chunk node
  obtain ⟨t, ht, hcore, -, -⟩ := coreCmd_next body s _ hoff hb ((State.off_eq_of (hbuild.trans hvb) (haon.trans hva)).trans hoff)
  exact ⟨t, y, ht, (State.group?_congr (congrArg (·.col) hcore) g).trans hy, hf⟩

/-- A core-domain command whose body changes nothing. -/
theorem coreCmd_still {body : State → State} (hoff : s.off = false) (hb : body { s with out := [] } = { s with out := [] }) :
    ∃ t, coreCmd body s = .next t ∧ t.core = s.core ∧ t.aon = s.aon := by
  obtain ⟨t, ht, hcore, haon, -⟩ := coreCmd_next body s _ hoff hb hoff
  exact ⟨t, ht, hcore, haon⟩

/-! ## Progress timeouts (R171) -/

/-- The peer that is waited for when the progress time is over is named by the fault. -/
theorem exec_progressTimeout_awaited (hoff : s.off = false) (hfatal : s.fatal = false) {k : GroupId} {x : Group} {c : Coll} {o : Op}
    {node chunk : Nat} (hr : s.running? k.val = some (x, c, o)) (hw : awaited x c o = some (node, chunk)) :
    ∃ t y, exec (.progressTimeout k) s = .next t ∧ t.group? k.val = some y ∧ x.Faulted y 0x062 node := by
  have hr' : ({ s with out := [] } : State).running? k.val = some (x, c, o) := hr
  have hf' : ({ s with out := [] } : State).fatal = false := hfatal
  obtain ⟨hx, -, -⟩ := State.running?_eq_some.mp hr
  refine coreCmd_collFault (body := progressTimeout k) (chunk := chunk) hoff { s with out := [] } rfl rfl hx ?_
  simp only [progressTimeout, hr', hf', hw, Bool.false_eq_true, if_false]

/-- The next action's missing operand is waited for. -/
theorem awaited_operand {x : Group} {c : Coll} {o : Op} {m : Nat} (hp : c.phase = .data) (hop : dOpcode o.desc = 0x10 ∨ dOpcode o.desc = 0x11)
    (hm : x.missing c o.desc = some m) : awaited x c o = some (x.node m, x.chunkAt c o.desc) := by
  have h12 : dOpcode o.desc ≠ 0x12 := by omega
  have h13 : dOpcode o.desc ≠ 0x13 := by omega
  simp only [awaited, hp, ne_eq, not_true_eq_false, if_false, h12, h13, hm]

/-- Once every count is sent, a member whose count is missing is waited for. -/
theorem awaited_count {x : Group} {c : Coll} {o : Op} {j : Nat} (hp : c.phase = .data) (hop : dOpcode o.desc = 0x12) (hn : x.n ≤ c.sent)
    (hj : (List.range x.n).find? (fun j => !c.got.contains j && (SMap.get? c.deliv j).isNone) = some j) :
    awaited x c o = some ((SMap.getD c.peers j (0, 0)).1, noChunk) := by
  simp only [awaited, hp, ne_eq, not_true_eq_false, if_false, hop, if_true, Nat.not_lt.mpr hn, hj, Option.map_some]

/-- With no collective running a progress timeout changes nothing. -/
theorem exec_progressTimeout_idle (hoff : s.off = false) {k : GroupId} (hr : s.running? k.val = none) :
    ∃ t, exec (.progressTimeout k) s = .next t ∧ t.core = s.core ∧ t.aon = s.aon := by
  have hr' : ({ s with out := [] } : State).running? k.val = none := hr
  exact coreCmd_still (body := progressTimeout k) hoff (by simp only [progressTimeout, hr'])

/-! ## COL packets (R156, R313) -/

theorem subMod_self (w a : Nat) : subMod w a a = 0 := by
  rw [subMod, Nat.add_sub_cancel_left, Nat.mod_self]

theorem runNewer_self (a : Nat) : runNewer a a = false := by simp [runNewer, subMod_self]

theorem epochNewer_self (a : Nat) : epochNewer a a = false := by simp [epochNewer, subMod_self]

/-- A packet of the group's run is of no newer run. -/
theorem Group.rerun_current {x : Group} {p : Packet} (hrun : p.run = x.run) : x.rerun p = false := by
  simp [Group.rerun, hrun, runNewer_self]

/-- A packet of the group's epoch and run is not stale. -/
theorem Group.stale_current {x : Group} {p : Packet} (he : p.epoch = x.epoch) (hrun : p.run = x.run) : x.stale p = false := by
  simp [Group.stale, he, hrun, epochNewer_self, runNewer_self]

/-- Packets of a peer that stand in the landing store, or whose data is being written: each holds one of its grants (R313). -/
def Coll.heldOf (c : Coll) (m : Nat) : Nat :=
  (c.landed.filter (fun l => l.src == m)).length + (c.deliv.filter (fun e => e.2.src == some m && e.2.writes != 0)).length

theorem Coll.heldOf_le (c : Coll) (m : Nat) :
    c.heldOf m ≤ (c.landed.filter (fun l => l.src == m)).length + (c.deliv.filter (fun e => e.2.src == some m)).length :=
  Nat.add_le_add_left (List.monotone_filter_right c.deliv fun _ he => (Bool.and_eq_true_iff.mp he).1).length_le _

/-- A COL packet that no active group takes is dropped. -/
theorem colArrival_noGroup {i : InPkt} {rest : List InPkt}
    (htake : takeFirst (fun i => i.pkt.cls == 4 && i.pkt.type == 0 && true) s.core.resp.inbox = some (i, rest))
    (hg : s.group? i.pkt.grp = none) : colArrival s = ({ s with core.resp.inbox := rest } : State).count blockSlot 11 := by
  have hg' : ({ s with core.resp.inbox := rest } : State).group? i.pkt.grp = none := hg
  rw [colArrival, State.withPkt_some _ htake]
  simp only [hg']

/-- A COL packet of the running epoch and run lands under a grant, faults the epoch for its signature, or is dropped (R155, R156). -/
theorem colArrival_current {i : InPkt} {rest : List InPkt} {x : Group} {c : Coll} {o : Op} {m : Nat}
    (htake : takeFirst (fun i => i.pkt.cls == 4 && i.pkt.type == 0 && true) s.core.resp.inbox = some (i, rest))
    (hr : s.running? i.pkt.grp = some (x, c, o)) (hst : x.state = 3) (hm : x.member i.pkt.srcNode = some m)
    (he : i.pkt.epoch = x.epoch) (hrun : i.pkt.run = x.run) :
    colArrival s =
      let v : State := { s with core.resp.inbox := rest }
      if ¬ colAccepts x c o i.pkt m then v.count blockSlot 11
      else if i.pkt.sig ≠ c.sig then v.collFault i.pkt.grp 0x064 noChunk v.self
      else if c.heldOf m ≥ SMap.getD c.grants m 0 then v.count blockSlot 11
      else ((v.setColl i.pkt.grp x { c with landed := c.landed ++ [⟨m, i.port, i.pkt⟩] }).lateness i.pkt.grp
        (colKey i.pkt.colStage i.pkt.colPhase i.pkt.colChunk) i.pkt.srcNode).post (.coll i.pkt.grp) := by
  have hr' : ({ s with core.resp.inbox := rest } : State).running? i.pkt.grp = some (x, c, o) := hr
  rw [colArrival, State.withPkt_some _ htake]
  generalize ({ s with core.resp.inbox := rest } : State) = v at hr' ⊢
  obtain ⟨hg, -, -⟩ := State.running?_eq_some.mp hr'
  simp only [hg, hst, Nat.reduceEqDiff, false_and, if_false, Group.rerun_current hrun, Group.stale_current he hrun, Bool.false_eq_true, hr',
    hm, he, hrun, ne_eq, not_true_eq_false, false_or]
  rfl

/-- The lateness of an operand changes what the group notes of it, and nothing else (R170). -/
theorem State.lateness_spec {g : Nat} {x : Group} {c : Coll} {o : Op} (hr : s.running? g = some (x, c, o)) (key node : Nat) :
    ∃ gs y d, s.lateness g key node = { s with core.col.groups := gs } ∧ SMap.get? gs g = some y ∧ y.coll = some d ∧
      d.landed = c.landed ∧ d.grants = c.grants ∧ d.step = c.step ∧ ∀ k, k ≠ g → SMap.get? gs k = s.group? k := by
  obtain ⟨hg, hc, -⟩ := State.running?_eq_some.mp hr
  have hput : ∀ (y : Group) (d : Coll), d.landed = c.landed → d.grants = c.grants → d.step = c.step →
      ∃ gs z e, s.setColl g y d = { s with core.col.groups := gs } ∧ SMap.get? gs g = some z ∧ z.coll = some e ∧
        e.landed = c.landed ∧ e.grants = c.grants ∧ e.step = c.step ∧ ∀ k, k ≠ g → SMap.get? gs k = s.group? k :=
    fun y d hl hgr hs => ⟨_, _, d, rfl, SMap.get?_put_self _ _ _, rfl, hl, hgr, hs, fun k hk => SMap.get?_put_ne _ _ _ _ hk⟩
  unfold State.lateness
  simp only [hr]
  split
  · exact hput _ _ rfl rfl rfl
  · split
    · exact ⟨_, x, c, rfl, hg, hc, rfl, rfl, rfl, fun _ _ => rfl⟩
    · split
      · exact hput _ _ rfl rfl rfl
      · exact hput _ _ rfl rfl rfl

/-- A COL packet that is dropped is counted (R409). -/
theorem exec_colArrival_dropped {rest : List InPkt} (hoff : s.off = false)
    (hb : colArrival { s with out := [] } = (s.taken rest).count blockSlot 11) :
    ∃ t, exec .colArrival s = .next t ∧ t.core.col = s.core.col ∧ t.counter 82 11 = (s.counter 82 11 + 1) % 2 ^ 64 ∧
      t.core.resp.inbox = rest ∧ t.aon = s.aon := by
  obtain ⟨t, ht, hcore, haon, -⟩ := coreCmd_next colArrival s _ hoff hb hoff
  refine ⟨t, ht, ?_⟩
  rw [State.counter, hcore]
  exact ⟨rfl, State.countN_self (s.taken rest) blockSlot 11 1, rfl, haon⟩

/-- A COL packet that is accepted with room under its grants lands (R156, R313). -/
theorem exec_colArrival_lands {i : InPkt} {rest : List InPkt} {x : Group} {c : Coll} {o : Op} {m : Nat} (hoff : s.off = false)
    (htake : takeFirst (fun i => i.pkt.cls == 4 && i.pkt.type == 0 && true) s.core.resp.inbox = some (i, rest))
    (hr : s.running? i.pkt.grp = some (x, c, o)) (hst : x.state = 3) (hm : x.member i.pkt.srcNode = some m)
    (he : i.pkt.epoch = x.epoch) (hrun : i.pkt.run = x.run) (hacc : colAccepts x c o i.pkt m = true) (hsig : i.pkt.sig = c.sig)
    (hroom : c.heldOf m < SMap.getD c.grants m 0) :
    ∃ t y d, exec .colArrival s = .next t ∧ t.group? i.pkt.grp = some y ∧ y.coll = some d ∧
      d.landed = c.landed ++ [⟨m, i.port, i.pkt⟩] ∧ d.grants = c.grants ∧ d.step = c.step ∧ .coll i.pkt.grp ∈ t.core.work ∧
      (∀ k, k ≠ i.pkt.grp → t.group? k = s.group? k) ∧ t.core.resp.inbox = rest ∧ t.aon = s.aon := by
  have hbody := colArrival_current (s := { s with out := [] }) htake hr hst hm he hrun
  simp only [hacc, not_true_eq_false, if_false, hsig, ne_eq, ge_iff_le, Nat.not_le.mpr hroom] at hbody
  obtain ⟨-, -, ho⟩ := State.running?_eq_some.mp hr
  obtain ⟨gs, y, d, hlate, hy, hd, hland, hgr, hs, hoth⟩ := State.lateness_spec
    (s := (s.taken rest).setColl i.pkt.grp x { c with landed := c.landed ++ [⟨m, i.port, i.pkt⟩] })
    (State.running?_eq_some.mpr ⟨State.group?_setGroup_self _ _ _, rfl, ho⟩)
    (colKey i.pkt.colStage i.pkt.colPhase i.pkt.colChunk) i.pkt.srcNode
  obtain ⟨t, ht, hcore, haon, -⟩ := coreCmd_next colArrival s _ hoff (hbody.trans (congrArg (fun v => State.post v _) hlate)) hoff
  refine ⟨t, y, d, ht, ?_, hd, hland, hgr, hs, by rw [hcore]; simp [State.post], fun k hk => ?_, by rw [hcore]; rfl, haon⟩
  · rw [State.group?, hcore]
    exact hy
  · rw [State.group?, hcore]
    exact (hoth k hk).trans (State.group?_setGroup_ne _ _ hk)

end

end Sys2Proof.Machine

namespace Sys2Proof.Machine

/-! ## The place of a collective in its schedule -/

/-- Where a collective stands: its action, its piece, and the local operands that have come. -/
def Coll.place (c : Coll) : Nat × Nat × SMap Bytes := (c.step, c.unit, c.opnds)

/-- A group's epoch, and where its running collective stands. -/
def Group.place (x : Group) : Nat × Option (Nat × Nat × SMap Bytes) := (x.epoch, x.coll.map Coll.place)

section
variable {c d : Coll}

theorem Coll.next_place (h : d.place = c.place) : d.next.place = c.next.place :=
  congrArg (fun p : Nat × Nat × SMap Bytes => (p.1 + 1, p.2.1, ([] : SMap Bytes))) h

theorem Coll.foldl_place {α : Type} {f : Coll → α → Coll} (hf : ∀ c x, (f c x).place = c.place) (l : List α) (c : Coll) :
    (l.foldl f c).place = c.place := by
  induction l generalizing c with
  | nil => rfl
  | cons x l ih => exact (ih _).trans (hf c x)

theorem Coll.consume_place (c : Coll) (h : Shape) (act : Act) (a : Nat) (hold : Bool) : (c.consume h act a hold).place = c.place := by
  cases hold
  · exact Coll.foldl_place (fun _ _ => by rfl) _ _
  · rfl

theorem Coll.handOn_place (c : Coll) (self : Nat) (x : Group) (o : Op) (h : Shape) (act : Act) (a n : Nat) (p : Piece) :
    (c.handOn self x o h act a n p).place = c.place := by
  refine (Coll.foldl_place (fun _ _ => by rfl) _ _).trans ?_
  split <;> rfl

theorem Coll.note_place (c : Coll) (off status detail result : Nat) : (c.note off status detail result).place = c.place := by
  unfold Coll.note
  split
  · split <;> rfl
  · rfl

end

/-! ## What keeps that place -/

/-- `t` is `s` but for what a pass of group `g` may change once its collective has taken the next step. -/
structure State.Passing (g : Nat) (s t : State) : Prop where
  build : t.build = s.build
  aon : t.aon = s.aon
  win : t.core.win = s.core.win
  served : t.core.col.served = s.core.col.served
  others : ∀ k, k ≠ g → t.group? k = s.group? k
  place : (t.group? g).map Group.place = (s.group? g).map Group.place

section
variable {g : Nat} {s t u : State}

theorem State.Passing.refl (g : Nat) (s : State) : s.Passing g s := ⟨rfl, rfl, rfl, rfl, fun _ _ => rfl, rfl⟩

theorem State.Passing.trans (h : s.Passing g t) (k : t.Passing g u) : s.Passing g u :=
  ⟨k.build.trans h.build, k.aon.trans h.aon, k.win.trans h.win, k.served.trans h.served,
    fun j hj => (k.others j hj).trans (h.others j hj), k.place.trans h.place⟩

theorem State.Passing.ite (p : Prop) [Decidable p] (h : s.Passing g t) (k : s.Passing g u) : s.Passing g (if p then t else u) := by
  split
  · exact h
  · exact k

theorem State.Passing.foldl {α : Type} {f : State → α → State} (hf : ∀ (u : State) (x : α), u.Passing g (f u x)) (h : s.Passing g t)
    (l : List α) : s.Passing g (l.foldl f t) := by
  induction l generalizing t with
  | nil => exact h
  | cons x l ih => exact ih (h.trans (hf t x))

theorem State.Aside.passing (h : s.Aside t) (g : Nat) : s.Passing g t :=
  ⟨h.build, h.aon, h.win, congrArg (·.served) h.col, fun k _ => State.group?_congr h.col k, by rw [State.group?_congr h.col]⟩

theorem State.Passing.aside (h : s.Passing g t) (k : t.Aside u) : s.Passing g u := h.trans (k.passing g)

theorem State.Passing.post (h : s.Passing g t) (w : Work) : s.Passing g (t.post w) := h.aside ((State.Aside.refl t).post w)

theorem State.Passing.count (h : s.Passing g t) (slot event : Nat) : s.Passing g (t.count slot event) :=
  h.aside ((State.Aside.refl t).count _ _)

/-- A group put back at its place. -/
theorem State.Passing.setGroup (h : s.Passing g t) {x y : Group} (hx : t.group? g = some x) (hy : y.place = x.place) :
    s.Passing g (t.setGroup g y) :=
  h.trans ⟨rfl, rfl, rfl, rfl, fun _ hk => State.group?_setGroup_ne t y hk, by
    rw [State.group?_setGroup_self, hx, Option.map_some, Option.map_some, hy]⟩

/-- The running collective put back at its place. -/
theorem State.Passing.setColl (h : s.Passing g t) {x : Group} {c d : Coll} {o : Op} (hr : t.running? g = some (x, c, o))
    (hd : d.place = c.place) : s.Passing g (t.setColl g x d) := by
  obtain ⟨hx, hc, -⟩ := State.running?_eq_some.mp hr
  refine h.setGroup hx ?_
  simp only [Group.place, hc, Option.map_some, hd]

theorem State.Passing.modColl (h : s.Passing g t) {f : Coll → Coll} (hf : ∀ c, (f c).place = c.place) : s.Passing g (t.modColl g f) := by
  unfold State.modColl State.modGroup
  cases hx : t.group? g with
  | none => exact h
  | some x =>
    refine h.setGroup hx ?_
    have hmap : Coll.place ∘ f = Coll.place := funext hf
    simp only [Group.place, Option.map_map, hmap]

theorem State.Aside.injSpend (h : s.Aside t) (f k : Nat) : s.Aside (t.injSpend f k) := h.trans ⟨rfl, rfl, rfl, rfl⟩

theorem State.Aside.addSig? (h : s.Aside t) (i : Option Nat) (n : Nat) :
    s.Aside (match i with
      | some i => t.addSig i n
      | none => t) := by
  cases i with
  | none => exact h
  | some i => exact h.addSig _ _

/-! ### Sending -/

theorem State.Passing.sendOuts (h : s.Passing g t) (stuck : List Nat) (l : List ColOut) : s.Passing g (t.sendOuts g stuck l) := by
  induction l generalizing t stuck with
  | nil => exact h
  | cons e l ih =>
    unfold State.sendOuts
    cases hr : t.running? g with
    | none => exact h
    | some r =>
      obtain ⟨x, c, o⟩ := r
      dsimp only
      split
      · exact ih (h.setColl hr (by rfl)) _
      · split
        · obtain ⟨hx, hc, ho⟩ := State.running?_eq_some.mp hr
          split
          · exact ih (h.setColl hr (by rfl)) _
          · exact ih ((h.count _ _).setColl (State.running?_eq_some.mpr ⟨hx, hc, ho⟩) (by rfl)) _
        · exact ih ((h.setColl hr (by rfl)).aside ((((State.Aside.refl _).injSpend _ _).countN _ _ _).inject _ _)) _

theorem State.Passing.sendOut (h : s.Passing g t) : s.Passing g (t.sendOut g) := by
  unfold State.sendOut
  cases hr : t.running? g with
  | none => exact h
  | some r =>
    obtain ⟨x, c, o⟩ := r
    have hs : s.Passing g ((t.setColl g x { c with outq := [] }).sendOuts g [] c.outq) := (h.setColl hr (by rfl)).sendOuts _ _
    exact .ite _ h (.ite _ (hs.post _) hs)

theorem State.Passing.grantPeer (h : s.Passing g t) (q : Nat) (needed : Option Nat) (m : Nat) : s.Passing g (t.grantPeer g q needed m) := by
  unfold State.grantPeer
  cases hr : t.running? g with
  | none => exact h
  | some r =>
    obtain ⟨x, c, o⟩ := r
    refine .ite _ h ((h.setColl hr ?_).aside ((State.Aside.refl _).sendMember _ _ _ _ _ _ _ _ _))
    rfl

theorem State.Passing.grantAll (h : s.Passing g t) (q : Nat) (plan : List Act) (needed : Option Nat) :
    s.Passing g (t.grantAll g q plan needed) :=
  h.foldl (fun u m => (State.Passing.refl g u).grantPeer q needed m) _

/-! ### Delivery -/

theorem State.Passing.delivered (h : s.Passing g t) (e : Delivery) : s.Passing g (t.delivered g e) := by
  unfold State.delivered
  cases hr : t.running? g with
  | none => exact h
  | some r =>
    obtain ⟨x, c, o⟩ := r
    dsimp only
    refine .post ?_ _
    have hput : s.Passing g (t.setColl g x (match e.src with
        | some m => ({ c with done := SMap.put c.done e.chunk (SMap.getD c.done e.chunk 0 + e.bytes) } : Coll).ungrant m
        | none => { c with done := SMap.put c.done e.chunk (SMap.getD c.done e.chunk 0 + e.bytes) })) :=
      h.setColl hr (by cases e.src <;> rfl)
    have hdrop := hput.aside ((State.Aside.refl _).dropRef? e.tref)
    refine .ite _ (hdrop.aside (State.Aside.traceEv (.count ?_ _ _) _ _ _ _ _ _ _ _ _ _ _ _ _ _)) hdrop
    exact (State.Aside.refl _).addSig? _ _

theorem State.Passing.deliver_ (h : s.Passing g t) (e : Delivery) (parts : List (Nat × Bytes)) : s.Passing g (t.deliver_ g e parts) := by
  unfold State.deliver_
  cases hr : t.running? g with
  | none => exact h
  | some r =>
    obtain ⟨x, c, o⟩ := r
    have hid : ({ t with core.nextId := t.core.nextId + 1 } : State).running? g = some (x, c, o) := hr
    dsimp only
    have hs : s.Passing g { t with core.nextId := t.core.nextId + 1 } := h.aside ⟨rfl, rfl, rfl, rfl⟩
    exact .ite _ (h.delivered e) (.foldl (fun u p => ((State.Aside.refl u).virtJob _ _ _ _ _ _ _ _).passing g) (hs.setColl hid (by rfl)) _)

theorem State.Passing.deliverDense (h : s.Passing g t) (sh : Shape) (d : BitVec 1024) (c : Coll) (act : Act) (a n : Nat)
    (vals : List (Nat × Nat)) (src : Option Nat) : s.Passing g (t.deliverDense g sh d c act a n vals src) := h.deliver_ _ _

theorem State.Passing.deliverSlot (h : s.Passing g t) (unit : Nat) (sh : Shape) (d : BitVec 1024) (act : Act) (a hdr : Nat)
    (body img : Bytes) (e : Delivery) : s.Passing g (t.deliverSlot g unit sh d act a hdr body img e) := by
  unfold State.deliverSlot
  exact .ite _ (h.deliver_ _ _) (.ite _ (h.deliver_ _ _) ((((h.count _ _).count _ _).modColl fun _ => by rfl).deliver_ _ _))

theorem State.Aside.countTumbler (h : s.Aside t) (unit : Nat) (func : Option Nat) (status : Nat) :
    s.Aside (t.countTumbler unit func status) := by
  have hc : s.Aside (if 7 ≤ status ∧ status ≤ 10 then t.count (unitSlot unit) (2 + status) else t) := .ite _ (h.count _ _) h
  cases func with
  | none => exact hc
  | some f => exact hc.count _ _

end

end Sys2Proof.Machine

namespace Sys2Proof.Machine

/-! ## Blocks and counts of a pass -/

section
variable {g : Nat} {s t u : State}

theorem State.Aside.takeRef? (h : s.Aside t) (ref : Option Nat) :
    s.Aside (match ref with
      | some key => t.takeRef key
      | none => t) := by
  cases ref with
  | none => exact h
  | some key => exact h.takeRef key

theorem State.Passing.noteBlock (h : s.Passing g t) (unit func st off detail result : Nat) :
    s.Passing g ((t.countTumbler unit (some func) st).modColl g (fun c => c.note off st detail result)) :=
  (h.aside ((State.Aside.refl t).countTumbler _ _ _)).modColl fun c => c.note_place _ _ _ _

/-- A block of a sparse AG is checked and written, or noted (R219, R230). -/
theorem State.Passing.deliverBlock (h : s.Passing g t) (unit : Nat) (sh : Shape) (o : Op) (act : Act) (a : Nat) (p : Piece)
    (src : Option Nat) : s.Passing g (t.deliverBlock g unit sh o act a p src) := by
  unfold State.deliverBlock
  dsimp only
  have hc := h.count (unitSlot unit) 6
  generalize (if nyFraming p.hdr ∧ nyCoded p.hdr then (t.count (unitSlot unit) 6).resident p.hdr else none) = res
  split
  · exact (hc.noteBlock _ _ _ _ _ _).deliver_ _ _
  · have href := (hc.aside ((State.Aside.refl _).takeRef? (res.map (·.1)))).count (funcSlot o.func) 15
    refine .ite _ (.deliver_ (hc.noteBlock _ _ _ _ _ _) _ _) (.ite _ (.ite _ ?_ ?_) ?_)
    · exact (href.count _ _).deliver_ _ _
    · exact ((href.count _ _).noteBlock _ _ _ _ _ _).deliver_ _ _
    · exact (href.count _ _).deliverSlot _ _ _ _ _ _ _ _ _

theorem State.Aside.countPass (h : s.Aside t) (unit rel n : Nat) (last sparse : Bool) (seen : Nat) (l : Lanes) :
    s.Aside (t.countPass unit rel n last sparse seen l).2 := by
  have hrel : s.Aside (t.countN (unitSlot unit) 1 ((rel + n + 255) / 256 - (rel + 255) / 256)) := h.countN _ _ _
  have hlast := State.Aside.ite (last = true) (hrel.count (unitSlot unit) 0) hrel
  refine (State.Aside.ite (sparse = true) (hlast.count _ _) hlast).foldl (fun u k => ?_) _
  exact (State.Aside.refl u).foldl (fun v i => .ite _ ((State.Aside.refl v).count _ _) (.refl v)) _

theorem State.Aside.countPasses (h : s.Aside t) (unit rel n : Nat) (last sparse : Bool) (seen : List Nat) (ls : List Lanes) :
    s.Aside (t.countPasses unit rel n last sparse seen ls).2 := by
  induction ls generalizing t seen with
  | nil => exact h
  | cons l ls ih => exact ih (h.countPass _ _ _ _ _ _ _) _

/-! ## The pass of a Knuckle unit -/

/-- `t` is `s` after an action of group `g`: its collective stands at the next one, and the rest is as the frame says. -/
def State.Performed (g : Nat) (x : Group) (c : Coll) (s t : State) : Prop :=
  ∃ v d, s.Aside v ∧ d.place = c.next.place ∧ (v.setColl g x d).Passing g t

variable {x : Group} {c : Coll}

theorem State.Performed.passing (h : s.Performed g x c t) (k : ∀ v : State, v.Passing g t → v.Passing g u) : s.Performed g x c u := by
  obtain ⟨v, d, hv, hd, ht⟩ := h
  exact ⟨v, d, hv, hd, k _ ht⟩

theorem State.Performed.of_aside {v : State} (h : s.Aside v) (k : v.Performed g x c t) : s.Performed g x c t := by
  obtain ⟨w, d, hw, hd, ht⟩ := k
  exact ⟨w, d, h.trans hw, hd, ht⟩

theorem State.Performed.intro {v : State} {d : Coll} (hv : s.Aside v) (hd : d.place = c.next.place) :
    s.Performed g x c (v.setColl g x d) := ⟨v, d, hv, hd, .refl g _⟩

theorem Coll.enter_place (c : Coll) (h : Shape) (a n flags : Nat) (mask : Nat → Bool) (l : Lanes) :
    (c.enter h a n flags mask l).place = c.place := rfl

/-- Counting a piece's passes keeps the collective's place. -/
theorem State.passesOf_place (s : State) (c : Coll) (unit : Nat) (h : Shape) (act : Act) (a n : Nat) (raised : List Lanes) :
    (s.passesOf c unit h act a n raised).1.place = c.place := rfl

theorem State.passesOf_aside (s : State) (c : Coll) (unit : Nat) (h : Shape) (act : Act) (a n : Nat) (raised : List Lanes) :
    s.Aside (s.passesOf c unit h act a n raised).2 := (State.Aside.refl s).countPasses _ _ _ _ _ _ _

/-- A combine, or the final pass of RS, takes the collective to its next action. -/
theorem State.combine_performed (s : State) (g : Nat) (x : Group) (c : Coll) (o : Op) (h : Shape) (act : Act) (a n : Nat) (img : Bytes)
    (fr : Nat) : s.Performed g x c (s.combine g x c o h act a n img fr) := by
  unfold State.combine
  dsimp only
  split
  · split
    · refine State.Performed.passing (.intro (s.passesOf_aside _ _ _ _ _ _ _) ?_) fun _ hv => hv.deliverSlot _ _ _ _ _ _ _ _ _
      exact (Coll.enter_place _ _ _ _ _ _ _).trans (Coll.next_place ((Coll.consume_place _ _ _ _ _).trans (s.passesOf_place _ _ _ _ _ _ _)))
    · refine State.Performed.passing (.intro (s.passesOf_aside _ _ _ _ _ _ _) ?_) fun _ hv => hv.deliverDense _ _ _ _ _ _ _ _
      exact (Coll.enter_place _ _ _ _ _ _ _).trans (Coll.next_place ((Coll.consume_place _ _ _ _ _).trans (s.passesOf_place _ _ _ _ _ _ _)))
  · refine .intro (s.passesOf_aside _ _ _ _ _ _ _) ?_
    exact (Coll.handOn_place _ _ _ _ _ _ _ _ _).trans (Coll.next_place ((Coll.consume_place _ _ _ _ _).trans (s.passesOf_place _ _ _ _ _ _ _)))

/-- The pass of the member's own contribution of AG takes the collective to its next action. -/
theorem State.ownPass_performed (s : State) (g : Nat) (x : Group) (c : Coll) (o : Op) (h : Shape) (act : Act) (a n : Nat) (img : Bytes)
    (fr : Nat) : s.Performed g x c (s.ownPass g x c o h act a n img fr) := by
  unfold State.ownPass
  dsimp only
  split
  · refine State.Performed.passing (.intro (s.passesOf_aside _ _ _ _ _ _ _) ?_) fun _ hv => hv.deliverBlock _ _ _ _ _ _ _
    exact (Coll.enter_place _ _ _ _ _ _ _).trans ((Coll.handOn_place _ _ _ _ _ _ _ _ _).trans (Coll.next_place (s.passesOf_place _ _ _ _ _ _ _)))
  · refine State.Performed.passing (.intro (s.passesOf_aside _ _ _ _ _ _ _) ?_) fun _ hv => hv.deliverDense _ _ _ _ _ _ _ _
    exact (Coll.enter_place _ _ _ _ _ _ _).trans ((Coll.handOn_place _ _ _ _ _ _ _ _ _).trans (Coll.next_place (s.passesOf_place _ _ _ _ _ _ _)))

/-- A pass of a Knuckle unit takes the collective to its next action, and what waits is sent (R24, R190). -/
theorem State.perform_knuckle (s : State) (g : Nat) (x : Group) (c : Coll) (o : Op) (h : Shape) (act : Act) (a n : Nat)
    (hk : act.knuckle h c = true) : s.Performed g x c (s.perform g x c o h act a n) := by
  unfold State.perform
  generalize hr : (if (x.stages c.op).any (fun st => st.op == 11) then s.draw else (0, s)) = r
  have hdraw : s.Aside r.2 := by
    rw [← hr]
    split
    · exact ⟨rfl, rfl, rfl, rfl⟩
    · exact .refl s
  dsimp only
  rw [if_pos hk]
  refine (State.Performed.of_aside hdraw ?_).passing fun _ hv => (hv.aside ((State.Aside.refl _).dropRef? c.srcRef)).sendOut
  split
  · exact r.2.combine_performed _ _ _ _ _ _ _ _ _ _
  · exact r.2.ownPass_performed _ _ _ _ _ _ _ _ _ _

/-- A collective that has taken its next step, as its group shows it. -/
theorem State.Performed.group? (h : s.Performed g x c t) :
    ∃ y d, t.group? g = some y ∧ y.coll = some d ∧ d.step = c.step + 1 ∧ d.unit = c.unit ∧ d.opnds = [] ∧ y.epoch = x.epoch := by
  obtain ⟨v, d, -, hd, ht⟩ := h
  have hp := ht.place
  rw [State.setColl, State.group?_setGroup_self] at hp
  obtain ⟨y, hy, hpl⟩ := Option.map_eq_some_iff.mp hp
  simp only [Group.place, Option.map_some, Prod.mk.injEq, Option.map_eq_some_iff] at hpl
  obtain ⟨he, e, hye, hpe⟩ := hpl
  have hplace : e.place = c.next.place := hpe.trans hd
  simp only [Coll.place, Coll.next, Prod.mk.injEq] at hplace
  obtain ⟨hstep, hunit, hopnds⟩ := hplace
  exact ⟨y, e, hy, hye, hstep, hunit, hopnds, he⟩

/-- What an action leaves of the rest of the state. -/
theorem State.Performed.frame (h : s.Performed g x c t) :
    t.build = s.build ∧ t.aon = s.aon ∧ t.core.win = s.core.win ∧ t.core.col.served = s.core.col.served ∧
      ∀ k, k ≠ g → t.group? k = s.group? k := by
  obtain ⟨v, d, hv, -, ht⟩ := h
  exact ⟨ht.build.trans hv.build, ht.aon.trans hv.aon, ht.win.trans hv.win, ht.served.trans (congrArg (·.served) hv.col),
    fun k hk => (ht.others k hk).trans ((State.group?_setGroup_ne v _ hk).trans (State.group?_congr hv.col k))⟩

/-! ### Which pass is served (R24, R180) -/

theorem foldl_min_mem (l : List Nat) (x : Nat) : l.foldl min x ∈ x :: l := List.min?_mem List.min?_cons'

/-- Round robin picks one of the candidates. -/
theorem nextAfter_mem {last g : Nat} {l : List Nat} (h : nextAfter last l = some g) : g ∈ l := by
  unfold nextAfter at h
  split at h
  · next y t heq =>
    obtain rfl := Option.some.inj h
    exact (List.mem_filter.mp (heq ▸ foldl_min_mem t y)).1
  · split at h
    · simp at h
    · next y t _ =>
      obtain rfl := Option.some.inj h
      exact foldl_min_mem t y

theorem nextAfter_nil (last : Nat) : nextAfter last [] = none := rfl

/-- A group with a pass in a unit has a next action that is a Knuckle pass, with its operands all there (R24). -/
theorem State.readyPass_of_mem {u : Nat} {o : Op} {act : Act} {a n : Nat} (hmem : g ∈ s.unitPasses u) (hr : s.running? g = some (x, c, o))
    (hgo : s.colNext x c o.desc = .go act a n) :
    act.knuckle (x.shape o.desc) c = true ∧ ∃ unit, s.readyPass g = some (unit, act, a, n) := by
  have hsome : (s.readyPass g).any (fun r => r.1 == u) = true := (List.mem_filter.mp hmem).2
  unfold State.readyPass at hsome ⊢
  simp only [hr, hgo] at hsome ⊢
  by_cases hphase : c.phase ≠ .data ∨ ¬ (dOpcode o.desc = 0x10 ∨ dOpcode o.desc = 0x11)
  · rw [if_pos hphase] at hsome
    simp at hsome
  · rw [if_neg hphase] at hsome ⊢
    by_cases hk : act.knuckle (x.shape o.desc) c = true
    · exact ⟨hk, _, if_pos hk⟩
    · rw [if_neg hk] at hsome
      simp at hsome

/-- The body of a Knuckle pass (R24, R180). -/
theorem knucklePass_eq {u : Gate} {o : Op} {act : Act} {a n unit : Nat} (hf : s.fatal = false)
    (hnext : nextAfter (SMap.getD s.core.col.served u.val 4096) (s.unitPasses u.val) = some g) (hr : s.running? g = some (x, c, o))
    (hready : s.readyPass g = some (unit, act, a, n)) :
    knucklePass u s = (((({ s with core.col.served := SMap.put s.core.col.served u.val g } : State).perform g x c o (x.shape o.desc) act a n).grantAll
      g o.queue (x.plan (x.shape o.desc).rs c.alg) none).post (.coll g)) := by
  simp only [knucklePass, hf, Bool.false_eq_true, if_false, hnext, hr, hready]

/-- A unit with no pass to perform changes nothing. -/
theorem knucklePass_idle {u : Gate} (h : s.fatal = true ∨ s.unitPasses u.val = []) : knucklePass u s = s := by
  rcases h with h | h
  · simp only [knucklePass, h, if_true]
  · simp only [knucklePass, h, nextAfter_nil, ite_self]

end

end Sys2Proof.Machine

namespace Sys2Proof.Machine

/-! ## COL packets, passes and timeouts, as commands -/

section
variable {s : State}

/-- A Knuckle pass of a unit takes the collective it serves to its next action (R24, R180). -/
theorem exec_knucklePass_go {u : Gate} {g : Nat} {x : Group} {c : Coll} {o : Op} {act : Act} {a n : Nat} (hoff : s.off = false)
    (hf : s.fatal = false) (hnext : nextAfter (SMap.getD s.core.col.served u.val 4096) (s.unitPasses u.val) = some g)
    (hr : s.running? g = some (x, c, o)) (hgo : s.colNext x c o.desc = .go act a n) :
    ∃ t v, exec (.knucklePass u) s = .next t ∧ t.core = v.core ∧ t.aon = s.aon ∧ .coll g ∈ t.core.work ∧
      ({ s with out := [], core.col.served := SMap.put s.core.col.served u.val g } : State).Performed g x c v := by
  obtain ⟨hk, unit, hready⟩ := State.readyPass_of_mem (nextAfter_mem hnext) hr hgo
  have hbody := knucklePass_eq (s := { s with out := [] }) hf hnext hr hready
  have hperf := (State.perform_knuckle { s with out := [], core.col.served := SMap.put s.core.col.served u.val g } g x c o
    (x.shape o.desc) act a n hk).passing
      fun _ hv => (hv.grantAll o.queue (x.plan (x.shape o.desc).rs c.alg) none).post (.coll g)
  obtain ⟨hbuild, haon, -, -, -⟩ := hperf.frame
  obtain ⟨t, ht, hcore, hta, -⟩ := coreCmd_next (knucklePass u) s _ hoff hbody ((State.off_eq_of hbuild haon).trans hoff)
  exact ⟨t, _, ht, hcore, hta.trans haon, by rw [hcore]; simp [State.post], hperf⟩

end

/-- Settles O51: landing, refusal and faults of COL packets; the pass of a Knuckle unit; progress timeouts. -/
theorem collectiveData : Obligations.CollectiveData := by
  intro s hoff
  refine ⟨fun i rest htake => ⟨fun hg => ?_, fun x c o m hr hst _ hm he hrun => ⟨fun hacc hsig hroom => ?_, fun hacc hsig => ?_,
    fun hacc => ?_⟩⟩, fun u g x c o act a n hf hnext hr hgo => ?_, fun u hidle => ?_, fun k x c o hr hf hp => ⟨fun m hop hm => ?_,
    fun j hop hn hj => ?_⟩, fun k hr => ?_⟩
  · exact exec_colArrival_dropped hoff (colArrival_noGroup (s := { s with out := [] }) htake hg)
  · exact exec_colArrival_lands hoff htake hr hst hm he hrun hacc hsig (lt_of_le_of_lt (c.heldOf_le m) hroom)
  · have hbody := colArrival_current (s := { s with out := [] }) htake hr hst hm he hrun
    simp only [hacc, not_true_eq_false, if_false, ne_eq, hsig, not_false_eq_true, if_true] at hbody
    obtain ⟨hg, -, -⟩ := State.running?_eq_some.mp hr
    obtain ⟨t, y, ht, hy, hfault⟩ := coreCmd_collFault hoff (s.taken rest) rfl rfl hg hbody
    exact ⟨t, y, ht, hy, hfault.state, hfault.reason, hfault.coll⟩
  · have hbody := colArrival_current (s := { s with out := [] }) htake hr hst hm he hrun
    simp only [hacc, Bool.false_eq_true, not_false_eq_true, if_true] at hbody
    obtain ⟨t, ht, hcol, hcnt, -, -⟩ := exec_colArrival_dropped hoff hbody
    exact ⟨t, ht, hcol, hcnt⟩
  · obtain ⟨t, v, ht, hcore, haon, hwork, hperf⟩ := exec_knucklePass_go hoff hf hnext hr hgo
    obtain ⟨y, d, hy, hd, hstep, hunit, hopnds, he⟩ := hperf.group?
    obtain ⟨-, -, hwin, hserved, hothers⟩ := hperf.frame
    have hgroup := State.group?_congr (congrArg (·.col) hcore)
    refine ⟨t, y, d, ht, (hgroup g).trans hy, hd, hstep, hunit, hopnds, he, hwork, ?_, fun k hk => (hgroup k).trans (hothers k hk), haon,
      (congrArg (·.win) hcore).trans hwin⟩
    rw [hcore, hserved]
    exact SMap.get?_put_self _ _ _
  · exact coreCmd_still (body := knucklePass u) hoff (knucklePass_idle (s := { s with out := [] }) hidle)
  · obtain ⟨t, y, ht, hy, hfault⟩ := exec_progressTimeout_awaited hoff hf hr (awaited_operand hp hop hm)
    exact ⟨t, y, ht, hy, hfault.state, hfault.reason, hfault.node, hfault.epoch, hfault.coll, hfault.issued⟩
  · obtain ⟨t, y, ht, hy, hfault⟩ := exec_progressTimeout_awaited hoff hf hr (awaited_count hp hop hn hj)
    exact ⟨t, y, ht, hy, hfault.state, hfault.reason, hfault.node, hfault.coll⟩
  · exact exec_progressTimeout_idle hoff hr

end Sys2Proof.Machine

namespace Sys2Proof.Machine

/-! ## Port commands -/

section
variable {s t u : State} {fs : List Fld} {body : State → State}

theorem State.idle_of_running (h : s.running = true) : s.idle = false := by
  have hseq : s.seq = 4 := beq_iff_eq.mp h
  simp [State.idle, State.off, hseq]

theorem State.off_of_idle (h : s.idle = false) : s.off = false := (Bool.or_eq_false_iff.mp h).1

/-- Where the ports are served a port command whose body stays outside OFF answers the body's state, but for the outputs. -/
theorem portCmd_next (h : s.idle = false) (hb : body { s with out := [] } = u) (hu : u.off = false) :
    ∃ t, portCmd body s = .next t ∧ t.core = u.core ∧ t.aon = u.aon ∧ ∀ f, t.rd f = u.rd f := by
  subst hb
  exact ⟨_, portCmd_on body s h, wire_core _ hu, wire_aon _, wire_rd _ hu⟩

/-- A port command that does nothing where the ports are served changes nothing. -/
theorem portCmd_still (hoff : s.off = false) (hb : s.idle = false → body { s with out := [] } = { s with out := [] }) :
    ∃ t, portCmd body s = .next t ∧ t.aon = s.aon ∧ t.core = s.core := by
  cases hi : s.idle with
  | false =>
    obtain ⟨t, ht, hcore, haon, -⟩ := portCmd_next hi (hb hi) hoff
    exact ⟨t, ht, haon, hcore⟩
  | true => exact ⟨_, portCmd_idle body s hi, wire_aon _, wire_core _ hoff⟩

/-! ## Writes of core-domain fields -/

/-- `u` is `s` but for fields of the core domain's registers. -/
structure State.Wrote (s u : State) (fs : List Fld) : Prop where
  build : u.build = s.build
  aon : u.aon = s.aon
  core : u.core = { s.core with regs := u.core.regs }
  rd : s.SameBut u fs

theorem State.Wrote.refl (s : State) (fs : List Fld) : s.Wrote s fs := ⟨rfl, rfl, rfl, .refl _ _⟩

theorem State.Wrote.wr (h : s.Wrote u fs) (f : Fld) (v : Nat) (hf : f ∈ fs) (haon : f.aon = false) :
    s.Wrote (u.wr f v) fs where
  build := (State.wr_build _ _ _).trans h.build
  aon := (State.wr_core_aon u f v haon).1.trans h.aon
  core := (State.wr_core_aon u f v haon).2.trans (by rw [h.core])
  rd := h.rd.wr f v hf

theorem State.Wrote.mono {gs : List Fld} (h : s.Wrote u fs) (hsub : ∀ f ∈ fs, f ∈ gs) : s.Wrote u gs :=
  ⟨h.build, h.aon, h.core, fun f hf => h.rd f fun g hg => hf g (hsub g hg)⟩

theorem State.Wrote.off (h : s.Wrote u fs) : u.off = s.off := State.off_eq_of h.build h.aon

theorem State.Wrote.sameAon (h : s.Wrote u fs) : s.SameAon u := by
  rw [State.SameAon, h.aon]

/-- Leave several items of work for the tick. -/
def State.posts (s : State) (work : List Work) : State := work.foldl State.post s

theorem State.posts_eq (s : State) (work : List Work) : s.posts work = { s with core.work := s.core.work ++ work } := by
  simpa [State.posts] using State.foldl_post id work s

/-- A port command that writes fields of the core domain and leaves work. -/
theorem portCmd_wrote {work : List Work} (hi : s.idle = false) (hw : ({ s with out := [] } : State).Wrote u fs)
    (hb : body { s with out := [] } = u.posts work) :
    ∃ t, portCmd body s = .next t ∧ (∀ f, t.rd f = u.rd f) ∧ s.SameBut t fs ∧ s.SameAon t ∧
      t.core = { s.core with regs := t.core.regs, work := s.core.work ++ work } := by
  rw [State.posts_eq] at hb
  obtain ⟨t, ht, hcore, haon, hrd⟩ := portCmd_next hi hb (hw.off.trans (State.off_of_idle hi))
  refine ⟨t, ht, hrd, fun f hf => (hrd f).trans (hw.rd f hf), ?_, ?_⟩
  · rw [State.SameAon, haon]
    exact hw.sameAon
  · rw [hcore, hw.core]

/-- A port command that writes fields of the core domain alone. -/
theorem portCmd_writes (hi : s.idle = false) (hw : ({ s with out := [] } : State).Wrote u fs)
    (hb : body { s with out := [] } = u) :
    ∃ t, portCmd body s = .next t ∧ (∀ f, t.rd f = u.rd f) ∧ s.SameBut t fs ∧ s.SameAon t ∧ s.SameCore t := by
  obtain ⟨t, ht, hrd, hbut, haon, hcore⟩ := portCmd_wrote (work := []) hi hw hb
  exact ⟨t, ht, hrd, hbut, haon, by simpa [State.SameCore] using hcore⟩

/-! ## Stop causes (R33, R34) -/

/-- The fields of a queue's stop causes. -/
def stopCauses (q : Nat) : List Fld :=
  [R.QUEUE_STATUS_ERR q, R.QUEUE_STATUS_WAIT_TO q, R.QUEUE_STATUS_DB_OVF q, R.QUEUE_STATUS_RING_FAULT q]

/-- A stop cause is one bit beside the queue's state. -/
theorem stopCauses_bit {q : Nat} {c : Fld} (h : c ∈ stopCauses q) :
    c.aon = false ∧ c.width = 1 ∧ c.lo + c.width ≤ 32 ∧ (R.QUEUE_STATUS_STATE q).apart c := by
  simp only [stopCauses, List.mem_cons, List.not_mem_nil, or_false] at h
  rcases h with rfl | rfl | rfl | rfl <;>
    exact ⟨rfl, rfl, Nat.le_of_ble_eq_true rfl, .inr (.inr (.inl (Nat.le_of_ble_eq_true rfl)))⟩

/-- A bit that is written reads back. -/
theorem State.rd_wr_one {c : Fld} (hw : c.width = 1) (hl : c.lo + c.width ≤ 32) : (s.wr c 1).rd c = 1 := by
  rw [State.rd_wr_self _ _ _ hl, hw]
  rfl

theorem State.qState_wr (s : State) {q v : Nat} (hv : v < 4) : (s.wr (R.QUEUE_STATUS_STATE q) v).qState q = v :=
  (State.rd_wr_self _ _ _ (by simp [R.QUEUE_STATUS_STATE])).trans (Nat.mod_eq_of_lt hv)

/-- A cause that arises stops a queue that runs, and a stopped one stays stopped (R33). -/
theorem State.stopQueue_spec {q : Nat} {c : Fld} (hc : c ∈ stopCauses q) (hst : s.qState q = 1 ∨ s.qState q = 2) :
    (s.stopQueue q c).rd c = 1 ∧ (s.stopQueue q c).qState q = 2 ∧
      s.Wrote (s.stopQueue q c) [c, R.QUEUE_STATUS_STATE q] := by
  obtain ⟨haon, hw, hl, hap⟩ := stopCauses_bit hc
  have hone : (s.wr c 1).rd c = 1 := State.rd_wr_one hw hl
  have hst' : (s.wr c 1).qState q = s.qState q := State.rd_wr_ne _ _ _ _ (Fld.apart_comm hap)
  have hwr : s.Wrote (s.wr c 1) [c, R.QUEUE_STATUS_STATE q] := (State.Wrote.refl s _).wr c 1 (by simp) haon
  unfold State.stopQueue
  rcases hst with h | h
  · rw [if_pos (hst'.trans h)]
    exact ⟨(State.rd_wr_ne _ _ _ _ hap).trans hone, State.qState_wr _ (by decide), hwr.wr _ _ (by simp) rfl⟩
  · rw [if_neg (by omega)]
    exact ⟨hone, hst'.trans h, hwr⟩

/-! ## Doorbells (R38, R39) -/

section
variable {q : QueueId} {v : Word}

/-- A write of SQ_TAIL to a queue that is not DISABLED. -/
theorem doorbellSqTail_eq (hrun : s.running = true) (hst : s.qState q.val ≠ 0) :
    doorbellSqTail q v 15 s = if s.qState q.val = 3 then s.wr (R.QUEUE_SQ_TAIL_COUNT q.val) v.toNat
      else if subMod 32 v.toNat (s.rd (R.QUEUE_SQ_HEAD_COUNT q.val)) > 2 ^ s.rd (R.QUEUE_SQ_SIZE_LOG2 q.val) then
        s.stopQueue q.val (R.QUEUE_STATUS_DB_OVF q.val)
      else (s.wr (R.QUEUE_SQ_TAIL_COUNT q.val) v.toNat).post (.fetch q.val) :=
  if_neg (by simp [hrun, hst])

/-- A write of CQ_HEAD to a queue that is not DISABLED. -/
theorem doorbellCqHead_eq (hrun : s.running = true) (hst : s.qState q.val ≠ 0) :
    doorbellCqHead q v 15 s =
      if subMod 32 (s.rd (R.QUEUE_CQ_TAIL_COUNT q.val)) v.toNat > 2 ^ s.rd (R.QUEUE_CQ_SIZE_LOG2 q.val) then
        if s.qState q.val = 3 then s.wr (R.QUEUE_STATUS_DB_OVF q.val) 1 else s.stopQueue q.val (R.QUEUE_STATUS_DB_OVF q.val)
      else (((s.wr (R.QUEUE_CQ_HEAD_COUNT q.val) v.toNat).post (.head q.val)).post (.record q.val)).post .events :=
  if_neg (by simp [hrun, hst])

/-- Doorbell writes that are ignored: outside RUN, without all strobes, or to a DISABLED queue. -/
theorem doorbell_ignored {strb : BitVec 4} (h : s.running = false ∨ strb ≠ 15 ∨ s.qState q.val = 0) :
    doorbellSqTail q v strb s = s ∧ doorbellCqHead q v strb s = s ∧ resume q v strb s = s := by
  have hcond : ¬ s.running ∨ strb ≠ 15 ∨ s.qState q.val = 0 := by simpa using h
  exact ⟨if_pos hcond, if_pos hcond, if_pos (by tauto)⟩

theorem exec_doorbell_ignored {strb : BitVec 4} (hoff : s.off = false)
    (h : s.running = false ∨ strb ≠ 15 ∨ s.qState q.val = 0) :
    ∀ c ∈ [Instr.doorbellSqTail q v strb, .doorbellCqHead q v strb, .resume q v strb],
      ∃ t, exec c s = .next t ∧ t.aon = s.aon ∧ t.core = s.core := by
  obtain ⟨hsq, hcq, hres⟩ := doorbell_ignored (s := { s with out := [] }) (v := v) h
  simp only [List.forall_mem_cons, List.not_mem_nil, false_implies, implies_true, and_true]
  exact ⟨portCmd_still (body := doorbellSqTail q v strb) hoff fun _ => hsq,
    portCmd_still (body := doorbellCqHead q v strb) hoff fun _ => hcq,
      portCmd_still (body := resume q v strb) hoff fun _ => hres⟩

/-- A count reads back whole: it has 32 bits. -/
theorem State.rd_wr_word {f : Fld} (hlo : f.lo = 0) (hw : f.width = 32) : (s.wr f v.toNat).rd f = v.toNat := by
  rw [State.rd_wr_self _ _ _ (by omega), hw]
  exact Nat.mod_eq_of_lt v.isLt

/-- A doorbell write past the ring sets DB_OVF and stops the queue. -/
theorem exec_doorbell_past {body : State → State} (hi : s.idle = false) (hst : s.qState q.val = 1 ∨ s.qState q.val = 2)
    (hb : body { s with out := [] } = ({ s with out := [] } : State).stopQueue q.val (R.QUEUE_STATUS_DB_OVF q.val)) :
    ∃ t, portCmd body s = .next t ∧ t.rd (R.QUEUE_STATUS_DB_OVF q.val) = 1 ∧ t.qState q.val = 2 ∧
      s.SameBut t [R.QUEUE_STATUS_DB_OVF q.val, R.QUEUE_STATUS_STATE q.val] ∧ s.SameAon t ∧ s.SameCore t := by
  obtain ⟨hovf, htwo, hw⟩ :=
    State.stopQueue_spec (s := { s with out := [] }) (c := R.QUEUE_STATUS_DB_OVF q.val) (by simp [stopCauses]) hst
  obtain ⟨t, ht, hrd, hframe⟩ := portCmd_writes hi hw hb
  exact ⟨t, ht, (hrd _).trans hovf, (hrd _).trans htwo, hframe⟩

/-- A doorbell write that stores a count. -/
theorem exec_doorbell_stores {body : State → State} {f : Fld} {work : List Work} (hi : s.idle = false)
    (haon : f.aon = false) (hlo : f.lo = 0)
    (hw : f.width = 32) (hb : body { s with out := [] } = (({ s with out := [] } : State).wr f v.toNat).posts work) :
    ∃ t, portCmd body s = .next t ∧ t.rd f = v.toNat ∧ s.SameBut t [f] ∧ s.SameAon t ∧
      t.core = { s.core with regs := t.core.regs, work := s.core.work ++ work } := by
  obtain ⟨t, ht, hrd, hframe⟩ := portCmd_wrote hi ((State.Wrote.refl _ [f]).wr f v.toNat (by simp) haon) hb
  exact ⟨t, ht, (hrd f).trans (State.rd_wr_word hlo hw), hframe⟩

end

end

/-- Settles O13: doorbell writes by queue state. -/
theorem doorbellWrites : Obligations.DoorbellWrites := by
  intro s q v hrun
  have hi := State.idle_of_running hrun
  have hsq := fun hst => doorbellSqTail_eq (s := { s with out := [] }) (q := q) (v := v) hrun hst
  have hcq := fun hst => doorbellCqHead_eq (s := { s with out := [] }) (q := q) (v := v) hrun hst
  refine ⟨fun h0 => exec_doorbell_ignored (State.off_of_idle hi) (.inr (.inr h0)), fun hst hpast => ?_, fun hst hin => ?_,
    fun hst hpast => ?_, fun hst hin => ?_, fun h3 => ?_, fun h3 hpast => ?_, fun h3 => ?_⟩
  · obtain ⟨h0, h3⟩ : s.qState q.val ≠ 0 ∧ s.qState q.val ≠ 3 := by omega
    exact exec_doorbell_past hi hst ((hsq h0).trans ((if_neg h3).trans (if_pos hpast)))
  · obtain ⟨h0, h3⟩ : s.qState q.val ≠ 0 ∧ s.qState q.val ≠ 3 := by omega
    exact exec_doorbell_stores (work := [.fetch q.val]) hi rfl rfl rfl
      ((hsq h0).trans ((if_neg h3).trans (if_neg (Nat.not_lt.mpr hin))))
  · obtain ⟨h0, h3⟩ : s.qState q.val ≠ 0 ∧ s.qState q.val ≠ 3 := by omega
    exact exec_doorbell_past hi hst ((hcq h0).trans ((if_pos hpast).trans (if_neg h3)))
  · exact exec_doorbell_stores (work := [.head q.val, .record q.val, .events]) hi rfl rfl rfl
      ((hcq hst).trans (if_neg (Nat.not_lt.mpr hin)))
  · have h0 : s.qState q.val ≠ 0 := by omega
    obtain ⟨t, ht, hrd, hbut, haon, hcore⟩ :=
      exec_doorbell_stores (f := R.QUEUE_SQ_TAIL_COUNT q.val) (work := []) hi rfl rfl rfl
      ((hsq h0).trans (if_pos h3))
    exact ⟨t, ht, hrd, hbut, haon, by simpa [State.SameCore] using hcore⟩
  · have h0 : s.qState q.val ≠ 0 := by omega
    obtain ⟨t, ht, hrd, hframe⟩ :=
      portCmd_writes hi ((State.Wrote.refl _ [R.QUEUE_STATUS_DB_OVF q.val]).wr _ 1 (by simp) rfl)
      ((hcq h0).trans ((if_pos hpast).trans (if_pos h3)))
    exact ⟨t, ht, (hrd _).trans (State.rd_wr_one rfl (Nat.le_of_ble_eq_true rfl)), hframe⟩
  · exact portCmd_still (body := resume q v 15) (State.off_of_idle hi) fun _ => if_pos (.inr (.inr (.inr (.inr h3))))


/-! ## RESUME (R34) -/

section
variable {s : State} {q : QueueId} {v : Word}

/-- What a RESUME clears (R34). -/
def State.clearCauses (s : State) (q : Nat) : State := (s.wr (R.QUEUE_STATUS_ERR q) 0).wr (R.QUEUE_STATUS_WAIT_TO q) 0

theorem State.clearCauses_spec (s : State) (q : Nat) :
    (s.clearCauses q).rd (R.QUEUE_STATUS_ERR q) = 0 ∧ (s.clearCauses q).rd (R.QUEUE_STATUS_WAIT_TO q) = 0 ∧
      s.Wrote (s.clearCauses q) [R.QUEUE_STATUS_ERR q, R.QUEUE_STATUS_WAIT_TO q] := by
  have hzero : ∀ (u : State) (c : Fld), c.lo + c.width ≤ 32 → (u.wr c 0).rd c = 0 := fun u c hl =>
    (State.rd_wr_self u c 0 hl).trans (Nat.zero_mod _)
  refine ⟨(State.rd_wr_ne _ _ _ _ (.inr (.inr (.inr (Nat.le_of_ble_eq_true rfl))))).trans
    (hzero _ _ (Nat.le_of_ble_eq_true rfl)),
    hzero _ _ (Nat.le_of_ble_eq_true rfl), ((State.Wrote.refl s _).wr _ _ (by simp) rfl).wr _ _ (by simp) rfl⟩

/-- The state and the causes that a RESUME does not clear. -/
theorem State.clearCauses_keeps (s : State) (q : Nat) :
    ∀ f ∈ [R.QUEUE_STATUS_STATE q, R.QUEUE_STATUS_DB_OVF q, R.QUEUE_STATUS_RING_FAULT q],
      (s.clearCauses q).rd f = s.rd f := by
  intro f hf
  refine (s.clearCauses_spec q).2.2.rd f ?_
  simp only [List.mem_cons, List.not_mem_nil, or_false] at hf
  rcases hf with rfl | rfl | rfl <;>
    simp [Fld.apart, R.QUEUE_STATUS_STATE, R.QUEUE_STATUS_DB_OVF, R.QUEUE_STATUS_RING_FAULT, R.QUEUE_STATUS_ERR,
      R.QUEUE_STATUS_WAIT_TO]

/-- A RESUME to a queue that is RUNNING or STOPPED. -/
theorem resume_eq (hrun : s.running = true) (hv : bits v.toNat 0 1 = 1) (hst : s.qState q.val = 1 ∨ s.qState q.val = 2) :
    resume q v 15 s = if s.qState q.val = 2 ∧ s.on (R.QUEUE_STATUS_DB_OVF q.val) = false ∧
      s.on (R.QUEUE_STATUS_RING_FAULT q.val) = false then
        (((s.clearCauses q.val).wr (R.QUEUE_STATUS_STATE q.val) 1).post (.fetch q.val)).post (.head q.val)
      else s.clearCauses q.val := by
  have hkeep := s.clearCauses_keeps q.val
  have hovf : (s.clearCauses q.val).on (R.QUEUE_STATUS_DB_OVF q.val) = s.on (R.QUEUE_STATUS_DB_OVF q.val) := by
    rw [State.on_eq, hkeep _ (by simp), State.on_eq]
  have hfault : (s.clearCauses q.val).on (R.QUEUE_STATUS_RING_FAULT q.val) = s.on (R.QUEUE_STATUS_RING_FAULT q.val) := by
    rw [State.on_eq, hkeep _ (by simp), State.on_eq]
  have hgo : ¬ (¬ s.running ∨ (15 : BitVec 4) ≠ 15 ∨ bits v.toNat 0 1 = 0 ∨ s.qState q.val = 0 ∨ s.qState q.val = 3) := by
    simp only [hrun, not_true_eq_false, ne_eq, hv, false_or]
    omega
  rw [resume, if_neg hgo]
  simp only [State.clearCauses] at hovf hfault ⊢
  simp only [hovf, hfault, Bool.not_eq_true]

end

/-- Settles O14: a RESUME by the queue's state and its stop causes, and doorbell writes that are ignored. -/
theorem resumeWrites : Obligations.ResumeWrites := by
  intro s q v hoff
  obtain ⟨herr, hwait, hw⟩ := ({ s with out := [] } : State).clearCauses_spec q.val
  have hstate : (({ s with out := [] } : State).clearCauses q.val).qState q.val = s.qState q.val :=
    State.clearCauses_keeps _ _ _ (by simp)
  have hbody := fun hrun hv hst => resume_eq (s := { s with out := [] }) (q := q) (v := v) hrun hv hst
  refine ⟨fun hrun hv h2 hovf hfault => ?_, fun hrun hv hst => ?_, fun strb h =>
    exec_doorbell_ignored hoff (h.elim .inl fun h => .inr (.inl h))⟩
  · have hw' := (hw.mono (gs := [R.QUEUE_STATUS_STATE q.val, R.QUEUE_STATUS_ERR q.val, R.QUEUE_STATUS_WAIT_TO q.val])
      (by simp)).wr
      (R.QUEUE_STATUS_STATE q.val) 1 (by simp) rfl
    have hkeep : ∀ c ∈ stopCauses q.val, ∀ u : State, (u.wr (R.QUEUE_STATUS_STATE q.val) 1).rd c = u.rd c := fun c hc u =>
      State.rd_wr_ne _ _ _ _ (stopCauses_bit hc).2.2.2
    obtain ⟨t, ht, hrd, hbut, haon, -⟩ :=
      portCmd_wrote (work := [.fetch q.val, .head q.val]) (State.idle_of_running hrun) hw'
      ((hbody hrun hv (.inr h2)).trans (if_pos ⟨h2, hovf, hfault⟩))
    exact ⟨t, ht, (hrd _).trans (State.qState_wr _ (by decide)),
      ((hrd _).trans (hkeep _ (by simp [stopCauses]) _)).trans herr,
      ((hrd _).trans (hkeep _ (by simp [stopCauses]) _)).trans hwait, hbut, haon⟩
  · have hstays : ¬ (s.qState q.val = 2 ∧ s.on (R.QUEUE_STATUS_DB_OVF q.val) = false ∧
      s.on (R.QUEUE_STATUS_RING_FAULT q.val) = false) := by
      rintro ⟨h2, hovf, hfault⟩
      simp [h2, hovf, hfault] at hst
    obtain ⟨t, ht, hrd, hbut, haon, hcore⟩ := portCmd_writes (State.idle_of_running hrun) hw
      ((hbody hrun hv (hst.imp_right (·.1))).trans (if_neg hstays))
    exact ⟨t, ht, (hrd _).trans hstate, (hrd _).trans herr, (hrd _).trans hwait, haon, hcore, hbut⟩

end Sys2Proof.Machine

namespace Sys2Proof.Machine

/-! ## Enabling a queue (R32, R33) -/

section
variable {s t u : State} {fs : List Fld}

theorem getField_eq_bits (d : Word) (lo w : Nat) : getField d lo w = bits d.toNat lo w := by
  rw [getField, bits, BitVec.toNat_ushiftRight, Nat.shiftRight_eq_div_pow]

theorem State.Wrote.wrFields (h : s.Wrote u fs) (d : Word) (l : List Fld) (hl : ∀ f ∈ l, f ∈ fs ∧ f.aon = false) :
    s.Wrote (u.wrFields d l) fs := by
  induction l generalizing u with
  | nil => exact h
  | cons f l ih =>
    obtain ⟨⟨hf, haon⟩, hl⟩ := List.forall_mem_cons.1 hl
    exact ih (h.wr f _ hf haon) hl

/-- The gated fields of QUEUE_CTL (R479). -/
def queueCtlFields (q : Nat) : List Fld :=
  [R.QUEUE_CTL_KIND q, R.QUEUE_CTL_STOP_ON_ERR q, R.QUEUE_CTL_NYESH_CRC q, R.QUEUE_CTL_RETRY_OK q, R.QUEUE_CTL_EVENTS q,
    R.QUEUE_CTL_FUNC q, R.QUEUE_CTL_GROUP q]

/-- The gated fields are distinct fields of QUEUE_CTL, beside ENABLE. -/
theorem queueCtlFields_spec (q : Nat) : (queueCtlFields q).Pairwise Fld.apart ∧
    ∀ f ∈ queueCtlFields q, f.aon = false ∧ f.lo + f.width ≤ 32 ∧ f.addr = 0x400000 + q * 0x400 ∧ 1 ≤ f.lo := by
  constructor
  · simp [queueCtlFields, Fld.apart, R.QUEUE_CTL_KIND, R.QUEUE_CTL_STOP_ON_ERR, R.QUEUE_CTL_NYESH_CRC, R.QUEUE_CTL_RETRY_OK,
      R.QUEUE_CTL_EVENTS, R.QUEUE_CTL_FUNC, R.QUEUE_CTL_GROUP]
  · simp [queueCtlFields, R.QUEUE_CTL_KIND, R.QUEUE_CTL_STOP_ON_ERR, R.QUEUE_CTL_NYESH_CRC, R.QUEUE_CTL_RETRY_OK,
      R.QUEUE_CTL_EVENTS, R.QUEUE_CTL_FUNC, R.QUEUE_CTL_GROUP]

/-- A DISABLED queue stores the gated fields of a QUEUE_CTL write. -/
theorem State.storeQueueCtl_disabled {q : Nat} {d : Word} (h : s.qState q = 0) :
    s.storeQueueCtl q d = s.wrFields d (queueCtlFields q) := by
  simp only [State.storeQueueCtl, h, ne_eq, not_true_eq_false, if_false, queueCtlFields, State.wrFields_cons,
    State.wrFields_nil,
    getField_eq_bits]
  rfl

/-- What the stored fields read, and what stays: everything outside QUEUE_CTL. -/
theorem State.storeQueueCtl_spec {q : Nat} {d : Word} (h : s.qState q = 0) :
    (∀ f ∈ queueCtlFields q, (s.storeQueueCtl q d).rd f = bits d.toNat f.lo f.width) ∧
      (∀ f : Fld, f.addr ≠ 0x400000 + q * 0x400 → (s.storeQueueCtl q d).rd f = s.rd f) ∧
      s.Wrote (s.storeQueueCtl q d) (queueCtlFields q) := by
  obtain ⟨hap, hfld⟩ := queueCtlFields_spec q
  have hw : s.Wrote (s.storeQueueCtl q d) (queueCtlFields q) := by
    rw [State.storeQueueCtl_disabled h]
    exact (State.Wrote.refl s _).wrFields d _ fun f hf => ⟨hf, (hfld f hf).1⟩
  refine ⟨fun f hf => ?_, fun f hf => hw.rd f fun g hg => .inr (.inl ?_), hw⟩
  · rw [State.storeQueueCtl_disabled h, State.wrFields_rd d _ s hap (fun g hg => (hfld g hg).2.1) f hf, getField_eq_bits]
  · rw [(hfld g hg).2.2.1]
    exact hf

/-- Values written to fields in turn. -/
def State.wrAll (s : State) (l : List (Fld × Nat)) : State := l.foldl (fun s x => s.wr x.1 x.2) s

theorem State.Wrote.wrAll (h : s.Wrote u fs) (l : List (Fld × Nat)) (hl : ∀ x ∈ l, x.1 ∈ fs ∧ x.1.aon = false) :
    s.Wrote (u.wrAll l) fs := by
  induction l generalizing u with
  | nil => exact h
  | cons x l ih =>
    obtain ⟨⟨hf, haon⟩, hl⟩ := List.forall_mem_cons.1 hl
    exact ih (h.wr x.1 _ hf haon) hl

/-- Fields that share no bit read back the values written to them. -/
theorem State.wrAll_rd (s : State) {l : List (Fld × Nat)} (hp : l.Pairwise (fun x y => x.1.apart y.1))
    (hl : ∀ x ∈ l, x.1.aon = false ∧ x.1.lo + x.1.width ≤ 32 ∧ x.2 < 2 ^ x.1.width) :
    ∀ x ∈ l, (s.wrAll l).rd x.1 = x.2 := by
  induction l generalizing s with
  | nil => simp
  | cons x l ih =>
    obtain ⟨hx, hp⟩ := List.pairwise_cons.1 hp
    obtain ⟨⟨-, hwide, hval⟩, hl⟩ := List.forall_mem_cons.1 hl
    refine List.forall_mem_cons.2 ⟨?_, ih _ hp hl⟩
    have hkeep := ((State.Wrote.refl (s.wr x.1 x.2) (l.map (·.1))).wrAll l
      fun y hy => ⟨List.mem_map_of_mem hy, (hl y hy).1⟩).rd x.1 fun g hg => by
        obtain ⟨y, hy, rfl⟩ := List.mem_map.1 hg
        exact Fld.apart_comm (hx y hy)
    exact hkeep.trans ((State.rd_wr_self _ _ _ hwide).trans (Nat.mod_eq_of_lt hval))

/-- What a successful enable writes (R33). -/
def enableWrites (q : Nat) : List (Fld × Nat) :=
  [(R.QUEUE_SQ_HEAD_COUNT q, 0), (R.QUEUE_SQ_TAIL_COUNT q, 0), (R.QUEUE_CQ_TAIL_COUNT q, 0), (R.QUEUE_CQ_HEAD_COUNT q, 0),
    (R.QUEUE_CTL_ENABLE q, 1), (R.QUEUE_STATUS_CFG_ERR q, 0), (R.QUEUE_STATUS_STATE q, 1)]

/-- What a failed enable writes (R33). -/
def refusalWrites (q : Nat) : List (Fld × Nat) := [(R.QUEUE_STATUS_CFG_ERR q, 1), (R.QUEUE_CTL_ENABLE q, 0)]

/-- ENABLE written 1 to a DISABLED queue. -/
theorem State.enableQueue_disabled {q : Nat} {d : Word} (owned : Nat → Nat → Bool) (h : s.qState q = 0)
    (hd : bits d.toNat 0 1 = 1) :
    s.enableQueue q d owned =
      let u := s.storeQueueCtl q d
      if u.enableOk q (owned (u.rd (R.QUEUE_CTL_GROUP q)) (u.qFunc q)) then (u.wrAll (enableWrites q)).post .events
      else u.wrAll (refusalWrites q) := by
  simp only [State.enableQueue, h, hd, ne_eq, not_true_eq_false, Nat.one_ne_zero, or_self, if_false]
  rfl

/-- A failed enable sets CFG_ERR, clears ENABLE and leaves the queue's state. -/
theorem State.refusalWrites_rd (s : State) (q : Nat) : (s.wrAll (refusalWrites q)).rd (R.QUEUE_STATUS_CFG_ERR q) = 1 ∧
    (s.wrAll (refusalWrites q)).rd (R.QUEUE_CTL_ENABLE q) = 0 ∧ (s.wrAll (refusalWrites q)).qState q = s.qState q := by
  have hset := s.wrAll_rd (l := refusalWrites q)
    (by simp [refusalWrites, Fld.apart, R.QUEUE_STATUS_CFG_ERR, R.QUEUE_CTL_ENABLE])
    (by simp [refusalWrites, R.QUEUE_STATUS_CFG_ERR, R.QUEUE_CTL_ENABLE])
  refine ⟨hset (R.QUEUE_STATUS_CFG_ERR q, 1) (by simp [refusalWrites]),
    hset (R.QUEUE_CTL_ENABLE q, 0) (by simp [refusalWrites]), ?_⟩
  refine ((State.Wrote.refl s ((refusalWrites q).map (·.1))).wrAll (refusalWrites q) ?_).rd _ ?_ <;>
    simp [refusalWrites, Fld.apart, R.QUEUE_STATUS_CFG_ERR, R.QUEUE_CTL_ENABLE, R.QUEUE_STATUS_STATE]

/-- The writes of an enable go to distinct fields, beside the gated ones. -/
theorem enableWrites_spec (q : Nat) : (enableWrites q).Pairwise (fun x y => x.1.apart y.1) ∧
    ∀ x ∈ enableWrites q, (x.1.aon = false ∧ x.1.lo + x.1.width ≤ 32 ∧ x.2 < 2 ^ x.1.width) ∧
      (x.1.addr = 0x400000 + q * 0x400 → x.1.lo + x.1.width ≤ 1) := by
  constructor
  · simp [enableWrites, Fld.apart, R.QUEUE_CTL_ENABLE, R.QUEUE_STATUS_CFG_ERR, R.QUEUE_STATUS_STATE, R.QUEUE_SQ_HEAD_COUNT,
      R.QUEUE_SQ_TAIL_COUNT, R.QUEUE_CQ_HEAD_COUNT, R.QUEUE_CQ_TAIL_COUNT]
  · simp [enableWrites, R.QUEUE_CTL_ENABLE, R.QUEUE_STATUS_CFG_ERR, R.QUEUE_STATUS_STATE, R.QUEUE_SQ_HEAD_COUNT,
      R.QUEUE_SQ_TAIL_COUNT, R.QUEUE_CQ_HEAD_COUNT, R.QUEUE_CQ_TAIL_COUNT]

/-- An enable leaves the gated fields. -/
theorem State.wrAll_enable_keeps (s : State) (q : Nat) :
    ∀ f ∈ queueCtlFields q, (s.wrAll (enableWrites q)).rd f = s.rd f := by
  intro f hf
  obtain ⟨-, hx⟩ := enableWrites_spec q
  obtain ⟨-, -, haddr, hlo⟩ := (queueCtlFields_spec q).2 f hf
  refine ((State.Wrote.refl s ((enableWrites q).map (·.1))).wrAll (enableWrites q)
    fun x h => ⟨List.mem_map_of_mem h, (hx x h).1.1⟩).rd f fun g hg => ?_
  obtain ⟨x, h, rfl⟩ := List.mem_map.1 hg
  by_cases ha : x.1.addr = 0x400000 + q * 0x400
  · exact .inr (.inr (.inl (((hx x h).2 ha).trans hlo)))
  · exact .inr (.inl (haddr ▸ Ne.symm ha))

/-- A data queue whose function is ENABLED and whose rings have 64 to 65536 slots may run (R33). -/
theorem State.enableOk_data {q : Nat} (owned : Bool) (hf : s.funcState (s.qFunc q) = 1)
    (hkind : s.rd (R.QUEUE_CTL_KIND q) = 0)
    (hev : s.rd (R.QUEUE_CTL_EVENTS q) = 0) (hsq : 6 ≤ s.rd (R.QUEUE_SQ_SIZE_LOG2 q) ∧ s.rd (R.QUEUE_SQ_SIZE_LOG2 q) ≤ 16)
    (hcq : 6 ≤ s.rd (R.QUEUE_CQ_SIZE_LOG2 q) ∧ s.rd (R.QUEUE_CQ_SIZE_LOG2 q) ≤ 16) : s.enableOk q owned = true := by
  simp [State.enableOk, State.funcEnabled, State.on, hf, hkind, hev, hsq, hcq]

/-- No queue of a function that is not ENABLED may run (R33). -/
theorem State.enableOk_func {q : Nat} (owned : Bool) (hf : s.funcState (s.qFunc q) ≠ 1) : s.enableOk q owned = false := by
  simp [State.enableOk, State.funcEnabled, hf]

/-- A function's state lies outside the queues' registers. -/
theorem State.funcState_storeQueueCtl {q f : Nat} {d : Word} (h : s.qState q = 0) (_ : f < 64) :
    (s.storeQueueCtl q d).funcState f = s.funcState f :=
  (State.storeQueueCtl_spec h).2.1 _ (by simp only [R.FUNC_STATUS_STATE]; omega)

/-- Storing QUEUE_CTL leaves the ring sizes. -/
theorem State.storeQueueCtl_sizes {q : Nat} {d : Word} (h : s.qState q = 0) :
    (s.storeQueueCtl q d).rd (R.QUEUE_SQ_SIZE_LOG2 q) = s.rd (R.QUEUE_SQ_SIZE_LOG2 q) ∧
      (s.storeQueueCtl q d).rd (R.QUEUE_CQ_SIZE_LOG2 q) = s.rd (R.QUEUE_CQ_SIZE_LOG2 q) := by
  obtain ⟨-, hkeep, -⟩ := State.storeQueueCtl_spec (d := d) h
  exact ⟨hkeep _ (by simp [R.QUEUE_SQ_SIZE_LOG2]), hkeep _ (by simp [R.QUEUE_CQ_SIZE_LOG2])⟩

/-- The fields of an enable, once stored, are those of the write. -/
theorem State.storeQueueCtl_rd {q : Nat} {d : Word} (h : s.qState q = 0) :
    (s.storeQueueCtl q d).rd (R.QUEUE_CTL_KIND q) = bits d.toNat 1 2 ∧
      (s.storeQueueCtl q d).rd (R.QUEUE_CTL_EVENTS q) = bits d.toNat 6 1 ∧
      (s.storeQueueCtl q d).qFunc q = bits d.toNat 8 6 ∧
        (s.storeQueueCtl q d).rd (R.QUEUE_CTL_GROUP q) = bits d.toNat 16 12 ∧
      (s.storeQueueCtl q d).qState q = 0 := by
  obtain ⟨hfld, hkeep, -⟩ := State.storeQueueCtl_spec (d := d) h
  exact ⟨hfld _ (by simp [queueCtlFields]), hfld _ (by simp [queueCtlFields]), hfld _ (by simp [queueCtlFields]),
    hfld _ (by simp [queueCtlFields]), (hkeep _ (by simp [R.QUEUE_STATUS_STATE])).trans h⟩

theorem bits_func_lt (n : Nat) : bits n 8 6 < 64 := bits_lt _ _ _

end

/-! ## Draining a queue (R33, R349) -/

section
variable {s t u : State}

@[simp] theorem State.qs_setQs (s : State) (q : Nat) (x : QState) : (s.setQs q x).qs q = x := SMap.getD_putD_self _ _ _ _

@[simp] theorem State.qs_modQs (s : State) (q : Nat) (f : QState → QState) : (s.modQs q f).qs q = f (s.qs q) :=
  State.qs_setQs _ _ _

@[simp] theorem State.setQs_rd (s : State) (q : Nat) (x : QState) (f : Fld) : (s.setQs q x).rd f = s.rd f := rfl

theorem State.qs_congr (h : t.core.rq.queues = s.core.rq.queues) (q : Nat) : t.qs q = s.qs q := by
  rw [State.qs, h, State.qs]

/-- The record of a descriptor that a drain completes (R33). -/
def Head.aborted (h : Head) : Record :=
  ⟨none, 1, false, 0x12, dOpcode h.desc, none, false, false, 0, false, h.index, det 0 0x0E0, dUserTag h.desc, 0, 0⟩

/-- What a drain leaves of a queue. -/
def QState.drained (x : QState) : QState :=
  { x with
    fetching := false, first := none, head := none,
    reserved := x.reserved - (match x.head with
      | some h => if h.probed > 0 ∨ x.fetching then slotsNeeded h.desc else 0
      | none => 0),
    records := x.records ++ (match x.head with
      | some h => [h.aborted]
      | none => []) }

/-- A queue that drains, before it is seen whether anything of it is left. -/
structure State.Draining (s t : State) (q : Nat) : Prop where
  build : t.build = s.build
  aon : t.aon = s.aon
  state : t.qState q = 3
  qs : t.qs q = (s.qs q).drained
  ops : t.core.rq.ops = s.core.rq.ops

theorem State.Draining.post {q : Nat} (h : s.Draining t q) (w : Work) : s.Draining (t.post w) q :=
  ⟨h.build, h.aon, h.state, h.qs, h.ops⟩

theorem State.Draining.count {q : Nat} (h : s.Draining t q) (slot event : Nat) : s.Draining (t.count slot event) q :=
  ⟨h.build, h.aon, h.state, h.qs, h.ops⟩

theorem State.Draining.ite {q : Nat} {c : Prop} {_ : Decidable c} (h : s.Draining t q) (g : s.Draining u q) :
    s.Draining (if c then t else u) q := by
  split
  · exact h
  · exact g

theorem State.drainQueue_spec {q : Nat} (hst : s.qState q = 1 ∨ s.qState q = 2) :
    ∃ v, s.Draining v q ∧ s.drainQueue q = v.drainCheck q := by
  have hdrain : ∀ p, s.Draining (((s.dropJobs p).wr (R.QUEUE_STATUS_STATE q) 3).setQs q (s.qs q).drained) q := fun p =>
    { build := State.wr_build _ _ _
      aon := (State.wr_core_aon _ _ _ rfl).1
      state := (State.setQs_rd _ _ _ _).trans ((s.dropJobs p).qState_wr (by decide))
      qs := State.qs_setQs _ _ _
      ops := congrArg (·.ops) (State.wr_core_rq (s.dropJobs p) _ _) }
  rw [State.drainQueue, if_pos hst]
  exact ⟨_, .post (.ite (.post (.ite (hdrain _) (.count (hdrain _) _ _)) _)
    (.ite (hdrain _) (.count (hdrain _) _ _))) _, rfl⟩

/-- A queue with a record to be written goes on draining. -/
theorem State.drainCheck_left {q : Nat} (h : (s.qs q).records ≠ []) : s.drainCheck q = s :=
  if_neg fun hc => h hc.2.1

/-- A draining queue with nothing left is DISABLED. -/
theorem State.drainCheck_done {q : Nat} (hst : s.qState q = 3) (hqs : s.qs q = QState.empty) (hops : s.core.rq.ops = []) :
    (s.drainCheck q).qState q = 0 ∧ (s.drainCheck q).build = s.build ∧ (s.drainCheck q).aon = s.aon := by
  rw [State.drainCheck, if_pos ⟨hst, by rw [hqs]; rfl, by rw [hqs]; simp [QState.empty], by simp [hops, SMap.vals]⟩]
  have hw := ((State.Wrote.refl s [R.QUEUE_STATUS_STATE q, R.QUEUE_CTL_ENABLE q]).wr (R.QUEUE_STATUS_STATE q) 0
    (by simp) rfl).wr
    (R.QUEUE_CTL_ENABLE q) 0 (by simp) rfl
  refine ⟨?_, hw.build, hw.aon⟩
  rw [State.qState, State.post_rd, State.setQs_rd,
    State.rd_wr_ne _ _ _ _ (.inr (.inl (by simp only [R.QUEUE_STATUS_STATE, R.QUEUE_CTL_ENABLE]; omega)))]
  exact State.qState_wr _ (by decide)

/-- QUEUE_DISABLE drains the queue and clears ENABLE. -/
theorem exec_queueDisable {q : QueueId} {d : Word} (hoff : s.off = false) (hd : bits d.toNat 0 1 = 0)
    (hu : ({ s with out := [] } : State).drainQueue q.val = u) (hb : u.build = s.build) (ha : u.aon = s.aon) :
    ∃ t, exec (.queueDisable q d) s = .next t ∧ t.qState q.val = u.qState q.val ∧ t.rd (R.QUEUE_CTL_ENABLE q.val) = 0 ∧
      t.qs q.val = u.qs q.val := by
  have hbody : queueDisable q d { s with out := [] } = u.wr (R.QUEUE_CTL_ENABLE q.val) 0 := by
    rw [queueDisable, if_neg (by omega), hu]
  have hw := (State.Wrote.refl u [R.QUEUE_CTL_ENABLE q.val]).wr (R.QUEUE_CTL_ENABLE q.val) 0 (by simp) rfl
  obtain ⟨t, ht, hcore, -, hrd⟩ := coreCmd_next _ s _ hoff hbody (hw.off.trans ((State.off_eq_of hb ha).trans hoff))
  refine ⟨t, ht, (hrd _).trans (hw.rd _ fun g hg => .inr (.inl ?_)),
    (hrd _).trans ((State.rd_wr_self _ _ _ ?_).trans (Nat.zero_mod _)),
    State.qs_congr ((congrArg (·.rq.queues) hcore).trans (congrArg (·.queues) (State.wr_core_rq _ _ _))) _⟩
  · simp only [List.mem_singleton] at hg
    simp only [hg, R.QUEUE_STATUS_STATE, R.QUEUE_CTL_ENABLE]
    omega
  · exact Nat.le_of_ble_eq_true rfl

/-- An enable with its conditions met, or not. -/
theorem exec_queueEnable {q : QueueId} {d : Word} (hoff : s.off = false) (hst : s.qState q.val = 0)
    (hd : bits d.toNat 0 1 = 1) :
    let v := ({ s with out := [] } : State).storeQueueCtl q.val d
    let ok := v.enableOk q.val (s.groupOwned (v.rd (R.QUEUE_CTL_GROUP q.val)) (v.qFunc q.val))
    (ok = true → ∃ t, exec (.queueEnable q d) s = .next t ∧ ∀ f, t.rd f = (v.wrAll (enableWrites q.val)).rd f) ∧
      (ok = false → ∃ t, exec (.queueEnable q d) s = .next t ∧ s.SameAon t ∧ s.SameCore t ∧
        ∀ f, t.rd f = (v.wrAll (refusalWrites q.val)).rd f) := by
  intro v ok
  have hbody : queueEnable State.groupOwned q d { s with out := [] } =
      if ok then (v.wrAll (enableWrites q.val)).post .events else v.wrAll (refusalWrites q.val) :=
    State.enableQueue_disabled _ hst hd
  obtain ⟨-, -, hw⟩ := State.storeQueueCtl_spec (s := { s with out := [] }) (d := d) hst
  constructor
  · intro hok
    have hwr := (State.Wrote.refl v ((enableWrites q.val).map (·.1))).wrAll _
      fun x hx => ⟨List.mem_map_of_mem hx, ((enableWrites_spec q.val).2 x hx).1.1⟩
    have hpost : ((v.wrAll (enableWrites q.val)).post .events).off = v.off :=
      State.off_eq_of ((State.post_build _ _).trans hwr.build) ((State.post_aon _ _).trans hwr.aon)
    obtain ⟨t, ht, -, -, hrd⟩ := coreCmd_next (queueEnable State.groupOwned q d) s _ hoff (hbody.trans (if_pos hok))
      (hpost.trans (hw.off.trans hoff))
    exact ⟨t, ht, fun f => (hrd f).trans (State.post_rd _ _ _)⟩
  · intro hok
    have hwr := (hw.mono (gs := queueCtlFields q.val ++ (refusalWrites q.val).map (·.1))
      fun _ hf => List.mem_append_left _ hf).wrAll
      (refusalWrites q.val) (by simp [refusalWrites, R.QUEUE_STATUS_CFG_ERR, R.QUEUE_CTL_ENABLE])
    obtain ⟨t, ht, hrd, -, haon, hcore⟩ :=
      coreCmd_writes hoff (hbody.trans (if_neg (by simp [hok]))) (hwr.off.trans hoff) hwr.rd
      hwr.sameAon hwr.core
    exact ⟨t, ht, haon, hcore, hrd⟩

end

/-- Settles O15: an enable with its conditions met, and with its function not ENABLED; a drain with a fetched descriptor, and with
nothing left. -/
theorem queueEnableAndDisable : Obligations.QueueEnableAndDisable := by
  intro s q d hoff
  refine ⟨fun hst hd hkind hev hfunc hsq hsq' hcq hcq' => ?_, fun hst hd hfunc => ?_, fun h hd hst hh => ?_,
    fun hd hst hqs hops => ?_⟩
  · obtain ⟨hk, he, hf, hg, -⟩ := State.storeQueueCtl_rd (s := { s with out := [] }) (d := d) hst
    obtain ⟨hsqv, hcqv⟩ := State.storeQueueCtl_sizes (s := { s with out := [] }) (d := d) hst
    have hfs := State.funcState_storeQueueCtl (s := { s with out := [] }) (d := d) hst (bits_func_lt d.toNat)
    obtain ⟨hrun, -⟩ := exec_queueEnable (d := d) hoff hst hd
    generalize ({ s with out := [] } : State).storeQueueCtl q.val d = v at *
    obtain ⟨t, ht, hrd⟩ := hrun (State.enableOk_data _ (by rw [hf]; exact hfs.trans hfunc) (hk.trans hkind) (he.trans hev)
      (by rw [hsqv]; exact ⟨hsq, hsq'⟩) (by rw [hcqv]; exact ⟨hcq, hcq'⟩))
    have hset := v.wrAll_rd (enableWrites_spec q.val).1 fun x hx => ((enableWrites_spec q.val).2 x hx).1
    have hgate := v.wrAll_enable_keeps q.val
    simp only [← hrd] at hset hgate
    simp only [enableWrites, List.forall_mem_cons] at hset
    obtain ⟨hsh, hst, hct, hch, hen, hcfg, hstate, -⟩ := hset
    exact ⟨t, ht, hstate, hen, (hgate _ (by simp [queueCtlFields])).trans hf,
      (hgate _ (by simp [queueCtlFields])).trans hg, hsh, hst,
      hch, hct, hcfg⟩
  · obtain ⟨-, -, hf, -, hstays⟩ := State.storeQueueCtl_rd (s := { s with out := [] }) (d := d) hst
    have hfs := State.funcState_storeQueueCtl (s := { s with out := [] }) (d := d) hst (bits_func_lt d.toNat)
    obtain ⟨-, hrefuse⟩ := exec_queueEnable (d := d) hoff hst hd
    generalize ({ s with out := [] } : State).storeQueueCtl q.val d = v at *
    obtain ⟨t, ht, haon, hcore, hrd⟩ := hrefuse (State.enableOk_func _ (by rw [hf, hfs]; exact hfunc))
    obtain ⟨hcfg, hen, hkeeps⟩ := v.refusalWrites_rd q.val
    exact ⟨t, ht, (hrd _).trans (hkeeps.trans hstays), (hrd _).trans hcfg, (hrd _).trans hen, haon, hcore⟩
  · obtain ⟨v, hv, hdrain⟩ := State.drainQueue_spec (s := { s with out := [] }) hst
    have hrec : (v.qs q.val).records = (s.qs q.val).records ++ [h.aborted] := by
      have hx : (v.qs q.val).records = ((s.qs q.val).drained).records := congrArg (·.records) hv.qs
      simpa only [QState.drained, hh] using hx
    rw [State.drainCheck_left (by simp [hrec])] at hdrain
    obtain ⟨t, ht, hstate, hen, htqs⟩ := exec_queueDisable hoff hd hdrain hv.build hv.aon
    refine ⟨t, _, ht, hstate.trans hv.state, hen, ?_, (congrArg (·.records) htqs).trans hrec, rfl, rfl, rfl⟩
    rw [htqs, hv.qs]
    rfl
  · obtain ⟨v, hv, hdrain⟩ := State.drainQueue_spec (s := { s with out := [] }) hst
    have hempty : v.qs q.val = QState.empty := by
      rw [hv.qs, show ({ s with out := [] } : State).qs q.val = QState.empty from hqs]
      rfl
    obtain ⟨hzero, hbuild, haon⟩ := State.drainCheck_done hv.state hempty (hv.ops.trans hops)
    obtain ⟨t, ht, hstate, hen, -⟩ := exec_queueDisable hoff hd hdrain (hbuild.trans hv.build) (haon.trans hv.aon)
    exact ⟨t, ht, hstate.trans hzero, hen⟩

end Sys2Proof.Machine

namespace Sys2Proof.Machine

/-! ## Atomics of the local aperture (R56, R80, R446, R447) -/

section
variable {s : State} {r : LocalAtomic}

/-- A port command that only answers, while pwr_iso is 0. -/
theorem portCmd_emit {body : State → State} {o : Output} (hi : s.idle = false) (hiso : s.pins.iso = false)
    (hb : body { s with out := [] } = ({ s with out := [] } : State).emit o) :
    ∃ t, portCmd body s = .next t ∧ t.out = [o] ∧ t.core = s.core ∧ t.aon = s.aon := by
  have hwire : wire (body { s with out := [] }) = ({ s with out := [] } : State).emit o := by
    rw [hb]
    exact wire_id _ hi hiso
  exact ⟨_, portCmd_on body s hi, by rw [hwire]; rfl, by rw [hwire]; rfl, by rw [hwire]; rfl⟩

/-- A local atomic as it stands among the arrivals. -/
def laArrival (r : LocalAtomic) : Arrival :=
  ⟨⟨0, []⟩, 10, 0, .turn, false, none, 0, r.addr.toNat, atypeBytes r.atype.toNat, r.addr.toNat, r.key.toNat, false, 0,
    0, 0, 0, 0,
    some r, 0, 0, none, none⟩

/-- A local atomic joins the arrivals. -/
def State.arriveLocal (s : State) (r : LocalAtomic) : State :=
  ({ s with core.nextId := s.core.nextId + 1 } : State).setArr s.core.nextId (laArrival r)

/-- A local atomic is refused by its operation, then by its alignment, or takes its turn. -/
theorem laAtomic_eq (hf : s.fatal = false) :
    laAtomic r s = if atomicDefined r.aop.toNat r.atype.toNat = false then s.emit (.laRsp r.id.toNat 0 2 0)
      else if r.addr.toNat % atypeBytes r.atype.toNat ≠ 0 then s.emit (.laRsp r.id.toNat 0 3 0)
      else (s.arriveLocal r).atomicStep s.core.nextId := by
  simp only [laAtomic, hf, Bool.false_eq_true, if_false, Bool.not_eq_true]
  rfl

/-- An atomic whose granule no other arrival names goes first. -/
theorem State.atomicWaits_arriveLocal (h : ∀ x ∈ s.core.resp.arrivals, x.2.pa / 16 ≠ r.addr.toNat / 16) :
    (s.arriveLocal r).atomicWaits s.core.nextId (laArrival r) = false := by
  rw [State.atomicWaits, List.any_eq_false]
  intro x hx
  rcases SMap.mem_put _ _ _ x hx with rfl | hx
  · simp
  · have hpa : (x.2.pa / 16 == (laArrival r).pa / 16) = false := beq_eq_false_iff_ne.mpr (h x hx)
    have hla : (laArrival r).la.isNone = false := rfl
    simp [hpa, hla]

/-- A local atomic that goes first reads its granule. -/
theorem State.atomicStep_arriveLocal (h : ∀ x ∈ s.core.resp.arrivals, x.2.pa / 16 ≠ r.addr.toNat / 16) :
    (s.arriveLocal r).atomicStep s.core.nextId = (s.arriveLocal r).atomicRead s.core.nextId (laArrival r) := by
  have harr : (s.arriveLocal r).arr? s.core.nextId = some (laArrival r) := SMap.get?_put_self _ _ _
  have hphase : ¬ ((laArrival r).phase ≠ .turn ∨ (s.arriveLocal r).atomicWaits s.core.nextId (laArrival r) = true) := by
    simp only [State.atomicWaits_arriveLocal h, Bool.false_eq_true, or_false, ne_eq, not_not]
    rfl
  simp only [State.atomicStep, harr, if_neg hphase]
  exact if_pos rfl

/-- A local atomic that R446 does not refuse locks and reads its granule (R80). -/
theorem exec_laAtomic_reads (hi : s.idle = false) (hf : s.fatal = false)
    (hdef : atomicDefined r.aop.toNat r.atype.toNat = true)
    (hal : r.addr.toNat % atypeBytes r.atype.toNat = 0) (h : ∀ x ∈ s.core.resp.arrivals, x.2.pa / 16 ≠ r.addr.toNat / 16) :
    ∃ t, exec (.laAtomic r) s = .next t ∧ t.core = ((s.arriveLocal r).atomicRead s.core.nextId (laArrival r)).core ∧
      t.aon = s.aon := by
  have hbody := laAtomic_eq (s := { s with out := [] }) (r := r) hf
  rw [if_neg (by simp [hdef]), if_neg (by simp [hal]), State.atomicStep_arriveLocal (s := { s with out := [] }) h] at hbody
  obtain ⟨t, ht, hcore, haon, -⟩ := portCmd_next hi hbody (State.off_of_idle hi)
  exact ⟨t, ht, hcore, haon⟩

end

/-- Settles O34: an atomic of the local aperture that is not defined, one that is not aligned, and one that reads its granule. -/
theorem localAtomics : Obligations.LocalAtomics := by
  intro s r hi hf
  have hbody := laAtomic_eq (s := { s with out := [] }) (r := r) hf
  refine ⟨fun hiso hdef => ?_, fun hiso hdef hal => ?_, fun hdef hal hfree => ?_⟩
  · exact portCmd_emit (body := laAtomic r) hi hiso (hbody.trans (if_pos hdef))
  · exact portCmd_emit (body := laAtomic r) hi hiso (hbody.trans ((if_neg (by simp [hdef])).trans (if_pos hal)))
  · obtain ⟨t, ht, hcore, haon⟩ := exec_laAtomic_reads hi hf hdef hal hfree
    refine ⟨t, { (laArrival r) with phase := .granule }, _, ht, ?_, rfl, rfl,
      (congrArg (fun c => SMap.get? c.jobs _) hcore).trans (SMap.get?_put_self _ _ _), rfl, rfl, rfl, rfl, ?_, ?_, ?_,
      ?_, haon⟩
    · rw [State.arr?, hcore]
      exact SMap.get?_put_self _ _ _
    · rw [hcore]
      exact SMap.get?_put_self _ _ _
    · rw [hcore]
      rfl
    · rw [hcore]
      rfl
    · rw [hcore]
      rfl

end Sys2Proof.Machine

namespace Sys2Proof.Machine

/-! ## Queue engines (R35) -/

section
variable {s t u : State} {q : Nat} {h : Head}

/-- Engines take queues by what the core domain and its registers hold: the outputs play no part. -/
theorem State.fillEngines_out (s : State) (o : List Output) (run : List Nat) (n : Nat) :
    State.fillEngines run n { s with out := o } = { State.fillEngines run n s with out := o } := by
  induction n generalizing s with
  | zero => rfl
  | succ n ih =>
    have hturn : ({ s with out := o } : State).nextTurn (run.filter (fun q => !s.core.rq.engines.contains q)) =
        s.nextTurn (run.filter (fun q => !s.core.rq.engines.contains q)) := rfl
    simp only [State.fillEngines, hturn]
    split
    · rfl
    · split
      · rfl
      · exact ih (s.takeTurn _)

theorem State.engines_out (s : State) (o : List Output) :
    ({ s with out := o } : State).engines = { s.engines with out := o } :=
  State.fillEngines_out
    { s with core.rq.engines := s.core.rq.engines.filter (s.liveQueues.filter s.runnable).contains } o _ 16

/-- Engines that take queues change the engines and the turns. -/
theorem State.fillEngines_frame (s : State) (run : List Nat) (n : Nat) : ∃ e k ks,
    State.fillEngines run n s = { s with core.rq.engines := e, core.rq.turn := k, core.rq.turns := ks } := by
  induction n generalizing s with
  | zero => exact ⟨_, _, _, rfl⟩
  | succ n ih =>
    simp only [State.fillEngines]
    split
    · exact ⟨_, _, _, rfl⟩
    · split
      · exact ⟨_, _, _, rfl⟩
      · obtain ⟨e, k, ks, he⟩ := ih (s.takeTurn _)
        exact ⟨e, k, ks, he⟩

theorem State.served_frame (s : State) (q : Nat) : ∃ e k ks,
    s.served q = { s with core.rq.engines := e, core.rq.turn := k, core.rq.turns := ks } := by
  obtain ⟨e, k, ks, he⟩ :=
    State.fillEngines_frame { s with core.rq.engines := s.core.rq.engines.filter (s.liveQueues.filter s.runnable).contains }
    (s.liveQueues.filter s.runnable) 16
  exact ⟨e.filter (· != q), k, ks, by rw [State.served, State.engines, he]⟩

/-! ## The head of a queue (R35, R43, R50) -/

theorem State.ready_out (s : State) (o : List Output) (q op : Nat) (extra : BitVec 1024 → List Nat) :
    ({ s with out := o } : State).ready q op extra = s.ready q op extra := by
  have hserves : ({ s with out := o } : State).serves q = s.serves q := by
    rw [State.serves, State.engines_out, State.serves]
  simp only [State.ready, hserves]
  rfl

/-- A descriptor that may issue is at the head of its queue and of the opcode. -/
theorem State.ready_ok {op : Nat} {extra : BitVec 1024 → List Nat} (hr : s.ready q op extra = .ok h) :
    (s.qs q).head = some h ∧ dOpcode h.desc = op := by
  unfold State.ready at hr
  split at hr
  · simp at hr
  · split at hr
    · simp at hr
    · split at hr
      · simp at hr
      · split at hr
        · rename_i hc _ _ _
          obtain rfl := Ready.ok.inj hr
          simp only [not_or, not_not] at hc
          exact ⟨‹_›, hc.2.2.1⟩
        · simp at hr

/-! ## Leaving the ring (R41, R43, R44) -/

/-- The operation that a queue's descriptor becomes. -/
def State.headOp (s : State) (q : Nat) (h : Head) : Op :=
  ⟨q, s.qFunc q, h.desc, h.index, slotsNeeded h.desc, startCursor h.desc, 0, 0, false, false, none, none, 0, false, 0,
    false, 0, 0,
    none, [], false, false, 0, none⟩

/-- `t` is `s` after the descriptor at the head of a queue has left the ring and become an operation, which has entered `rs` in the
queue's range tracker. -/
structure State.Issued (s t : State) (q : Nat) (h : Head) (rs : List Range) : Prop where
  build : t.build = s.build
  aon : t.aon = s.aon
  core : t.core = { s.core with
    regs := t.core.regs, nextId := s.core.nextId + 1, work := s.core.work ++ [.fetch q], trace := t.core.trace,
    cnt := t.core.cnt,
    rq := { s.core.rq with
      ops := SMap.put s.core.rq.ops s.core.nextId (s.headOp q h), queues := t.core.rq.queues, engines := t.core.rq.engines,
      turn := t.core.rq.turn, turns := t.core.rq.turns } }
  qs : t.qs q = { s.qs q with head := none, ranges := (s.qs q).ranges ++ rs.map (fun r => { r with op := s.core.nextId }) }
  count : t.rd (R.QUEUE_SQ_HEAD_COUNT q) = (s.rd (R.QUEUE_SQ_HEAD_COUNT q) + h.slots) % 2 ^ 32
  rd : s.SameBut t (R.QUEUE_SQ_HEAD_COUNT q :: traceFields)

theorem traceFields_addr : ∀ g ∈ traceFields, 0x160000 ≤ g.addr ∧ g.addr < 0x200000 := by
  simp [traceFields, R.TRACE_LOST_COUNT, R.TRACE_STATUS_LOSS_PEND, R.TRACE_STATUS_FIFO_PEAK]

/-- Tracing leaves what lies outside the trace unit's registers. -/
theorem State.Traced.rd_outside (g : t.Traced u) {f : Fld} (hf : f.addr < 0x160000 ∨ 0x200000 ≤ f.addr) : u.rd f = t.rd f :=
  g.rd f fun x hx => by
    have := traceFields_addr x hx
    exact .inr (.inl (by omega))

@[simp] theorem State.qs_post (s : State) (w : Work) (q : Nat) : (s.post w).qs q = s.qs q := rfl

theorem State.Issued.traced {rs : List Range} (i : s.Issued t q h rs) (g : t.Traced u) : s.Issued u q h rs where
  build := g.build.trans i.build
  aon := g.aon.trans i.aon
  core := g.core.trans (by rw [show u.core.rq = t.core.rq from congrArg (·.rq) g.core, i.core])
  qs := (State.qs_congr (congrArg (·.rq.queues) g.core) q).trans i.qs
  count := (g.rd_outside (.inr (by simp only [R.QUEUE_SQ_HEAD_COUNT]; omega))).trans i.count
  rd := fun f hf => (g.rd f fun x hx => hf x (List.mem_cons_of_mem _ hx)).trans (i.rd f hf)

/-- The state with the operation that a queue's descriptor becomes. -/
def State.enterOp (s : State) (q : Nat) (h : Head) : State :=
  { s with core.nextId := s.core.nextId + 1, core.rq.ops := SMap.put s.core.rq.ops s.core.nextId (s.headOp q h) }

/-- SQ_HEAD past the slots of the descriptor that leaves the ring. -/
def State.passHead (s : State) (q : Nat) (h : Head) : State :=
  ((s.enterOp q h).served q).wr (R.QUEUE_SQ_HEAD_COUNT q) (s.rd (R.QUEUE_SQ_HEAD_COUNT q) + h.slots)

theorem State.passHead_spec (s : State) (q : Nat) (h : Head) :
    (s.passHead q h).rd (R.QUEUE_SQ_HEAD_COUNT q) = (s.rd (R.QUEUE_SQ_HEAD_COUNT q) + h.slots) % 2 ^ 32 ∧
      ((s.enterOp q h).served q).Wrote (s.passHead q h) [R.QUEUE_SQ_HEAD_COUNT q] :=
  ⟨State.rd_wr_self _ _ _ (Nat.le_of_ble_eq_true rfl), (State.Wrote.refl _ _).wr _ _ (by simp) rfl⟩

/-- The queue's engine is free, SQ_HEAD has passed the descriptor, and the queue has no head. -/
theorem State.Issued.of_wrote {v : State} {e : List Nat} {k : Nat} {ks : SMap Nat}
    (hw : ({ s.enterOp q h with core.rq.engines := e, core.rq.turn := k, core.rq.turns := ks } : State).Wrote v
      [R.QUEUE_SQ_HEAD_COUNT q])
    (hcount : v.rd (R.QUEUE_SQ_HEAD_COUNT q) = (s.rd (R.QUEUE_SQ_HEAD_COUNT q) + h.slots) % 2 ^ 32) :
    s.Issued ((v.modQs q (fun x => { x with head := none })).post (.fetch q)) q h [] where
  build := hw.build
  aon := hw.aon
  core := by
    have hcore : ((v.modQs q (fun x => { x with head := none })).post (.fetch q)).core =
      { v.core with
        work := v.core.work ++ [.fetch q],
        rq.queues := (v.modQs q (fun x => { x with head := none })).core.rq.queues } := rfl
    rw [hcore, hw.core]
    rfl
  qs := by
    have hqs : v.qs q = s.qs q := State.qs_congr (congrArg (·.rq.queues) hw.core) q
    rw [State.qs_post, State.qs_modQs, hqs, List.map_nil, List.append_nil]
  count := hcount
  rd := fun f hf => hw.rd f fun g hg => hf g (by simp only [List.mem_singleton] at hg; simp [hg])

/-- A descriptor leaves the ring without ranges. -/
theorem State.takeHead_issued (s : State) (q : Nat) (h : Head) : s.Issued (s.takeHead q h).2 q h [] := by
  obtain ⟨hcount, hw⟩ := s.passHead_spec q h
  obtain ⟨e, k, ks, hserved⟩ := (s.enterOp q h).served_frame q
  rw [hserved] at hw
  exact .of_wrote hw hcount

/-- The operation enters its ranges in the tracker (R44). -/
theorem State.Issued.enter (i : s.Issued t q h []) (rs : List Range) :
    s.Issued (t.modQs q (fun x => { x with ranges := x.ranges ++ rs.map (fun r => { r with op := s.core.nextId }) })) q h rs where
  build := i.build
  aon := i.aon
  core := by
    have hcore : ∀ f, (t.modQs q f).core = { t.core with rq.queues := (t.modQs q f).core.rq.queues } := fun _ => rfl
    rw [hcore, i.core]
  qs := by
    rw [State.qs_modQs, i.qs, List.map_nil, List.append_nil]
  count := i.count
  rd := i.rd

/-- A descriptor issues: it leaves the ring and enters its ranges (R43, R44). -/
theorem State.issue_issued (s : State) (q : Nat) (h : Head) (rs : List Range) :
    (s.issue q h rs).1 = s.core.nextId ∧ s.Issued (s.issue q h rs).2 q h rs := by
  have hid : (s.takeHead q h).1 = s.core.nextId := rfl
  have i := (s.takeHead_issued q h).enter rs
  rw [State.issue]
  generalize s.takeHead q h = p at hid i
  obtain ⟨id, v⟩ := p
  obtain rfl : id = s.core.nextId := hid
  dsimp only at i ⊢
  exact ⟨rfl, i.traced (((State.Traced.refl _).count _ _).traceEv _ _ _ _ _ _ _ _ _ _ _ _ _ _)⟩

end

end Sys2Proof.Machine

namespace Sys2Proof.Machine

/-! ## Descriptors that have left the ring -/

section
variable {s t u : State} {q : Nat} {h : Head} {rs : List Range}

/-- `t` is `s` after a descriptor has left its queue's ring, in all that no opcode's own effect touches. -/
structure State.Left (s t : State) (q : Nat) (h : Head) : Prop where
  build : t.build = s.build
  aon : t.aon = s.aon
  core : t.core = { s.core with
    regs := t.core.regs, nextId := s.core.nextId + 1, work := t.core.work, trace := t.core.trace,
    cnt := t.core.cnt, col := t.core.col,
    rq := { s.core.rq with
      ops := t.core.rq.ops, queues := t.core.rq.queues, engines := t.core.rq.engines, turn := t.core.rq.turn,
      turns := t.core.rq.turns } }
  head : (t.qs q).head = none
  count : t.rd (R.QUEUE_SQ_HEAD_COUNT q) = (s.rd (R.QUEUE_SQ_HEAD_COUNT q) + h.slots) % 2 ^ 32

theorem State.Issued.left (i : s.Issued t q h rs) : s.Left t q h where
  build := i.build
  aon := i.aon
  core := by rw [i.core]
  head := by rw [i.qs]
  count := i.count

/-- What an opcode's own effect changes: operations, queues, work, counts and groups. -/
theorem State.Left.step (l : s.Left t q h) (hb : u.build = t.build) (ha : u.aon = t.aon)
    (hc : u.core = { t.core with
      work := u.core.work, cnt := u.core.cnt, col := u.core.col,
      rq := { t.core.rq with ops := u.core.rq.ops, queues := u.core.rq.queues } })
    (hq : (u.qs q).head = none) : s.Left u q h where
  build := hb.trans l.build
  aon := ha.trans l.aon
  core := by
    rw [hc, l.core]
  head := hq
  count := (State.rd_congr t u _ hb (congrArg (·.regs) ha) (congrArg (·.regs) hc)).trans l.count

theorem State.Left.post (l : s.Left t q h) (w : Work) : s.Left (t.post w) q h := l.step rfl rfl rfl l.head

theorem State.Left.setOp (l : s.Left t q h) (id : Nat) (o : Op) : s.Left (t.setOp id o) q h := l.step rfl rfl rfl l.head

/-- A core-domain command whose body takes a descriptor from its ring. -/
theorem State.Left.answer {body : State → State} (hoff : s.off = false) (hb : body { s with out := [] } = u)
    (l : ({ s with out := [] } : State).Left u q h) : ∃ t, coreCmd body s = .next t ∧ s.Left t q h ∧ t.core = u.core := by
  have huoff : u.off = false := (State.off_eq_of l.build l.aon).trans hoff
  subst hb
  have hcore := wire_core _ huoff
  have haon : (wire (body { s with out := [] })).aon = s.aon := (wire_aon _).trans l.aon
  refine ⟨_, coreCmd_on body s hoff, ⟨(wire_build _).trans l.build, haon, ?_, ?_, (wire_rd _ huoff _).trans l.count⟩, hcore⟩
  · rw [hcore]
    exact l.core
  · rw [State.qs_congr (congrArg (·.rq.queues) hcore)]
    exact l.head

/-! ## Records of operations that end (R70) -/

/-- The record of an operation that ends. -/
def Op.record (o : Op) (id status detail result stamp : Nat) : Record :=
  let ext := if status = 0 then o.ext else none
  ⟨some id, if ext.isSome then 2 else 1, true, status, dOpcode o.desc, ext, false, o.retried, o.ieee, o.slip != 0,
    o.index, detail,
    dUserTag o.desc, result, stamp⟩

/-- `t` is `s` with a record to be written for a queue's operation. -/
structure State.Recorded (s t : State) (q : Nat) (r : Record) : Prop where
  build : t.build = s.build
  aon : t.aon = s.aon
  core : t.core = { s.core with
    work := t.core.work, cnt := t.core.cnt, rq := { s.core.rq with ops := t.core.rq.ops, queues := t.core.rq.queues } }
  qs : t.qs q = { s.qs q with records := (s.qs q).records ++ [r], reserved := (t.qs q).reserved }

theorem State.Recorded.put (s : State) (id : Nat) (o : Op) (q : Nat) (r : Record) (n : QState → Nat) (w : Work) :
    s.Recorded (((s.setOp id o).modQs q
      (fun x => { x with records := x.records ++ [r], reserved := n x })).post w) q r where
  build := rfl
  aon := rfl
  core := rfl
  qs := by
    rw [State.qs_post, State.qs_modQs]
    rfl

/-- A count before the record changes nothing but the count. -/
theorem State.Recorded.after_count {slot event : Nat} {r : Record} (g : (s.count slot event).Recorded t q r) :
    s.Recorded t q r :=
  ⟨g.build, g.aon, g.core, g.qs⟩

/-- An operation that fails, or asks for its record, ends with a record. -/
theorem State.endOp_recorded {id status detail result stamp : Nat} {o : Op} (ho : s.op? id = some o) (hd : o.done = none)
    (hr : status = 0 → dCqe o.desc = true) :
    s.Recorded (s.endOp id status detail result stamp) o.queue (o.record id status detail result stamp) := by
  have hgo : ¬ (status = 0 ∧ ¬ dCqe o.desc = true) := fun hc => hc.2 (hr hc.1)
  simp only [State.endOp, ho, hd, Option.isSome_none, Bool.false_eq_true, if_false, hgo]
  by_cases hf : status = 0x0E
  · rw [if_pos hf]
    exact .after_count (.put _ _ _ _ _ _ _)
  · rw [if_neg hf]
    exact .put _ _ _ _ _ _ _

/-! ## Descriptors that complete as they leave the ring (R50, R51, R299) -/

/-- `t` is `s` after a descriptor has left its queue's ring and completed, with its record to be written. -/
structure State.Completed (s t : State) (q : Nat) (h : Head) (r : Record) : Prop extends s.Left t q h where
  col : t.core.col = s.core.col
  records : (t.qs q).records = (s.qs q).records ++ [r]

/-- The operation of a descriptor that has just left its ring. -/
theorem State.Issued.op? (i : s.Issued t q h rs) : t.op? s.core.nextId = some (s.headOp q h) :=
  State.op?_of_put (congrArg (·.rq.ops) i.core)

/-- An operation that ends as it leaves the ring. -/
theorem State.Issued.endOp (i : s.Issued t q h rs) {status detail result stamp : Nat}
    (hr : status = 0 → dCqe h.desc = true) :
    s.Completed (t.endOp s.core.nextId status detail result stamp) q h
      ((s.headOp q h).record s.core.nextId status detail result stamp) := by
  have g : t.Recorded (t.endOp s.core.nextId status detail result stamp) q
      ((s.headOp q h).record s.core.nextId status detail result stamp) := State.endOp_recorded i.op? rfl hr
  have hcol : (t.endOp s.core.nextId status detail result stamp).core.col = t.core.col := congrArg (·.col) g.core
  have l : s.Left (t.endOp s.core.nextId status detail result stamp) q h :=
    i.left.step g.build g.aon (by rw [hcol]; exact g.core) (by rw [g.qs, i.qs])
  exact { l with
    col := hcol.trans (congrArg (·.col) i.core)
    records := by rw [g.qs, i.qs] }

/-- A descriptor that completes at the head without being issued. -/
theorem State.completeHead_completed (s : State) (q : Nat) (h : Head) {status detail : Nat} (hst : status ≠ 0) :
    s.Completed (s.completeHead q h status detail) q h ((s.headOp q h).record s.core.nextId status detail 0 0) :=
  (s.takeHead_issued q h).endOp fun h0 => absurd h0 hst

/-- A core-domain command whose body completes a descriptor. -/
theorem State.Completed.exec {c : Instr} {body : State → State} {r : Record} (hoff : s.off = false)
    (hexec : exec c s = coreCmd body s)
    (hb : body { s with out := [] } = u) (g : ({ s with out := [] } : State).Completed u q h r) :
    ∃ t, Machine.exec c s = .next t ∧ s.Completed t q h r := by
  obtain ⟨t, ht, l, hcore⟩ := g.toLeft.answer hoff hb
  refine ⟨t, hexec.trans ht, { l with
    col := (congrArg (·.col) hcore).trans g.col
    records := ?_ }⟩
  rw [State.qs_congr (congrArg (·.rq.queues) hcore)]
  exact g.records

end

end Sys2Proof.Machine

namespace Sys2Proof.Machine

/-! ## Issue (R43) -/

section
variable {s t u v : State} {q op : Nat} {h : Head} {rs : List Range} {extra : BitVec 1024 → List Nat}
  {ranges : BitVec 1024 → List Range}
  {go : State → Nat → Head → State}

/-- A descriptor that fails R50 completes at the head. -/
theorem State.issueWith_fails {c : Nat} (hr : s.ready q op extra = .fails h c) :
    s.issueWith q op extra ranges go = s.completeHead q h 0x05 (det 0 c) := by
  simp only [State.issueWith, hr]

/-- A descriptor that nothing holds issues, and its opcode's own effect follows. -/
theorem State.issueWith_ok (hr : s.ready q op extra = .ok h) (hh : s.held q h (ranges h.desc) = false) :
    ∃ v, s.Issued v q h (ranges h.desc) ∧ s.issueWith q op extra ranges go = go v s.core.nextId h := by
  obtain ⟨hid, i⟩ := s.issue_issued q h (ranges h.desc)
  refine ⟨_, i, ?_⟩
  rw [← hid]
  simp only [State.issueWith, hr, hh, Bool.false_eq_true, if_false]

/-- With no descriptor of the opcode ready, or with one that is held, a command changes nothing. -/
theorem State.issueWith_still
    (hr : s.ready q op extra = .no ∨ s.ready q op extra = .ok h ∧ s.held q h (ranges h.desc) = true) :
    s.issueWith q op extra ranges go = s := by
  rcases hr with hr | ⟨hr, hh⟩
  · simp only [State.issueWith, hr]
  · simp only [State.issueWith, hr, hh, if_true]

/-- The head of a queue that passes R50 is ready, or nothing is. -/
theorem State.ready_of_r50 (hh : (s.qs q).head = some h)
    (hr : s.r50 (s.rd (R.QUEUE_CTL_KIND q)) (s.qFunc q) h.desc (extra h.desc) = none) :
    s.ready q op extra = .no ∨ s.ready q op extra = .ok h := by
  simp only [State.ready, hh, hr]
  split
  · exact .inl rfl
  · split
    · exact .inr rfl
    · exact .inl rfl

/-! ## Operations of a queue -/

theorem SMap.mem_put_of_ne {α : Type} {m : SMap α} {k : Nat} {x : Nat × α} (v : α) (hx : x ∈ m) (hk : x.1 ≠ k) :
    x ∈ SMap.put m k v := by
  induction m with
  | nil => simp at hx
  | cons y m ih =>
    obtain ⟨j, w⟩ := y
    simp only [SMap.put]
    split
    · exact List.mem_cons_of_mem _ hx
    · rcases List.mem_cons.mp hx with rfl | hx
      · rw [if_neg (Ne.symm hk)]
        exact List.mem_cons_self
      · split
        · exact List.mem_cons_of_mem _ hx
        · exact List.mem_cons_of_mem _ (ih hx)

/-- A descriptor that is no write adds none to its queue's unfinished writes (R96). -/
theorem State.Issued.writesOf (i : s.Issued t q h rs) (hw : isWriteOp (dOpcode h.desc) = false) :
    (∀ x ∈ s.writesOf q, x.1 ≠ s.core.nextId → x ∈ t.writesOf q) ∧ ∀ x ∈ t.writesOf q, x ∈ s.writesOf q := by
  have hops : t.core.rq.ops = SMap.put s.core.rq.ops s.core.nextId (s.headOp q h) := congrArg (·.rq.ops) i.core
  simp only [State.writesOf, hops, List.mem_filter, and_imp]
  refine ⟨fun x hx hq hne => ⟨SMap.mem_put_of_ne _ hx hne, hq⟩, fun x hx hq => ⟨?_, hq⟩⟩
  rcases SMap.mem_put _ _ _ x hx with rfl | hx
  · simp [State.headOp, hw] at hq
  · exact hx

/-! ## NOP, FENCE, WAIT (R46, R51, R67, R96) -/

/-- The queue waits for the operation that its descriptor became (R43). -/
def State.holdFor (s : State) (q id : Nat) : State := s.modQs q (fun x => { x with hold := some id })

theorem State.Issued.holdFor (i : s.Issued t q h rs) :
    s.Left (t.holdFor q s.core.nextId) q h ∧ (t.holdFor q s.core.nextId).op? s.core.nextId = some (s.headOp q h) ∧
      ((t.holdFor q s.core.nextId).qs q).hold = some s.core.nextId := by
  refine ⟨i.left.step rfl rfl rfl ?_, i.op?, ?_⟩
  · rw [State.holdFor, State.qs_modQs, i.qs]
  · rw [State.holdFor, State.qs_modQs]

/-- A FENCE notes its queue's unfinished writes. -/
theorem issueFence_ok {q : QueueId} (hr : s.ready q.val 0x06 (fun _ => []) = .ok h) (hh : s.held q.val h [] = false) :
    ∃ v, s.Issued v q.val h [] ∧ issueFence q s = ((v.holdFor q.val s.core.nextId).setOp s.core.nextId
      { s.headOp q.val h with waitsFor := (v.writesOf q.val).map (·.1) }).post (.settle s.core.nextId) := by
  obtain ⟨v, i, hv⟩ := State.issueWith_ok (ranges := fun _ => []) hr hh
  obtain ⟨-, hop, -⟩ := i.holdFor
  refine ⟨v, i, hv.trans ?_⟩
  simp only [State.holdFor] at hop ⊢
  simp only [hop]

/-- A WAIT is looked at once its queue waits for it. -/
theorem issueWait_ok {q : QueueId} (hr : s.ready q.val 0x08 (fun _ => []) = .ok h) (hh : s.held q.val h [] = false) :
    ∃ v, s.Issued v q.val h [] ∧ issueWait q s = (v.holdFor q.val s.core.nextId).post .waits :=
  State.issueWith_ok (ranges := fun _ => []) hr hh

/-- A NOP that nothing holds ends at issue. -/
theorem issueNop_ok {q : QueueId} (hr : s.ready q.val 0x3F (fun _ => []) = .ok h) (hh : s.held q.val h [] = false) :
    ∃ v, s.Issued v q.val h [] ∧ issueNop q s = v.endOp s.core.nextId 0 0 0 0 :=
  State.issueWith_ok (ranges := fun _ => []) hr hh

/-- What a WAIT compares with its threshold (R67). -/
def State.waitValue (s : State) (o : Op) : Nat := ((s.counterOf o.func (dWaitCounter o.desc)).map s.sig).getD 0

/-- A WAIT whose time is over with its condition false ends with TIMEOUT and stops its queue (R67). -/
theorem waitTimeout_elapsed {q : QueueId} {id : Nat} {o : Op} (hold : (s.qs q.val).hold = some id) (ho : s.op? id = some o)
    (hop : dOpcode o.desc = 0x08) (hd : o.done = none) (hto : dTimeout o.desc ≠ 0)
    (hok : waitOk (s.waitValue o) (dThreshold o.desc) = false) :
    waitTimeout q s = (s.endOp id 0x02 (det 0 0x00B) (s.waitValue o) 0).stopQueue q.val (R.QUEUE_STATUS_WAIT_TO q.val) := by
  simp only [State.waitValue] at hok ⊢
  cases hc : s.counterOf o.func (dWaitCounter o.desc) <;>
    simp only [hc, Option.map_none, Option.map_some, Option.getD_none, Option.getD_some] at hok ⊢ <;>
    simp [waitTimeout, hold, ho, hop, hd, hto, hc, hok]

theorem exec_waitTimeout {q : QueueId} {id : Nat} {o : Op} (hoff : s.off = false) (hst : s.qState q.val = 1)
    (hold : (s.qs q.val).hold = some id) (ho : s.op? id = some o) (hop : dOpcode o.desc = 0x08) (hd : o.done = none)
    (hq : o.queue = q.val)
    (hto : dTimeout o.desc ≠ 0) (hok : waitOk (s.waitValue o) (dThreshold o.desc) = false) :
    ∃ t r, exec (.waitTimeout q) s = .next t ∧ t.qState q.val = 2 ∧ t.rd (R.QUEUE_STATUS_WAIT_TO q.val) = 1 ∧
      (t.qs q.val).records = (s.qs q.val).records ++ [r] ∧ r.status = 0x02 ∧ r.detail = 0x00B ∧
        r.result = s.waitValue o := by
  have hbody := waitTimeout_elapsed (s := { s with out := [] }) hold ho hop hd hto hok
  have g := State.endOp_recorded (s := { s with out := [] }) (status := 0x02) (detail := det 0 0x00B)
    (result := s.waitValue o) (stamp := 0)
    ho hd (fun h0 => absurd h0 (by decide))
  rw [hq] at g
  have hstate : (({ s with out := [] } : State).endOp id 0x02 (det 0 0x00B) (s.waitValue o) 0).qState q.val = 1 :=
    (State.rd_congr _ _ _ g.build (congrArg (·.regs) g.aon) (congrArg (·.regs) g.core)).trans hst
  obtain ⟨hone, htwo, hw⟩ := State.stopQueue_spec (c := R.QUEUE_STATUS_WAIT_TO q.val) (by simp [stopCauses]) (.inl hstate)
  obtain ⟨t, ht, hcore, -, hrd⟩ := coreCmd_next (waitTimeout q) s _ hoff hbody
    (hw.off.trans ((State.off_eq_of g.build g.aon).trans hoff))
  refine ⟨t, o.record id 0x02 (det 0 0x00B) (s.waitValue o) 0, ht, (hrd _).trans htwo, (hrd _).trans hone, ?_, rfl,
    rfl, rfl⟩
  have hqs := (State.qs_congr (congrArg (·.rq.queues) (hcore.trans hw.core)) q.val).trans g.qs
  rw [hqs]
  rfl

/-- NOT_BEFORE_RELEASE frees a descriptor whose slot has come (R46). -/
theorem notBeforeRelease_reached {q : QueueId} (hh : (s.qs q.val).head = some h) (hn : dNb h.desc = true)
    (hr : s.nbReached (dNotBefore h.desc) = true) :
    notBeforeRelease q s = s.setQs q.val { s.qs q.val with head := some { h with nbOk := true } } := by
  simp only [notBeforeRelease, State.modQs, hh, hn, hr, Bool.and_self, if_true]

end

/-- Settles O16: NOP, FENCE and WAIT issue; a held NOP, a released not-before, and a WAIT whose time is over. -/
theorem nopFenceWait : Obligations.NopFenceWait := by
  constructor
  · intro s q h hoff
    refine ⟨fun hr hh hcqe => ?_, fun hr hh => ?_, fun hr hh => ?_⟩
    · have hr' := (State.ready_out s [] q.val 0x3F (fun _ => [])).trans hr
      obtain ⟨v, i, hbody⟩ := issueNop_ok (s := { s with out := [] }) hr' hh
      obtain ⟨t, ht, c⟩ := State.Completed.exec (c := .nop q) hoff rfl hbody (i.endOp fun _ => hcqe)
      exact ⟨t, _, ht, c.count, c.head, c.records, rfl, rfl, (State.ready_ok hr).2, rfl, rfl⟩
    · have hr' := (State.ready_out s [] q.val 0x06 (fun _ => [])).trans hr
      obtain ⟨v, i, hbody⟩ := issueFence_ok (s := { s with out := [] }) hr' hh
      obtain ⟨hkeep, hsub⟩ := i.writesOf (by rw [(State.ready_ok hr).2]; rfl)
      obtain ⟨l, -, hhold⟩ := i.holdFor
      obtain ⟨t, ht, l, hcore⟩ := ((l.setOp _ _).post _).answer (body := issueFence q) hoff hbody
      refine ⟨t, _, ht, l.count, l.head, ?_, State.op?_of_put (congrArg (·.rq.ops) hcore), rfl, fun x hx hne => ?_,
        fun i hi => ?_,
        congrArg (·.resp) l.core, congrArg (·.win) l.core, l.aon⟩
      · rw [State.qs_congr (congrArg (·.rq.queues) hcore)]
        exact hhold
      · exact List.mem_map_of_mem (hkeep x hx hne)
      · obtain ⟨x, hx, rfl⟩ := List.mem_map.mp hi
        exact ⟨x, hsub x hx, rfl⟩
    · have hr' := (State.ready_out s [] q.val 0x08 (fun _ => [])).trans hr
      obtain ⟨v, i, hbody⟩ := issueWait_ok (s := { s with out := [] }) hr' hh
      obtain ⟨l, hop, hhold⟩ := i.holdFor
      obtain ⟨t, ht, l, hcore⟩ := (l.post _).answer (body := issueWait q) hoff hbody
      refine ⟨t, _, ht, l.count, l.head, ?_, (State.op?_congr (congrArg (·.rq.ops) hcore) _).trans hop, rfl,
        by rw [hcore]; simp,
        congrArg (·.resp) l.core, congrArg (·.win) l.core, l.aon⟩
      rw [State.qs_congr (congrArg (·.rq.queues) hcore)]
      exact hhold
  · intro s q h hoff
    refine ⟨fun hh _ hr50 hheld => ?_, fun hh hnb hnow => ?_, fun id o hst hold ho hop hd hq hto hc hok => ?_,
      fun id o i hst hold ho hop hd hq hto hc hok => ?_⟩
    · have hr := State.ready_of_r50 (s := { s with out := [] }) (op := 0x3F) (extra := fun _ => []) hh hr50
      exact coreCmd_still (body := issueNop q) hoff (State.issueWith_still (hr.imp_right fun hr => ⟨hr, hheld⟩))
    · have hbody := notBeforeRelease_reached (s := { s with out := [] }) hh hnb hnow
      obtain ⟨t, ht, hcore, haon, -⟩ := coreCmd_next (notBeforeRelease q) s _ hoff hbody hoff
      refine ⟨t, ht, ?_, haon, by rw [hcore]; rfl, by rw [hcore]; rfl⟩
      rw [State.qs_congr (congrArg (·.rq.queues) hcore), State.qs_setQs]
    · have hv : s.waitValue o = 0 := by rw [State.waitValue, hc]; rfl
      obtain ⟨t, r, ht, hstate, hto, hrec, hstatus, hdet, -⟩ :=
        exec_waitTimeout hoff hst hold ho hop hd hq hto (by rw [hv]; exact hok)
      exact ⟨t, r, ht, hstate, hto, hrec, hstatus, hdet⟩
    · have hv : s.waitValue o = s.sig i := by rw [State.waitValue, hc]; rfl
      rw [← hv] at hok ⊢
      exact exec_waitTimeout hoff hst hold ho hop hd hq hto hok

end Sys2Proof.Machine

namespace Sys2Proof.Machine

/-! ## Route checks (R299, R300, R354) -/

section
variable {s t u v : State} {q op : Nat} {h : Head} {rs : List Range}

theorem State.SameRoutes.denied (g : s.SameRoutes t) (node : Nat) : t.denied node = s.denied node := by
  rw [Bool.eq_iff_iff]
  simp only [State.denied, List.any_eq_true, List.mem_range]
  refine exists_congr fun i => and_congr_right fun hi => ?_
  have hval : t.rd (R.ROUTE_DENY_VAL_NODE i) = s.rd (R.ROUTE_DENY_VAL_NODE i) :=
    g.rd _ (by simp only [R.ROUTE_DENY_VAL_NODE]; omega)
  have hvalid : t.rd (R.ROUTE_DENY_VAL_VALID i) = s.rd (R.ROUTE_DENY_VAL_VALID i) :=
    g.rd _ (by simp only [R.ROUTE_DENY_VAL_VALID]; omega)
  have hmask : t.rd (R.ROUTE_DENY_MASK_MASK i) = s.rd (R.ROUTE_DENY_MASK_MASK i) :=
    g.rd _ (by simp only [R.ROUTE_DENY_MASK_MASK]; omega)
  rw [State.on_eq, State.on_eq, hval, hvalid, hmask]

theorem State.SameRoutes.routeReason (g : s.SameRoutes t) : t.routeReason = s.routeReason := by
  funext node
  simp only [State.routeReason, g.selfValid, g.denied, g.rd R.ROUTE_EXTENT_EX (by decide),
    g.rd R.ROUTE_EXTENT_EY (by decide),
    g.rd R.ROUTE_EXTENT_EZ (by decide), g.rd R.ROUTE_EXTENT_DIES (by decide)]

/-- A descriptor that issues leaves the registers below the queues' but for the trace unit's. -/
theorem State.Issued.rd_below (i : s.Issued t q h rs) {f : Fld}
    (hf : f.addr < 0x160000 ∨ 0x200000 ≤ f.addr ∧ f.addr < 0x400000) :
    t.rd f = s.rd f :=
  i.rd f fun g hg => .inr (.inl (by
    rcases List.mem_cons.mp hg with rfl | hg
    · simp only [R.QUEUE_SQ_HEAD_COUNT]
      omega
    · have := traceFields_addr g hg
      omega))

theorem State.Issued.sameRoutes (i : s.Issued t q h rs) : s.SameRoutes t where
  active := congrArg (·.router.active) i.core
  flow := congrArg (·.router.flow) i.core
  rd := fun _ hf => i.rd_below (.inl hf)

/-- The route checks come out as before the issue. -/
theorem State.Issued.issueRoute (i : s.Issued t q h rs) {f : Nat} (hf : f < 64) (nodes : List Nat) :
    t.issueRoute f nodes = s.issueRoute f nodes := by
  have hbolts : t.core.bolts = s.core.bolts := congrArg (·.bolts) i.core
  have hstrict : t.on (R.FUNC_CTL_STRICT f) = s.on (R.FUNC_CTL_STRICT f) := by
    rw [State.on_eq, i.rd_below (.inr (by simp only [R.FUNC_CTL_STRICT]; omega)), State.on_eq]
  have hcut : t.strictCut f = s.strictCut f := by
    funext node
    simp only [State.strictCut, State.strictTo, State.tdmPair, State.circuits, hbolts, hstrict, i.sameRoutes.self]
  simp only [State.issueRoute, i.sameRoutes.routeReason, hcut]

/-! ## Descriptors that send requests (R43, R51, R299) -/

section
variable {nodes : BitVec 1024 → List Nat} {ranges : BitVec 1024 → List Range} {go : State → Nat → Op → State}

/-- A descriptor that fails R50 completes at the head. -/
theorem State.issueRemote_fails {c : Nat} (hr : s.ready q op (fun _ => []) = .fails h c) :
    s.issueRemote q op nodes ranges go = s.completeHead q h 0x05 (det 0 c) := by
  simp only [State.issueRemote, hr]

/-- A transfer of LENGTH 0 enters no ranges, waits for no request hold, and ends at once (R52). -/
theorem State.issueRemote_empty (hr : s.ready q op (fun _ => []) = .ok h) (hh : s.held q h [] = false)
    (hop : op ≤ 3 ∨ op = 5) (hlen : dLength h.desc = 0) :
    ∃ v, s.Issued v q h [] ∧ s.issueRemote q op nodes ranges go = v.endOp s.core.nextId 0 0 0 1 := by
  have he : ((decide (op ≤ 3) || op == 5) && dLength h.desc == 0) = true := by simpa [hlen] using hop
  obtain ⟨hid, i⟩ := s.issue_issued q h []
  refine ⟨_, i, ?_⟩
  rw [← hid]
  simp only [State.issueRemote, hr, he, hh, if_true, Bool.false_eq_true, not_true_eq_false, false_and, or_self, if_false]

/-- A descriptor that nothing holds issues: it ends with NO_ROUTE, or its opcode's own effect follows. -/
theorem State.issueRemote_ok {route : Option Nat} (hr : s.ready q op (fun _ => []) = .ok h)
    (hh : s.held q h (ranges h.desc) = false)
    (hhold : s.on R.GLOBAL_START_STATUS_HOLDING = false) (hsize : op = 4 ∨ dLength h.desc ≠ 0)
    (hroute : s.issueRoute (s.qFunc q) (nodes h.desc) = route) :
    ∃ v, s.Issued v q h (ranges h.desc) ∧ s.issueRemote q op nodes ranges go =
      route.elim (go v s.core.nextId (s.headOp q h)) fun r => v.endOp s.core.nextId 0x11 (det 2 r) 0 0 := by
  have he : ((decide (op ≤ 3) || op == 5) && dLength h.desc == 0) = false := by
    rcases hsize with rfl | hlen
    · rfl
    · simp [hlen]
  obtain ⟨hid, i⟩ := s.issue_issued q h (ranges h.desc)
  refine ⟨_, i, ?_⟩
  have hroute := (i.issueRoute (f := s.qFunc q) (s.rd_lt _) (nodes h.desc)).trans hroute
  have hop := i.op?
  rw [← hid] at hop ⊢
  cases route <;>
    simp only [State.issueRemote, hr, he, hh, hhold, Bool.false_eq_true, if_false, and_false, or_self, hroute, hop,
      Option.elim_none,
      Option.elim_some]

end

end

/-! ## Transfers as commands -/

/-- The commands that issue transfers: opcode, the nodes that are checked, and the ranges. -/
def transferCmds (q : QueueId) : List (Instr × Nat × (BitVec 1024 → List Nat) × (BitVec 1024 → List Range)) :=
  [(.put q, 0x01, fun d => [ptrNode (dDstPtr d)], putRanges), (.get q, 0x02, fun d => [ptrNode (dSrcPtr d)], getRanges),
    (.copy q, 0x03, fun d => [ptrNode (dSrcPtr d), ptrNode (dDstPtr d)], copyRanges),
    (.atomic q, 0x04, fun d => [ptrNode (dSrcPtr d)], atomicRanges),
      (.latchPut q, 0x05, fun d => [ptrNode (dDstPtr d)], putRanges)]

/-- Every transfer command issues its descriptor and starts its cutting. -/
theorem exec_transferCmd (q : QueueId) (s : State) : ∀ x ∈ transferCmds q,
    exec x.1 s = coreCmd (fun s => s.issueRemote q.val x.2.1 x.2.2.1 x.2.2.2 startCut) s := by
  simp only [transferCmds, List.forall_mem_cons]
  exact ⟨rfl, rfl, rfl, rfl, rfl, by simp⟩

/-- Settles O17: the five transfers issue, and those that fail R50, are empty or find no route end at issue. -/
theorem transfersIssue : Obligations.TransfersIssue := by
  constructor
  · intro s q h hoff hhold x hx hr hh hsize hroute
    have hr' := (State.ready_out s [] q.val x.2.1 (fun _ => [])).trans hr
    obtain ⟨v, i, hbody⟩ :=
      State.issueRemote_ok (s := { s with out := [] }) (nodes := x.2.2.1) (ranges := x.2.2.2) (go := startCut) hr' hh
      hhold hsize hroute
    obtain ⟨t, ht, l, hcore⟩ := (i.left.post (.cut s.core.nextId)).answer (u := v.post (.cut s.core.nextId))
      (body := fun s => s.issueRemote q.val x.2.1 x.2.2.1 x.2.2.2 startCut) hoff hbody
    refine ⟨t, _, (exec_transferCmd q s x hx).trans ht, (State.op?_congr (congrArg (·.rq.ops) hcore) _).trans i.op?,
      rfl, rfl, rfl, rfl, rfl,
      rfl, by rw [hcore]; simp, congrArg (·.nextId) l.core, l.head, ?_, l.count, l.aon, congrArg (·.rq.reqs) l.core,
      congrArg (·.resp) l.core, congrArg (·.win) l.core, congrArg (·.router) l.core, congrArg (·.mem) l.core,
        congrArg (·.bolts) l.core,
      (congrArg (·.col) hcore).trans (congrArg (·.col) i.core)⟩
    rw [State.qs_congr (congrArg (·.rq.queues) hcore), State.qs_post, i.qs]
    rfl
  · intro s q h hoff hhold hcqe
    have hexec := exec_transferCmd q s
    simp only [transferCmds, List.forall_mem_cons] at hexec
    obtain ⟨hput, hget, hcopy, -⟩ := hexec
    refine ⟨fun c hr => ?_, fun hr hh hlen => ?_, fun c hr hh hlen hroute => ?_⟩
    · have hr' := (State.ready_out s [] q.val 0x01 (fun _ => [])).trans hr
      obtain ⟨t, ht, c⟩ := State.Completed.exec hoff hput (State.issueRemote_fails hr')
        (State.completeHead_completed _ _ _ (by decide))
      exact ⟨t, _, ht, c.records, rfl, Nat.zero_add _, rfl, congrArg (·.rq.reqs) c.core⟩
    · have hr' := (State.ready_out s [] q.val 0x02 (fun _ => [])).trans hr
      obtain ⟨v, i, hbody⟩ := State.issueRemote_empty (s := { s with out := [] }) hr' hh (.inl (by decide)) hlen
      obtain ⟨t, ht, c⟩ := State.Completed.exec hoff hget hbody (i.endOp fun _ => hcqe)
      exact ⟨t, _, ht, c.records, rfl, rfl, congrArg (·.rq.reqs) c.core⟩
    · have hr' := (State.ready_out s [] q.val 0x03 (fun _ => [])).trans hr
      obtain ⟨v, i, hbody⟩ := State.issueRemote_ok (s := { s with out := [] })
        (nodes := fun d => [ptrNode (dSrcPtr d), ptrNode (dDstPtr d)]) (ranges := copyRanges)
          (go := startCut) hr' hh hhold (.inr hlen)
        hroute
      obtain ⟨t, ht, c⟩ := State.Completed.exec hoff hcopy hbody (i.endOp fun _ => hcqe)
      exact ⟨t, _, ht, c.records, rfl, rfl, congrArg (·.rq.reqs) c.core⟩

end Sys2Proof.Machine

namespace Sys2Proof.Machine

/-! ## Collectives issue (R43, R152, R191, R299) -/

section
variable {s t u v : State} {q op : Nat} {h : Head} {rs : List Range} {extra : BitVec 1024 → List Nat}
  {ranges : BitVec 1024 → List Range}
  {g : Group}

/-- A queue's group is not changed by an issue. -/
theorem State.Issued.qGroup (i : s.Issued t q h rs) : t.qGroup q = s.qGroup q :=
  i.rd _ fun f hf => .inr (.inl (by
    rcases List.mem_cons.mp hf with rfl | hf
    · simp only [R.QUEUE_CTL_GROUP, R.QUEUE_SQ_HEAD_COUNT]
      omega
    · have := traceFields_addr f hf
      simp only [R.QUEUE_CTL_GROUP]
      omega))

theorem State.Issued.group? (i : s.Issued t q h rs) (k : Nat) : t.group? k = s.group? k :=
  State.group?_congr (congrArg (·.col) i.core) k

@[simp] theorem State.qs_setGroup (s : State) (k : Nat) (x : Group) (q : Nat) : (s.setGroup k x).qs q = s.qs q := rfl

/-- A chain program is not changed by an issue. -/
theorem State.Issued.chain (i : s.Issued t q h rs) {p : Nat} (hp : p < 256) : t.chain p = s.chain p := by
  have hstages : t.rd (R.KNUCKLE_CHAIN_HDR_STAGES p) = s.rd (R.KNUCKLE_CHAIN_HDR_STAGES p) :=
    i.rd_below (.inl (by simp only [R.KNUCKLE_CHAIN_HDR_STAGES]; omega))
  rw [State.chain, hstages]
  refine List.map_congr_left fun k hk => ?_
  have hk : k < 16 := (List.mem_range.mp hk).trans (s.rd_lt _)
  simp only [State.stage]
  rw [i.rd_below (.inl (by simp only [R.KNUCKLE_STAGE_CTL_OP]; omega)),
    i.rd_below (.inl (by simp only [R.KNUCKLE_STAGE_CTL_FMT]; omega)),
    i.rd_below (.inl (by simp only [R.KNUCKLE_STAGE_OPND_LO_DATA]; omega)),
    i.rd_below (.inl (by simp only [R.KNUCKLE_STAGE_OPND_HI_DATA]; omega))]

/-- The chain that an issuing collective captures (R191). -/
def State.capture (s : State) (d : BitVec 1024) : List Stage :=
  if dOpcode d < 0x12 ∧ dChain d ≠ 0 then s.chain (dChain d) else []

/-- A collective joins its group as the last (R152). -/
theorem State.Issued.joinGroup (i : s.Issued t q h rs) (hop : 0x10 ≤ dOpcode h.desc) (hg : s.group? (s.qGroup q) = some g) :
    t.joinGroup q s.core.nextId h.desc =
      (t.setGroup (s.qGroup q) { g with issued := g.issued ++ [(s.core.nextId, s.capture h.desc)] }).post
        (.coll (s.qGroup q)) := by
  have hch : dChain h.desc < 256 := bits_lt _ _ _
  have hcapture : (if (if dOpcode h.desc = 0x10 ∨ dOpcode h.desc = 0x11 then dChain h.desc else 0) = 0 then []
      else t.chain (if dOpcode h.desc = 0x10 ∨ dOpcode h.desc = 0x11 then dChain h.desc else 0)) = s.capture h.desc := by
    rw [State.capture, ← i.chain hch]
    by_cases hrs : dOpcode h.desc = 0x10 ∨ dOpcode h.desc = 0x11
    · have hlt : dOpcode h.desc < 0x12 := by omega
      simp [hrs, hlt]
    · have hlt : ¬ dOpcode h.desc < 0x12 := by omega
      simp [hrs, hlt]
  simp only [State.joinGroup, hcapture, i.qGroup, State.modGroup, i.group?, hg]

/-- A collective that nothing holds issues: it ends with NO_ROUTE when a peer fails a route check, or joins its group. -/
theorem State.issueCol_ok {route : Option Nat} (hr : s.ready q op extra = .ok h) (hh : s.held q h (ranges h.desc) = false)
    (hg : s.group? (s.qGroup q) = some g) (hroute : ((g.checked h.desc).map g.node).findSome? s.routeReason = route) :
    ∃ v, s.Issued v q h (ranges h.desc) ∧ s.issueCol q op extra ranges =
      route.elim (v.joinGroup q s.core.nextId h.desc) fun r => v.endOp s.core.nextId 0x11 (det 2 r) 0 0 := by
  obtain ⟨v, i, hv⟩ := State.issueWith_ok (go := fun s id h =>
    match (s.group? (s.qGroup q)).bind (fun x => ((x.checked h.desc).map x.node).findSome? s.routeReason) with
    | some r => s.endOp id 0x11 (det 2 r) 0 0
    | none => s.joinGroup q id h.desc) hr hh
  refine ⟨v, i, hv.trans ?_⟩
  rw [i.qGroup, i.group?, hg, i.sameRoutes.routeReason, Option.bind_some, hroute]
  cases route <;> rfl

end

/-- The commands that issue collectives: opcode, the conditions each adds to R50, and the ranges. -/
def collectiveCmds (q : QueueId) (s : State) : List (Instr × Nat × (BitVec 1024 → List Nat) × (BitVec 1024 → List Range)) :=
  [(.rs q, 0x10, s.colReasons (s.qMembers q.val) (s.qFunc q.val), colRanges (s.qMembers q.val)),
    (.ag q, 0x11, s.colReasons (s.qMembers q.val) (s.qFunc q.val), colRanges (s.qMembers q.val)),
    (.countx q, 0x12, fun d => if dSrc d % 8 ≠ 0 ∨ dColDst d % 8 ≠ 0 then [5] else [], countRanges (s.qMembers q.val)),
    (.pintle q, 0x13, fun _ => [], pintleRanges)]

/-- Every collective command issues its descriptor. -/
theorem exec_collectiveCmd (q : QueueId) (s : State) : ∀ x ∈ collectiveCmds q s, 0x10 ≤ x.2.1 ∧
    ∃ body, exec x.1 s = coreCmd body s ∧
    body { s with out := [] } = ({ s with out := [] } : State).issueCol q.val x.2.1 x.2.2.1 x.2.2.2 := by
  simp only [collectiveCmds, List.forall_mem_cons]
  exact ⟨⟨by decide, _, rfl, rfl⟩, ⟨by decide, _, rfl, rfl⟩, ⟨by decide, _, rfl, rfl⟩, ⟨by decide, _, rfl, rfl⟩, by simp⟩

/-- Settles O48: RS, AG, COUNTX and PINTLE join their group, or end at issue with NO_ROUTE or for a condition of R50. -/
theorem collectivesIssue : Obligations.CollectivesIssue := by
  intro s q h hoff x hx
  obtain ⟨hop, body, hexec, hbody⟩ := exec_collectiveCmd q s x hx
  refine ⟨fun g hr hh hg hroute => ?_, fun g c hr hh hg hroute => ?_, fun c hr => ?_⟩
  · have hr' := (State.ready_out s [] q.val x.2.1 x.2.2.1).trans hr
    obtain ⟨v, i, hv⟩ := State.issueCol_ok (s := { s with out := [] }) hr' hh hg hroute
    have hdop := (State.ready_ok hr).2
    have hjoin := hbody.trans (hv.trans (i.joinGroup (hdop.symm ▸ hop) hg))
    obtain ⟨t, ht, l, hcore⟩ := ((i.left.step (u := v.setGroup _ _) rfl rfl rfl i.left.head).post _).answer hoff hjoin
    have hcol := State.group?_congr (congrArg (·.col) hcore)
    refine ⟨t, _, _, hexec.trans ht, (State.op?_congr (congrArg (·.rq.ops) hcore) _).trans i.op?, rfl, rfl, rfl, rfl,
      (hcol _).trans (State.group?_setGroup_self _ _ _), rfl, ?_, fun k hk => ?_, ?_, l.head, ?_, l.count, l.aon,
      congrArg (·.rq.reqs) l.core, congrArg (·.resp) l.core, congrArg (·.win) l.core, congrArg (·.router) l.core,
        congrArg (·.mem) l.core,
      congrArg (·.bolts) l.core⟩
    · rw [← hdop]
      rfl
    · exact (hcol k).trans ((State.group?_setGroup_ne v _ hk).trans (i.group? k))
    · rw [hcore]
      exact List.mem_append_right _ (List.mem_singleton_self _)
    · rw [State.qs_congr (congrArg (·.rq.queues) hcore), State.qs_post, State.qs_setGroup, i.qs]
      rfl
  · have hr' := (State.ready_out s [] q.val x.2.1 x.2.2.1).trans hr
    obtain ⟨v, i, hv⟩ := State.issueCol_ok (s := { s with out := [] }) hr' hh hg hroute
    obtain ⟨t, ht, c⟩ := State.Completed.exec hoff hexec (hbody.trans hv) (i.endOp fun h0 => absurd h0 (by decide))
    exact ⟨t, _, ht, c.records, rfl, rfl, c.col, congrArg (·.router) c.core⟩
  · have hr' := (State.ready_out s [] q.val x.2.1 x.2.2.1).trans hr
    obtain ⟨t, ht, c⟩ := State.Completed.exec hoff hexec (hbody.trans (State.issueWith_fails hr'))
      (State.completeHead_completed _ _ _ (by decide))
    exact ⟨t, _, ht, c.records, rfl, Nat.zero_add _, rfl, c.col, congrArg (·.rq.reqs) c.core, congrArg (·.mem) c.core⟩

end Sys2Proof.Machine

namespace Sys2Proof.Machine

/-! ## A write of JOURNAL_SIZE in OFF (R83, R366, R374) -/

/-- A write of JOURNAL_SIZE keeps the build and the sequencer's state. -/
theorem journalSizeWrite_off (d : Word) (s : State) :
    (journalSizeWrite d s).build = s.build ∧ (journalSizeWrite d s).off = s.off := by
  have hoff : (s.wr R.JOURNAL_SIZE_LOG2 (bits d.toNat 0 5)).off = s.off := by
    have hseq : R.JOURNAL_SIZE_LOG2.apart R.GLOBAL_START_STATUS_STATE := .inr (.inl (by decide))
    simp only [State.off, State.seq, State.rd_wr_ne _ _ _ _ hseq]
  unfold journalSizeWrite
  dsimp only
  split
  · exact ⟨rfl, rfl⟩
  · split
    · exact ⟨State.wr_build _ _ _, hoff⟩
    · exact ⟨State.wr_build _ _ _, hoff⟩

/-- In OFF a write of JOURNAL_SIZE leaves the core domain at its reset values, whatever it held. -/
theorem exec_journalSizeWrite_off {s : State} (hoff : s.off = true) (d : Word) :
    ∃ t, exec (.journalSizeWrite d) s = .next t ∧ t.build = s.build ∧ t.core = Core.reset := by
  obtain ⟨hbuild, hstill⟩ := journalSizeWrite_off d { s with out := [] }
  refine ⟨_, rfl, (wire_build _).trans hbuild, ?_⟩
  rw [wire_off _ (hstill.trans hoff)]

/-- A state in OFF, the always-on domain out of reset, whose core domain still holds a node ID. No run reaches it: the reset wiring keeps
the core domain at its reset values in OFF. -/
def offWithNode : State := { State.reset with pins.rstAon := true, core.regs := [(R.ROUTE_SELF_NODE.addr, 1)] }

/-- Refutes O12: its first clause speaks of OFF too, of every state with the always-on domain up, and asks that all other registers stay;
the reset wiring of R366 and R374 clears the core domain's in OFF, so a state in OFF that holds a node ID loses it with the write. -/
theorem not_lockingWrites : ¬ Obligations.LockingWrites := by
  unfold Obligations.LockingWrites
  intro h
  obtain ⟨hsize, -⟩ := h offWithNode 10
  obtain ⟨t, ht, -, hbut, -⟩ := hsize (by decide) (by decide) (by decide) (by decide)
  have hkept : t.rd R.ROUTE_SELF_NODE = offWithNode.rd R.ROUTE_SELF_NODE :=
    hbut _ (List.forall_mem_singleton.mpr (.inl (by decide)))
  obtain ⟨u, hu, hbuild, hcore⟩ := exec_journalSizeWrite_off (s := offWithNode) (by decide) 10
  obtain rfl := Host.Outcome.next.inj (hu.symm.trans ht)
  have hcleared : u.rd R.ROUTE_SELF_NODE = State.reset.rd R.ROUTE_SELF_NODE := by
    simp only [State.rd, State.word, R.ROUTE_SELF_NODE, hcore, hbuild]
    rfl
  exact absurd (hkept.symm.trans hcleared) (by decide)

end Sys2Proof.Machine

namespace Sys2Proof.Machine

/-! ## Latch deadlines, the journal's oldest entry, journal queries (R87, R89, R93) -/

section
variable {s u v : State} {i : InPkt} {rest : List InPkt} {k : Nat}

/-- What is taken first is what is found first. -/
theorem takeFirst_find? {α : Type} {p : α → Bool} {l rest : List α} {x : α} (h : takeFirst p l = some (x, rest)) : l.find? p = some x := by
  induction l generalizing rest with
  | nil => simp [takeFirst] at h
  | cons y l ih =>
    by_cases hy : p y = true
    · simp only [takeFirst, hy, if_true, Option.some.injEq, Prod.mk.injEq] at h
      rw [List.find?_cons_of_pos hy, h.1]
    · simp only [takeFirst, hy, Bool.false_eq_true, if_false, Option.map_eq_some_iff, Prod.mk.injEq] at h
      obtain ⟨⟨z, r⟩, hz, rfl, -⟩ := h
      rw [List.find?_cons_of_neg (by simpa using hy), ih hz]

/-! ### Slots and entries -/

/-- A core-domain command whose body lets nothing leave. -/
theorem coreCmd_silent {body : State → State} (hoff : s.off = false) (hb : body { s with out := [] } = u) (hu : u.off = false)
    (ho : u.out = []) : ∃ t, coreCmd body s = .next t ∧ t.core = u.core ∧ t.aon = u.aon ∧ t.out = [] := by
  subst hb
  refine ⟨_, coreCmd_on body s hoff, wire_core _ hu, wire_aon _, ?_⟩
  rw [wire, hu]
  simp only [Bool.false_eq_true, if_false]
  split_ifs <;> simp [ho]

theorem latchDeadline_held {slot : Fin 256} {x : HoldSlot} (hx : SMap.get? s.core.resp.holds slot.val = some x) :
    latchDeadline slot s =
      if s.pastDeadline x.pkt.deadline then { s with core.resp.holds := SMap.del s.core.resp.holds slot.val } else s := by
  simp only [latchDeadline, hx]

theorem journalReclaim_cons {e : JEntry} {l : List JEntry} (hj : s.core.resp.journal = e :: l) :
    journalReclaim s =
      if s.now ≥ e.time * 2 ^ 8 + 5 * e.tout * usLsb + 1024 then
        ({ s with core.resp.journal := l, core.resp.jHead := (s.core.resp.jHead + 1) % max 1 s.jSize } : State).coverTo (e.time * 2 ^ 8 + 2 ^ 8)
      else s := by
  simp only [journalReclaim, hj]

/-! ### Queries -/

/-- A query while its entry is read. -/
def queryArrival (i : InPkt) : Arrival :=
  ⟨i.pkt, i.port, i.stamp, .query, false, none, 0, 0, 32, 0, 0, i.pkt.cm, 0, 0, 0, 0, 0, none, 0, 0, none, none⟩

/-- The read of the journal's entry `k` for a query. -/
def State.readEntry (s : State) (i : InPkt) (k : Nat) : State :=
  (({ s with core.nextId := s.core.nextId + 1 } : State).setArr s.core.nextId (queryArrival i)).startJob
    ⟨0, s.jSlot (s.core.resp.jHead + k), 32, .virt true true none, .read, [], 3, 0, 0, 0, 0, 0, 0, .journalRead s.core.nextId⟩

/-- The answer to a query that finds no entry in its interval, which begins at `start`: 1 NOT_FOUND where coverage reaches back to it, else
2 UNKNOWN. -/
def State.missAnswer (s : State) (start : Int) : Nat :=
  if s.jSize != 0 && s.synced && s.core.resp.cover.any (fun c : Nat => decide ((c : Int) ≤ start * 2 ^ 8)) then 1 else 2

theorem State.missAnswer_uncovered (hc : s.core.resp.cover = none) (start : Int) : s.missAnswer start = 2 := by
  rw [State.missAnswer, hc, Option.any_none, Bool.and_false]
  exact if_neg Bool.false_ne_true

theorem State.missAnswer_covered {c : Nat} {start : Int} (hc : s.core.resp.cover = some c) (hsize : s.jSize ≠ 0) (hsync : s.synced = true)
    (hle : (c : Int) ≤ start * 2 ^ 8) : s.missAnswer start = 1 := by
  refine if_pos ?_
  rw [Bool.and_eq_true, Bool.and_eq_true, hc, Option.any_some]
  exact ⟨⟨bne_iff_ne.mpr hsize, hsync⟩, decide_eq_true hle⟩

theorem State.missAnswer_eq_or (s : State) (start : Int) : s.missAnswer start = 1 ∨ s.missAnswer start = 2 := by
  unfold State.missAnswer
  split
  · exact .inl rfl
  · exact .inr rfl

/-- The query that JQUERY_ARRIVAL takes is the one it looks at first. -/
theorem query_found (htake : takeFirst (fun i => i.pkt.cls == 1 && i.pkt.type == 6 && true) s.core.resp.inbox = some (i, rest)) :
    s.core.resp.inbox.find? (fun (i : InPkt) => i.pkt.cls == 1 && i.pkt.type == 6) = some i := by
  simpa only [Bool.and_true] using takeFirst_find? htake

/-- A query for an atomic whose entry is still being made waits. -/
theorem jqueryArrival_busy (htake : takeFirst (fun i => i.pkt.cls == 1 && i.pkt.type == 6 && true) s.core.resp.inbox = some (i, rest))
    (hb : s.jidBusy i.pkt.jid = true) : jqueryArrival s = s := by
  simp only [jqueryArrival, query_found htake, Option.any_some, hb, Bool.or_true, if_true]

/-- A query reads the entry that its search finds. -/
theorem jqueryArrival_hit (hf : s.fatal = false)
    (htake : takeFirst (fun i => i.pkt.cls == 1 && i.pkt.type == 6 && true) s.core.resp.inbox = some (i, rest))
    (hb : s.jidBusy i.pkt.jid = false) (hk : (s.journalFind i.pkt).1 = some k) :
    jqueryArrival s = ({ s with core.resp.inbox := rest } : State).readEntry i k := by
  have hk' : (({ s with core.resp.inbox := rest } : State).journalFind i.pkt).1 = some k := hk
  simp only [jqueryArrival, query_found htake, Option.any_some, hf, hb, Bool.or_self, Bool.false_eq_true, if_false,
    State.withPkt_some (g := fun _ => true) _ htake, hk']
  rfl

/-- A query that finds no entry is answered at once. -/
theorem jqueryArrival_miss {start : Int} (hf : s.fatal = false)
    (htake : takeFirst (fun i => i.pkt.cls == 1 && i.pkt.type == 6 && true) s.core.resp.inbox = some (i, rest))
    (hb : s.jidBusy i.pkt.jid = false) (hk : s.journalFind i.pkt = (none, start)) :
    jqueryArrival s = ({ s with core.resp.inbox := rest } : State).answerQuery i.port i.pkt 0 (s.missAnswer start) 0 := by
  have hk' : ({ s with core.resp.inbox := rest } : State).journalFind i.pkt = (none, start) := hk
  simp only [jqueryArrival, query_found htake, Option.any_some, hf, hb, Bool.or_self, Bool.false_eq_true, if_false,
    State.withPkt_some (g := fun _ => true) _ htake, hk', State.missAnswer]
  cases s.core.resp.cover <;> rfl

/-! ### Answers (R89, R278) -/

/-- The congestion mark of R292 leaves the other fields of a header. -/
theorem Packet.fld_mark (p : Packet) (off lo w : Nat) (hb : 8 * off + lo + w ≤ 512) (h : 13 ≤ 8 * off + lo ∨ 8 * off + lo + w ≤ 12) :
    (p.set 1 4 1 1).fld off lo w = p.fld off lo w := p.fld_set_ne _ _ _ _ _ _ _ hb h

/-- A packet of the local units that answers a request, with the congestion mark or without. -/
theorem State.inject_answered (hr : s.SameRoutes v) {req p : Packet} {ok : Packet → Prop} (hcls : p.cls = 3) (hdest : p.dest = req.srcNode)
    (htag : p.tag = req.tag) (hok : ok p) (hmark : ok (p.set 1 4 1 1)) : s.Answered (v.inject none none p) req ok := by
  have hroute : v.routeOf 10 p.dest = s.routeOf 10 req.srcNode := by rw [hr.routeOf, hdest]
  constructor
  · intro hd
    rw [State.inject_deliver _ _ (hroute.trans hd)]
    exact ⟨_, _, rfl, hcls, hdest, htag, hok⟩
  · intro port entry ho
    rw [State.inject_out _ _ (hroute.trans ho)]
    obtain ⟨l, x, hl, hport, hentry, hpkt⟩ := v.enqueue_last ⟨10, port, entry, 0, none, none, p, 0⟩
    refine ⟨l, x, hl, hport, hentry, ?_⟩
    rcases hpkt with hx | hx <;> rw [hx]
    · exact ⟨hcls, hdest, htag, hok⟩
    · exact ⟨(p.fld_mark _ _ _ (by decide) (by decide)).trans hcls, (p.fld_mark _ _ _ (by decide) (by decide)).trans hdest,
        (p.fld_mark _ _ _ (by decide) (by decide)).trans htag, hmark⟩

/-- A journal answer: its type, status and answer. -/
def Packet.IsJAnswer (p : Packet) (ans : Nat) : Prop := p.type = 3 ∧ p.rspStatus = 0 ∧ p.fld 0x13 0 2 = ans

theorem Packet.IsJAnswer.mark {p : Packet} {ans : Nat} (h : p.IsJAnswer ans) : (p.set 1 4 1 1).IsJAnswer ans := by
  obtain ⟨htype, hstatus, hans⟩ := h
  exact ⟨(p.fld_mark _ _ _ (by decide) (by decide)).trans htype, (p.fld_mark _ _ _ (by decide) (by decide)).trans hstatus,
    (p.fld_mark _ _ _ (by decide) (by decide)).trans hans⟩

/-- The fields of a journal answer that carries no old value. -/
def janswerFields (cm ans : Nat) : List (Nat × Nat × Nat) := [hf 1 5 1 cm, hf 0x10 0 8 0, hf 0x11 0 16 0, hf 0x13 0 2 ans]

/-- A journal answer holds its fields. -/
theorem janswer_fld (req : Packet) (src cm ans off lo w x : Nat)
    (hm : hf off lo w x ∈ headFields 3 3 req.srcNode src req.squeue req.tag 0 0 ++ janswerFields cm ans) (hb : 8 * off + lo + w ≤ 512) :
    (mkPacket 3 3 req.srcNode src req.squeue req.tag 0 (janswerFields cm ans) []).fld off lo w = x % 2 ^ w :=
  mkPacket_fld _ _ _ _ _ _ _ _ [] _ _ _ _ (by simp [headFields, janswerFields, hf, bitsApart]) hm hb

/-- A query outside TDM pairs that finds no entry is answered, and nothing but what sending changes differs. -/
theorem State.answerQuery_miss (hr : s.SameRoutes u) (port : Nat) {req : Packet} {ans : Nat} (h : req.tdm = false) (hans : ans = 1 ∨ ans = 2) :
    s.Answered (u.answerQuery port req 0 ans 0) req (fun p => p.IsJAnswer ans) ∧ u.Served (u.answerQuery port req 0 ans 0) := by
  obtain ⟨w, hw, heq⟩ : ∃ w, u.Traced w ∧ u.answerQuery port req 0 ans 0 =
      w.inject none none (mkPacket 3 3 req.srcNode u.self req.squeue req.tag 0 (janswerFields (b2n req.cm) ans) []) := by
    have h0 : ans ≠ 0 := by omega
    have hc := (State.Traced.refl u).count blockSlot 6
    simp only [State.answerQuery, State.respond, h, h0, Bool.false_eq_true, if_false]
    exact ⟨_, .ite _ (hc.tracePkt _ _ _ _ _ _ _ _) hc, rfl⟩
  have hfld := janswer_fld req u.self (b2n req.cm) ans
  have hok : (mkPacket 3 3 req.srcNode u.self req.squeue req.tag 0 (janswerFields (b2n req.cm) ans) []).IsJAnswer ans :=
    ⟨hfld 0x00 3 5 3 (by simp [headFields]) (by decide), hfld 0x10 0 8 0 (by simp [janswerFields]) (by decide),
      (hfld 0x13 0 2 ans (by simp [janswerFields]) (by decide)).trans (Nat.mod_eq_of_lt (by omega))⟩
  rw [heq]
  exact ⟨State.inject_answered (hr.trans hw.sameRoutes) (hfld 0x00 0 3 3 (by simp [headFields]) (by decide))
    ((hfld 0x04 0 20 _ (by simp [headFields]) (by decide)).trans (Nat.mod_eq_of_lt (req.fld_lt _ _ _)))
    ((hfld 0x0C 0 18 _ (by simp [headFields]) (by decide)).trans (Nat.mod_eq_of_lt (req.fld_lt _ _ _))) hok hok.mark,
    hw.quiet.served.inject _ _⟩

/-- JQUERY_ARRIVAL answers a query outside TDM pairs that finds no entry. -/
theorem exec_jqueryArrival_miss (hoff : s.off = false) (hf : s.fatal = false)
    (htake : takeFirst (fun i => i.pkt.cls == 1 && i.pkt.type == 6 && true) s.core.resp.inbox = some (i, rest))
    (hb : s.jidBusy i.pkt.jid = false) (hk : (s.journalFind i.pkt).1 = none) (htdm : i.pkt.tdm = false) :
    ∃ t, exec .jqueryArrival s = .next t ∧ s.Answered t i.pkt (fun p => p.IsJAnswer (s.missAnswer (s.journalFind i.pkt).2)) ∧
      t.core.resp.journal = s.core.resp.journal ∧ t.core.jobs = s.core.jobs := by
  obtain ⟨hans, hserved⟩ := State.answerQuery_miss (s.taken_routes rest) i.port htdm (s.missAnswer_eq_or (s.journalFind i.pkt).2)
  obtain ⟨t, ht, hcore, -⟩ := coreCmd_next jqueryArrival s _ hoff
    (jqueryArrival_miss (s := { s with out := [] }) hf htake hb (Prod.ext hk rfl)) ((State.off_eq_of hserved.build hserved.aon).trans hoff)
  have hc := hcore.trans hserved.core
  exact ⟨t, ht, hans.congr (.refl s) hcore fun _ hp => hp, congrArg (·.resp.journal) hc, congrArg (·.jobs) hc⟩

end

/-- Settles O33: latch deadlines and the oldest journal entry, before and after their time, and journal queries that wait, read their entry
or are answered without one. -/
theorem latchesAndJournal : Obligations.LatchesAndJournal := by
  intro s hoff
  refine ⟨fun slot x hx hpast => ?_, fun slot x hx hpast => ?_, fun e l c hj hnow hc => ?_, fun e l hj hnow => ?_,
    fun i rest htake hb => ?_, fun i rest k hf htake hb hk => ?_, fun i rest hf htake hb hk htdm hc => ?_,
    fun i rest c hf htake hb hk htdm hc hsize hsync hle => ?_⟩
  · obtain ⟨t, ht, hcore, haon, hout⟩ := coreCmd_silent (body := latchDeadline slot) hoff
      ((latchDeadline_held (s := { s with out := [] }) hx).trans (if_pos hpast)) hoff rfl
    refine ⟨t, ht, ?_, fun k hk => ?_, hout, by rw [hcore], haon⟩
    · rw [hcore]
      exact SMap.get?_del_self _ _
    · rw [hcore]
      exact SMap.get?_del_ne _ _ _ hk
  · obtain ⟨t, ht, hcore, -⟩ := coreCmd_still (body := latchDeadline slot) hoff
      ((latchDeadline_held (s := { s with out := [] }) hx).trans (if_neg (Bool.eq_false_iff.mp hpast)))
    exact ⟨t, ht, hcore⟩
  · obtain ⟨t, ht, hcore, haon, -⟩ := coreCmd_next journalReclaim s _ hoff
      ((journalReclaim_cons (s := { s with out := [] }) hj).trans (if_pos hnow)) hoff
    refine ⟨t, ht, by rw [hcore]; rfl, ?_, by rw [hcore]; rfl, by rw [hcore]; rfl, haon⟩
    rw [hcore]
    exact congrArg (Option.map _) hc
  · obtain ⟨t, ht, hcore, -⟩ := coreCmd_still (body := journalReclaim) hoff
      ((journalReclaim_cons (s := { s with out := [] }) hj).trans (if_neg (Nat.not_le.mpr hnow)))
    exact ⟨t, ht, hcore⟩
  · obtain ⟨t, ht, hcore, -⟩ := coreCmd_still (body := jqueryArrival) hoff (jqueryArrival_busy (s := { s with out := [] }) htake hb)
    exact ⟨t, ht, hcore⟩
  · obtain ⟨t, ht, hcore, -⟩ := coreCmd_next jqueryArrival s _ hoff (jqueryArrival_hit (s := { s with out := [] }) hf htake hb hk) hoff
    exact ⟨t, _, ht, (congrArg (fun c => SMap.get? c.jobs _) hcore).trans (SMap.get?_put_self _ _ _), rfl, rfl, rfl, rfl, rfl,
      congrArg (·.resp.journal) hcore⟩
  · have hmiss := exec_jqueryArrival_miss hoff hf htake hb hk htdm
    rwa [State.missAnswer_uncovered hc] at hmiss
  · obtain ⟨t, ht, hans, -⟩ := exec_jqueryArrival_miss hoff hf htake hb hk htdm
    rw [State.missAnswer_covered hc hsize hsync hle] at hans
    exact ⟨t, ht, hans⟩

end Sys2Proof.Machine

namespace Sys2Proof.Machine

/-! ## Requests that leave under a tag (R276, R285, R345, R389) -/

/-- A value changed at its key. -/
theorem SMap.get?_modify_self {α : Type} (m : SMap α) (k : Nat) (f : α → α) : SMap.get? (SMap.modify m k f) k = (SMap.get? m k).map f := by
  induction m with
  | nil => rfl
  | cons x m ih =>
    obtain ⟨j, v⟩ := x
    by_cases h : j = k
    · simp [SMap.modify, SMap.get?, h]
    · simpa [SMap.modify, SMap.get?, h] using ih

theorem SMap.get?_modify_ne {α : Type} (m : SMap α) {k j : Nat} (f : α → α) (h : j ≠ k) : SMap.get? (SMap.modify m k f) j = SMap.get? m j := by
  induction m with
  | nil => rfl
  | cons x m ih =>
    obtain ⟨i, v⟩ := x
    have ih' : SMap.get? (List.map (fun p => if p.1 = k then (p.1, f p.2) else p) m) j = SMap.get? m j := ih
    by_cases hi : i = k
    · subst hi
      simp [SMap.modify, SMap.get?, Ne.symm h, ih']
    · simp [SMap.modify, SMap.get?, hi, ih']

/-- A key found free is none of the map. -/
theorem SMap.get?_freeKey {α : Type} {m : SMap α} {n k j : Nat} (h : SMap.freeKey m n k = some j) : SMap.get? m j = none := by
  induction n generalizing k with
  | zero => simp [SMap.freeKey] at h
  | succ n ih =>
    simp only [SMap.freeKey] at h
    split at h
    · rename_i hk
      rw [← Option.some.inj h]
      exact Option.isNone_iff_eq_none.mp hk
    · exact ih h

section
variable {s t u v : State} {n k : Nat} {r : Req}

/-- A tag that may be taken is no request's (R345). -/
theorem State.req?_allocTag {q f : Nat} (h : s.allocTag q f = some n) : s.req? n = none := by
  unfold State.allocTag at h
  dsimp only at h
  split at h
  · exact SMap.get?_freeKey h
  · simp at h

@[simp] theorem State.req?_setReq_self (s : State) (n : Nat) (r : Req) : (s.setReq n r).req? n = some r := SMap.get?_put_self _ _ _

theorem State.req?_setReq_ne (s : State) (r : Req) (h : k ≠ n) : (s.setReq n r).req? k = s.req? k := SMap.get?_put_ne _ _ _ _ h

/-- `t` is `s` but for what sending requests changes: requests, their order, the buckets and caches of the ceilings, the router, and what
answering changes. -/
structure State.Sends (s t : State) : Prop where
  build : t.build = s.build
  aon : t.aon = s.aon
  core : t.core = { s.core with
    regs := t.core.regs, rq := { s.core.rq with
      rates := t.core.rq.rates, queues := t.core.rq.queues, inj := t.core.rq.inj, reqs := t.core.rq.reqs, sendOrder := t.core.rq.sendOrder },
    router := t.core.router, links := t.core.links, bolts := t.core.bolts, err := t.core.err, trace := t.core.trace, cnt := t.core.cnt,
    work := t.core.work, nextId := t.core.nextId, resp := { s.core.resp with inbox := t.core.resp.inbox, tracks := t.core.resp.tracks } }

theorem State.Sends.trans (h : s.Sends t) (g : t.Sends u) : s.Sends u where
  build := g.build.trans h.build
  aon := g.aon.trans h.aon
  core := g.core.trans (by rw [h.core])

theorem State.Quiet.sends (h : s.Quiet t) : s.Sends t := ⟨h.build, h.aon, by rw [h.core]⟩

theorem State.Quiet.req? (h : s.Quiet t) (k : Nat) : t.req? k = s.req? k := State.req?_congr (congrArg (·.rq.reqs) h.core) k

theorem State.Sends.op? (h : s.Sends t) (k : Nat) : t.op? k = s.op? k := State.op?_congr (congrArg (·.rq.ops) h.core) k

/-- `t` has the requests of `s`, but for request `n`, which in `t` is `x`. -/
def State.HasReq (s t : State) (n : Nat) (x : Req) : Prop := t.req? n = some x ∧ ∀ k, k ≠ n → t.req? k = s.req? k

theorem State.HasReq.after (h : u.HasReq t n r) (hu : ∀ k, k ≠ n → u.req? k = s.req? k) : s.HasReq t n r :=
  ⟨h.1, fun k hk => (h.2 k hk).trans (hu k hk)⟩

theorem State.HasReq.congr (h : s.HasReq t n r) (hu : ∀ k, u.req? k = t.req? k) : s.HasReq u n r :=
  ⟨(hu n).trans h.1, fun k hk => (hu k).trans (h.2 k hk)⟩

theorem State.setReq_hasReq (s : State) (n : Nat) (r : Req) : s.HasReq (s.setReq n r) n r :=
  ⟨s.req?_setReq_self n r, fun _ hk => s.req?_setReq_ne r hk⟩

/-- A request whose timer starts. -/
def Req.timed (r : Req) : Req := if r.state = .queued then { r with state := .sent } else r

/-- The timer of a queued request starts with its state SENT (R389). -/
theorem State.startTimer_spec (hr : s.req? n = some r) (hq : r.state = .queued) :
    s.Sends (s.startTimer (some n)) ∧ s.HasReq (s.startTimer (some n)) n { r with state := .sent } := by
  have hu : s.startTimer (some n) = { s with core.rq.reqs := SMap.modify s.core.rq.reqs n Req.timed } := rfl
  have hself : (s.startTimer (some n)).req? n = (s.req? n).map Req.timed := by
    rw [hu]
    exact SMap.get?_modify_self _ _ _
  refine ⟨⟨rfl, rfl, rfl⟩, ?_, fun k hk => ?_⟩
  · rw [hself, hr, Option.map_some, Req.timed, if_pos hq]
  · rw [hu]
    exact SMap.get?_modify_ne _ _ hk

/-- A request's packet goes to the router: it is queued, or has been sent (R305, R306). -/
theorem State.inject_tagged (f : Nat) (p : Packet) (hr : s.req? n = some r) (hq : r.state = .queued) :
    let u := s.inject (some f) (some n) p
    s.Sends u ∧ ∃ st, (st = .queued ∨ st = .sent) ∧ s.HasReq u n { r with state := st } := by
  intro u
  cases h : s.routeOf 10 p.dest with
  | deliver =>
    obtain ⟨hsends, hreq⟩ := State.startTimer_spec hr hq
    obtain ⟨v, hv, hu⟩ : ∃ v, (s.startTimer (some n)).Traced v ∧ u = v.deliver ⟨10, 0, p⟩ := by
      have hc := State.Traced.refl (s.startTimer (some n))
      simp only [u, State.inject, State.routePacket, h]
      exact ⟨_, (State.Traced.ite (p.cls = 1) (hc.count (funcSlot f) 2) hc).tracePkt _ _ _ _ _ _ _ _, rfl⟩
    rw [hu]
    have hd : v.Sends (v.deliver ⟨10, 0, p⟩) := ⟨rfl, rfl, rfl⟩
    exact ⟨(hsends.trans hv.quiet.sends).trans hd, _, .inr rfl, hreq.congr (hv.quiet.req?)⟩
  | out port entry =>
    have hu : u = s.enqueue ⟨10, port, entry, 0, some f, some n, p, 0⟩ := by
      simp only [u, State.inject, State.routePacket, h]
    have hv := (State.Quiet.refl s).enqueue ⟨10, port, entry, 0, some f, some n, p, 0⟩
    rw [← hu] at hv
    refine ⟨hv.sends, _, .inl rfl, (hv.req? n).trans ?_, fun k _ => hv.req? k⟩
    rw [hr, ← hq]
  | discard port =>
    obtain ⟨v, hv, hu⟩ : ∃ v, s.Quiet v ∧ u = (v.startTimer (some n)).logDiscard 15 port p.dest := by
      have hs := State.Quiet.refl s
      simp only [u, State.inject, State.routePacket, h, State.discardFor]
      exact ⟨_, .ite _ (hs.wr _ _ rfl) hs, rfl⟩
    obtain ⟨hsends, hreq⟩ := State.startTimer_spec ((hv.req? n).trans hr) hq
    have hl := (State.Quiet.refl (v.startTimer (some n))).logDiscard 15 port p.dest
    rw [← hu] at hl
    exact ⟨(hv.sends.trans hsends).trans hl.sends, _, .inr rfl, (hreq.congr hl.req?).after fun k _ => hv.req? k⟩

/-- Outside TDM pairs a request is handed to the router. -/
theorem State.handOver_routed (p : Packet) (hpair : s.tdmPair r.func r.node = none) :
    s.Sends (s.handOver n r p) ∧ ∃ st, (st = .queued ∨ st = .sent) ∧ s.HasReq (s.handOver n r p) n { r with state := st } := by
  have hu : s.handOver n r p = (s.setReq n { r with state := .queued }).inject (some r.func) (some n) p := by
    simp only [State.handOver, hpair]
  have hset : s.Sends (s.setReq n { r with state := .queued }) := ⟨rfl, rfl, rfl⟩
  obtain ⟨hsends, st, hst, hreq⟩ := State.inject_tagged r.func p (s.req?_setReq_self n { r with state := .queued }) rfl
  rw [hu]
  exact ⟨hset.trans hsends, st, hst, hreq.after fun k hk => s.req?_setReq_ne _ hk⟩

/-- `t` is `s` after a request has been charged to the rate cache and the injection bucket. -/
def State.Spent (s t : State) : Prop := ∃ rates inj, t = { s with core.rq.rates := rates, core.rq.inj := inj }

/-- A request that is no counted write leaves outside TDM pairs: only its time and its state change. -/
theorem State.sendReq_uncounted (hk : r.kind.countable = false) (hpair : s.tdmPair r.func r.node = none) :
    s.Sends (s.sendReq n r false) ∧ ∃ st tout dline, (st = .queued ∨ st = .sent) ∧
      s.HasReq (s.sendReq n r false) n { r with state := st, tout := tout, dline := dline } := by
  have hatomic : r.kind ≠ .atomic := fun h => by simp [h, ReqKind.countable] at hk
  have hlatch : r.kind ≠ .latch := fun h => by simp [h, ReqKind.countable] at hk
  obtain ⟨v, tout, dline, p, hv, hu⟩ : ∃ v tout dline p, s.Spent v ∧
      s.sendReq n r false = v.handOver n { r with tout := tout, dline := dline } p := by
    have hspent : s.Spent ((if r.kind = .jquery ∨ r.kind = .jservice then s else s.rateSpend r.func r.node r.cost).injSpend r.func r.cost) := by
      split <;> exact ⟨_, _, rfl⟩
    simp only [State.sendReq, hpair, Option.isSome_none, Bool.false_eq_true, false_or, if_false, hlatch]
    by_cases hq : (r.kind == .jquery || r.kind == .jservice) = true
    · simp only [hq, if_true, hatomic, if_false, hk, Bool.false_eq_true, false_and]
      exact ⟨_, r.tout, r.dline, _, hspent, rfl⟩
    · simp only [hq, if_false, hatomic, hk, Bool.false_eq_true, false_and]
      exact ⟨_, _, _, _, hspent, rfl⟩
  obtain ⟨rates, inj, rfl⟩ := hv
  obtain ⟨hsends, st, hst, hreq⟩ := State.handOver_routed (n := n) (r := { r with tout := tout, dline := dline }) p
    (s := { s with core.rq.rates := rates, core.rq.inj := inj }) hpair
  have hspend : s.Sends { s with core.rq.rates := rates, core.rq.inj := inj } := ⟨rfl, rfl, rfl⟩
  rw [hu]
  exact ⟨hspend.trans hsends, st, tout, dline, hst, hreq.after fun _ _ => rfl⟩

/-- Nothing holds a request outside TDM pairs that its ceilings let go (R295, R345, R354). -/
theorem State.reqHeld_no (hpair : s.tdmPair r.func r.node = none) (hstrict : s.strictTo r.func r.node = false)
    (hrate : r.kind = .jquery ∨ s.rateOk r.func r.node r.cost = true) (hinj : s.injOk r.func r.cost = true) : s.reqHeld r = .no := by
  have hrate' : ¬ (r.kind ≠ .jquery ∧ r.kind ≠ .jservice ∧ ¬ s.rateOk r.func r.node r.cost = true) := fun ⟨hj, _, hn⟩ =>
    hrate.elim hj hn
  simp only [State.reqHeld, hpair, hstrict, Bool.false_eq_true, if_false, if_neg hrate', hinj, not_true_eq_false]

end

/-! ## What the requester does with a request -/

section
variable {s t u v : State} {n k : Nat} {r : Req} {o : Op}

theorem State.quarantine_some (hr : s.req? n = some r) :
    s.quarantine n = s.setReq n { r with state := .quarantine, payload := [], staged := false } := by
  simp only [State.quarantine, hr]

/-- A request's record of its timeout waits to be merged (R394, R401). -/
theorem State.Quiet.logTimeout (h : s.Quiet t) (n : Nat) (r : Req) (detail : Nat) : s.Quiet (t.logTimeout n r detail) :=
  h.trans (.ite _ ⟨rfl, rfl, rfl⟩ ⟨rfl, rfl, rfl⟩)

theorem State.freeTag_req?_ne (s : State) (h : k ≠ n) : (s.freeTag n).req? k = s.req? k := by
  unfold State.freeTag
  split
  · rfl
  · dsimp only
    rw [State.foldl_post (fun p : Nat × Op => Work.cut p.1)]
    exact SMap.get?_del_ne _ _ _ h

theorem State.freeTag_op? (s : State) (n k : Nat) : (s.freeTag n).op? k = s.op? k := by
  obtain ⟨-, reqs, work, h⟩ := s.freeTag_spec n
  rw [h]
  rfl

theorem State.quarantine_op? (s : State) (n k : Nat) : (s.quarantine n).op? k = s.op? k := by
  unfold State.quarantine
  split <;> rfl

/-- A request that has been tried leaves the Ward queue; requests and operations stay. -/
theorem State.takeItem_spec (s : State) (w : WorkItem) :
    (s.takeItem w).build = s.build ∧ (s.takeItem w).aon = s.aon ∧ (s.takeItem w).core.rq = s.core.rq :=
  ⟨State.wr_build _ _ _, (State.wr_core_aon _ _ _ rfl).1, State.wr_core_rq _ _ _⟩

/-! ### Getting a request's data again (R354, R392) -/

theorem State.prepRead_spec (s : State) (n : Nat) (r : Req) :
    (s.prepRead n r).build = s.build ∧ (s.prepRead n r).aon = s.aon ∧ (s.prepRead n r).core.rq = s.core.rq := by
  unfold State.prepRead
  split <;> exact ⟨rfl, rfl, rfl⟩

/-- Getting a request's data changes which slot of a pair its read waits for, and nothing else of the requester. -/
theorem State.prepReq_spec (hr : s.req? n = some r) :
    (s.prepReq n r).build = s.build ∧ (s.prepReq n r).aon = s.aon ∧ (s.prepReq n r).core.rq.ops = s.core.rq.ops ∧
      ∃ pre, s.HasReq (s.prepReq n r) n { r with pre := pre } := by
  have hread : ∀ (v : State) (x : Req) (pre), s.HasReq v n { r with pre := pre } → v.build = s.build → v.aon = s.aon →
      v.core.rq.ops = s.core.rq.ops →
      (v.prepRead n x).build = s.build ∧ (v.prepRead n x).aon = s.aon ∧ (v.prepRead n x).core.rq.ops = s.core.rq.ops ∧
      ∃ pre, s.HasReq (v.prepRead n x) n { r with pre := pre } := fun v x pre hv hb ha ho => by
    obtain ⟨hbuild, haon, hrq⟩ := v.prepRead_spec n x
    exact ⟨hbuild.trans hb, haon.trans ha, (congrArg (·.ops) hrq).trans ho, pre, hv.congr (State.req?_congr (congrArg (·.reqs) hrq))⟩
  have hsame : s.HasReq s n { r with pre := r.pre } := ⟨hr, fun _ _ => rfl⟩
  unfold State.prepReq
  split
  · exact hread s r _ hsame rfl rfl rfl
  · split
    · exact hread s r _ hsame rfl rfl rfl
    · split
      · exact hread _ r _ (s.setReq_hasReq n _) rfl rfl rfl
      · exact ⟨rfl, rfl, rfl, _, s.setReq_hasReq n _⟩

end

/-! ## The Ward queue, reissues, journal queries and their answers (R88, R382, R392) -/

section
variable {s t u v : State} {n k : Nat} {r : Req} {o : Op}

/-- A work item that waits enters the Ward queue once that has room (R382). -/
theorem workItemPost_room {w : WorkItem} {l : List WorkItem} (hw : s.core.ward.waiting = w :: l) (hroom : s.core.ward.items.length < 4096) :
    ∃ v, ({ s with core.ward.waiting := l, core.ward.items := s.core.ward.items ++ [w] } : State).Wrote v [R.WARD_STATUS_ITEMS] ∧
      v.rd R.WARD_STATUS_ITEMS = (s.core.ward.items.length + 1) % 2 ^ 13 ∧ workItemPost s = v.count blockSlot 18 := by
  refine ⟨_, (State.Wrote.refl _ _).wr R.WARD_STATUS_ITEMS (s.core.ward.items.length + 1) (by simp) rfl,
    State.rd_wr_self _ _ _ (by decide), ?_⟩
  simp only [workItemPost, hw, State.workItem, hroom, if_true]

theorem exec_workItemPost {w : WorkItem} {l : List WorkItem} (hoff : s.off = false) (hw : s.core.ward.waiting = w :: l)
    (hroom : s.core.ward.items.length < 4096) :
    ∃ t, exec .workItemPost s = .next t ∧ t.core.ward.waiting = l ∧ t.core.ward.items = s.core.ward.items ++ [w] ∧
      t.rd R.WARD_STATUS_ITEMS = (s.core.ward.items.length + 1) % 2 ^ 13 ∧ s.SameBut t [R.WARD_STATUS_ITEMS] ∧ s.SameAon t ∧
      t.core.rq = s.core.rq := by
  obtain ⟨v, hv, hval, hbody⟩ := workItemPost_room (s := { s with out := [] }) hw hroom
  obtain ⟨t, ht, hcore, haon, hrd⟩ := coreCmd_next workItemPost s _ hoff hbody (hv.off.trans hoff)
  have hward : t.core.ward = _ := (congrArg (·.ward) hcore).trans (congrArg (·.ward) hv.core)
  refine ⟨t, ht, congrArg (·.waiting) hward, congrArg (·.items) hward, (hrd _).trans hval, fun f hf => (hrd f).trans (hv.rd f hf), ?_,
    (congrArg (·.rq) hcore).trans (congrArg (·.rq) hv.core)⟩
  rw [State.SameAon, haon]
  exact hv.sameAon

/-! ### Reissues -/

/-- A write that is tried again: its data is to be read anew, and it goes uncounted. -/
def Req.again (r : Req) (order : Nat) : Req :=
  { r with state := .prep, tries := r.tries + 1, counted := none, uncounted := false, staged := false, order := order, heldBy := 0,
           tdm := none, pre := .free }

/-- The state in which a write's new request gets its data: the old one is in quarantine, and the operation knows of the retry. -/
def State.retagged (s : State) (g : Nat) (r : Req) (o : Op) (n : Nat) : State :=
  ((((s.quarantine g).enterReq n (r.again s.core.rq.sendOrder)).setOp r.op { o with retried := true }).logTimeout g r (det 8 0x082)).count
    (funcSlot r.func) 8

theorem State.reissue_write {g : Nat} (hk : r.kind = .write) (hr : s.req? g = some r) (ho : s.op? r.op = some o) :
    s.reissue g r n = (s.retagged g r o n).prepReq n (r.again s.core.rq.sendOrder) := by
  have hq := State.quarantine_some hr
  have hop : ∀ x, ((s.quarantine g).enterReq n x).op? r.op = some o := fun x => by
    rw [hq]
    exact ho
  have hwrite : r.kind ≠ .copyWrite := by simp [hk]
  have hread : (r.kind == .copyRead) = false := by simp [hk]
  have hatomic : (r.kind == .atomic) = false := by simp [hk]
  simp only [State.reissue, hwrite, if_false, hread, hatomic, Bool.or_self, Bool.false_eq_true, hop]
  rfl

/-- After a write has been tried again its new tag holds a request in preparation, its old one is in quarantine, and its operation is
marked. -/
theorem State.reissue_write_spec {g : Nat} (hk : r.kind = .write) (hr : s.req? g = some r) (ho : s.op? r.op = some o)
    (hn : s.req? n = none) :
    let u := s.reissue g r n
    u.build = s.build ∧ u.aon = s.aon ∧ u.op? r.op = some { o with retried := true } ∧
      u.req? g = some { r with state := .quarantine, payload := [], staged := false } ∧
      ∃ pre, u.req? n = some { r.again s.core.rq.sendOrder with pre := pre } := by
  intro u
  have hu : u = _ := State.reissue_write hk hr ho
  have hne : g ≠ n := fun h => by simp [h, hn] at hr
  have hquiet : ((((s.setReq g { r with state := .quarantine, payload := [], staged := false }).enterReq n (r.again s.core.rq.sendOrder)).setOp
      r.op { o with retried := true })).Quiet (s.retagged g r o n) := by
    rw [State.retagged, State.quarantine_some hr]
    exact ((State.Quiet.refl _).logTimeout _ _ _).count _ _
  obtain ⟨hb, ha, hops, pre, hself, hother⟩ := State.prepReq_spec (s := s.retagged g r o n) ((hquiet.req? n).trans (State.req?_setReq_self _ _ _))
  rw [hu]
  refine ⟨hb.trans hquiet.build, ha.trans hquiet.aon, (State.op?_congr hops _).trans ((hquiet.op? _).trans (SMap.get?_put_self _ _ _)), ?_, pre, hself⟩
  exact (hother g hne).trans ((hquiet.req? g).trans ((State.req?_setReq_ne _ _ hne).trans (State.req?_setReq_self s g _)))

/-- Policy firmware tries a write again that may be, while a tag is free for it (R392). -/
theorem retryItem_write {g : TagId} (hr : s.req? g.val = some r) (hs : r.state = .firmware) (hk : r.kind = .write)
    (hdue : s.itemDue (.retry g.val) = true) (hmay : s.mayRetry r = true) (htries : r.tries < 7) (hn : s.allocTag r.queue r.func = some n) :
    retryItem g s = (s.reissue g.val r n).takeItem (.retry g.val) := by
  have htry : s.tryReissue g.val r = (s.reissue g.val r n, true) := by
    simp [State.tryReissue, hmay, Nat.not_le.mpr htries, hn, hk]
  simp [retryItem, retryReissue, hr, hs, hdue, hk, htry]

theorem exec_retryReissue_write {g : TagId} (hoff : s.off = false) (hr : s.req? g.val = some r) (hs : r.state = .firmware)
    (hk : r.kind = .write) (hdue : s.itemDue (.retry g.val) = true) (hmay : s.mayRetry r = true) (htries : r.tries < 7)
    (hn : s.allocTag r.queue r.func = some n) (ho : s.op? r.op = some o) :
    ∃ t pre, exec (.retryReissue g) s = .next t ∧ t.req? n = some { r.again s.core.rq.sendOrder with pre := pre } ∧
      t.req? g.val = some { r with state := .quarantine, payload := [], staged := false } ∧ t.op? r.op = some { o with retried := true } := by
  obtain ⟨hb, ha, hop, hg, pre, hreq⟩ := State.reissue_write_spec (s := { s with out := [] }) hk hr ho (State.req?_allocTag hn)
  obtain ⟨hb', ha', hrq⟩ := State.takeItem_spec (({ s with out := [] } : State).reissue g.val r n) (.retry g.val)
  obtain ⟨t, ht, hcore, -⟩ := coreCmd_next (retryItem g) s _ hoff
    (retryItem_write (s := { s with out := [] }) hr hs hk hdue hmay htries hn)
    ((State.off_eq_of (hb'.trans hb) (ha'.trans ha)).trans hoff)
  have hrq := (congrArg (·.rq) hcore).trans hrq
  have hreqs := State.req?_congr (congrArg (·.reqs) hrq)
  exact ⟨t, pre, ht, (hreqs n).trans hreq, (hreqs g.val).trans hg, (State.op?_congr (congrArg (·.ops) hrq) _).trans hop⟩

/-! ### Journal queries -/

/-- The request of a journal query for the atomic under tag `g`. -/
def State.queryReq (s : State) (g : Nat) (r : Req) : Req :=
  ⟨.jquery, .ready, 0, r.queue, r.func, g, 0, 0, 0, 0, 0, 0, [], 0, 0, none, false, false, r.tout, r.dline, some (r.jid.getD 0), 0, r.node,
    s.core.rq.sendOrder, ⟨0, 0, 0, 0⟩, none, 0, .free, 0⟩

theorem State.queryReq_cost (s : State) (g : Nat) (r : Req) : (s.queryReq g r).cost = 1 := by
  simp [Req.cost, State.queryReq]

/-- Policy firmware queries the journal for a timed-out atomic whose query nothing holds (R88). -/
theorem journalQuerySend_query {g : TagId} (hr : s.req? g.val = some r) (hs : r.state = .firmware)
    (hdue : s.itemDue (.atomic g.val) = true) (hnow : s.now < r.dline + 3 * r.tout * usLsb) (hhold : s.on R.GLOBAL_START_STATUS_HOLDING = false)
    (hn : s.allocTag r.queue r.func = some n) (hfree : s.reqHeld (s.queryReq g.val r) = .no) :
    journalQuerySend g s = ((((s.enterReq n (s.queryReq g.val r)).sendReq n (s.queryReq g.val r) false).takeItem (.atomic g.val)).setReq g.val
      { r with heldBy := r.heldBy + 1 }) := by
  have hquery : s.query .jquery g.val r.queue r.func r.node (r.jid.getD 0) r.dline r.tout =
      some ((s.enterReq n (s.queryReq g.val r)).sendReq n (s.queryReq g.val r) false) := by
    unfold State.queryReq at hfree ⊢
    simp only [State.query, hhold, Bool.false_eq_true, if_false, hn, hfree]
  simp only [journalQuerySend, hr, hdue, hs, ne_eq, not_true_eq_false, if_false, ge_iff_le, Nat.not_le.mpr hnow, hquery]

theorem exec_journalQuerySend_query {g : TagId} (hoff : s.off = false) (hr : s.req? g.val = some r) (hs : r.state = .firmware)
    (hdue : s.itemDue (.atomic g.val) = true) (hnow : s.now < r.dline + 3 * r.tout * usLsb) (hhold : s.on R.GLOBAL_START_STATUS_HOLDING = false)
    (hn : s.allocTag r.queue r.func = some n) (hpair : s.tdmPair r.func r.node = none) (hstrict : s.strictTo r.func r.node = false)
    (hinj : s.injOk r.func 1 = true) :
    ∃ t st tout dline, exec (.journalQuerySend g) s = .next t ∧
      t.req? n = some { s.queryReq g.val r with state := st, tout := tout, dline := dline } ∧
      t.req? g.val = some { r with heldBy := r.heldBy + 1 } := by
  have hne : n ≠ g.val := fun h => by simp [← h, State.req?_allocTag hn] at hr
  have hfree : ({ s with out := [] } : State).reqHeld (s.queryReq g.val r) = .no := State.reqHeld_no hpair hstrict (.inl rfl) (by
    rw [State.queryReq_cost]
    exact hinj)
  have henter : ({ s with out := [] } : State).Sends (({ s with out := [] } : State).enterReq n (s.queryReq g.val r)) := ⟨rfl, rfl, rfl⟩
  obtain ⟨hsends, st, tout, dline, -, hreq, -⟩ := State.sendReq_uncounted (n := n)
    (s := ({ s with out := [] } : State).enterReq n (s.queryReq g.val r)) (r := s.queryReq g.val r) rfl hpair
  obtain ⟨hb, ha, hrq⟩ := State.takeItem_spec
    ((({ s with out := [] } : State).enterReq n (s.queryReq g.val r)).sendReq n (s.queryReq g.val r) false) (.atomic g.val)
  obtain ⟨t, ht, hcore, -⟩ := coreCmd_next (journalQuerySend g) s _ hoff
    (journalQuerySend_query (s := { s with out := [] }) hr hs hdue hnow hhold hn hfree)
    ((State.off_eq_of (hb.trans (henter.trans hsends).build) (ha.trans (henter.trans hsends).aon)).trans hoff)
  have hreqs := State.req?_congr (congrArg (·.rq.reqs) hcore)
  have hsent := (State.req?_congr (congrArg (·.reqs) hrq) n).trans hreq
  exact ⟨t, st, tout, dline, ht, (hreqs n).trans ((State.req?_setReq_ne _ _ hne).trans hsent),
    (hreqs g.val).trans (State.req?_setReq_self _ _ _)⟩

/-! ### Answers of the journal -/

/-- An operation whose atomic was performed, with the granule's old value (R81, R88). -/
def Op.found (o : Op) (old : Nat) : Op :=
  { o with
    result := old % 2 ^ (8 * atypeBytes (dAtype o.desc)),
    ieee := (atomicNew (dAop o.desc) (dAtype o.desc) (old % 2 ^ (8 * atypeBytes (dAtype o.desc))) (dOperand o.desc) (dCompare o.desc)).2 }

/-- A FOUND answer to query `n` for the atomic under tag `g`: the query's tag is free, the atomic's in quarantine, and the operation has its
result. -/
def State.foundFor (s : State) (n g : Nat) (r : Req) (o : Op) (old : Nat) : State :=
  (((((s.freeTag n).count (funcSlot r.func) 6).logTimeout g r 0).quarantine g).setOp r.op (o.found old)).opPacket r 0 0

theorem State.foundFor_spec {g : Nat} (hne : g ≠ n) (hr : s.req? g = some r) (old : Nat) :
    let u := s.foundFor n g r o old
    u.build = s.build ∧ u.aon = s.aon ∧ u.req? n = none ∧ u.req? g = some { r with state := .quarantine, payload := [], staged := false } ∧
      u.op? r.op = some ((o.found old).afterPacket r 0 0) := by
  intro u
  obtain ⟨hfree, reqs, work, hw⟩ := s.freeTag_spec n
  obtain ⟨v, hq, hu⟩ : ∃ v, (s.freeTag n).Quiet v ∧ u = ((v.quarantine g).setOp r.op (o.found old)).opPacket r 0 0 :=
    ⟨_, ((State.Quiet.refl (s.freeTag n)).count (funcSlot r.func) 6).logTimeout g r 0, rfl⟩
  have hg := (hq.req? g).trans ((s.freeTag_req?_ne hne).trans hr)
  rw [State.quarantine_some hg, State.opPacket_some (State.op?_of_put rfl)] at hu
  have hcore := congrArg State.core hu
  have hreqs : ∀ k, u.req? k = (v.setReq g { r with state := .quarantine, payload := [], staged := false }).req? k :=
    State.req?_congr (congrArg (·.rq.reqs) hcore)
  refine ⟨?_, ?_, ?_, ?_, State.op?_of_put (congrArg (·.rq.ops) hcore)⟩
  · exact (congrArg State.build hu).trans (hq.build.trans (by rw [hw]))
  · exact (congrArg State.aon hu).trans (hq.aon.trans (by rw [hw]))
  · rw [hreqs, State.req?_setReq_ne _ _ hne.symm, hq.req?, hfree]
  · rw [hreqs, State.req?_setReq_self]

theorem exec_janswerReceive_found {i : InPkt} {rest : List InPkt} {x : Req} (hoff : s.off = false)
    (htake : takeFirst (fun i => i.pkt.cls == 3 && i.pkt.type == 3 && true) s.core.resp.inbox = some (i, rest))
    (hx : s.req? i.pkt.tag = some x) (hkx : x.kind = .jquery) (hsx : x.state = .sent) (htdm : x.tdm = none) (hne : x.pkt ≠ i.pkt.tag)
    (hr : s.req? x.pkt = some r) (hs : r.state = .firmware) (ho : s.op? r.op = some o) (hst : i.pkt.rspStatus = 0)
    (hans : i.pkt.fld 0x13 0 2 = 0) :
    ∃ t, exec .janswerReceive s = .next t ∧ t.req? i.pkt.tag = none ∧
      t.req? x.pkt = some { r with state := .quarantine, payload := [], staged := false } ∧
      t.op? r.op = some ((o.found (i.pkt.fld 0x20 0 128)).afterPacket r 0 0) := by
  have hfound : ∀ v, (s.taken rest).Quiet v → _ := fun v hv =>
    State.foundFor_spec (s := v) (o := o) hne ((hv.req? _).trans hr) (i.pkt.fld 0x20 0 128)
  obtain ⟨t, v, ht, hv, hcore⟩ := exec_rsp_sent (c := .janswerReceive) rfl hoff htake hx hsx
    (fun v => v.foundFor i.pkt.tag x.pkt r o (i.pkt.fld 0x20 0 128)) fun v hv => by
      obtain ⟨hb, ha, -⟩ := hfound v hv
      have hreq : (v.freeTag i.pkt.tag).req? x.pkt = some r := (State.freeTag_req?_ne _ hne).trans ((hv.req? _).trans hr)
      have hop : ((((v.freeTag i.pkt.tag).count (funcSlot r.func) 6).logTimeout x.pkt r 0).quarantine x.pkt).op? r.op = some o := by
        rw [State.quarantine_op?, (((State.Quiet.refl _).count _ _).logTimeout _ _ _).op?, State.freeTag_op?, hv.op?]
        exact ho
      refine ⟨?_, hb, ha⟩
      simp only [hkx, State.tdmDone, htdm, hreq, hs, hst, hans, hop]
      rfl
  obtain ⟨-, -, hfree, hg, hop⟩ := hfound v hv
  have hreqs := State.req?_congr (congrArg (·.rq.reqs) hcore)
  exact ⟨t, ht, (hreqs _).trans hfree, (hreqs _).trans hg, (State.op?_congr (congrArg (·.rq.ops) hcore) _).trans hop⟩

end

/-- Settles O22: a work item that waited, the reissue of a write, the query for an atomic, and the answer that its entry was found. -/
theorem firmwareWork : Obligations.FirmwareWork := by
  intro s hoff
  refine ⟨fun w l hw hroom => exec_workItemPost hoff hw hroom, fun g r o n hr hs hk hdue hmay htries hn ho => ?_,
    fun g r n hr hs hk hdue hnow hhold hn hpair hstrict hinj => ?_, fun i rest x r o htake hx hkx hsx htdm hne hr hs ho hst hans => ?_⟩
  · obtain ⟨t, pre, ht, hreq, hg, hop⟩ := exec_retryReissue_write hoff hr hs hk hdue hmay htries hn ho
    exact ⟨t, _, _, _, ht, hreq, hk, rfl, rfl, rfl, hg, rfl, hop, rfl, rfl⟩
  · obtain ⟨t, st, tout, dline, ht, hreq, hg⟩ := exec_journalQuerySend_query hoff hr hs hdue hnow hhold hn hpair hstrict hinj
    exact ⟨t, _, ht, hreq, rfl, rfl, rfl, hg⟩
  · obtain ⟨t, ht, hfree, hg, hop⟩ := exec_janswerReceive_found hoff htake hx hkx hsx htdm hne hr hs ho hst hans
    exact ⟨t, _, _, ht, hfree, hg, rfl, hop, rfl⟩

end Sys2Proof.Machine

namespace Sys2Proof.Machine

/-! ## SIGNAL (R91, R97) -/

section
variable {s t : State} {q n id : Nat} {h : Head} {rs : List Range} {o : Op}

/-! ### What a SIGNAL covers -/

theorem State.SameRoutes.inScope (g : s.SameRoutes t) (scope node : Nat) : t.inScope scope node = s.inScope scope node := by
  simp only [State.inScope, g.self, g.rd R.ROUTE_POD_PX_LOG2 (by decide), g.rd R.ROUTE_POD_PY_LOG2 (by decide),
    g.rd R.ROUTE_POD_PZ_LOG2 (by decide)]

/-- A descriptor that issues leaves its queue's other unfinished writes as they are (R96). -/
theorem State.Issued.writesOf_other (i : s.Issued t q h rs) {x : Nat × Op} (hx : x.1 ≠ s.core.nextId) :
    x ∈ t.writesOf q ↔ x ∈ s.writesOf q := by
  have hops : t.core.rq.ops = SMap.put s.core.rq.ops s.core.nextId (s.headOp q h) := congrArg (·.rq.ops) i.core
  simp only [State.writesOf, hops, List.mem_filter]
  refine and_congr_left fun _ => ⟨fun hm => ?_, fun hm => SMap.mem_put_of_ne _ hm hx⟩
  exact (SMap.mem_put _ _ _ x hm).resolve_left fun heq => hx (congrArg Prod.fst heq)

/-- The writes that a SIGNAL covers: unfinished writes of its queue within its scope that no SIGNAL covers (R97). -/
def State.coveredBy (s : State) (id : Nat) (o : Op) : List (Nat × Op) :=
  (s.writesOf o.queue).filter (fun p => p.1 != id && !p.2.covered && s.inScope (dSigScope o.desc) (opNode p.2.desc))

theorem State.mem_coveredBy {x : Nat × Op} : x ∈ s.coveredBy id o ↔
    x ∈ s.writesOf o.queue ∧ x.1 ≠ id ∧ x.2.covered = false ∧ s.inScope (dSigScope o.desc) (opNode x.2.desc) = true := by
  simp [State.coveredBy, List.mem_filter, and_assoc]

/-- Operations that change leave the ring as it is. -/
theorem State.Left.setOps (l : s.Left t q h) (g : Op → Op) (ws : List (Nat × Op)) :
    s.Left (ws.foldl (fun s p => s.setOp p.1 (g p.2)) t) q h := by
  induction ws generalizing t with
  | nil => exact l
  | cons x ws ih => exact ih (l.setOp x.1 (g x.2))

/-- A SIGNAL that waits for the operations of `ids`, and knows whether a write it covers has failed. -/
def Op.covering (o : Op) (ids : List Nat) (failed : Bool) : Op := { o with waitsFor := ids, failedCover := failed }

/-- The state in which the writes that a SIGNAL covers are marked, and its queue's failures within its scope forgotten. -/
def State.markCovered (s : State) (id : Nat) (o : Op) : State :=
  (s.coveredBy id o).foldl (fun s p => s.setOp p.1 { p.2 with covered := true })
    (s.modQs o.queue (fun x => { x with failed := x.failed.filter (fun n => !s.inScope (dSigScope o.desc) n) }))

theorem State.cover_eq (s : State) (id : Nat) (o : Op) : s.cover id o = (s.markCovered id o).setOp id
    (o.covering ((s.coveredBy id o).map (·.1)) ((s.qs o.queue).failed.any ((s.markCovered id o).inScope (dSigScope o.desc)))) := rfl

/-- A SIGNAL that issues notes what it covers. -/
theorem State.Issued.cover (i : s.Issued t q h rs) :
    s.Left (t.cover s.core.nextId (s.headOp q h)) q h ∧ ∃ b, (t.cover s.core.nextId (s.headOp q h)).op? s.core.nextId =
      some ((s.headOp q h).covering ((t.coveredBy s.core.nextId (s.headOp q h)).map (·.1)) b) := by
  have l : s.Left (t.modQs q (fun x => { x with failed := x.failed.filter (fun n => !t.inScope (dSigScope h.desc) n) })) q h :=
    i.left.step rfl rfl rfl (by
      rw [State.qs_modQs]
      exact i.left.head)
  have l : s.Left (t.markCovered s.core.nextId (s.headOp q h)) q h := l.setOps (fun p => { p with covered := true }) _
  rw [State.cover_eq]
  exact ⟨l.setOp _ _, _, SMap.get?_put_self _ _ _⟩

/-- A SIGNAL that nothing holds issues and covers (R97). -/
theorem issueSignal_ok {q : QueueId} (hr : s.ready q.val 0x07 (fun _ => []) = .ok h) (hh : s.held q.val h [] = false)
    (hhold : s.on R.GLOBAL_START_STATUS_HOLDING = false) (hroute : s.issueRoute (s.qFunc q.val) [ptrNode (dSrcPtr h.desc)] = none) :
    ∃ v, s.Issued v q.val h [] ∧ issueSignal q s = v.cover s.core.nextId (s.headOp q.val h) := by
  have he : ((decide (0x07 ≤ 3) || 0x07 == 5) && dLength h.desc == 0) = false := rfl
  obtain ⟨hid, i⟩ := s.issue_issued q.val h []
  refine ⟨_, i, ?_⟩
  have hroute := (i.issueRoute (s.rd_lt _) [ptrNode (dSrcPtr h.desc)]).trans hroute
  have hop := i.op?
  rw [← hid] at hop ⊢
  simp only [issueSignal, State.issueRemote, hr, he, hh, hhold, Bool.false_eq_true, if_false, and_false, or_self, hroute, hop]

theorem exec_signal_covers {q : QueueId} (hoff : s.off = false) (hhold : s.on R.GLOBAL_START_STATUS_HOLDING = false)
    (hr : s.ready q.val 0x07 (fun _ => []) = .ok h) (hh : s.held q.val h [] = false)
    (hroute : s.issueRoute (s.qFunc q.val) [ptrNode (dSrcPtr h.desc)] = none) :
    ∃ t o, exec (.signal q) s = .next t ∧ s.Left t q.val h ∧ t.op? s.core.nextId = some o ∧ o.desc = h.desc ∧
      ∀ i, i ∈ o.waitsFor ↔ ∃ x ∈ s.writesOf q.val, x.1 = i ∧ x.1 ≠ s.core.nextId ∧ x.2.covered = false ∧
        s.inScope (dSigScope h.desc) (opNode x.2.desc) = true := by
  have hr' := (State.ready_out s [] q.val 0x07 (fun _ => [])).trans hr
  obtain ⟨v, i, hbody⟩ := issueSignal_ok (s := { s with out := [] }) hr' hh hhold hroute
  obtain ⟨l, b, hop⟩ := i.cover
  obtain ⟨t, ht, l, hcore⟩ := l.answer (body := issueSignal q) hoff hbody
  refine ⟨t, _, ht, l, (State.op?_congr (congrArg (·.rq.ops) hcore) _).trans hop, rfl, fun k => ?_⟩
  simp only [Op.covering, List.mem_map, State.mem_coveredBy]
  constructor
  · rintro ⟨x, ⟨hx, hne, hcx, hsx⟩, rfl⟩
    exact ⟨x, (i.writesOf_other hne).mp hx, rfl, hne, hcx, (i.sameRoutes.inScope _ _).symm.trans hsx⟩
  · rintro ⟨x, hx, rfl, hne, hcx, hsx⟩
    exact ⟨x, ⟨(i.writesOf_other hne).mpr hx, hne, hcx, (i.sameRoutes.inScope _ _).trans hsx⟩, rfl⟩

/-! ### Sending the addition -/

/-- The rate cache holds no request to a node that it does not list (R294, R295). -/
theorem State.rateOk_unlisted {f node : Nat} (h : s.rateEntry f node = none) (k : Nat) : s.rateOk f node k = true := by
  simp only [State.rateOk, h]

/-- The operations that SIGNAL_SEND looks for: SIGNALs of the queue that wait for nothing and have not been sent. -/
def signalDue (q : Nat) (p : Nat × Op) : Bool :=
  p.2.queue == q && dOpcode p.2.desc == 0x07 && p.2.done.isNone && p.2.pkts == 0 && p.2.waitsFor == []

theorem signalDue_find {q : Nat} (h : s.core.rq.ops.find? (signalDue q) = some (id, o)) : o.queue = q ∧ o.done = none := by
  have := List.find?_some h
  simp only [signalDue, Bool.and_eq_true, beq_iff_eq, Option.isNone_iff_eq_none] at this
  obtain ⟨⟨⟨⟨hq, -⟩, hd⟩, -⟩, -⟩ := this
  exact ⟨hq, hd⟩

/-- A SIGNAL that covers a failed write ends with ABORTED (R97). -/
theorem signalSend_failed {q : QueueId} (hf : s.fatal = false) (hfind : s.core.rq.ops.find? (signalDue q.val) = some (id, o))
    (hfail : o.failedCover = true) : signalSend q s = s.endOp id 0x12 (det 3 0x020) 0 0 := by
  unfold signalDue at hfind
  simp only [signalSend, hfind, hf, Bool.false_eq_true, if_false, hfail, if_true]

/-- The request of a SIGNAL's addition. -/
def State.signalReq (s : State) (id : Nat) (o : Op) : Req :=
  { newReq .signal .ready id o 0 s.core.rq.sendOrder with ptr := dSrcPtr o.desc, node := ptrNode (dSrcPtr o.desc) }

/-- The state in which a SIGNAL's request leaves. -/
def State.signalEntered (s : State) (id : Nat) (o : Op) (n : Nat) : State :=
  (s.setOp id { o with pkts := 1, open_ := 1, cutDone := true }).enterReq n (s.signalReq id o)

/-- A SIGNAL whose writes have completed, and that nothing holds, sends its addition (R97). -/
theorem signalSend_sends {q : QueueId} (hf : s.fatal = false) (hhold : s.on R.GLOBAL_START_STATUS_HOLDING = false)
    (hfind : s.core.rq.ops.find? (signalDue q.val) = some (id, o)) (hfail : o.failedCover = false) (hn : s.allocTag o.queue o.func = some n)
    (hfree : s.reqHeld (s.signalReq id o) = .no) :
    signalSend q s = (s.signalEntered id o n).sendReq n (s.signalReq id o) false := by
  unfold signalDue at hfind
  unfold State.signalEntered State.signalReq at *
  simp only [signalSend, hfind, hf, hhold, Bool.false_eq_true, if_false, hfail, hn, hfree]

theorem State.signalReq_cost (s : State) (id : Nat) (o : Op) : (s.signalReq id o).cost = 1 := by
  simp [Req.cost, State.signalReq, newReq]

end

/-- Settles O18: a SIGNAL issues and covers, ends with ABORTED after a failed write, or sends its addition. -/
theorem signalCoversAndSends : Obligations.SignalCoversAndSends := by
  intro s q hoff hf
  refine ⟨fun h hhold hr hh hroute => ?_, fun id o hfind ho hfail => ?_, fun id o n hhold hfind hfail hn hpair hstrict hrate hinj => ?_⟩
  · obtain ⟨t, o, ht, l, hop, hdesc, hcov⟩ := exec_signal_covers hoff hhold hr hh hroute
    refine ⟨t, o, ht, hop, hdesc, fun i hi => ?_, fun x hx hne hcx hsx => (hcov _).mpr ⟨x, hx, rfl, hne, hcx, hsx⟩, l.count, l.aon,
      congrArg (·.resp) l.core, congrArg (·.win) l.core⟩
    obtain ⟨x, hx, rfl, -, hcx, -⟩ := (hcov i).mp hi
    exact ⟨x, hx, rfl, hcx⟩
  · obtain ⟨hq, hd⟩ := signalDue_find hfind
    have g := State.endOp_recorded (s := { s with out := [] }) (status := 0x12) (detail := det 3 0x020) (result := 0) (stamp := 0) ho hd
      (fun h0 => absurd h0 (by decide))
    obtain ⟨t, ht, hcore, -⟩ := coreCmd_next (signalSend q) s _ hoff (signalSend_failed (s := { s with out := [] }) hf hfind hfail)
      ((State.off_eq_of g.build g.aon).trans hoff)
    rw [hq] at g
    refine ⟨t, o.record id 0x12 (det 3 0x020) 0 0, ht, ?_, rfl, rfl⟩
    rw [State.qs_congr (congrArg (·.rq.queues) hcore), g.qs]
    rfl
  · have hfree : ({ s with out := [] } : State).reqHeld (s.signalReq id o) = .no := State.reqHeld_no hpair hstrict
      (.inr (State.rateOk_unlisted hrate _)) (by
        rw [State.signalReq_cost]
        exact hinj)
    obtain ⟨hsends, st, tout, dline, hst, hreq, -⟩ := State.sendReq_uncounted (n := n) (s := ({ s with out := [] } : State).signalEntered id o n)
      (r := s.signalReq id o) rfl hpair
    obtain ⟨t, ht, hcore, -⟩ := coreCmd_next (signalSend q) s _ hoff
      (signalSend_sends (s := { s with out := [] }) hf hhold hfind hfail hn hfree) ((State.off_eq_of hsends.build hsends.aon).trans hoff)
    exact ⟨t, _, _, ht, (State.op?_congr (congrArg (·.rq.ops) hcore) _).trans ((hsends.op? _).trans (SMap.get?_put_self _ _ _)), rfl,
      (State.req?_congr (congrArg (·.rq.reqs) hcore) _).trans hreq, rfl, rfl, rfl, hst⟩

end Sys2Proof.Machine

namespace Sys2Proof.Machine

/-! ## The window table and its free list (R106, R109) -/

section
variable {s t u v : State} {q : Nat} {h : Head}

@[simp] theorem State.win_setWin_self (s : State) (w : Nat) (x : Window) : (s.setWin w x).win w = x := SMap.getD_putD_self _ _ _ _

theorem State.win_setWin_ne (s : State) {w k : Nat} (x : Window) (hk : k ≠ w) : (s.setWin w x).win k = s.win k :=
  SMap.getD_putD_ne _ _ _ _ _ _ hk

theorem State.win_congr (h : t.core.win.table = s.core.win.table) (w : Nat) : t.win w = s.win w := by
  rw [State.win, h, State.win]

/-- The head of the free list leaves it; the entries stay. -/
theorem Windows.take_table {x rest : Windows} {w : Nat} (h : x.take = some (w, rest)) : rest.table = x.table := by
  unfold Windows.take at h
  split at h
  · simp only [Option.some.injEq, Prod.mk.injEq] at h
    rw [← h.2]
  · split at h
    · simp at h
    · simp only [Option.some.injEq, Prod.mk.injEq] at h
      rw [← h.2]

/-- With an ID at its tail the free list is not empty. -/
theorem Windows.take_freed (table : SMap Window) (fresh : Nat) (l : List Nat) (w : Nat) :
    (⟨table, fresh, l ++ [w]⟩ : Windows).take.isNone = false := by
  unfold Windows.take
  cases l <;> dsimp only [List.nil_append, List.cons_append] <;> split <;> rfl

/-! ## WINDOW_OPs at the head of a queue (R64, R108) -/

theorem State.readyWin_out (s : State) (o : List Output) (q sub : Nat) :
    ({ s with out := o } : State).readyWin q sub = s.readyWin q sub := by
  rw [State.readyWin, State.ready_out, State.readyWin]

theorem State.qFunc_lt (s : State) (q : Nat) : s.qFunc q < 64 := s.rd_lt _

/-- The reasons that refuse an OPEN come out as before the issue. -/
theorem State.Issued.openRefusal (i : s.Issued t q h []) {f : Nat} (hf : f < 64) (d : BitVec 1024) :
    t.openRefusal f d = s.openRefusal f d := by
  have hwin : t.core.win = s.core.win := congrArg (·.win) i.core
  have hused : t.rd (R.WINDOW_USED_COUNT f) = s.rd (R.WINDOW_USED_COUNT f) :=
    i.rd_below (.inl (by simp only [R.WINDOW_USED_COUNT]; omega))
  have hquota : t.rd (R.WINDOW_QUOTA_MAX f) = s.rd (R.WINDOW_QUOTA_MAX f) :=
    i.rd_below (.inl (by simp only [R.WINDOW_QUOTA_MAX]; omega))
  simp only [State.openRefusal, hwin, hused, hquota]

/-- The rows of R116 come out as before the issue. -/
theorem State.Issued.aliasRefusal (i : s.Issued t q h []) (f : Nat) (x : Window) (target : Nat) :
    t.aliasRefusal f x target = s.aliasRefusal f x target := by
  simp only [State.aliasRefusal, i.sameRoutes.extent]

theorem State.Issued.win (i : s.Issued t q h []) (w : Nat) : t.win w = s.win w :=
  State.win_congr (congrArg (·.win.table) i.core) w

/-- A WINDOW_OP that is refused completes with a record and changes no window. -/
theorem State.Issued.exec_refused {c : Instr} {body : State → State} {id status detail : Nat} (hoff : s.off = false)
    (hexec : exec c s = coreCmd body s) (i : ({ s with out := [] } : State).Issued v q h []) (hid : id = s.core.nextId)
    (hb : body { s with out := [] } = v.endOp id status detail 0 0) (hst : status ≠ 0) :
    ∃ t r, exec c s = .next t ∧ t.core.win = s.core.win ∧ (t.qs q).records = (s.qs q).records ++ [r] ∧ r.status = status ∧
      r.detail = detail ∧ t.aon = s.aon := by
  subst hid
  obtain ⟨t, ht, g⟩ := State.Completed.exec hoff hexec hb (i.endOp fun h0 => absurd h0 hst)
  exact ⟨t, _, ht, congrArg (·.win) g.core, g.records, rfl, rfl, g.aon⟩

end

/-! ## OPEN (R108-R110) -/

section
variable {s t u v : State} {q : QueueId} {h : Head}

/-- The entry an OPEN writes. -/
def openedWindow (d : BitVec 1024) (f gen : Nat) : Window :=
  { Window.empty with base := dWinBase d, size := dWinSize d, gen := gen, ksel := dWinKey d, perm := dWinPerm d,
                      func := f, state := .opened, sigwin := dWinPerm d == 8 }

/-- The state with an entry written for an ID that has left the free list, and counted for its function. -/
def State.withWindow (s : State) (rest : Windows) (w : Nat) (x : Window) (f : Nat) : State :=
  ((({ s with core.win := rest } : State).setWin w x).noFree).winUsed f true

/-- The registers that count windows. -/
def windowCounts (f : Nat) : List Fld := [R.WINDOW_STATUS_NO_FREE, R.WINDOW_USED_COUNT f, R.WINDOW_STATUS_IN_USE]

theorem State.noFree_wrote (s : State) : s.Wrote s.noFree [R.WINDOW_STATUS_NO_FREE] :=
  (State.Wrote.refl _ _).wr _ _ (by simp) rfl

theorem State.winUsed_up (s : State) (f : Nat) : s.winUsed f true =
    (s.wr (R.WINDOW_USED_COUNT f) (s.rd (R.WINDOW_USED_COUNT f) + 1)).wr R.WINDOW_STATUS_IN_USE (s.rd R.WINDOW_STATUS_IN_USE + 1) := rfl

/-- The counts of windows lie in registers of their own, beside NO_FREE. -/
theorem windowCounts_apart (f : Nat) : R.WINDOW_STATUS_NO_FREE.apart (R.WINDOW_USED_COUNT f) ∧
    R.WINDOW_STATUS_NO_FREE.apart R.WINDOW_STATUS_IN_USE ∧ R.WINDOW_STATUS_IN_USE.apart (R.WINDOW_USED_COUNT f) := by
  refine ⟨.inr (.inl ?_), .inr (.inr (.inr (by decide))), .inr (.inl ?_)⟩ <;>
    · simp only [R.WINDOW_USED_COUNT, R.WINDOW_STATUS_NO_FREE, R.WINDOW_STATUS_IN_USE]
      omega

theorem State.withWindow_wrote (s : State) (rest : Windows) (w : Nat) (x : Window) (f : Nat) :
    (({ s with core.win := rest } : State).setWin w x).Wrote (s.withWindow rest w x f) (windowCounts f) :=
  (((State.noFree_wrote _).mono (by simp [windowCounts])).wr (R.WINDOW_USED_COUNT f) _ (by simp [windowCounts]) rfl).wr
    R.WINDOW_STATUS_IN_USE _ (by simp [windowCounts]) rfl

/-- One window more is in use, and is its function's (R109). -/
theorem State.withWindow_counts (s : State) (rest : Windows) (w : Nat) (x : Window) (f : Nat) :
    (s.withWindow rest w x f).rd (R.WINDOW_USED_COUNT f) = (s.rd (R.WINDOW_USED_COUNT f) + 1) % 2 ^ 17 ∧
      (s.withWindow rest w x f).rd R.WINDOW_STATUS_IN_USE = (s.rd R.WINDOW_STATUS_IN_USE + 1) % 2 ^ 17 := by
  obtain ⟨hfree, hfree', hin⟩ := windowCounts_apart f
  have hno : ∀ g : Fld, R.WINDOW_STATUS_NO_FREE.apart g → (({ s with core.win := rest } : State).setWin w x).noFree.rd g = s.rd g :=
    fun g hg => State.rd_wr_ne _ _ _ _ hg
  rw [State.withWindow, State.winUsed_up, hno _ hfree, hno _ hfree']
  exact ⟨(State.rd_wr_ne _ _ _ _ hin).trans (State.rd_wr_self _ _ _ (Nat.le_of_ble_eq_true rfl)), State.rd_wr_self _ _ _ (by decide)⟩

theorem State.withWindow_win (s : State) {rest : Windows} {w : Nat} (x : Window) (f : Nat) (htake : s.core.win.take = some (w, rest)) :
    (s.withWindow rest w x f).win w = x ∧ (∀ k, k ≠ w → (s.withWindow rest w x f).win k = s.win k) ∧
      (s.withWindow rest w x f).core.win.freed = rest.freed := by
  have hwin : (s.withWindow rest w x f).core.win = (({ s with core.win := rest } : State).setWin w x).core.win :=
    congrArg (·.win) (s.withWindow_wrote rest w x f).core
  refine ⟨(State.win_congr (congrArg (·.table) hwin) w).trans (State.win_setWin_self _ _ _), fun k hk => ?_, congrArg (·.freed) hwin⟩
  exact (State.win_congr (congrArg (·.table) hwin) k).trans ((State.win_setWin_ne _ _ hk).trans (State.win_congr (Windows.take_table htake) k))

/-- `u` is `s` after an OPEN of a queue's descriptor has written an entry for a function (R109). -/
structure State.Opened (s u : State) (q w : Nat) (rest : Windows) (x : Window) (f : Nat) (r : Record) : Prop where
  build : u.build = s.build
  aon : u.aon = s.aon
  self : u.win w = x
  others : ∀ k, k ≠ w → u.win k = s.win k
  freed : u.core.win.freed = rest.freed
  used : u.rd (R.WINDOW_USED_COUNT f) = (s.rd (R.WINDOW_USED_COUNT f) + 1) % 2 ^ 17
  inUse : u.rd R.WINDOW_STATUS_IN_USE = (s.rd R.WINDOW_STATUS_IN_USE + 1) % 2 ^ 17
  records : (u.qs q).records = (s.qs q).records ++ [r]
  core : u.core = { s.core with
    regs := u.core.regs, nextId := u.core.nextId, work := u.core.work, trace := u.core.trace, cnt := u.core.cnt, rq := u.core.rq,
    win := u.core.win }

/-- Once its descriptor has left the ring, the OPEN's entry is written and counted, and its record waits. -/
theorem State.Issued.opened {q w f result : Nat} {rest : Windows} (i : s.Issued v q h []) (htake : s.core.win.take = some (w, rest))
    (hf : f < 64) (hcqe : dCqe h.desc = true) (x : Window) :
    s.Opened ((v.withWindow rest w x f).endOp s.core.nextId 0 0 result 0) q w rest x f
      ((s.headOp q h).record s.core.nextId 0 0 result 0) := by
  have hvwin : v.core.win = s.core.win := congrArg (·.win) i.core
  have hw := v.withWindow_wrote rest w x f
  obtain ⟨hself, hne, hfreed⟩ := v.withWindow_win x f (hvwin ▸ htake)
  obtain ⟨hused, hin⟩ := v.withWindow_counts rest w x f
  have hop : (v.withWindow rest w x f).op? s.core.nextId = some (s.headOp q h) :=
    (State.op?_congr (congrArg (·.rq.ops) hw.core) _).trans i.op?
  have hqs : (v.withWindow rest w x f).qs q = v.qs q := State.qs_congr (congrArg (·.rq.queues) hw.core) q
  generalize v.withWindow rest w x f = y at *
  have g : y.Recorded (y.endOp s.core.nextId 0 0 result 0) q _ := State.endOp_recorded hop rfl fun _ => hcqe
  generalize y.endOp s.core.nextId 0 0 result 0 = u at *
  have hwin : ∀ k, u.win k = y.win k := State.win_congr (congrArg (·.win.table) g.core)
  have hrd : ∀ f, u.rd f = y.rd f := fun f =>
    State.rd_congr _ _ f g.build (congrArg (·.regs) g.aon) (congrArg (·.regs) g.core)
  exact
    { build := g.build.trans (hw.build.trans i.build)
      aon := g.aon.trans (hw.aon.trans i.aon)
      self := (hwin w).trans hself
      others := fun k hk => (hwin k).trans ((hne k hk).trans (i.win k))
      freed := (congrArg (·.win.freed) g.core).trans hfreed
      used := (hrd _).trans (hused.trans (by rw [i.rd_below (.inl (by simp only [R.WINDOW_USED_COUNT]; omega))]))
      inUse := (hrd _).trans (hin.trans (by rw [i.rd_below (.inl (by decide))]))
      records := by rw [g.qs, hqs, i.qs]
      core := by
        have hv : v.core = _ := i.core
        rw [g.core, hw.core, State.setWin, hv] }

/-- The pointer to the start of a window (R104, R109). -/
def State.startPtr (s : State) (w gen : Nat) : Nat := pack [(52, 8, gen), (60, 16, w), (76, 20, s.self)]

/-- An OPEN that nothing refuses takes the ID at the head of the free list. -/
theorem windowOpen_opened {w : Nat} {rest : Windows} (hr : s.readyWin q.val 0 = .ok h) (hh : s.held q.val h [] = false)
    (hcqe : dCqe h.desc = true) (href : s.openRefusal (s.qFunc q.val) h.desc = none) (htake : s.core.win.take = some (w, rest)) :
    s.Opened (windowOpen q s) q.val w rest (openedWindow h.desc (s.qFunc q.val) ((s.win w).gen % 255 + 1)) (s.qFunc q.val)
      ((s.headOp q.val h).record s.core.nextId 0 0 (s.startPtr w ((s.win w).gen % 255 + 1)) 0) := by
  obtain ⟨hid, i⟩ := s.issue_issued q.val h []
  have hbody : windowOpen q s = ((s.issue q.val h []).2.withWindow rest w
      (openedWindow h.desc (s.qFunc q.val) ((s.win w).gen % 255 + 1)) (s.qFunc q.val)).endOp s.core.nextId 0 0
        (s.startPtr w ((s.win w).gen % 255 + 1)) 0 := by
    have href' := (i.openRefusal (s.qFunc_lt q.val) h.desc).trans href
    have htake' : (s.issue q.val h []).2.core.win.take = some (w, rest) := by
      rw [show (s.issue q.val h []).2.core.win = s.core.win from congrArg (·.win) i.core, htake]
    rw [← hid, ← i.win w, State.startPtr, ← i.sameRoutes.self]
    simp only [windowOpen, hr, hh, Bool.false_eq_true, if_false, href', htake']
    rfl
  rw [hbody]
  exact i.opened htake (s.qFunc_lt q.val) hcqe _

/-- An OPEN that R108 or R110 refuses ends at issue. -/
theorem windowOpen_refused {c : Nat} (hr : s.readyWin q.val 0 = .ok h) (hh : s.held q.val h [] = false)
    (href : s.openRefusal (s.qFunc q.val) h.desc = some c) :
    ∃ v, s.Issued v q.val h [] ∧ windowOpen q s = v.endOp s.core.nextId 0x05 (det 3 c) 0 0 := by
  obtain ⟨hid, i⟩ := s.issue_issued q.val h []
  refine ⟨_, i, ?_⟩
  rw [← hid]
  simp only [windowOpen, hr, hh, Bool.false_eq_true, if_false, i.openRefusal (s.qFunc_lt q.val), href]

end

/-- Settles O26: an OPEN writes the entry of the ID at the head of the free list and counts it, or is refused. -/
theorem windowsOpen : Obligations.WindowsOpen := by
  intro s q h hoff hr hh hcqe
  have hr' := (State.readyWin_out s [] q.val 0).trans hr
  refine ⟨fun w rest href htake => ?_, fun c href => ?_⟩
  · have g := windowOpen_opened (s := { s with out := [] }) hr' hh hcqe href htake
    obtain ⟨t, ht, hcore, haon, hrd⟩ := coreCmd_next (windowOpen q) s _ hoff rfl ((State.off_eq_of g.build g.aon).trans hoff)
    have hwin : ∀ k, t.win k = _ := State.win_congr (congrArg (·.win.table) hcore)
    have hself : t.win w = openedWindow h.desc (s.qFunc q.val) ((s.win w).gen % 255 + 1) := (hwin w).trans g.self
    have hc := hcore.trans g.core
    exact ⟨t, _, ht, congrArg (·.state) hself, congrArg (·.base) hself, congrArg (·.size) hself, congrArg (·.gen) hself,
      congrArg (·.perm) hself, congrArg (·.ksel) hself, congrArg (·.func) hself, congrArg (·.accepted) hself,
      fun k hk => (hwin k).trans (g.others k hk), (hrd _).trans g.used,
      (hrd _).trans g.inUse, (congrArg (·.win.freed) hcore).trans g.freed,
      (congrArg QState.records (State.qs_congr (congrArg (·.rq.queues) hcore) q.val)).trans g.records, rfl, rfl,
      haon.trans g.aon, congrArg (·.xl) hc, congrArg (·.resp) hc, congrArg (·.mem) hc, congrArg (·.router) hc⟩
  · obtain ⟨v, i, hbody⟩ := windowOpen_refused (s := { s with out := [] }) hr' hh href
    exact i.exec_refused hoff rfl rfl hbody (by decide)

end Sys2Proof.Machine

namespace Sys2Proof.Machine

/-! ## What the end of an operation leaves (R44, R47, R70, R96, R97) -/

/-- `t` is `s` but for what the end of operations changes: registers, the requester, the trace unit, the counters and the work left. -/
structure State.Retired (s t : State) : Prop where
  build : t.build = s.build
  aon : t.aon = s.aon
  core : t.core = { s.core with
    regs := t.core.regs, work := t.core.work, rq := t.core.rq, trace := t.core.trace, cnt := t.core.cnt }

section
variable {s t u : State}

theorem State.Retired.refl (s : State) : s.Retired s := ⟨rfl, rfl, rfl⟩

theorem State.Retired.trans (h : s.Retired t) (g : t.Retired u) : s.Retired u where
  build := g.build.trans h.build
  aon := g.aon.trans h.aon
  core := g.core.trans (by rw [h.core])

theorem State.Retired.ite (c : Prop) [Decidable c] (h : s.Retired t) (g : s.Retired u) : s.Retired (if c then t else u) := by
  split
  · exact h
  · exact g

theorem State.Retired.foldl {α : Type} {f : State → α → State} (hf : ∀ (u : State) (x : α), u.Retired (f u x)) (h : s.Retired t)
    (l : List α) : s.Retired (l.foldl f t) := by
  induction l generalizing t with
  | nil => exact h
  | cons x l ih => exact ih (h.trans (hf t x))

theorem State.Traced.retired (h : s.Traced t) : s.Retired t := ⟨h.build, h.aon, by rw [h.core]⟩

theorem State.Retired.post (h : s.Retired t) (w : Work) : s.Retired (t.post w) := h.trans ⟨rfl, rfl, rfl⟩

theorem State.Retired.count (h : s.Retired t) (slot event : Nat) : s.Retired (t.count slot event) := h.trans ⟨rfl, rfl, rfl⟩

theorem State.Retired.modQs (h : s.Retired t) (q : Nat) (f : QState → QState) : s.Retired (t.modQs q f) := h.trans ⟨rfl, rfl, rfl⟩

theorem State.Retired.setOps (h : s.Retired t) (ops : SMap Op) : s.Retired { t with core.rq.ops := ops } := h.trans ⟨rfl, rfl, rfl⟩

theorem State.Retired.setSig (h : s.Retired t) (i v : Nat) : s.Retired (t.setSig i v) := h.trans ⟨rfl, rfl, rfl⟩

theorem State.Retired.addSig (h : s.Retired t) (i n : Nat) : s.Retired (t.addSig i n) := by
  unfold State.addSig
  exact h.setSig _ _

theorem State.Retired.wr (h : s.Retired t) (f : Fld) (v : Nat) (hf : f.aon = false) : s.Retired (t.wr f v) := by
  obtain ⟨ha, hc⟩ := State.wr_core_aon t f v hf
  exact h.trans ⟨State.wr_build _ _ _, ha, by rw [hc]⟩

theorem State.Retired.stopQueue (h : s.Retired t) (q : Nat) (c : Fld) (hc : c.aon = false) : s.Retired (t.stopQueue q c) := by
  exact .ite _ ((h.wr _ _ hc).wr _ _ rfl) (h.wr _ _ hc)

theorem State.Retired.drainCheck (h : s.Retired t) (q : Nat) : s.Retired (t.drainCheck q) := by
  exact .ite _ (((h.wr _ _ rfl).wr _ _ rfl).trans ⟨rfl, rfl, rfl⟩) h

/-- An operation that leaves its queue changes no window, no arrival and no memory access (R44, R47, R96, R97). -/
theorem State.Retired.retire (h : s.Retired t) (id : Nat) (o : Op) (status : Nat) : s.Retired (t.retire id o status) := by
  unfold State.retire
  extract_lets q core rq gone left counted traced raised failed noted waits told stopped
  have hgone : s.Retired left := (h.setOps _).modQs _ _
  have hcounted : s.Retired counted := .ite _ hgone (hgone.count _ _)
  have htraced : s.Retired traced := hcounted.trans ((State.Traced.refl _).traceEv _ _ _ _ _ _ _ _ _ _ _ _ _ _).retired
  have hraised : s.Retired raised := by
    refine .ite _ ?_ htraced
    split
    · exact htraced.addSig _ _
    · exact htraced
  have hnoted : s.Retired noted := .ite _ (hraised.modQs _ _) hraised
  have htold : s.Retired told := hnoted.foldl (fun u x => ((State.Retired.refl u).setOps _).post _) _
  have hstopped : s.Retired stopped := .ite _ (htold.stopQueue _ _ rfl) htold
  exact (((State.Retired.ite _ (hstopped.post _) hstopped).post _).post _).drainCheck _

theorem State.Retired.endOp (h : s.Retired t) (id status detail result stamp : Nat) :
    s.Retired (t.endOp id status detail result stamp) := by
  unfold State.endOp
  cases t.op? id with
  | none => exact h
  | some o =>
    have hcount : s.Retired (if status = 0x0E then t.count (funcSlot o.func) 14 else t) := .ite _ (h.count _ _) h
    exact .ite _ h (.ite _ ((hcount.modQs _ _).retire _ _ _) (((hcount.setOps _).modQs _ _).post _))

end

end Sys2Proof.Machine

namespace Sys2Proof.Machine

/-! ## Latches held for a window (R93, R123) -/

section
variable {s t u : State}

/-- A request is answered, or its answer waits in the reverse circuit of its TDM pair (R278). -/
theorem State.Served.respond (h : s.Served t) (port : Nat) (req : Packet) (func : Option Nat) (type : Nat) (cm : Bool)
    (status detail : Nat) (fields : List (Nat × Nat × Nat)) (data : Bytes) :
    s.Served (t.respond port req func type cm status detail fields data) := by
  unfold State.respond
  dsimp only
  generalize (if req.tdm = true then (t.incoming port req.circuit).bind (fun x => t.pairOf x.2) else none) = pair
  cases pair with
  | some x => exact h.trans ⟨rfl, rfl, rfl⟩
  | none =>
    have htraced : ∀ cat p, s.Served (if req.srcNode = t.self then t.tracePkt cat 0x13 15 status func p t.now 0 else t) := fun cat p =>
      h.trans (State.Traced.ite _ ((State.Traced.refl t).tracePkt cat 0x13 15 status func p t.now 0) (.refl t)).quiet.served
    exact (htraced _ _).inject _ _

/-- Answers do not look at the hold slots. -/
theorem State.Served.setHolds (h : s.Served t) (x : SMap HoldSlot) :
    ({ s with core.resp.holds := x } : State).Served { t with core.resp.holds := x } :=
  ⟨h.build, h.aon, by rw [h.core]⟩

/-- The latch of a hold slot is refused if it is held for a window. -/
def State.refuseSlot (w owner : Nat) (s : State) (x : Nat × HoldSlot) : State :=
  if ptrWindow x.2.pkt.ptr = w then
    (({ s with core.resp.holds := SMap.del s.core.resp.holds x.1 } : State).countRefused (some owner) 0x03).refuse x.2.port x.2.pkt
      (some owner) x.2.pkt.cm 0x03 (det 3 0x011)
  else s

theorem State.refuseHeld_eq (s : State) (w owner : Nat) :
    s.refuseHeld w owner = s.core.resp.holds.foldl (State.refuseSlot w owner) s := rfl

theorem State.refuseSlot_spec (s : State) (w owner : Nat) (x : Nat × HoldSlot) :
    ({ s with core.resp.holds := (s.refuseSlot w owner x).core.resp.holds } : State).Served (s.refuseSlot w owner x) ∧
      ∀ y ∈ (s.refuseSlot w owner x).core.resp.holds, y ∈ s.core.resp.holds ∧ (y = x → ptrWindow x.2.pkt.ptr ≠ w) := by
  unfold State.refuseSlot
  split
  · have h : ({ s with core.resp.holds := SMap.del s.core.resp.holds x.1 } : State).Served
        ((({ s with core.resp.holds := SMap.del s.core.resp.holds x.1 } : State).countRefused (some owner) 0x03).refuse x.2.port x.2.pkt
          (some owner) x.2.pkt.cm 0x03 (det 3 0x011)) :=
      ((((State.Traced.refl _).countRefused _ _).quiet.served).trackEnd _ _).respond _ _ _ _ _ _ _ _ _
    have hholds := congrArg (·.resp.holds) h.core
    dsimp only at hholds
    rw [hholds]
    refine ⟨h, fun y hy => ?_⟩
    obtain ⟨hmem, hne⟩ := List.mem_filter.mp hy
    refine ⟨hmem, fun hyx => ?_⟩
    subst hyx
    simp at hne
  · rename_i hw
    exact ⟨.refl _, fun y hy => ⟨hy, fun _ => hw⟩⟩

/-- Of the slots gone through, none that stays holds a latch for the window. -/
theorem State.refuseSlots_spec (l : List (Nat × HoldSlot)) (s : State) (w owner : Nat) :
    let u := l.foldl (State.refuseSlot w owner) s
    ({ s with core.resp.holds := u.core.resp.holds } : State).Served u ∧
      ∀ y ∈ u.core.resp.holds, y ∈ s.core.resp.holds ∧ (y ∈ l → ptrWindow y.2.pkt.ptr ≠ w) := by
  induction l generalizing s with
  | nil => exact ⟨.refl _, fun y hy => ⟨hy, fun h => absurd h (by simp)⟩⟩
  | cons x l ih =>
    obtain ⟨hx, hxs⟩ := s.refuseSlot_spec w owner x
    obtain ⟨hl, hls⟩ := ih (s.refuseSlot w owner x)
    refine ⟨(hx.setHolds _).trans hl, fun y hy => ?_⟩
    obtain ⟨hy, hne⟩ := hls y hy
    obtain ⟨hy, hxy⟩ := hxs y hy
    refine ⟨hy, fun hmem => ?_⟩
    rcases List.mem_cons.mp hmem with rfl | hmem
    · exact hxy rfl
    · exact hne hmem

theorem SMap.mem_of_get? {α : Type} {m : SMap α} {k : Nat} {v : α} (h : SMap.get? m k = some v) : (k, v) ∈ m := by
  induction m with
  | nil => simp at h
  | cons x m ih =>
    obtain ⟨j, u⟩ := x
    by_cases hj : j = k
    · simp only [SMap.get?, hj, if_true, Option.some.injEq] at h
      rw [hj, h]
      exact List.mem_cons_self
    · simp only [SMap.get?, hj, if_false] at h
      exact List.mem_cons_of_mem _ (ih h)

/-- After the refusals no latch is held for the window. -/
theorem State.refuseHeld_spec (s : State) (w owner : Nat) :
    ({ s with core.resp.holds := (s.refuseHeld w owner).core.resp.holds } : State).Served (s.refuseHeld w owner) ∧
      ∀ slot i, SMap.get? (s.refuseHeld w owner).core.resp.holds slot = some i → ptrWindow i.pkt.ptr ≠ w := by
  rw [State.refuseHeld_eq]
  obtain ⟨hserved, hslots⟩ := State.refuseSlots_spec s.core.resp.holds s w owner
  refine ⟨hserved, fun slot i hi => ?_⟩
  obtain ⟨hmem, hne⟩ := hslots _ (SMap.mem_of_get? hi)
  exact hne hmem

end

end Sys2Proof.Machine

namespace Sys2Proof.Machine

/-! ## CLOSE (R122-R124) -/

section
variable {s t u v : State} {q : QueueId} {h : Head}

/-- The entry that a CLOSE leaves. -/
def Window.closed (x : Window) (tag id : Nat) : Window := { x with state := .closing, tag := tag, op := some id }

/-- A window moves to CLOSING, its held latches are refused and its CLOSE ends (R123). -/
def State.closeWindow (s : State) (w tag id : Nat) : State :=
  (((s.setWin w ((s.win w).closed tag id)).refuseHeld w (s.win w).func).endOp id 0 0 0 0).post (.window w)

/-- `u` is `s` after a window's entry has become `x`: no other entry and no ID of the free list has changed. -/
structure State.WroteWindow (s u : State) (w : Nat) (x : Window) : Prop where
  build : u.build = s.build
  aon : u.aon = s.aon
  self : u.win w = x
  others : ∀ k, k ≠ w → u.win k = s.win k
  freed : u.core.win.freed = s.core.win.freed

theorem State.WroteWindow.setWin (s : State) (w : Nat) (x : Window) : s.WroteWindow (s.setWin w x) w x :=
  ⟨rfl, rfl, s.win_setWin_self w x, fun _ hk => s.win_setWin_ne x hk, rfl⟩

/-- What touches no window keeps the entry. -/
theorem State.WroteWindow.after {w : Nat} {x : Window} (e : s.WroteWindow t w x) (hb : u.build = t.build) (ha : u.aon = t.aon)
    (hw : u.core.win = t.core.win) : s.WroteWindow u w x where
  build := hb.trans e.build
  aon := ha.trans e.aon
  self := (State.win_congr (congrArg (·.table) hw) w).trans e.self
  others := fun k hk => (State.win_congr (congrArg (·.table) hw) k).trans (e.others k hk)
  freed := (congrArg (·.freed) hw).trans e.freed

theorem State.WroteWindow.before {w : Nat} {x : Window} (e : t.WroteWindow u w x) (hb : t.build = s.build) (ha : t.aon = s.aon)
    (hw : t.core.win = s.core.win) : s.WroteWindow u w x where
  build := e.build.trans hb
  aon := e.aon.trans ha
  self := e.self
  others := fun k hk => (e.others k hk).trans (State.win_congr (congrArg (·.table) hw) k)
  freed := e.freed.trans (congrArg (·.freed) hw)

theorem State.WroteWindow.post {w : Nat} {x : Window} (e : s.WroteWindow t w x) (i : Work) : s.WroteWindow (t.post i) w x :=
  e.after rfl rfl rfl

/-- A command whose body writes one window's entry. -/
theorem State.WroteWindow.exec {body : State → State} {w : Nat} {x : Window} (hoff : s.off = false)
    (hb : body { s with out := [] } = u) (e : ({ s with out := [] } : State).WroteWindow u w x) :
    ∃ t, coreCmd body s = .next t ∧ s.WroteWindow t w x ∧ t.core = u.core := by
  have hcore : (wire u).core = u.core := wire_core u ((State.off_eq_of e.build e.aon).trans hoff)
  subst hb
  exact ⟨_, coreCmd_on body s hoff, (e.after (wire_build _) (wire_aon _) (congrArg (·.win) hcore)).before rfl rfl rfl, hcore⟩

theorem State.closeWindow_spec (s : State) (w tag id : Nat) :
    s.WroteWindow (s.closeWindow w tag id) w ((s.win w).closed tag id) ∧ .window w ∈ (s.closeWindow w tag id).core.work ∧
      ∀ slot i, SMap.get? (s.closeWindow w tag id).core.resp.holds slot = some i → ptrWindow i.pkt.ptr ≠ w := by
  obtain ⟨hserved, hholds⟩ := (s.setWin w ((s.win w).closed tag id)).refuseHeld_spec w (s.win w).func
  have hret := (State.Retired.refl ((s.setWin w ((s.win w).closed tag id)).refuseHeld w (s.win w).func)).endOp id 0 0 0 0
  refine ⟨((State.WroteWindow.setWin s w _).after hserved.build hserved.aon (congrArg (·.win) hserved.core)).after hret.build hret.aon
    (congrArg (·.win) hret.core), by simp [State.closeWindow], ?_⟩
  have hsame : (s.closeWindow w tag id).core.resp.holds = _ := congrArg (·.resp.holds) hret.core
  rw [hsame]
  exact hholds

/-- A CLOSE that nothing holds or refuses closes its window. -/
theorem windowClose_closes (hr : s.readyWin q.val 1 = .ok h) (hh : s.held q.val h [] = false)
    (hpend : ¬ (s.qFunc q.val = 0 ∧ (s.win (dWindow h.desc)).aliasPend = true))
    (hok : closeRefusal (s.qFunc q.val) (s.win (dWindow h.desc)) = none) :
    ∃ v, s.Issued v q.val h [] ∧ windowClose q s = v.closeWindow (dWindow h.desc) (dUserTag h.desc) s.core.nextId := by
  obtain ⟨hid, i⟩ := s.issue_issued q.val h []
  refine ⟨_, i, ?_⟩
  rw [← hid]
  simp only [windowClose, hr, hh, hpend, Bool.false_eq_true, or_self, if_false, i.win, hok, State.closeWindow]
  rfl

theorem windowClose_refused {c : Nat × Nat} (hr : s.readyWin q.val 1 = .ok h) (hh : s.held q.val h [] = false)
    (hpend : ¬ (s.qFunc q.val = 0 ∧ (s.win (dWindow h.desc)).aliasPend = true))
    (hno : closeRefusal (s.qFunc q.val) (s.win (dWindow h.desc)) = some c) :
    ∃ v, s.Issued v q.val h [] ∧ windowClose q s = v.endOp s.core.nextId c.1 (det 3 c.2) 0 0 := by
  obtain ⟨hid, i⟩ := s.issue_issued q.val h []
  refine ⟨_, i, ?_⟩
  rw [← hid]
  simp only [windowClose, hr, hh, hpend, Bool.false_eq_true, or_self, if_false, i.win, hno]

/-- No row of R122 answers OK. -/
theorem closeRefusal_status {f : Nat} {x : Window} {c : Nat × Nat} (hno : closeRefusal f x = some c) : c.1 ≠ 0 := by
  unfold closeRefusal at hno
  split_ifs at hno <;> cases hno <;> decide

/-- A CLOSE that R122 refuses completes with its status and changes no window. -/
theorem exec_windowClose_refused {c : Nat × Nat} (hoff : s.off = false) (hr : s.readyWin q.val 1 = .ok h)
    (hh : s.held q.val h [] = false) (hpend : ¬ (s.qFunc q.val = 0 ∧ (s.win (dWindow h.desc)).aliasPend = true))
    (hno : closeRefusal (s.qFunc q.val) (s.win (dWindow h.desc)) = some c) :
    ∃ t r, exec (.windowClose q) s = .next t ∧ t.core.win = s.core.win ∧ (t.qs q.val).records = (s.qs q.val).records ++ [r] ∧
      r.status = c.1 ∧ r.detail = det 3 c.2 := by
  obtain ⟨v, i, hbody⟩ := windowClose_refused (s := { s with out := [] }) ((State.readyWin_out s [] q.val 1).trans hr) hh hpend hno
  obtain ⟨t, r, ht, hwin, hrec, hstatus, hdetail, -⟩ := i.exec_refused (c := .windowClose q) hoff rfl rfl hbody (closeRefusal_status hno)
  exact ⟨t, r, ht, hwin, hrec, hstatus, hdetail⟩

/-- While the record of the window's redirection is pending a CLOSE is held (R122). -/
theorem windowClose_waits (hr : s.readyWin q.val 1 = .ok h) (hf : s.qFunc q.val = 0)
    (hpend : (s.win (dWindow h.desc)).aliasPend = true) : windowClose q s = s := by
  simp only [windowClose, hr, hf, hpend, and_self, or_true, if_true]

/-! ## The redirection of a window (R116, R117) -/

/-- The entry of a window that forwards to a target. -/
def Window.redirected (x : Window) (target tag id : Nat) : Window :=
  { x with state := .aliased, aliasPend := true, aliasTo := target, tag := tag, op := some id }

/-- A redirection that no row of R116 refuses writes its window's entry; its record is looked at. -/
theorem windowAlias_redirects (hr : s.readyWin q.val 2 = .ok h) (hh : s.held q.val h [] = false)
    (hok : s.aliasRefusal (s.qFunc q.val) (s.win (dWindow h.desc)) (dAliasTo h.desc) = none) :
    ∃ v, s.Issued v q.val h [] ∧ windowAlias q s = (v.setWin (dWindow h.desc)
      ((s.win (dWindow h.desc)).redirected (dAliasTo h.desc) (dUserTag h.desc) s.core.nextId)).post (.window (dWindow h.desc)) := by
  obtain ⟨hid, i⟩ := s.issue_issued q.val h []
  refine ⟨_, i, ?_⟩
  rw [← hid]
  simp only [windowAlias, hr, hh, Bool.false_eq_true, if_false, i.win, i.aliasRefusal, hok]
  rfl

theorem windowAlias_refused {c : Nat × Nat} (hr : s.readyWin q.val 2 = .ok h) (hh : s.held q.val h [] = false)
    (hno : s.aliasRefusal (s.qFunc q.val) (s.win (dWindow h.desc)) (dAliasTo h.desc) = some c) :
    ∃ v, s.Issued v q.val h [] ∧ windowAlias q s = v.endOp s.core.nextId c.1 (det 3 c.2) 0 0 := by
  obtain ⟨hid, i⟩ := s.issue_issued q.val h []
  refine ⟨_, i, ?_⟩
  rw [← hid]
  simp only [windowAlias, hr, hh, Bool.false_eq_true, if_false, i.win, i.aliasRefusal, hno]

/-- No row of R116 answers OK. -/
theorem State.aliasRefusal_status {f target : Nat} {x : Window} {c : Nat × Nat} (hno : s.aliasRefusal f x target = some c) : c.1 ≠ 0 := by
  unfold State.aliasRefusal at hno
  split_ifs at hno <;> cases hno <;> decide

/-! ## The end of a quarantine (R123) -/

/-- The state with an ID at the tail of the free list and its window FREE. -/
def State.freeWindow (s : State) (w : Nat) : State :=
  ({ s with core.win.freed := s.core.win.freed ++ [w] } : State).setWin w { (s.win w) with state := .free }

theorem windowQuarantineEnd_frees {w : WindowId} (hw : (s.win w.val).state = .quarantine) :
    windowQuarantineEnd w s = (s.freeWindow w.val).noFree := by
  simp only [windowQuarantineEnd, hw, ne_eq, not_true_eq_false, if_false, State.freeWindow]

/-- With an ID on the free list NO_FREE is 0. -/
theorem State.noFree_freeWindow (s : State) (w : Nat) : (s.freeWindow w).noFree.rd R.WINDOW_STATUS_NO_FREE = 0 := by
  have hsome : (s.freeWindow w).core.win.take.isNone = false := Windows.take_freed _ _ _ _
  rw [State.noFree, State.rd_wr_self _ _ _ (by decide), hsome]
  rfl

/-- The end of a quarantine writes one window, the free list and NO_FREE. -/
theorem exec_windowQuarantineEnd_frees {w : WindowId} (hoff : s.off = false) (hw : (s.win w.val).state = .quarantine) :
    ∃ t, exec (.windowQuarantineEnd w) s = .next t ∧ t.win w.val = { (s.win w.val) with state := .free } ∧
      (∀ k, k ≠ w.val → t.win k = s.win k) ∧ t.core.win.freed = s.core.win.freed ++ [w.val] ∧ t.rd R.WINDOW_STATUS_NO_FREE = 0 ∧
      s.SameBut t [R.WINDOW_STATUS_NO_FREE] ∧ t.core = { s.core with win := t.core.win, regs := t.core.regs } ∧ s.SameAon t := by
  have hbody := windowQuarantineEnd_frees (s := { s with out := [] }) hw
  have hwrote := (({ s with out := [] } : State).freeWindow w.val).noFree_wrote
  obtain ⟨t, ht, hcore, haon, hrd⟩ := coreCmd_next (windowQuarantineEnd w) s _ hoff hbody (hwrote.off.trans hoff)
  have hc := hcore.trans hwrote.core
  have hwin : t.core.win = (({ s with out := [] } : State).freeWindow w.val).core.win := congrArg (·.win) hc
  have hwins := State.win_congr (congrArg (·.table) hwin)
  refine ⟨t, ht, (hwins _).trans (State.win_setWin_self _ _ _), fun k hk => (hwins k).trans (State.win_setWin_ne _ _ hk),
    congrArg (·.freed) hwin, (hrd _).trans (State.noFree_freeWindow _ _), fun f hf => (hrd f).trans (hwrote.rd f hf), ?_, ?_⟩
  · rw [hc]
    rfl
  · rw [State.SameAon, haon]
    exact hwrote.sameAon

end

/-- Settles O27: a CLOSE moves its window to CLOSING or is held or refused, a redirection writes its window or is refused, and the end
of a quarantine frees the ID. -/
theorem windowsCloseAndAlias : Obligations.WindowsCloseAndAlias := by
  intro s q h hoff
  have hout := State.readyWin_out s [] q.val
  refine ⟨fun hr hh hf hpend hst => ?_, fun hr hh hf => ?_, fun hr hh hf hpend hno hna => ?_, fun hr hf hpend => ?_,
    fun hr hh hok => ?_, fun c hr hh hno => ?_, fun w hw => ?_⟩
  · have hok : closeRefusal (s.qFunc q.val) (s.win (dWindow h.desc)) = none := by
      rcases hst with hst | hst <;> simp [closeRefusal, hf, hst]
    obtain ⟨v, i, hbody⟩ := windowClose_closes (s := { s with out := [] }) ((hout 1).trans hr) hh
      (fun hp => Bool.false_ne_true (hpend.symm.trans hp.2)) hok
    obtain ⟨e, hwork, hholds⟩ := v.closeWindow_spec (dWindow h.desc) (dUserTag h.desc) s.core.nextId
    rw [i.win] at e
    obtain ⟨t, ht, e, hcore⟩ := (e.before i.build i.aon (congrArg (·.win) i.core)).exec (body := windowClose q) hoff hbody
    rw [← hcore] at hwork hholds
    exact ⟨t, ht, e.self, e.others, hwork, hholds, e.aon, e.freed⟩
  · have hno : closeRefusal (s.qFunc q.val) (s.win (dWindow h.desc)) = some (0x05, 0x030) := if_pos hf
    exact exec_windowClose_refused hoff hr hh (fun hp => hf hp.1) hno
  · have hno : closeRefusal (s.qFunc q.val) (s.win (dWindow h.desc)) = some (0x03, 0x032) := by simp [closeRefusal, hf, hno, hna]
    exact exec_windowClose_refused hoff hr hh (fun hp => Bool.false_ne_true (hpend.symm.trans hp.2)) hno
  · exact coreCmd_still (body := windowClose q) hoff (windowClose_waits ((hout 1).trans hr) hf hpend)
  · obtain ⟨v, i, hbody⟩ := windowAlias_redirects (s := { s with out := [] }) ((hout 2).trans hr) hh hok
    have e := (State.WroteWindow.setWin v (dWindow h.desc) ((s.win (dWindow h.desc)).redirected (dAliasTo h.desc) (dUserTag h.desc)
      s.core.nextId)).before i.build i.aon (congrArg (·.win) i.core)
    obtain ⟨t, ht, e, hcore⟩ := (e.post _).exec (body := windowAlias q) hoff hbody
    exact ⟨t, _, ht, e.self, e.others, (State.op?_congr (congrArg (·.rq.ops) hcore) _).trans i.op?, rfl, by rw [hcore]; simp,
      (congrArg (·.resp) hcore).trans (congrArg (·.resp) i.core), e.aon⟩
  · obtain ⟨v, i, hbody⟩ := windowAlias_refused (s := { s with out := [] }) ((hout 2).trans hr) hh hno
    obtain ⟨t, r, ht, hwin, hrec, hstatus, hdetail, -⟩ := i.exec_refused hoff (c := .windowAlias q) rfl rfl hbody
      (State.aliasRefusal_status hno)
    exact ⟨t, r, ht, hwin, hrec, hstatus, hdetail⟩
  · exact exec_windowQuarantineEnd_frees hoff hw

end Sys2Proof.Machine

namespace Sys2Proof.Machine

/-! ## A SIGNAL that arrives (R66, R110, R112, R114) -/

section
variable {s t u v : State} {i : InPkt} {w : Window}

/-- An arrival that passes checks 1 to 4 meets the entry that its pointer names (R111). -/
theorem State.lookup_ok_win {ptr perm : Nat} {len : Option Nat} (h : s.lookup ptr perm len = .ok w) : w = s.win (ptrWindow ptr) := by
  unfold State.lookup at h
  cases len <;> dsimp only at h <;> split_ifs at h
  exact (Lookup.ok.inj h).symm

/-- A SIGNAL is no counted write (R91, R92). -/
theorem Packet.counted_signal {p : Packet} (h4 : p.type = 4) : p.counted = false := by
  simp [Packet.counted, h4]

/-- The counter that an offset of a signal window names (R110). -/
def State.signalOf (s : State) (w : Window) (offset : Nat) : Nat :=
  (s.rd (R.FUNC_SIG_BASE_BASE w.func) + (w.base + offset) / 8) % 65536

/-- A counter with a value added to COUNT modulo 2^63, SLOT_LATE left (R66). -/
def State.sigPlus (s : State) (n x : Nat) : Nat := s.sig n / 2 ^ 63 * 2 ^ 63 + (s.sig n % 2 ^ 63 + x) % 2 ^ 63

theorem State.addSig_eq (s : State) (n x : Nat) : s.addSig n x = s.setSig n (s.sigPlus n x) := by
  rw [State.addSig, State.sigPlus]

theorem State.sigPlus_congr (h : t.core.rq.signals = s.core.rq.signals) (n x : Nat) : t.sigPlus n x = s.sigPlus n x := by
  rw [State.sigPlus, State.sig, h, State.sigPlus, State.sig]

/-- `t` is `s` after a SIGNAL has set counter `n` to `x`: no other counter and no window has changed. -/
structure State.Signalled (s t : State) (n x : Nat) : Prop where
  build : t.build = s.build
  aon : t.aon = s.aon
  self : t.sig n = x
  others : ∀ k, k ≠ n → t.sig k = s.sig k
  waits : .waits ∈ t.core.work
  win : ∀ k, t.win k = s.win k
  mem : t.core.mem = s.core.mem
  jobs : t.core.jobs = s.core.jobs

theorem State.Signalled.after {n x : Nat} (h : s.Signalled t n x) (hb : u.build = t.build) (ha : u.aon = t.aon)
    (hsig : u.core.rq.signals = t.core.rq.signals) (hwork : u.core.work = t.core.work) (hwin : u.core.win = t.core.win)
    (hmem : u.core.mem = t.core.mem) (hjobs : u.core.jobs = t.core.jobs) : s.Signalled u n x := by
  have hs : ∀ k, u.sig k = t.sig k := fun k => by rw [State.sig, hsig, State.sig]
  exact ⟨hb.trans h.build, ha.trans h.aon, (hs n).trans h.self, fun k hk => (hs k).trans (h.others k hk), hwork ▸ h.waits,
    fun k => (State.win_congr (congrArg (·.table) hwin) k).trans (h.win k), hmem.trans h.mem, hjobs.trans h.jobs⟩

/-- The arrival of an accepted request whose window needs no translation. -/
def acceptedArrival (i : InPkt) (w : Window) (r : JobResult) (cm : Bool) : Arrival :=
  { newArrival i with
    window := some (ptrWindow i.pkt.ptr), func := w.func, pa := r.pa0, ksel := r.ksel, cm := cm, phase := .access }

/-- `t` is `s` after an access has been counted in ACCEPTED of a window (R114). -/
structure State.Accepted (s t : State) (k : Nat) : Prop where
  build : t.build = s.build
  aon : t.aon = s.aon
  signals : t.core.rq.signals = s.core.rq.signals
  mem : t.core.mem = s.core.mem
  jobs : t.core.jobs = s.core.jobs
  self : t.win k = { (s.win k) with accepted := (s.win k).accepted + 1 }
  others : ∀ j, j ≠ k → t.win j = s.win j
  routes : s.SameRoutes t
  rd : ∀ f : Fld, 0x200000 ≤ f.addr → t.rd f = s.rd f

theorem State.Traced.accepted (h : s.Traced t) (k id : Nat) (a : Arrival) :
    s.Accepted ((t.setWin k { (s.win k) with accepted := (s.win k).accepted + 1 }).setArr id a) k where
  build := h.build
  aon := h.aon
  signals := congrArg (·.rq.signals) h.core
  mem := congrArg (·.mem) h.core
  jobs := congrArg (·.jobs) h.core
  self := State.win_setWin_self _ _ _
  others := fun _ hj => (State.win_setWin_ne _ _ hj).trans (State.win_congr (congrArg (·.win.table) h.core) _)
  routes := ⟨h.sameRoutes.active, h.sameRoutes.flow, h.sameRoutes.rd⟩
  rd := fun _ hf => h.rd_outside (.inr hf)

/-- The state with the acceptance of a request traced and counted, in ACCEPTED of its window too (R114, R417). -/
def State.noteAccess (s : State) (i : InPkt) (w : Window) : State :=
  ((s.traceRecv i.port i.stamp (some w.func) 0 i.pkt).count (funcSlot w.func) 21).setWin (ptrWindow i.pkt.ptr)
    { w with accepted := w.accepted + 1 }

theorem State.noteAccess_accepted (s : State) (i : InPkt) (id : Nat) (a : Arrival) :
    s.Accepted ((s.noteAccess i (s.win (ptrWindow i.pkt.ptr))).setArr id a) (ptrWindow i.pkt.ptr) :=
  (((State.Traced.refl s).traceRecv _ _ _ _ _).count _ _).accepted _ _ _

theorem State.Accepted.signalOf {k : Nat} (h : s.Accepted t k) (w : Window) (offset : Nat) : t.signalOf w offset = s.signalOf w offset := by
  rw [State.signalOf, h.rd _ (by simp only [R.FUNC_SIG_BASE_BASE]; omega), State.signalOf]

/-- A SIGNAL is counted in ACCEPTED, added to its counter, and finishes (R110, R114). -/
theorem State.accept_signal (s : State) (id : Nat) (i : InPkt) (w : Window) (r : JobResult) (h4 : i.pkt.type = 4) :
    let a := acceptedArrival i w r ((s.noteAccess i w).respMark i.pkt)
    let y := (s.noteAccess i w).setArr id a
    s.accept id (newArrival i) w r = (y.addSig (y.signalOf w (ptrOffset i.pkt.ptr)) (i.pkt.fld 0x38 0 64)).arrAck id a 0 0 := by
  simp only [State.accept, State.noteAccess, newArrival, acceptedArrival, State.signalOf, h4, Nat.reduceEqDiff, if_false, if_true]

theorem State.trackEnd_uncounted {p : Packet} (h : p.counted = false) (s : State) (ok : Bool) : s.trackEnd p ok = s := by
  simp [State.trackEnd, h]

/-- One access less is counted in ACCEPTED of a window, an arrival is gone, and work is left. -/
def State.finished (s : State) (id k : Nat) (l : List Work) : State :=
  ((s.delArr id).setWin k { (s.win k) with accepted := (s.win k).accepted - 1 }).posts l

/-- An access that ends leaves its window and the arrivals; what waits for it has work left (R114). -/
theorem State.arrFinish_window {id k : Nat} {a : Arrival} (hw : a.window = some k) (href : a.tref = none) (hla : a.la = none) :
    ∃ l, s.arrFinish id a = s.finished id k l := by
  refine ⟨.window k :: .func a.func :: ((s.delArr id).core.resp.arrivals.filter (fun x => x.2.phase == .turn)).map (fun x => .atomic x.1), ?_⟩
  simp only [State.arrFinish, hw, href, hla, Option.isNone_none, if_true, State.finished, State.posts, List.foldl_cons, List.foldl_map]
  rfl

/-- The window of an access that was accepted and has ended is as it was. -/
theorem State.finished_win {id k : Nat} {l : List Work} (hk : t.win k = { (s.win k) with accepted := (s.win k).accepted + 1 })
    (hne : ∀ j, j ≠ k → t.win j = s.win j) (j : Nat) : (t.finished id k l).win j = s.win j := by
  have htable : (t.finished id k l).core.win.table =
      (t.setWin k { (t.win k) with accepted := (t.win k).accepted - 1 }).core.win.table := by
    rw [State.finished, State.posts_eq]
    rfl
  rw [State.win_congr htable]
  by_cases hj : j = k
  · rw [hj, State.win_setWin_self, hk]
    rfl
  · rw [State.win_setWin_ne _ _ hj, hne j hj]

theorem State.arrAck_uncounted {id status detail : Nat} {a : Arrival} (hx : a.xfer = none) (hc : a.pkt.counted = false) :
    s.arrAck id a status detail =
      (s.arrFinish id a).respond a.port a.pkt (some a.func) (rspType a.pkt.type) a.cm status detail [] [] := by
  simp only [State.arrAck, hx, State.trackEnd_uncounted hc]

theorem State.finished_frame (s : State) (id k : Nat) (l : List Work) : s.finished id k l = { s with
    core.resp.arrivals := SMap.del s.core.resp.arrivals id, core.win := (s.finished id k l).core.win,
    core.work := s.core.work ++ l } := by
  rw [State.finished, State.posts_eq]
  rfl

/-- The addition of a SIGNAL whose window counts it in ACCEPTED, and the end of its access (R114). -/
theorem State.Accepted.signalled {k : Nat} (h : s.Accepted t k) (n x id : Nat) (l : List Work) :
    s.Signalled ((t.setSig n x).finished id k l) n x := by
  have hframe := (t.setSig n x).finished_frame id k l
  have hs : ∀ j, t.sig j = s.sig j := fun j => by rw [State.sig, h.signals, State.sig]
  have hsigs : ∀ j, ((t.setSig n x).finished id k l).sig j = (t.setSig n x).sig j := fun j => by
    rw [hframe]
    rfl
  exact
    { build := (congrArg (·.build) hframe).trans h.build
      aon := (congrArg (·.aon) hframe).trans h.aon
      self := (hsigs n).trans (State.sig_setSig_self _ _ _)
      others := fun j hj => (hsigs j).trans ((State.sig_setSig_ne _ _ _ _ hj).trans (hs j))
      waits := by
        rw [congrArg (·.core.work) hframe]
        simp [State.setSig]
      win := State.finished_win h.self h.others
      mem := (congrArg (·.core.mem) hframe).trans h.mem
      jobs := (congrArg (·.core.jobs) hframe).trans h.jobs }

theorem State.Accepted.sameRoutes {k : Nat} (h : s.Accepted t k) (n x id : Nat) (l : List Work) :
    s.SameRoutes ((t.setSig n x).finished id k l) := by
  rw [State.finished_frame]
  exact ⟨h.routes.active, h.routes.flow, h.routes.rd⟩

/-- A SIGNAL accepted at the window it names has been added to its counter, and what is left is its answer. -/
theorem State.accept_signalled (s : State) (id : Nat) (i : InPkt) (r : JobResult) (h4 : i.pkt.type = 4) :
    let w := s.win (ptrWindow i.pkt.ptr)
    let n := s.signalOf w (ptrOffset i.pkt.ptr)
    ∃ v cm, s.Signalled v n (s.sigPlus n (i.pkt.fld 0x38 0 64)) ∧ s.SameRoutes v ∧
      s.accept id (newArrival i) w r = v.respond i.port i.pkt (some w.func) (rspType i.pkt.type) cm 0 0 [] [] := by
  intro w n
  have haccept := s.accept_signal id i w r h4
  have hy := s.noteAccess_accepted i id (acceptedArrival i w r ((s.noteAccess i w).respMark i.pkt))
  generalize (s.noteAccess i w).respMark i.pkt = cm at haccept hy
  dsimp only at haccept
  generalize (s.noteAccess i w).setArr id (acceptedArrival i w r cm) = y at haccept hy
  obtain ⟨l, hfin⟩ := State.arrFinish_window (s := y.setSig n (s.sigPlus n (i.pkt.fld 0x38 0 64))) (id := id)
    (k := ptrWindow i.pkt.ptr) (a := acceptedArrival i w r cm) rfl rfl rfl
  rw [hy.signalOf, State.arrAck_uncounted rfl (Packet.counted_signal h4), State.addSig_eq, State.sigPlus_congr hy.signals, hfin]
    at haccept
  exact ⟨_, cm, hy.signalled _ _ _ _, hy.sameRoutes _ _ _ _, haccept⟩

/-- The answer to a request changes no counter, no window and no work. -/
theorem State.Signalled.respond {n x : Nat} (h : s.Signalled t n x) (port : Nat) (req : Packet) (func : Option Nat) (type : Nat)
    (cm : Bool) (status detail : Nat) (htdm : req.tdm = false) :
    s.Signalled (t.respond port req func type cm status detail [] []) n x := by
  obtain ⟨v, hv, hresp⟩ := t.respond_eq port req func type cm status detail htdm
  rw [hresp]
  generalize mkPacket _ _ _ _ _ _ _ _ _ = p
  have hq := v.inject_quiet func p
  exact (h.after hv.build hv.aon (congrArg (·.rq.signals) hv.core) (congrArg (·.work) hv.core) (congrArg (·.win) hv.core)
    (congrArg (·.mem) hv.core) (congrArg (·.jobs) hv.core)).after hq.build hq.aon (congrArg (·.rq.signals) hq.core)
    (congrArg (·.work) hq.core) (congrArg (·.win) hq.core) (congrArg (·.mem) hq.core) (congrArg (·.jobs) hq.core)

/-- Entering the responder changes no counter, no window, no access. -/
theorem State.Signalled.of_entered {n x : Nat} (h : (s.entered i).Signalled t n x) : s.Signalled t n x := by
  have he := s.entered_eq i
  exact
    { build := h.build.trans (congrArg (·.build) he)
      aon := h.aon.trans (congrArg (·.aon) he)
      self := h.self
      others := fun k hk => (h.others k hk).trans (by rw [he]; rfl)
      waits := h.waits
      win := fun k => (h.win k).trans (by rw [he]; rfl)
      mem := h.mem.trans (congrArg (·.core.mem) he)
      jobs := h.jobs.trans (congrArg (·.core.jobs) he) }

/-- A SIGNAL that passes checks 1 to 4 is accepted at once (R110). -/
theorem State.arrive_signal (s : State) (i : InPkt) (w : Window) (hf : s.fatal = false) (hw : s.lookupReq i.pkt = .ok w)
    (h4 : i.pkt.type = 4) :
    s.arrive i false = (s.entered i).accept s.core.nextId (newArrival i) w ⟨none, [], 0, 0, 0, 0⟩ := by
  rw [State.arrive_eq s i hf, State.arrLook, show (newArrival i).pkt = i.pkt from rfl, s.entered_lookup, hw]
  exact if_pos h4

/-- A SIGNAL that passes checks 1 to 4 is added to its counter and answered (R110, R112). -/
theorem State.arrive_signalled (s : State) (i : InPkt) (w : Window) (hf : s.fatal = false) (hw : s.lookupReq i.pkt = .ok w)
    (h4 : i.pkt.type = 4) (htdm : i.pkt.tdm = false) :
    let n := s.signalOf w (ptrOffset i.pkt.ptr)
    s.Signalled (s.arrive i false) n (s.sigPlus n (i.pkt.fld 0x38 0 64)) ∧
      s.Answered (s.arrive i false) i.pkt (fun p => p.type = 0 ∧ p.rspStatus = 0 ∧ p.rspDetail = 0) := by
  intro n
  have hwin : w = (s.entered i).win (ptrWindow i.pkt.ptr) :=
    State.lookup_ok_win ((s.entered_lookup i i.pkt).trans hw)
  have hn : (s.entered i).signalOf w (ptrOffset i.pkt.ptr) = n := by
    rw [State.signalOf, s.entered_rd]
    rfl
  have hplus : (s.entered i).sigPlus n (i.pkt.fld 0x38 0 64) = s.sigPlus n (i.pkt.fld 0x38 0 64) :=
    State.sigPlus_congr (congrArg (·.core.rq.signals) (s.entered_eq i)) _ _
  obtain ⟨v, cm, hv, hroutes, haccept⟩ := (s.entered i).accept_signalled s.core.nextId i ⟨none, [], 0, 0, 0, 0⟩ h4
  rw [← hwin, hn, hplus] at hv
  rw [← hwin] at haccept
  rw [State.arrive_signal s i w hf hw h4, haccept]
  refine ⟨hv.of_entered.respond _ _ _ _ _ _ _ htdm, ?_⟩
  have hans := State.respond_answered ((s.entered_routes i).trans hroutes) i.port i.pkt (some w.func) (rspType i.pkt.type) cm 0 0 htdm
  exact hans.congr (.refl s) rfl fun p ⟨htype, hstatus, hdetail⟩ => ⟨htype.trans (by rw [h4]; rfl), hstatus, hdetail⟩

end

/-- Settles O31: a SIGNAL that is accepted raises the counter its offset names and is answered. -/
theorem signalsArrive : Obligations.SignalsArrive := by
  intro s i rest w hoff hf htdm htake hw
  obtain ⟨hsig, hans⟩ := (s.taken rest).arrive_signalled i w hf hw (arrival_type htake) htdm
  obtain ⟨t, ht, hcore, haon⟩ := exec_arrival (x := (.signalArrival, 4)) (by simp) hoff htake hsig.build hsig.aon
  have hsigs : ∀ k, t.sig k = ((s.taken rest).arrive i false).sig k := fun k => by rw [State.sig, hcore, State.sig]
  exact ⟨t, _, ht, rfl, (hsigs _).trans hsig.self, fun k hk => (hsigs k).trans (hsig.others k hk), hcore ▸ hsig.waits,
    hans.congr (s.taken_routes rest) hcore fun _ hp => hp, fun k => (State.win_congr (congrArg (·.win.table) hcore) k).trans (hsig.win k),
    (congrArg (·.mem) hcore).trans hsig.mem, (congrArg (·.jobs) hcore).trans hsig.jobs, haon⟩

end Sys2Proof.Machine

namespace Sys2Proof.Machine

/-! ## XLATE_INV (R139-R141) -/

/-- The functions an XLATE_INV names: its own, or every one (R139). -/
def invNames (d : BitVec 1024) (f : Nat) : Bool := dExtent d == 2 || f == dInvFunc d

/-- The virtual addresses an XLATE_INV names: its range, or all of them (R139). -/
def invSpan (d : BitVec 1024) : Nat × Nat := if dExtent d = 0 then (dSrc d, dSrc d + dInvLength d) else (0, 2 ^ 64)

/-- The translation unit once an XLATE_INV has issued: what it names has left both caches, walks of its functions are stale, and `i` is
in progress. -/
def Xlate.invalidated (x : Xlate) (d : BitVec 1024) (i : Inval) : Xlate :=
  { x with
    leaves := x.leaves.filter (fun l => !(invNames d l.func && l.overlaps (invSpan d).1 (invSpan d).2))
    ptrs := x.ptrs.filter (fun p => !invNames d p.func)
    walks := x.walks.map (fun w => (w.1, { w.2 with stale := w.2.stale || invNames d w.2.func }))
    invals := x.invals ++ [i] }

section
variable {d : BitVec 1024} {x : Xlate} {i : Inval}

theorem invNames_own (he : dExtent d ≠ 2) (f : Nat) : invNames d f = (f == dInvFunc d) := by
  simp [invNames, he]

theorem invNames_all (he : dExtent d = 2) (f : Nat) : invNames d f = true := by
  simp [invNames, he]

theorem invSpan_range (he : dExtent d = 0) : invSpan d = (dSrc d, dSrc d + dInvLength d) := if_pos he

theorem invSpan_all (he : dExtent d ≠ 0) : invSpan d = (0, 2 ^ 64) := if_neg he

/-- Every walk of a function that is named is stale afterwards. -/
theorem Xlate.invalidated_stale : ∀ w ∈ (x.invalidated d i).walks, invNames d w.2.func = true → w.2.stale = true := by
  intro w hw hn
  obtain ⟨v, -, rfl⟩ := List.mem_map.mp hw
  exact (congrArg (v.2.stale || ·) hn).trans (Bool.or_true _)

/-- No walk-cache entry of a function that is named stays. -/
theorem Xlate.invalidated_ptrs : ∀ p ∈ (x.invalidated d i).ptrs, invNames d p.func = false := by
  intro p hp
  simpa using (List.mem_filter.mp hp).2

end

section
variable {s v : State} {q : QueueId} {h : Head}

/-- `t` is `s` after an XLATE_INV of descriptor `d` has issued, with `i` in progress for its operation. -/
structure State.Invalidated (s t : State) (d : BitVec 1024) (i : Inval) : Prop where
  build : t.build = s.build
  aon : t.aon = s.aon
  op : i.op = s.core.nextId
  core : t.core = { s.core with
    regs := t.core.regs, nextId := t.core.nextId, work := t.core.work, trace := t.core.trace, cnt := t.core.cnt, rq := t.core.rq,
    xl := s.core.xl.invalidated d i }

theorem State.Invalidated.xl {t : State} {d : BitVec 1024} {i : Inval} (g : s.Invalidated t d i) :
    t.core.xl = s.core.xl.invalidated d i :=
  congrArg (·.xl) g.core

/-- The state of an XLATE_INV whose descriptor has just left its ring as operation `id`: its snapshot is taken before the caches change. -/
def State.startInval (s : State) (id : Nat) (d : BitVec 1024) : State :=
  { s.invalidate (invNames d) (invSpan d).1 (invSpan d).2 with core.xl.invals := s.core.xl.invals ++ [s.snapshot id (invNames d)] }

theorem State.Issued.startInval (g : s.Issued v q.val h []) :
    s.Invalidated (v.startInval s.core.nextId h.desc) h.desc (v.snapshot s.core.nextId (invNames h.desc)) where
  build := g.build
  aon := g.aon
  op := rfl
  core := by
    have hcore : (v.startInval s.core.nextId h.desc).core = { v.core with
      xl := v.core.xl.invalidated h.desc (v.snapshot s.core.nextId (invNames h.desc)) } := rfl
    rw [hcore, g.core]

/-- An XLATE_INV that nothing holds issues while fewer than eight are in progress. -/
theorem xlateInv_ok (hr : s.ready q.val 0x32 (fun _ => []) = .ok h) (hh : s.held q.val h [] = false)
    (hroom : s.core.xl.invals.length < 8) : ∃ i, s.Invalidated (xlateInv q s) h.desc i := by
  obtain ⟨hid, g⟩ := s.issue_issued q.val h []
  have hbody : xlateInv q s = (s.issue q.val h []).2.startInval (s.issue q.val h []).1 h.desc := by
    simp only [xlateInv, hr, hh, Bool.false_eq_true, ge_iff_le, Nat.not_le_of_lt hroom, or_self, if_false]
    rfl
  rw [hbody, hid]
  exact ⟨_, g.startInval⟩

/-- With eight in progress an XLATE_INV waits at the head of its queue (R140). -/
theorem xlateInv_full (hr : s.ready q.val 0x32 (fun _ => []) = .ok h) (hfull : 8 ≤ s.core.xl.invals.length) : xlateInv q s = s := by
  simp only [xlateInv, hr, ge_iff_le, hfull, or_true, if_true]

theorem exec_xlateInv (hoff : s.off = false) (hr : s.ready q.val 0x32 (fun _ => []) = .ok h) (hh : s.held q.val h [] = false)
    (hroom : s.core.xl.invals.length < 8) : ∃ t i, exec (.xlateInv q) s = .next t ∧ s.Invalidated t h.desc i := by
  obtain ⟨i, g⟩ := xlateInv_ok (s := { s with out := [] }) ((State.ready_out s [] q.val 0x32 (fun _ => [])).trans hr) hh hroom
  have hcore := wire_core _ ((State.off_eq_of g.build g.aon).trans hoff)
  exact ⟨_, i, coreCmd_on (xlateInv q) s hoff, (wire_build _).trans g.build, (wire_aon _).trans g.aon, g.op, by
    rw [hcore]
    exact g.core⟩

end

/-- Settles O28: an XLATE_INV of each extent removes what it names, and waits while eight are in progress. -/
theorem xlateInvalidates : Obligations.XlateInvalidates := by
  intro s q h hoff hr hh
  refine ⟨fun he hroom => ?_, fun he hroom => ?_, fun he hroom => ?_, fun hfull => ?_⟩
  · obtain ⟨t, i, ht, g⟩ := exec_xlateInv hoff hr hh hroom
    have hnames := invNames_own (d := h.desc) (by simp [he])
    refine ⟨t, i, ht, ?_⟩
    rw [g.xl]
    refine ⟨?_, fun x hx hf => Xlate.invalidated_stale x hx ?_, fun x hx => ?_, rfl, g.op, g.aon,
      congrArg (·.jobs) g.core, congrArg (·.mem) g.core, congrArg (·.win) g.core⟩
    · simp only [Xlate.invalidated, hnames, invSpan_all (d := h.desc) (by simp [he])]
    · rw [hnames, hf, beq_self_eq_true]
    · exact beq_eq_false_iff_ne.mp ((hnames _).symm.trans (Xlate.invalidated_ptrs x hx))
  · obtain ⟨t, i, ht, g⟩ := exec_xlateInv hoff hr hh hroom
    refine ⟨t, i, ht, fun l => ?_, congrArg (·.invals) g.xl, g.op⟩
    simp only [g.xl, Xlate.invalidated, List.mem_filter, invSpan_range he, invNames_own (d := h.desc) (by simp [he]),
      Bool.not_eq_true', Bool.and_eq_false_iff, not_and_or, beq_eq_false_iff_ne, ne_eq, Bool.not_eq_true]
  · obtain ⟨t, i, ht, g⟩ := exec_xlateInv hoff hr hh hroom
    have hnames := invNames_all he
    refine ⟨t, i, ht, ?_, fun x hx => ?_, congrArg (·.invals) g.xl, g.op⟩
    · simp only [g.xl, Xlate.invalidated, hnames, Bool.not_true, List.filter_false]
    · rw [g.xl] at hx
      exact Xlate.invalidated_stale x hx (hnames _)
  · exact coreCmd_still (body := xlateInv q) hoff
      (xlateInv_full (s := { s with out := [] }) ((State.ready_out s [] q.val 0x32 (fun _ => [])).trans hr) hfull)

end Sys2Proof.Machine

namespace Sys2Proof.Machine

/-! ## Where a relayed abort goes (R172, R273, R305) -/

/-- Whether fields of a header share bits rests on their places alone, not on their values. -/
theorem bitsApart_of_places {l l' : List (Nat × Nat × Nat)} (hp : l.map (fun f => (f.1, f.2.1)) = l'.map (fun f => (f.1, f.2.1)))
    (hl : l'.Pairwise bitsApart) : l.Pairwise bitsApart := by
  have hmap : ∀ m : List (Nat × Nat × Nat), m.Pairwise bitsApart ↔
      (m.map (fun f => (f.1, f.2.1))).Pairwise (fun f g => f.1 + f.2 ≤ g.1 ∨ g.1 + g.2 ≤ f.1) := fun m => by
    rw [List.pairwise_map]
    rfl
  rw [hmap, hp, ← hmap]
  exact hl

/-- The fields of a GROUP message with those of an abort share no bit. -/
theorem groupMessage_apart (dest src queue tag len plen gid run seq epoch sig sub reason chunk blamed : Nat) :
    (headFields 0 3 dest src queue tag len plen ++ (groupFields gid run seq epoch sig ++ [hf 0x1C 0 4 sub] ++
      [hf 0x1E 0 12 reason, hf 0x20 0 32 chunk, hf 0x24 0 20 blamed])).Pairwise bitsApart :=
  bitsApart_of_places (l' := headFields 0 0 0 0 0 0 0 0 ++ (groupFields 0 0 0 0 0 ++ [hf 0x1C 0 4 0] ++
    [hf 0x1E 0 12 0, hf 0x20 0 32 0, hf 0x24 0 20 0])) rfl (by unfold bitsApart; decide)

section
variable {s : State} {x : Group} {m : Nat}

/-- The DEST of an abort to a member is the member's node in the 20 bits of a node ID. -/
theorem abortPacket_dest (node src gid run epoch reason chunk blamed : Nat) :
    (mkPacket 0 3 node src 0 0 0 (groupFields gid run 0 epoch 0 ++ [hf 0x1C 0 4 1] ++
      [hf 0x1E 0 12 reason, hf 0x20 0 32 chunk, hf 0x24 0 20 blamed]) []).dest = node % 2 ^ 20 :=
  mkPacket_fld _ _ _ _ _ _ _ _ _ 0x04 0 20 node (groupMessage_apart _ _ _ _ _ _ _ _ _ _ _ _ _ _ _) (by simp [headFields]) (by decide)

/-- An abort whose only receiver's DEST is this node comes back to the local units: nothing is queued in the router. -/
theorem State.sendAbort_parentHere (hup : x.treeUp = some m) (hdown : x.treeDown = []) {came : Nat} (hcame : x.node m ≠ came)
    (hroute : s.routeOf 10 (x.node m % 2 ^ 20) = .deliver) (epoch run reason chunk blamed : Nat) :
    (s.sendAbort x epoch run reason chunk blamed (some came)).core.router = s.core.router := by
  have hto : (some came != some (x.node m)) = true := bne_iff_ne.mpr fun h => hcame (Option.some.inj h).symm
  simp only [State.sendAbort, hup, hdown, List.append_nil, List.filter_cons, hto, if_true, List.filter_nil, List.foldl_cons,
    List.foldl_nil, State.sendMember, State.sendGroup]
  rw [State.inject_deliver _ _ (by rw [abortPacket_dest, hroute]), State.deliver]

/-- A GROUP message for an active group that hands no epoch over is served as it comes. -/
theorem State.withGroup_some {sub : Nat} {i : InPkt} {rest : List InPkt} (completes : Bool) (f : InPkt → Nat → Group → State → State)
    (htake : takeFirst (fun i => i.pkt.cls == 0 && i.pkt.type == 3 && i.pkt.fld 0x1C 0 4 == sub) s.core.resp.inbox = some (i, rest))
    (hg : s.group? i.pkt.grp = some x) (hstate : x.state ≠ 2) :
    s.withGroup sub completes f = f i i.pkt.grp x { s with core.resp.inbox := rest } := by
  have hg' : ({ s with core.resp.inbox := rest } : State).group? i.pkt.grp = some x := hg
  rw [State.withGroup, State.withPkt_some _ htake]
  simp only [hg', beq_eq_false_iff_ne.mpr hstate, Bool.and_false, Bool.false_and, Bool.false_eq_true, if_false]

/-- The first abort of another epoch is noted and relayed. -/
theorem abortArrival_relays {i : InPkt} {rest : List InPkt}
    (htake : takeFirst (fun i => i.pkt.cls == 0 && i.pkt.type == 3 && i.pkt.fld 0x1C 0 4 == 1) s.core.resp.inbox = some (i, rest))
    (hg : s.group? i.pkt.grp = some x) (hepoch : i.pkt.epoch ≠ x.epoch) (hstate : x.state ≠ 2)
    (hnew : x.aborts.contains (i.pkt.epoch, i.pkt.run) = false) :
    abortArrival s = (({ s with core.resp.inbox := rest } : State).setGroup i.pkt.grp (x.noteAbort i.pkt.epoch i.pkt.run)).sendAbort x
      i.pkt.epoch i.pkt.run (i.pkt.fld 0x1E 0 12) (i.pkt.fld 0x20 0 32) (i.pkt.fld 0x24 0 20) (some i.pkt.srcNode) := by
  rw [abortArrival, State.withGroup_some true _ htake hg hstate]
  simp only [hepoch, hnew, false_and, and_false, Bool.false_eq_true, if_false]

/-- A member whose only abort to relay has this node as its DEST queues nothing for it. -/
theorem exec_abortArrival_parentHere {i : InPkt} {rest : List InPkt} (hoff : s.off = false)
    (htake : takeFirst (fun i => i.pkt.cls == 0 && i.pkt.type == 3 && i.pkt.fld 0x1C 0 4 == 1) s.core.resp.inbox = some (i, rest))
    (hg : s.group? i.pkt.grp = some x) (hepoch : i.pkt.epoch ≠ x.epoch) (hstate : x.state ≠ 2)
    (hnew : x.aborts.contains (i.pkt.epoch, i.pkt.run) = false) (hup : x.treeUp = some m) (hdown : x.treeDown = [])
    (hcame : x.node m ≠ i.pkt.srcNode) (hroute : s.routeOf 10 (x.node m % 2 ^ 20) = .deliver) :
    ∃ t, exec .abortArrival s = .next t ∧ t.core.router = s.core.router := by
  have hbody := abortArrival_relays (s := { s with out := [] }) htake hg hepoch hstate hnew
  have haside := (State.Aside.refl ((s.taken rest).setGroup i.pkt.grp (x.noteAbort i.pkt.epoch i.pkt.run))).sendAbort x i.pkt.epoch
    i.pkt.run (i.pkt.fld 0x1E 0 12) (i.pkt.fld 0x20 0 32) (i.pkt.fld 0x24 0 20) (some i.pkt.srcNode)
  obtain ⟨t, ht, hcore, -, -⟩ := coreCmd_next abortArrival s _ hoff hbody ((State.off_eq_of haside.build haside.aon).trans hoff)
  have hroutes : s.SameRoutes ((s.taken rest).setGroup i.pkt.grp (x.noteAbort i.pkt.epoch i.pkt.run)) := ⟨rfl, rfl, fun _ _ => rfl⟩
  refine ⟨t, ht, (congrArg (·.router) hcore).trans ?_⟩
  exact State.sendAbort_parentHere hup hdown hcame ((hroutes.routeOf _ _).trans hroute) _ _ _ _ _

end

/-! ### A member whose stored parent is no node ID -/

/-- Member 1 of a group of two, epoch 3 current, whose neighbour set stores 2^20 as the node of its parent: one bit beyond a node ID.
No activation stores it, since the entries of a list hold 20 bits. -/
def strayMember : Group :=
  { State.reset.newGroup (pack [(0, 21, 2), (32, 21, 1), (64, 21, 2), (96, 21, 1)]) [] with
    cache := [(0, (2 ^ 20, 5))], state := 3, fresh := false, epoch := 3 }

/-- An abort of epoch 0 from node 1. -/
def strayAbort : InPkt := ⟨0, 0, mkPacket 0 3 0 1 0 0 0 (groupFields 5 0 0 0 0 ++ [hf 0x1C 0 4 1]) []⟩

/-- Node 0 of a fabric of one die in RUN, port 8 routable, with that member as its group 5 and that abort arrived. -/
def strayParent : State :=
  { State.reset with
    aon.regs := [(R.GLOBAL_START_STATUS_STATE.addr, 4)]
    core.regs := [((R.GATE_STATUS_STATE 8).addr, 6), (R.ROUTE_SELF_VALID.addr, 2 ^ 31), (R.ROUTE_EXTENT_EX.addr, 0x01010101)]
    core.router.flow := [(8, { Flow.empty with ann := some true })]
    core.col.groups := [(5, strayMember)]
    core.resp.inbox := [strayAbort] }

/-- The header fields of the abort. -/
theorem strayAbort_fld (off lo w v : Nat)
    (hm : hf off lo w v ∈ headFields 0 3 0 1 0 0 0 0 ++ (groupFields 5 0 0 0 0 ++ [hf 0x1C 0 4 1])) (hb : 8 * off + lo + w ≤ 512) :
    strayAbort.pkt.fld off lo w = v % 2 ^ w :=
  mkPacket_fld _ _ _ _ _ _ _ _ _ off lo w v (by unfold bitsApart; decide) hm hb

theorem strayAbort_grp : strayAbort.pkt.grp = 5 := strayAbort_fld 0x10 0 12 5 (by decide) (by decide)

theorem strayAbort_epoch : strayAbort.pkt.epoch = 0 := strayAbort_fld 0x14 0 32 0 (by decide) (by decide)

theorem strayAbort_srcNode : strayAbort.pkt.srcNode = 1 := strayAbort_fld 0x04 20 20 1 (by decide) (by decide)

/-- It is the ABORT that the command takes. -/
theorem strayParent_takes :
    takeFirst (fun i => i.pkt.cls == 0 && i.pkt.type == 3 && i.pkt.fld 0x1C 0 4 == 1) strayParent.core.resp.inbox = some (strayAbort, []) := by
  have hcls : strayAbort.pkt.cls = 0 := strayAbort_fld 0x00 0 3 0 (by decide) (by decide)
  have htype : strayAbort.pkt.type = 3 := strayAbort_fld 0x00 3 5 3 (by decide) (by decide)
  have hsub : strayAbort.pkt.fld 0x1C 0 4 = 1 := strayAbort_fld 0x1C 0 4 1 (by decide) (by decide)
  simp [strayParent, takeFirst, hcls, htype, hsub]

/-- Refutes O50: its clause on the first abort of another epoch routes by the node stored for the parent, of which it asks nothing, while the
packet carries that node's low 20 bits. For a member on node 0 that stores 2^20, routing names port 8 for 2^20, but the packet has DEST 0,
this node, and the router queues nothing. -/
theorem not_groupMessagesArrive : ¬ Obligations.GroupMessagesArrive := by
  unfold Obligations.GroupMessagesArrive
  intro h
  obtain ⟨-, -, habort, -⟩ := h strayParent strayAbort [] (by decide)
  have hg : strayParent.group? strayAbort.pkt.grp = some strayMember := by
    rw [strayAbort_grp]
    rfl
  have hepoch : strayAbort.pkt.epoch ≠ strayMember.epoch := by
    rw [strayAbort_epoch]
    decide
  have hcame : strayMember.node 0 ≠ strayAbort.pkt.srcNode := by
    rw [strayAbort_srcNode]
    decide
  obtain ⟨-, -, hrelay⟩ := habort strayParent_takes strayMember hg rfl
  obtain ⟨t, ht, -, -, hsent⟩ := hrelay hepoch (by decide) rfl
  obtain ⟨o, hqueued, -⟩ := hsent 0 8 true (by decide) (by decide) hcame (by decide)
  obtain ⟨u, hu, hrouter⟩ := exec_abortArrival_parentHere (m := 0) (by decide) strayParent_takes hg hepoch (by decide) rfl (by decide)
    (by decide) hcame (by decide)
  obtain rfl := Host.Outcome.next.inj (hu.symm.trans ht)
  rw [hrouter] at hqueued
  simp [strayParent, State.reset, Core.reset] at hqueued

end Sys2Proof.Machine

namespace Sys2Proof.Machine

/-! ## KEYRING_CMD and the counts of active groups (R150, R243) -/

section
variable {s u : State} {fs : List Fld}

/-- A core-domain command that writes fields of the core domain alone. -/
theorem coreCmd_wrote {body : State → State} (hoff : s.off = false) (hw : ({ s with out := [] } : State).Wrote u fs)
    (hb : body { s with out := [] } = u) :
    ∃ t, coreCmd body s = .next t ∧ (∀ f, t.rd f = u.rd f) ∧ s.SameBut t fs ∧ s.SameAon t ∧ s.SameCore t :=
  coreCmd_writes hoff hb (hw.off.trans hoff) hw.rd hw.sameAon hw.core

/-- A core-domain command that writes one field of the core domain. -/
theorem coreCmd_wr {body : State → State} {f : Fld} {v : Nat} (hoff : s.off = false) (haon : f.aon = false) (hfit : f.lo + f.width ≤ 32)
    (hv : v < 2 ^ f.width) (hb : body { s with out := [] } = ({ s with out := [] } : State).wr f v) :
    ∃ t, coreCmd body s = .next t ∧ t.rd f = v ∧ s.SameBut t [f] ∧ s.SameAon t ∧ s.SameCore t := by
  obtain ⟨t, ht, hrd, hrest⟩ := coreCmd_wrote hoff ((State.Wrote.refl _ [f]).wr f v (by simp) haon) hb
  exact ⟨t, ht, (hrd f).trans ((State.rd_wr_self _ _ _ hfit).trans (Nat.mod_eq_of_lt hv)), hrest⟩

/-- A group put in stands beside what was written. -/
theorem State.Wrote.setGroup (h : s.Wrote u fs) (g : Nat) (x : Group) : (s.setGroup g x).Wrote (u.setGroup g x) fs where
  build := h.build
  aon := h.aon
  core := by
    simp only [State.setGroup]
    rw [h.core]
  rd := h.rd

theorem State.Wrote.trans {t : State} (h : s.Wrote u fs) (k : u.Wrote t fs) : s.Wrote t fs where
  build := k.build.trans h.build
  aon := k.aon.trans h.aon
  core := k.core.trans (by rw [h.core])
  rd := fun f hf => (k.rd f hf).trans (h.rd f hf)

/-- The fields that show the active groups and their Pintle slots. -/
def groupCounts : List Fld :=
  [R.KEYRING_STATUS_ACTIVE, R.KEYRING_PINTLE_STATUS_SLOTS_USED, R.KEYRING_PINTLE_STATUS_BOXES, R.KEYRING_PINTLE_STATUS_POOL_SHORT]

theorem State.countGroups_wrote (s : State) : s.Wrote s.countGroups groupCounts :=
  (((State.Wrote.refl s _).wr _ _ (by simp [groupCounts]) rfl).wr _ _ (by simp [groupCounts]) rfl).wr _ _ (by simp [groupCounts]) rfl

theorem State.countGroups_active (s : State) : s.countGroups.rd R.KEYRING_STATUS_ACTIVE = s.core.col.groups.length % 2 ^ 13 := by
  have hboxes : R.KEYRING_PINTLE_STATUS_BOXES.apart R.KEYRING_STATUS_ACTIVE := .inr (.inl (by decide))
  have hslots : R.KEYRING_PINTLE_STATUS_SLOTS_USED.apart R.KEYRING_STATUS_ACTIVE := .inr (.inl (by decide))
  rw [State.countGroups, State.rd_wr_ne _ _ _ _ hboxes, State.rd_wr_ne _ _ _ _ hslots]
  exact State.rd_wr_self _ _ _ (by decide)

/-- BUSY and CAUSE of KEYRING_STATUS lie beside the counts. -/
theorem groupCounts_apart_status : ∀ g ∈ groupCounts, g.apart R.KEYRING_STATUS_BUSY ∧ g.apart R.KEYRING_STATUS_CAUSE := by
  simp [groupCounts, Fld.apart, R.KEYRING_STATUS_ACTIVE, R.KEYRING_PINTLE_STATUS_SLOTS_USED, R.KEYRING_PINTLE_STATUS_BOXES,
    R.KEYRING_PINTLE_STATUS_POOL_SHORT, R.KEYRING_STATUS_BUSY, R.KEYRING_STATUS_CAUSE]

/-! ## A group becomes active (R165, R243, R382) -/

/-- The Pintle slots a group gets: all that its arcs need, or none. -/
def State.slotsGiven (s : State) (x : Group) : Nat :=
  if s.slotsUsed + (x.arcs.map slotsFor).getD 0 ≤ s.build.pintleSlots then (x.arcs.map slotsFor).getD 0 else 0

/-- The thresholds in effect lie outside the fields that a change of the groups writes. -/
theorem State.Wrote.thresholds (h : s.Wrote u fs) (hfs : ∀ f ∈ fs, f.addr ≠ R.KEYRING_ALGO_TREE_MAX_LOG2.addr) :
    u.treeMax = s.treeMax ∧ u.ringMin = s.ringMin := by
  have htree : u.rd R.KEYRING_ALGO_TREE_MAX_LOG2 = s.rd R.KEYRING_ALGO_TREE_MAX_LOG2 :=
    h.rd _ fun f hf => .inr (.inl (hfs f hf).symm)
  have hring : u.rd R.KEYRING_ALGO_RING_MIN_LOG2 = s.rd R.KEYRING_ALGO_RING_MIN_LOG2 :=
    h.rd _ fun f hf => .inr (.inl (hfs f hf).symm)
  simp only [State.ringMin, State.treeMax, htree, hring, and_self]

/-- The pool's shortage shows when a group's arcs get no slots (R243). -/
def State.poolChecked (s : State) (x : Group) : State :=
  if s.slotsUsed + (x.arcs.map slotsFor).getD 0 ≤ s.build.pintleSlots then s else s.wr R.KEYRING_PINTLE_STATUS_POOL_SHORT 1

theorem State.poolChecked_wrote (s : State) (x : Group) : s.Wrote (s.poolChecked x) groupCounts := by
  unfold State.poolChecked
  split
  · exact .refl _ _
  · exact (State.Wrote.refl s _).wr _ _ (by simp [groupCounts]) rfl

theorem State.enterGroup_eq (s : State) (g : Nat) (x : Group) :
    s.enterGroup g x = ((s.poolChecked x).sampleReady g { x with
      slots := s.slotsGiven x, treeMax := (s.poolChecked x).treeMax, ringMin := (s.poolChecked x).ringMin }).2.countGroups := by
  unfold State.enterGroup State.poolChecked State.slotsGiven
  cases x.arcs <;> simp only [decide_eq_true_eq, Option.map_some, Option.map_none, Option.getD_some, Option.getD_none]

/-- A group that becomes active captures the thresholds and gets its slots; the counts show it, and the rest stays. -/
theorem State.enterGroup_spec (s : State) (g : Nat) (x : Group) :
    ∃ y, y = { x with slots := y.slots, localOk := y.localOk, cause := y.cause, treeMax := s.treeMax, ringMin := s.ringMin } ∧
      y.slots = s.slotsGiven x ∧ (s.setGroup g y).Wrote (s.enterGroup g x) groupCounts := by
  obtain ⟨htree, hring⟩ := (s.poolChecked_wrote x).thresholds (by decide)
  rw [State.enterGroup_eq, htree, hring]
  exact ⟨_, rfl, rfl, ((s.poolChecked_wrote x).setGroup g _).trans (State.countGroups_wrote _)⟩

/-! ## KEYRING_ACTIVATE, KEYRING_ACTIVATE_DONE, KEYRING_DEACTIVATE -/

/-- The fields that the end of an activation writes. -/
def activationFields : List Fld := [R.KEYRING_STATUS_BUSY, R.WARD_STATUS_ITEMS, R.KEYRING_STATUS_CAUSE]

/-- The state without the activation, its work item taken. -/
def State.actDone (s : State) (w : WorkItem) : State :=
  let rest := match takeFirst (· == w) s.core.ward.items with
    | some (_, t) => t
    | none => s.core.ward.items
  ((({ s with core.col.act := none, core.ward.items := rest } : State).wr R.KEYRING_STATUS_BUSY 0).wr R.WARD_STATUS_ITEMS rest.length).wr
    R.KEYRING_STATUS_CAUSE 0

theorem keyringActivateDone_enters {a : Activation} {x : Group} (ha : s.core.col.act = some a) (he : a.ended = some (0, some x))
    (hdue : s.itemDue (.activation a.group) = true) :
    keyringActivateDone s = (s.actDone (.activation a.group)).enterGroup a.group x := by
  simp only [keyringActivateDone, ha, he, hdue, if_true]
  rfl

theorem keyringActivateDone_fails {a : Activation} {c : Nat} (ha : s.core.col.act = some a) (he : a.ended = some (c, none)) :
    keyringActivateDone s =
      (({ s with core.col.act := none } : State).wr R.KEYRING_STATUS_BUSY 0).wr R.KEYRING_STATUS_CAUSE c := by
  simp only [keyringActivateDone, ha, he]

theorem keyringActivateDone_waits {a : Activation} {x : Group} (ha : s.core.col.act = some a) (he : a.ended = some (0, some x))
    (hdue : s.itemDue (.activation a.group) = false) : keyringActivateDone s = s := by
  simp only [keyringActivateDone, ha, he, hdue, Bool.false_eq_true, if_false]

theorem State.actDone_wrote (s : State) (w : WorkItem) :
    ∃ l, ({ s with core.col.act := none, core.ward.items := l } : State).Wrote (s.actDone w) activationFields := by
  exact ⟨_, (((State.Wrote.refl _ _).wr _ _ (by simp [activationFields]) rfl).wr _ _ (by simp [activationFields]) rfl).wr _ _
    (by simp [activationFields]) rfl⟩

theorem State.actDone_status (s : State) (w : WorkItem) :
    (s.actDone w).rd R.KEYRING_STATUS_BUSY = 0 ∧ (s.actDone w).rd R.KEYRING_STATUS_CAUSE = 0 := by
  have hcause : R.KEYRING_STATUS_CAUSE.apart R.KEYRING_STATUS_BUSY := .inr (.inr (.inr (by decide)))
  have hitems : R.WARD_STATUS_ITEMS.apart R.KEYRING_STATUS_BUSY := .inr (.inl (by decide))
  constructor
  · rw [State.actDone, State.rd_wr_ne _ _ _ _ hcause, State.rd_wr_ne _ _ _ _ hitems]
    exact State.rd_wr_self _ _ _ (by decide)
  · exact State.rd_wr_self _ _ _ (by decide)

/-- What becomes active under the acknowledgement of policy firmware (R150, R165, R243, R382). -/
theorem exec_keyringActivateDone_enters {a : Activation} {x : Group} (hoff : s.off = false) (ha : s.core.col.act = some a)
    (he : a.ended = some (0, some x)) (hdue : s.itemDue (.activation a.group) = true) :
    ∃ t y l, exec .keyringActivateDone s = .next t ∧ y.slots = s.slotsGiven x ∧
      y = { x with slots := y.slots, localOk := y.localOk, cause := y.cause, treeMax := s.treeMax, ringMin := s.ringMin } ∧
      t.aon = s.aon ∧ t.rd R.KEYRING_STATUS_BUSY = 0 ∧ t.rd R.KEYRING_STATUS_CAUSE = 0 ∧
      t.core = { s.core with regs := t.core.regs, ward.items := l, col.act := none, col.groups := SMap.put s.core.col.groups a.group y } := by
  have hbody := keyringActivateDone_enters (s := { s with out := [] }) ha he hdue
  obtain ⟨l, hv⟩ := State.actDone_wrote { s with out := [] } (.activation a.group)
  obtain ⟨hbusy, hcause⟩ := State.actDone_status { s with out := [] } (.activation a.group)
  generalize ({ s with out := [] } : State).actDone (.activation a.group) = v at hbody hv hbusy hcause
  obtain ⟨y, hy, hslots, hw⟩ := v.enterGroup_spec a.group x
  obtain ⟨htree, hring⟩ := hv.thresholds (by decide)
  have hgroups : v.core.col.groups = s.core.col.groups := congrArg (·.col.groups) hv.core
  have hbuild : v.build = s.build := hv.build
  have hgiven : v.slotsGiven x = s.slotsGiven x := by
    rw [State.slotsGiven, State.slotsUsed, hgroups, hbuild, State.slotsGiven, State.slotsUsed]
  obtain ⟨t, ht, hcore, haon, hrd⟩ := coreCmd_next keyringActivateDone s _ hoff hbody
    ((State.off_eq_of (hw.build.trans hv.build) (hw.aon.trans hv.aon)).trans hoff)
  have hkept : ∀ f, (∀ g ∈ groupCounts, g.apart f) → t.rd f = v.rd f := fun f hf => (hrd f).trans (hw.rd f hf)
  refine ⟨t, y, l, ht, hslots.trans hgiven, ?_, haon.trans (hw.aon.trans hv.aon),
    (hkept _ fun g hg => (groupCounts_apart_status g hg).1).trans hbusy,
    (hkept _ fun g hg => (groupCounts_apart_status g hg).2).trans hcause, ?_⟩
  · rw [htree, hring] at hy
    exact hy
  · rw [hcore, hw.core]
    simp only [State.setGroup]
    rw [hv.core]

/-- A failed activation leaves its CAUSE (R150). -/
theorem exec_keyringActivateDone_fails {a : Activation} {c : Nat} (hoff : s.off = false) (ha : s.core.col.act = some a)
    (he : a.ended = some (c, none)) (hc : c < 8) :
    ∃ t, exec .keyringActivateDone s = .next t ∧ t.rd R.KEYRING_STATUS_BUSY = 0 ∧ t.rd R.KEYRING_STATUS_CAUSE = c ∧
      s.SameBut t [R.KEYRING_STATUS_BUSY, R.KEYRING_STATUS_CAUSE] ∧ t.aon = s.aon ∧
      t.core = { s.core with regs := t.core.regs, col.act := none } := by
  have hbody := keyringActivateDone_fails (s := { s with out := [] }) ha he
  have hw : ({ s with out := [], core.col.act := none } : State).Wrote _ [R.KEYRING_STATUS_BUSY, R.KEYRING_STATUS_CAUSE] :=
    ((State.Wrote.refl _ _).wr R.KEYRING_STATUS_BUSY 0 (by simp) rfl).wr R.KEYRING_STATUS_CAUSE c (by simp) rfl
  obtain ⟨t, ht, hcore, haon, hrd⟩ := coreCmd_next keyringActivateDone s _ hoff hbody (hw.off.trans hoff)
  have hapart : R.KEYRING_STATUS_CAUSE.apart R.KEYRING_STATUS_BUSY := .inr (.inr (.inr (by decide)))
  refine ⟨t, ht, ?_, ?_, fun f hf => (hrd f).trans (hw.rd f hf), haon.trans hw.aon, by rw [hcore, hw.core]⟩
  · rw [hrd, State.rd_wr_ne _ _ _ _ hapart]
    exact State.rd_wr_self _ _ _ (by decide)
  · exact (hrd _).trans ((State.rd_wr_self _ _ _ (by decide)).trans (Nat.mod_eq_of_lt hc))

theorem keyringActivate_reads {k : GroupId} (hbusy : s.on R.KEYRING_STATUS_BUSY = false) (hg : s.group? k.val = none) :
    keyringActivate k s = (({ s with core.col.act := some ⟨k.val, [], none⟩ } : State).wr R.KEYRING_STATUS_BUSY 1).virtJob 0
      ((s.rd R.KEYRING_BASE_LO_BASE * 4096 + s.rd R.KEYRING_BASE_HI_BASE * 2 ^ 32 + k.val * 64) % 2 ^ 64) 64 .read [] 5 0
      (.keyEntry k.val) := by
  simp only [keyringActivate, hbusy, hg, Bool.false_eq_true, if_false, Option.isSome_none]
  rfl

/-- ACTIVATE of a group that is not active starts the read of its entry (R150). -/
theorem exec_keyringActivate_reads {k : GroupId} (hoff : s.off = false) (hbusy : s.on R.KEYRING_STATUS_BUSY = false)
    (hg : s.group? k.val = none) :
    ∃ t j, exec (.keyringActivate k) s = .next t ∧ t.rd R.KEYRING_STATUS_BUSY = 1 ∧ s.SameBut t [R.KEYRING_STATUS_BUSY] ∧ t.aon = s.aon ∧
      t.core = { s.core with
        regs := t.core.regs, jobs := SMap.put s.core.jobs s.core.nextId j, nextId := s.core.nextId + 1,
        work := s.core.work ++ [.job s.core.nextId], col.act := some ⟨k.val, [], none⟩ } ∧
      j.func = 0 ∧ j.acc = .read ∧ j.len = 64 ∧
      j.va = (s.rd R.KEYRING_BASE_LO_BASE * 4096 + s.rd R.KEYRING_BASE_HI_BASE * 2 ^ 32 + k.val * 64) % 2 ^ 64 := by
  have hw : ({ s with out := [], core.col.act := some ⟨k.val, [], none⟩ } : State).Wrote _ [R.KEYRING_STATUS_BUSY] :=
    (State.Wrote.refl _ _).wr R.KEYRING_STATUS_BUSY 1 (by simp) rfl
  obtain ⟨t, ht, hcore, haon, hrd⟩ := coreCmd_next (keyringActivate k) s _ hoff (keyringActivate_reads (s := { s with out := [] }) hbusy hg)
    (hw.off.trans hoff)
  refine ⟨t, ⟨0, _, 64, .virt true false none, .read, [], 5, 0, 0, 0, 0, 0, 0, .keyEntry k.val⟩, ht, (hrd _).trans ?_,
    fun f hf => (hrd f).trans (hw.rd f hf), haon.trans hw.aon, ?_, rfl, rfl, rfl, rfl⟩
  · exact State.rd_wr_self _ R.KEYRING_STATUS_BUSY 1 (by decide)
  · rw [hcore]
    rfl

/-- DEACTIVATE removes a group that no enabled queue names, and the count of active groups shows it (R150). -/
theorem exec_keyringDeactivate_removes {k : GroupId} {x : Group} (hoff : s.off = false) (hbusy : s.on R.KEYRING_STATUS_BUSY = false)
    (hg : s.group? k.val = some x) (hqueued : s.groupQueued k.val = false) :
    ∃ t, exec (.keyringDeactivate k) s = .next t ∧ t.rd R.KEYRING_STATUS_CAUSE = 0 ∧
      t.rd R.KEYRING_STATUS_ACTIVE = t.core.col.groups.length % 2 ^ 13 ∧ t.aon = s.aon ∧
      t.core = { s.core with regs := t.core.regs, col.groups := SMap.del s.core.col.groups k.val } := by
  have hbusy' : ({ s with out := [] } : State).on R.KEYRING_STATUS_BUSY = false := hbusy
  have hg' : ({ s with out := [] } : State).group? k.val = some x := hg
  have hqueued' : ({ s with out := [] } : State).groupQueued k.val = false := hqueued
  have hbody : keyringDeactivate k { s with out := [] } =
      (({ s with out := [], core.col.groups := SMap.del s.core.col.groups k.val } : State).wr R.KEYRING_STATUS_CAUSE 0).countGroups := by
    simp only [keyringDeactivate, hbusy', hg', hqueued', Bool.false_eq_true, if_false, Option.isNone_some, or_self]
  have hcause : ({ s with out := [], core.col.groups := SMap.del s.core.col.groups k.val } : State).Wrote _ [R.KEYRING_STATUS_CAUSE] :=
    (State.Wrote.refl _ _).wr R.KEYRING_STATUS_CAUSE 0 (by simp) rfl
  have hzero : (({ s with out := [], core.col.groups := SMap.del s.core.col.groups k.val } : State).wr R.KEYRING_STATUS_CAUSE 0).rd
      R.KEYRING_STATUS_CAUSE = 0 := State.rd_wr_self _ _ _ (by decide)
  generalize ({ s with out := [], core.col.groups := SMap.del s.core.col.groups k.val } : State).wr R.KEYRING_STATUS_CAUSE 0 = v
    at hbody hcause hzero
  have hcount := v.countGroups_wrote
  obtain ⟨t, ht, hcore, haon, hrd⟩ := coreCmd_next (keyringDeactivate k) s _ hoff hbody ((hcount.off.trans hcause.off).trans hoff)
  refine ⟨t, ht, ?_, ?_, haon.trans (hcount.aon.trans hcause.aon), by rw [hcore, hcount.core, hcause.core]⟩
  · exact (hrd _).trans ((hcount.rd _ fun g hg => (groupCounts_apart_status g hg).2).trans hzero)
  · rw [hrd, v.countGroups_active, hcore, hcount.core]

end

/-- Settles O49: a busy keyring, activation from its first read to its end, and deactivation. -/
theorem groupsBecomeActive : Obligations.GroupsBecomeActive := by
  intro s hoff
  refine ⟨fun k hbusy => ?_, fun k x hbusy hg => ?_, fun k hbusy hg => ?_, fun a c ha he hc => ?_, fun a x ha he hdue => ?_,
    fun a x ha he hdue => ?_, fun k x hbusy hg hqueued => ?_, fun k hbusy hno => ?_⟩
  · have hbusy' : ({ s with out := [] } : State).on R.KEYRING_STATUS_BUSY = true := hbusy
    simp only [List.forall_mem_cons]
    exact ⟨coreCmd_wr (body := keyringActivate k) hoff rfl (by decide) (by decide) (by simp only [keyringActivate, hbusy', if_true]),
      coreCmd_wr (body := keyringDeactivate k) hoff rfl (by decide) (by decide) (by simp only [keyringDeactivate, hbusy', if_true]),
      by simp⟩
  · have hbusy' : ({ s with out := [] } : State).on R.KEYRING_STATUS_BUSY = false := hbusy
    have hg' : ({ s with out := [] } : State).group? k.val = some x := hg
    exact coreCmd_wr (body := keyringActivate k) hoff rfl (by decide) (by decide)
      (by simp only [keyringActivate, hbusy', hg', Bool.false_eq_true, if_false, Option.isSome_some, if_true])
  · obtain ⟨t, j, ht, hset, hbut, haon, hcore, hfunc, hacc, hlen, hva⟩ := exec_keyringActivate_reads hoff hbusy hg
    refine ⟨t, j, ht, hset, by rw [hcore], by rw [hcore], ?_, hfunc, hacc, hlen, hva, hbut, by rw [State.SameAon, haon], by rw [hcore],
      by rw [hcore]⟩
    rw [hcore]
    exact SMap.get?_put_self _ _ _
  · obtain ⟨t, ht, hbusy, hcause, hbut, haon, hcore⟩ := exec_keyringActivateDone_fails hoff ha he hc
    exact ⟨t, ht, by rw [hcore], by rw [hcore], hbusy, hcause, hbut, by rw [State.SameAon, haon]⟩
  · obtain ⟨t, y, l, ht, hslots, hy, haon, hbusy, hcause, hcore⟩ := exec_keyringActivateDone_enters hoff ha he hdue
    refine ⟨t, y, ht, by rw [hcore], ?_, hy, hslots, fun k hk => ?_, hbusy, hcause, by rw [hcore], by rw [hcore], by rw [State.SameAon, haon]⟩
    · rw [State.group?, hcore]
      exact SMap.get?_put_self _ _ _
    · rw [State.group?, hcore]
      exact SMap.get?_put_ne _ _ _ _ hk
  · exact coreCmd_still (body := keyringActivateDone) hoff (keyringActivateDone_waits (s := { s with out := [] }) ha he hdue)
  · obtain ⟨t, ht, hcause, hactive, haon, hcore⟩ := exec_keyringDeactivate_removes hoff hbusy hg hqueued
    refine ⟨t, ht, ?_, fun j hj => ?_, hcause, hactive, by rw [hcore], by rw [State.SameAon, haon]⟩
    · rw [State.group?, hcore]
      exact SMap.get?_del_self _ _
    · rw [State.group?, hcore]
      exact SMap.get?_del_ne _ _ _ hj
  · have hbusy' : ({ s with out := [] } : State).on R.KEYRING_STATUS_BUSY = false := hbusy
    have hno' : (({ s with out := [] } : State).group? k.val).isNone = true ∨ ({ s with out := [] } : State).groupQueued k.val = true :=
      hno.imp_left Option.isNone_iff_eq_none.mpr
    exact coreCmd_wr (body := keyringDeactivate k) hoff rfl (by decide) (by decide)
      (by simp only [keyringDeactivate, hbusy', Bool.false_eq_true, if_false, hno', if_true])

end Sys2Proof.Machine

namespace Sys2Proof.Machine

/-! ## What queueing a packet leaves (R292, R311) -/

/-- `x` is `o` as it stands in the router's queue: the congestion mark of R292, bit 4 of header byte 1, may have been set. -/
structure OutPkt.Queued (o x : OutPkt) : Prop where
  port : x.port = o.port
  inPort : x.inPort = o.inPort
  fld : ∀ off lo w, 8 * off + lo + w ≤ 512 → 13 ≤ 8 * off + lo ∨ 8 * off + lo + w ≤ 12 → x.pkt.fld off lo w = o.pkt.fld off lo w

/-- `t` has the node ID and the extents of `s`, on which the places of an arc rest (R233, R234). -/
structure State.SamePlace (s t : State) : Prop where
  self : t.self = s.self
  extent : ∀ dim, t.extent dim = s.extent dim

section
variable {s t : State}

theorem State.enqueue_queued (s : State) (o : OutPkt) :
    ∃ x, o.Queued x ∧ (s.enqueue o).core.router.queued = s.core.router.queued ++ [x] := by
  unfold State.enqueue
  dsimp only
  split
  · refine ⟨_, ?_, rfl⟩
    exact ⟨rfl, rfl, fun off lo w hb hcm => o.pkt.fld_set_ne 1 4 1 1 off lo w hb (by omega)⟩
  · refine ⟨_, ?_, rfl⟩
    exact ⟨rfl, rfl, fun _ _ _ _ _ => rfl⟩

/-- Queueing a packet writes the port's peak alone. -/
theorem State.enqueue_rd (s : State) (o : OutPkt) {f : Fld} (hf : (R.ROUTE_TELEM_PEAK_FLITS o.port).apart f) :
    (s.enqueue o).rd f = s.rd f := by
  unfold State.enqueue
  dsimp only
  split <;> exact State.rd_wr_ne _ _ f _ hf

theorem State.SamePlace.refl (s : State) : s.SamePlace s := ⟨rfl, fun _ => rfl⟩

/-- Registers below the peaks of the ports keep a block's place. -/
theorem State.SamePlace.of_rd (h : ∀ f : Fld, f.addr < 0xb020c → t.rd f = s.rd f) : s.SamePlace t where
  self := h R.ROUTE_SELF_NODE (by decide)
  extent dim := by
    simp only [State.extent, h R.ROUTE_EXTENT_EX (by decide), h R.ROUTE_EXTENT_EY (by decide), h R.ROUTE_EXTENT_EZ (by decide),
      h R.ROUTE_EXTENT_DIES (by decide)]

/-- The peaks of the ports lie above the registers of the ports and of the node. -/
theorem peak_apart (p : Nat) {f : Fld} (hf : f.addr < 0xb020c) : (R.ROUTE_TELEM_PEAK_FLITS p).apart f :=
  .inr (.inl (by simp only [R.ROUTE_TELEM_PEAK_FLITS]; omega))

theorem State.enqueue_samePlace (s : State) (o : OutPkt) : s.SamePlace (s.enqueue o) :=
  .of_rd fun _ hf => s.enqueue_rd o (peak_apart _ hf)

theorem State.enqueue_portReady (s : State) (o : OutPkt) {p : Nat} (hp : p < 10) : (s.enqueue o).portReady p = s.portReady p := by
  simp only [State.portReady, State.portState, s.enqueue_rd o (peak_apart _ (show (R.GATE_STATUS_STATE p).addr < 0xb020c by
    simp only [R.GATE_STATUS_STATE]; omega))]

theorem State.SamePlace.count (h : s.SamePlace t) (slot event : Nat) : s.SamePlace (t.count slot event) := ⟨h.self, h.extent⟩

theorem State.SamePlace.arcPos (h : s.SamePlace t) (a : Arc) (dim : Nat) : t.arcPos a dim = s.arcPos a dim := by
  simp only [State.arcPos, h.self, h.extent]

theorem State.SamePlace.arcHops (h : s.SamePlace t) (a : Arc) (dim : Nat) (minus : Bool) : t.arcHops a dim minus = s.arcHops a dim minus := by
  simp only [State.arcHops, h.extent, h.arcPos]

theorem State.SamePlace.flitPlaced (h : s.SamePlace t) (x : Group) (i : InPkt) : t.flitPlaced x i = s.flitPlaced x i := by
  simp only [State.flitPlaced, State.arcNode, h.arcPos, h.self, h.extent]

/-- A port that carries traffic queues what is sent by it. -/
theorem State.sendBy_ready {inPort p stamp : Nat} {entry : Bool} {k : Packet} (h : s.portReady p = true) :
    s.sendBy inPort p entry stamp k = s.enqueue ⟨inPort, p, entry, stamp, none, none, k, 0⟩ := by
  simp only [State.sendBy, h, if_true]

/-- What a send by a named port leaves. -/
theorem State.sendBy_frame (s : State) (inPort p : Nat) (entry : Bool) (stamp : Nat) (k : Packet) :
    s.Quiet (s.sendBy inPort p entry stamp k) ∧ s.SamePlace (s.sendBy inPort p entry stamp k) := by
  unfold State.sendBy
  dsimp only
  split
  · exact ⟨(State.Quiet.refl s).enqueue _, s.enqueue_samePlace _⟩
  · split
    · exact ⟨(State.Quiet.refl s).modLink _ _, ⟨rfl, fun _ => rfl⟩⟩
    · exact ⟨.refl s, .refl s⟩

/-! ## Pintle flits that arrive (R234, R240, R243) -/

variable {x : Group} {i : InPkt} {rest : List InPkt}

/-- A flit in its place came along its own dimension. -/
theorem State.flitPlaced_alongRing (h : s.flitPlaced x i = true) : alongRing i = true := by
  simp only [State.flitPlaced, Bool.and_eq_true] at h
  obtain ⟨⟨⟨⟨halong, -⟩, -⟩, -⟩, -⟩ := h
  exact halong

/-- A flit with no hop left goes no further. -/
theorem State.forwardFlit_last (h : i.pkt.fld 0x20 0 6 ≤ 1) : s.forwardFlit x i = s := by
  simp only [State.forwardFlit, h, true_or, if_true]

/-- What forwarding a flit leaves. -/
theorem State.forwardFlit_frame (s : State) (x : Group) (i : InPkt) : s.Quiet (s.forwardFlit x i) ∧ s.SamePlace (s.forwardFlit x i) := by
  unfold State.forwardFlit
  dsimp only
  split
  · exact ⟨.refl s, .refl s⟩
  · obtain ⟨hq, hp⟩ := s.sendBy_frame i.port (onward i.port) (s.entersRing i.port (onward i.port)) i.stamp _
    exact ⟨hq.count _ _, hp.count _ _⟩

/-- A flit with hops left goes on by the other port of its dimension, with one hop fewer. -/
theorem State.forwardFlit_onward (hhops : 1 < i.pkt.fld 0x20 0 6) (halong : alongRing i = true) (hready : s.portReady (onward i.port) = true) :
    ∃ o, (s.forwardFlit x i).core.router.queued = s.core.router.queued ++ [o] ∧ o.port = onward i.port ∧ o.inPort = i.port ∧
      o.pkt.fld 0x20 0 6 = i.pkt.fld 0x20 0 6 - 1 ∧ o.pkt.fld 0x1D 0 6 = i.pkt.fld 0x1D 0 6 := by
  have hlt : i.pkt.fld 0x20 0 6 - 1 < 2 ^ 6 := (Nat.sub_le _ _).trans_lt (i.pkt.fld_lt 0x20 0 6)
  unfold State.forwardFlit
  simp only [Nat.not_le.mpr hhops, halong, not_true_eq_false, or_self, if_false, State.sendBy_ready hready]
  obtain ⟨o, ho, hq⟩ := s.enqueue_queued ⟨i.port, onward i.port, s.entersRing i.port (onward i.port), i.stamp, none, none,
    (i.pkt.set 0x10 0 12 (((x.member (s.neighbour (regularDim (onward i.port)) (regularMinus (onward i.port)) 1)).map x.gid).getD 0)).set
      0x20 0 6 (i.pkt.fld 0x20 0 6 - 1), 0⟩
  refine ⟨o, hq, ho.port, ho.inPort, ?_, ?_⟩
  · exact (ho.fld 0x20 0 6 (by decide) (by decide)).trans ((Packet.fld_set_self _ _ _ _ _ (by decide)).trans (Nat.mod_eq_of_lt hlt))
  · exact (ho.fld 0x1D 0 6 (by decide) (by decide)).trans ((Packet.fld_set_ne _ _ _ _ _ _ _ _ (by decide) (by decide)).trans
      (Packet.fld_set_ne _ _ _ _ _ _ _ _ (by decide) (by decide)))

/-- The copy of a flit that a group keeps. -/
def Packet.pintleFlit (p : Packet) : PFlit :=
  ⟨p.seqNo, p.epoch, p.sig, p.fld 0x1C 3 1 == 1, p.fld 0x1C 0 2, p.fld 0x1D 0 6, p.fld 0x24 10 4, p.payload⟩

/-- A flit that names no active group is counted and dropped. -/
theorem pintleFlitArrival_noGroup
    (htake : takeFirst (fun i => i.pkt.cls == 0 && i.pkt.type == 2 && true) s.core.resp.inbox = some (i, rest))
    (hg : s.group? i.pkt.grp = none) : pintleFlitArrival s = ({ s with core.resp.inbox := rest } : State).count blockSlot 10 := by
  have hg' : ({ s with core.resp.inbox := rest } : State).group? i.pkt.grp = none := hg
  rw [pintleFlitArrival, State.withPkt_some _ htake]
  simp only [hg']

/-- The first flit of a group that is placed and due is forwarded and kept. -/
theorem pintleFlitArrival_kept
    (htake : takeFirst (fun i => i.pkt.cls == 0 && i.pkt.type == 2 && true) s.core.resp.inbox = some (i, rest))
    (hg : s.group? i.pkt.grp = some x) (hplaced : s.flitPlaced x i = true) (hdue : x.flitDue i.pkt = true) (hnone : x.pflits = []) :
    pintleFlitArrival s = ((({ s with core.resp.inbox := rest } : State).forwardFlit x i).setGroup i.pkt.grp
      { x with pflits := [i.pkt.pintleFlit] }).post (.coll i.pkt.grp) := by
  have hg' : ({ s with core.resp.inbox := rest } : State).group? i.pkt.grp = some x := hg
  have hplaced' : (({ s with core.resp.inbox := rest } : State).forwardFlit x i).flitPlaced x i = true :=
    ((State.forwardFlit_frame _ x i).2.flitPlaced x i).trans hplaced
  rw [pintleFlitArrival, State.withPkt_some _ htake]
  simp only [hg', hplaced', hdue, hnone, not_true_eq_false, if_false, if_true, List.any_nil, Bool.false_eq_true, List.nil_append]
  rfl

/-- A dropped flit leaves its packet's place and the count of R409. -/
theorem exec_pintleFlitArrival_dropped (hoff : s.off = false)
    (htake : takeFirst (fun i => i.pkt.cls == 0 && i.pkt.type == 2 && true) s.core.resp.inbox = some (i, rest))
    (hg : s.group? i.pkt.grp = none) :
    ∃ t, exec .pintleFlitArrival s = .next t ∧ t.core = ((s.taken rest).count blockSlot 10).core ∧ t.aon = s.aon := by
  obtain ⟨t, ht, hcore, haon, -⟩ := coreCmd_next pintleFlitArrival s _ hoff (pintleFlitArrival_noGroup (s := { s with out := [] }) htake hg) hoff
  exact ⟨t, ht, hcore, haon⟩

/-- A flit that is placed and due is kept, and the rest is as forwarding leaves it. -/
theorem exec_pintleFlitArrival_kept (hoff : s.off = false)
    (htake : takeFirst (fun i => i.pkt.cls == 0 && i.pkt.type == 2 && true) s.core.resp.inbox = some (i, rest))
    (hg : s.group? i.pkt.grp = some x) (hplaced : s.flitPlaced x i = true) (hdue : x.flitDue i.pkt = true) (hnone : x.pflits = []) :
    ∃ t, exec .pintleFlitArrival s = .next t ∧ t.group? i.pkt.grp = some { x with pflits := [i.pkt.pintleFlit] } ∧
      .coll i.pkt.grp ∈ t.core.work ∧ t.core.router = ((s.taken rest).forwardFlit x i).core.router := by
  have hbody : pintleFlitArrival { s with out := [] } = (((s.taken rest).forwardFlit x i).setGroup i.pkt.grp
      { x with pflits := [i.pkt.pintleFlit] }).post (.coll i.pkt.grp) := pintleFlitArrival_kept htake hg hplaced hdue hnone
  obtain ⟨hquiet, -⟩ := (s.taken rest).forwardFlit_frame x i
  generalize (s.taken rest).forwardFlit x i = u at hbody hquiet ⊢
  obtain ⟨t, ht, hcore, -, -⟩ := coreCmd_next pintleFlitArrival s _ hoff hbody ((State.off_eq_of hquiet.build hquiet.aon).trans hoff)
  refine ⟨t, ht, ?_, by rw [hcore]; simp [State.post], by rw [hcore]; rfl⟩
  rw [State.group?, hcore]
  exact SMap.get?_put_self _ _ _

end

/-! ## Stage timeouts (R245) and handover resends (R246) -/

section
variable {s : State} {k : GroupId} {x : Group} {r : PRun}

/-- A stage of a collective that waits names the first position whose flit is missing, or nothing. -/
theorem pintleStageTimeout_eq {c : Coll} {o : Op} (hr : s.running? k.val = some (x, c, o)) (hp : x.prun = some r) (hhand : r.hand = false)
    (hsent : r.sent = true) (hstage : r.stage < 4) (hfatal : s.fatal = false) :
    pintleStageTimeout k s = (s.pintleMissing x r).elim s (s.collFault k.val 0x062 noChunk) := by
  simp only [pintleStageTimeout, hr, hp, hhand, hsent, hfatal, ge_iff_le, Nat.not_le.mpr hstage, Bool.false_eq_true, not_true_eq_false,
    or_self, if_false]
  cases s.pintleMissing x r <;> rfl

/-- A handover's flit of its stage in one direction (R234, R244). -/
def State.handFlit (s : State) (x : Group) (r : PRun) (minus : Bool) : Packet :=
  mkPacket 0 2 (s.neighbour r.stage minus (s.arcHops (x.arc r.stage) r.stage minus)) s.self 0 0 r.value.length
    (groupFields (((x.member (s.neighbour r.stage minus 1)).map x.gid).getD 0) 0 r.seq r.epoch (x.handSig r.epoch) ++
      pintleFields r.stage (s.arcPos (x.arc r.stage) r.stage) (s.arcHops (x.arc r.stage) r.stage minus) 0 0 0 r.flags true true) r.value

theorem State.sendFlit_hand {minus : Bool} (hhand : r.hand = true) (hhops : 0 < s.arcHops (x.arc r.stage) r.stage minus) :
    s.sendFlit x r minus = s.sendPort (regularPort r.stage minus) (s.handFlit x r minus) := by
  have hdesc : s.pintleDesc x r = none := by simp only [State.pintleDesc, hhand, if_true]
  simp only [State.sendFlit, hdesc, hhand, Nat.ne_of_gt hhops, if_false, if_true]
  cases x.coll <;> rfl

/-- What names a handover's flit of a stage. -/
structure Packet.IsHandFlit (p : Packet) (r : PRun) : Prop where
  type : p.type = 2
  epoch : p.epoch = r.epoch % 2 ^ 32
  stage : p.fld 0x1C 0 2 = r.stage
  hand : p.fld 0x1C 3 1 = 1

/-- The fields of a Pintle flit share no bit. -/
theorem pintleFlit_apart (dest src queue tag len plen gid run seq epoch sig stage org hops pop ptype lanes flags : Nat) (barrier hand : Bool) :
    (headFields 0 2 dest src queue tag len plen ++ (groupFields gid run seq epoch sig ++
      pintleFields stage org hops pop ptype lanes flags barrier hand)).Pairwise bitsApart :=
  bitsApart_of_places (l' := headFields 0 0 0 0 0 0 0 0 ++ (groupFields 0 0 0 0 0 ++ pintleFields 0 0 0 0 0 0 0 false false)) rfl
    (by unfold bitsApart; decide)

theorem State.handFlit_isHandFlit (s : State) (x : Group) (minus : Bool) (hstage : r.stage < 4) : (s.handFlit x r minus).IsHandFlit r := by
  have hfld := fun off lo w v => mkPacket_fld 0 2 (s.neighbour r.stage minus (s.arcHops (x.arc r.stage) r.stage minus)) s.self 0 0
    r.value.length (groupFields (((x.member (s.neighbour r.stage minus 1)).map x.gid).getD 0) 0 r.seq r.epoch (x.handSig r.epoch) ++
      pintleFields r.stage (s.arcPos (x.arc r.stage) r.stage) (s.arcHops (x.arc r.stage) r.stage minus) 0 0 0 r.flags true true)
    r.value off lo w v (pintleFlit_apart _ _ _ _ _ _ _ _ _ _ _ _ _ _ _ _ _ _ _ _)
  exact ⟨hfld 0x00 3 5 2 (by simp [headFields]) (by decide), hfld 0x14 0 32 _ (by simp [groupFields]) (by decide),
    (hfld 0x1C 0 2 _ (by simp [pintleFields]) (by decide)).trans (Nat.mod_eq_of_lt hstage),
    hfld 0x1C 3 1 1 (by simp [pintleFields, b2n]) (by decide)⟩

/-- The congestion mark leaves a handover's flit one. -/
theorem OutPkt.Queued.isHandFlit {o y : OutPkt} (h : o.Queued y) (hp : o.pkt.IsHandFlit r) : y.pkt.IsHandFlit r where
  type := (h.fld 0x00 3 5 (by decide) (by decide)).trans hp.type
  epoch := (h.fld 0x14 0 32 (by decide) (by decide)).trans hp.epoch
  stage := (h.fld 0x1C 0 2 (by decide) (by decide)).trans hp.stage
  hand := (h.fld 0x1C 3 1 (by decide) (by decide)).trans hp.hand

/-- A handover's flit with hops to go is queued for its port, which is ready. -/
theorem State.sendFlit_queued {minus : Bool} (hhand : r.hand = true) (hstage : r.stage < 4)
    (hhops : 0 < s.arcHops (x.arc r.stage) r.stage minus) (hready : s.portReady (regularPort r.stage minus) = true) :
    ∃ o y, s.sendFlit x r minus = s.enqueue o ∧ (s.sendFlit x r minus).core.router.queued = s.core.router.queued ++ [y] ∧
      y.port = regularPort r.stage minus ∧ y.pkt.IsHandFlit r := by
  rw [State.sendFlit_hand hhand hhops, State.sendPort, State.sendBy_ready hready]
  obtain ⟨y, hy, hq⟩ := s.enqueue_queued ⟨10, regularPort r.stage minus, true, 0, none, none, s.handFlit x r minus, 0⟩
  exact ⟨_, y, rfl, hq, hy.port, hy.isHandFlit (s.handFlit_isHandFlit x minus hstage)⟩

/-- Both flits of a handover's stage are queued, and nothing but sending happens. -/
theorem State.sendFlits_queued (hhand : r.hand = true) (hstage : r.stage < 4) (hplus : s.portReady (regularPort r.stage false) = true)
    (hminus : s.portReady (regularPort r.stage true) = true) (hhplus : 0 < s.arcHops (x.arc r.stage) r.stage false)
    (hhminus : 0 < s.arcHops (x.arc r.stage) r.stage true) :
    ∃ a b, s.Quiet (s.sendFlits x r) ∧ (s.sendFlits x r).core.router.queued = s.core.router.queued ++ [a, b] ∧
      a.port = regularPort r.stage false ∧ b.port = regularPort r.stage true ∧ ∀ o ∈ [a, b], o.pkt.IsHandFlit r := by
  obtain ⟨o, a, hsend, hqa, hpa, hfa⟩ := State.sendFlit_queued hhand hstage hhplus hplus
  have hminus' : (s.sendFlit x r false).portReady (regularPort r.stage true) = true := by
    rw [hsend, s.enqueue_portReady o (regularPort_lt true (Nat.le_of_lt_succ hstage)), hminus]
  have hhminus' : 0 < (s.sendFlit x r false).arcHops (x.arc r.stage) r.stage true := by
    rw [hsend, (s.enqueue_samePlace o).arcHops]
    exact hhminus
  obtain ⟨o', b, hsend', hqb, hpb, hfb⟩ := State.sendFlit_queued hhand hstage hhminus' hminus'
  refine ⟨a, b, ?_, ?_, hpa, hpb, by simp [hfa, hfb]⟩
  · rw [State.sendFlits, hsend', hsend]
    exact ((State.Quiet.refl s).enqueue o).enqueue o'
  · rw [State.sendFlits, hqb, hqa, List.append_assoc, List.singleton_append]

theorem pintleHandoverResend_eq (hg : s.group? k.val = some x) (hp : x.prun = some r) (hhand : r.hand = true) (hsent : r.sent = true)
    (hstage : r.stage < 4) (hfatal : s.fatal = false) : pintleHandoverResend k s = s.sendFlits x r := by
  simp only [pintleHandoverResend, hg, hp, hhand, hsent, hstage, hfatal, Bool.false_eq_true, not_false_eq_true, and_self, if_true]

end

/-- Settles O52: flits that arrive, stages that wait past their time, and the resends of a handover. -/
theorem pintleFlits : Obligations.PintleFlits := by
  intro s hoff
  refine ⟨fun i rest htake => ⟨fun hg => ?_, fun x hg hplaced hdue hnone => ?_⟩,
    fun k x c o r hr hp hhand hsent hstage hfatal => ⟨fun n hmiss => ?_, fun hmiss => ?_⟩,
    fun k x r hg hp hhand hsent hstage hfatal hplus hminus hhplus hhminus => ?_⟩
  · obtain ⟨t, ht, hcore, haon⟩ := exec_pintleFlitArrival_dropped hoff htake hg
    refine ⟨t, ht, by rw [hcore]; rfl, ?_, by rw [hcore]; rfl, by rw [hcore]; rfl, haon⟩
    rw [State.counter, hcore]
    exact State.countN_self (s.taken rest) blockSlot 10 1
  · obtain ⟨t, ht, hgroup, hwork, hrouter⟩ := exec_pintleFlitArrival_kept hoff htake hg hplaced hdue hnone
    refine ⟨t, _, ht, hgroup, rfl, rfl, rfl, rfl, rfl, rfl, hwork, fun hlast => ?_, fun hhops hready => ?_⟩
    · rw [hrouter, State.forwardFlit_last hlast]
      rfl
    · rw [hrouter]
      exact State.forwardFlit_onward (s := s.taken rest) hhops (State.flitPlaced_alongRing hplaced) hready
  · have hbody := pintleStageTimeout_eq (s := { s with out := [] }) hr hp hhand hsent hstage hfatal
    have hmiss' : ({ s with out := [] } : State).pintleMissing x r = some n := hmiss
    rw [hmiss', Option.elim_some] at hbody
    obtain ⟨t, y, ht, hy, hfault⟩ := coreCmd_collFault hoff { s with out := [] } rfl rfl (State.running?_eq_some.mp hr).1 hbody
    exact ⟨t, y, ht, hy, hfault.state, hfault.reason, hfault.node, hfault.coll, hfault.prun⟩
  · have hbody := pintleStageTimeout_eq (s := { s with out := [] }) hr hp hhand hsent hstage hfatal
    have hmiss' : ({ s with out := [] } : State).pintleMissing x r = none := hmiss
    rw [hmiss', Option.elim_none] at hbody
    obtain ⟨t, ht, hcore, -⟩ := coreCmd_still hoff hbody
    exact ⟨t, ht, hcore⟩
  · have hbody := pintleHandoverResend_eq (s := { s with out := [] }) hg hp hhand hsent hstage hfatal
    obtain ⟨a, b, hquiet, hqueued, hpa, hpb, hflits⟩ :=
      State.sendFlits_queued (s := { s with out := [] }) hhand hstage hplus hminus hhplus hhminus
    obtain ⟨t, ht, hcore, haon, -⟩ := coreCmd_next (pintleHandoverResend k) s _ hoff hbody
      ((State.off_eq_of hquiet.build hquiet.aon).trans hoff)
    refine ⟨t, a, b, ht, by rw [hcore, hqueued], hpa, hpb, fun o ho => ?_, ?_, haon.trans hquiet.aon⟩
    · exact ⟨(hflits o ho).type, (hflits o ho).epoch, (hflits o ho).stage, (hflits o ho).hand⟩
    · rw [hcore]
      exact congrArg (·.col) hquiet.core

end Sys2Proof.Machine

namespace Sys2Proof.Machine

/-! ## Blocks at a Tumbler expander (R214, R221) -/

section
variable {s : State} {i : InPkt} {w : Window} {rest : List InPkt} {st re : Nat}

/-- The version slot and the image of the code table that a coded block names, if it is RESIDENT (check 3 of R214). -/
def State.nyImage (s : State) (p : Packet) : Option (Nat × Bytes) := if nyCoded p.nyhdr then s.resident p.nyhdr else none

/-- What the checks before the window find (R214). -/
def State.nyFound (s : State) (p : Packet) : Option (Nat × Nat) :=
  nyChecks p.nyhdr p.payload p.crcMode true ((s.nyImage p).map (·.2))

/-- The state in which a block is checked: its expander has counted it, and a counted write is tracked (R92). -/
def State.nyCounted (s : State) (i : InPkt) : State := (s.count (unitSlot (s.tumblerOf i.port i.pkt.srcNode)) 6).trackIn i.pkt

/-- The arrival that a block becomes when it has passed its checks. -/
def State.nyArrival (s : State) (i : InPkt) : Arrival := { newArrival i with go := true, tref := (s.nyImage i.pkt).map (·.1) }

/-- The state in which a block is looked up: its code table has a reference more. -/
def State.nyEntered (s : State) (i : InPkt) : State :=
  let v : State := { s.nyCounted i with core.nextId := (s.nyCounted i).core.nextId + 1 }
  ((s.nyImage i.pkt).elim v (fun x => v.takeRef x.1)).setArr (s.nyCounted i).core.nextId (s.nyArrival i)

theorem State.nyCounted_eq (s : State) (i : InPkt) : s.nyCounted i = { s with
    core.cnt := (s.nyCounted i).core.cnt, core.work := (s.nyCounted i).core.work,
    core.resp.tracks := (s.nyCounted i).core.resp.tracks } := by
  rw [State.nyCounted, State.trackIn_eq]
  rfl

theorem State.nyCounted_served (s : State) (i : InPkt) : s.Served (s.nyCounted i) := by
  rw [State.nyCounted_eq]
  exact ⟨rfl, rfl, rfl⟩

theorem State.nyCounted_routes (s : State) (i : InPkt) : s.SameRoutes (s.nyCounted i) := by
  rw [State.nyCounted_eq]
  exact ⟨rfl, rfl, fun _ _ => rfl⟩

theorem State.Traced.countTumbler {t : State} (h : s.Traced t) (g : Nat) (func : Option Nat) (status : Nat) :
    s.Traced (t.countTumbler g func status) := by
  have hunit : s.Traced (if 7 ≤ status ∧ status ≤ 10 then t.count (unitSlot g) (2 + status) else t) := .ite _ (h.count _ _) h
  cases func with
  | none => exact hunit
  | some f => exact hunit.count _ _

/-! ### A block that fails a check -/

/-- The statuses and REASONs of the checks fit their fields (R214, R278). -/
theorem nyChecks_fits {h : Nat} {body : Bytes} {crc extra : Bool} {img : Option Bytes} (hc : nyChecks h body crc extra img = some (st, re)) :
    st % 2 ^ 8 = st ∧ det 5 re % 2 ^ 16 = 5 * 4096 + re := by
  unfold nyChecks at hc
  split_ifs at hc <;> cases hc <;> decide

/-- The function that owns a window, if one does. -/
def Window.owner (w : Window) : Option Nat := if w.state = .free ∨ w.state = .quarantine then none else some w.func

/-- The first check that fails answers the block. -/
theorem State.nyArrive_fails (hf : s.fatal = false) (ha : (s.win (ptrWindow i.pkt.ptr)).state ≠ .aliased)
    (hc : s.nyFound i.pkt = some (st, re)) :
    ∃ v, (s.nyCounted i).Traced v ∧
      s.nyArrive i = v.refuse i.port i.pkt (s.win (ptrWindow i.pkt.ptr)).owner i.pkt.cm st (det 5 re) := by
  rw [State.nyFound, State.nyImage] at hc
  refine ⟨_, ((State.Traced.refl _).traceRecv i.port i.stamp (s.win (ptrWindow i.pkt.ptr)).owner st i.pkt).countTumbler
    (s.tumblerOf i.port i.pkt.srcNode) (s.win (ptrWindow i.pkt.ptr)).owner st, ?_⟩
  simp only [State.nyArrive, hf, ha, Bool.false_eq_true, or_self, if_false, hc]
  rfl

/-- A block that fails a check is answered, and changes no window, arrival, access or byte of memory. -/
theorem State.nyArrive_answered (hf : s.fatal = false) (ha : (s.win (ptrWindow i.pkt.ptr)).state ≠ .aliased) (htdm : i.pkt.tdm = false)
    (hc : s.nyFound i.pkt = some (st, re)) (h5 : i.pkt.type = 5) :
    s.Answered (s.nyArrive i) i.pkt (fun p => p.type = 0 ∧ p.rspStatus = st ∧ p.rspDetail = 5 * 4096 + re) ∧ s.Served (s.nyArrive i) := by
  obtain ⟨hst, hre⟩ := nyChecks_fits hc
  obtain ⟨v, hv, hbody⟩ := State.nyArrive_fails hf ha hc
  have hroutes := ((s.nyCounted_routes i).trans hv.sameRoutes).trans (State.trackEnd_routes v i.pkt false)
  rw [hbody]
  refine ⟨?_, ((s.nyCounted_served i).trans hv.quiet.served).refuse _ _ _ _ _ _ htdm⟩
  refine (State.respond_answered hroutes _ _ _ _ _ st (det 5 re) htdm).congr (.refl s) rfl fun p ⟨htype, hstatus, hdetail⟩ => ?_
  rw [h5] at htype
  exact ⟨htype, hstatus.trans hst, hdetail.trans hre⟩

/-! ### A block that passes -/

theorem State.nyArrive_passes (hf : s.fatal = false) (ha : (s.win (ptrWindow i.pkt.ptr)).state ≠ .aliased) (hc : s.nyFound i.pkt = none) :
    s.nyArrive i = (s.nyEntered i).arrLook (s.nyCounted i).core.nextId (s.nyArrival i) none := by
  rw [State.nyFound, State.nyImage] at hc
  simp only [State.nyArrive, hf, ha, Bool.false_eq_true, or_self, if_false, hc, State.nyEntered, State.nyArrival, State.nyImage]
  generalize (if nyCoded i.pkt.nyhdr = true then s.resident i.pkt.nyhdr else none) = x
  cases x <;> rfl

/-- A reference more to a version slot is one field written (R209). -/
theorem State.takeRef_wrote (s : State) (k : Nat) : ∃ f : Fld, f.addr = 0xf0104 + k / 2 * 8 ∧ s.Wrote (s.takeRef k) [f] := by
  refine ⟨_, ?_, (State.Wrote.refl s _).wr _ _ (List.mem_singleton.mpr rfl) ?_⟩ <;> split <;> rfl

theorem State.nyImage_slot {p : Packet} {x : Nat × Bytes} (hx : s.nyImage p = some x) : x.1 / 2 < 64 := by
  have hres : s.resident p.nyhdr = some x := by
    unfold State.nyImage at hx
    split at hx
    · exact hx
    · cases hx
  obtain ⟨k, hk, rfl⟩ := Option.map_eq_some_iff.mp hres
  have hslot := List.mem_of_find?_eq_some hk
  have htable : nyTable p.nyhdr < 64 := bits_lt _ _ _
  simp only [List.mem_cons, List.not_mem_nil, or_false] at hslot
  dsimp only
  omega

/-- The reference of a block is a field of the code tables. -/
theorem State.nyRef_wrote (s v : State) (p : Packet) :
    ∃ fs : List Fld, (∀ f ∈ fs, f.addr < 0x200000) ∧ v.Wrote ((s.nyImage p).elim v (fun x => v.takeRef x.1)) fs := by
  cases hx : s.nyImage p with
  | none => exact ⟨[], by simp, .refl _ _⟩
  | some x =>
    have hslot := State.nyImage_slot hx
    obtain ⟨f, hf, hw⟩ := v.takeRef_wrote x.1
    refine ⟨[f], fun g hg => ?_, hw⟩
    rw [List.mem_singleton.mp hg, hf]
    omega

theorem State.nyCounted_nextId (s : State) (i : InPkt) : (s.nyCounted i).core.nextId = s.core.nextId :=
  congrArg (·.core.nextId) (s.nyCounted_eq i)

/-- Entering a block changes the identifier, the tracker, the arrivals, the counters, the work left and the references of code tables. -/
structure State.NyEntered (s t : State) : Prop where
  build : t.build = s.build
  aon : t.aon = s.aon
  core : t.core = { s.core with
    nextId := s.core.nextId + 1, regs := t.core.regs, cnt := t.core.cnt, work := t.core.work,
    resp.tracks := t.core.resp.tracks, resp.arrivals := t.core.resp.arrivals }
  rd : ∀ f : Fld, 0x200000 ≤ f.addr → t.rd f = s.rd f

theorem State.nyEntered_spec (s : State) (i : InPkt) : s.NyEntered (s.nyEntered i) := by
  have hcounted := s.nyCounted_eq i
  obtain ⟨fs, hfs, hw⟩ := s.nyRef_wrote { s.nyCounted i with core.nextId := (s.nyCounted i).core.nextId + 1 } i.pkt
  constructor
  · exact hw.build.trans (congrArg (·.build) hcounted)
  · exact hw.aon.trans (congrArg (·.aon) hcounted)
  · rw [State.nyEntered, State.setArr, hw.core, hcounted]
  · intro f hf
    refine (hw.rd f fun g hg => .inr (.inl ?_)).trans ?_
    · have := hfs g hg
      omega
    · rw [hcounted]
      rfl

theorem State.NyEntered.lookup {t : State} (h : s.NyEntered t) (p : Packet) : t.lookupReq p = s.lookupReq p := by
  have hfunc : ∀ f, t.funcEnabled f = s.funcEnabled f := fun f => by
    rw [State.funcEnabled, State.funcState, h.rd _ (by simp only [R.FUNC_STATUS_STATE]; omega), State.funcEnabled, State.funcState]
  simp only [State.lookupReq, State.lookup, State.win_congr (congrArg (·.win.table) h.core), hfunc]

/-- A window that passes checks 1 to 4 is open (R111). -/
theorem State.lookup_ok_opened {ptr perm : Nat} {len : Option Nat} (h : s.lookup ptr perm len = .ok w) : w.state = .opened := by
  unfold State.lookup at h
  cases len <;> dsimp only at h <;> split_ifs at h
  obtain rfl := Lookup.ok.inj h
  tauto

/-- A block that passes its checks at an open window meets check 5 (R111, R113, R214). -/
theorem State.nyArrive_ok (hf : s.fatal = false) (hc : s.nyFound i.pkt = none) (hw : s.lookupReq i.pkt = .ok w) (h5 : i.pkt.type = 5) :
    s.nyArrive i = (s.nyEntered i).checkFive s.core.nextId (s.nyArrival i) w := by
  have ha : (s.win (ptrWindow i.pkt.ptr)).state ≠ .aliased := by
    rw [← State.lookup_ok_win hw, State.lookup_ok_opened hw]
    decide
  have h4 : i.pkt.type ≠ 4 := by omega
  rw [State.nyArrive_passes hf ha hc, s.nyCounted_nextId, State.arrLook, show (s.nyArrival i).pkt = i.pkt from rfl,
    (s.nyEntered_spec i).lookup, hw]
  exact if_neg h4

/-- Check 5 is a probe of the window's function (R113). -/
theorem State.checkFive_job (s : State) (id : Nat) (a : Arrival) (w : Window) :
    ∃ j, SMap.get? (s.checkFive id a w).core.jobs s.core.nextId = some j ∧ j.acc = .probe ∧ j.func = w.func ∧
      j.len = (arrivalLen a.pkt).getD 0 :=
  ⟨_, SMap.get?_put_self _ _ _, rfl, rfl, rfl⟩

/-! ### The command -/

/-- An expander with room takes the first block that waits (R221). -/
theorem nyeshArrival_room
    (htake : takeFirst (fun i => (i.pkt.cls == 1 || i.pkt.cls == 2) && i.pkt.type == 5) s.core.resp.inbox = some (i, rest))
    (hroom : s.tumblerHeld (s.tumblerOf i.port i.pkt.srcNode) < 32) :
    nyeshArrival s = ({ s with core.resp.inbox := rest } : State).nyArrive i := by
  rw [nyeshArrival, State.withReq_some _ htake, if_neg (Nat.not_le_of_lt hroom)]

/-- A full expander leaves a block where it waits (R221). -/
theorem nyeshArrival_full
    (htake : takeFirst (fun i => (i.pkt.cls == 1 || i.pkt.cls == 2) && i.pkt.type == 5) s.core.resp.inbox = some (i, rest))
    (hfull : 32 ≤ s.tumblerHeld (s.tumblerOf i.port i.pkt.srcNode)) : nyeshArrival s = s := by
  rw [nyeshArrival, State.withReq_some _ htake, if_pos hfull]

theorem exec_nyeshArrival (hoff : s.off = false)
    (htake : takeFirst (fun i => (i.pkt.cls == 1 || i.pkt.cls == 2) && i.pkt.type == 5) s.core.resp.inbox = some (i, rest))
    (hroom : s.tumblerHeld (s.tumblerOf i.port i.pkt.srcNode) < 32)
    (hb : ((s.taken rest).nyArrive i).build = s.build) (ha : ((s.taken rest).nyArrive i).aon = s.aon) :
    ∃ t, exec .nyeshArrival s = .next t ∧ t.core = ((s.taken rest).nyArrive i).core := by
  obtain ⟨t, ht, hcore, -, -⟩ := coreCmd_next nyeshArrival s ((s.taken rest).nyArrive i) hoff
    (nyeshArrival_room (s := { s with out := [] }) htake hroom) ((State.off_eq_of hb ha).trans hoff)
  exact ⟨t, ht, hcore⟩

end

/-- Settles O32: a full expander leaves a block waiting; otherwise the first check that fails answers it, or it goes on to check 5 of its
window. -/
theorem nyeshBlocksAreChecked : Obligations.NyeshBlocksAreChecked := by
  intro s i rest hoff hfatal htake
  have h5 : i.pkt.type = 5 := arrival_type htake
  have hf : (s.taken rest).fatal = false := hfatal
  refine ⟨fun hfull => ?_, fun st re hroom halias htdm hc => ?_, fun w hroom hc hw => ?_⟩
  · obtain ⟨t, ht, hcore, -⟩ := coreCmd_still (body := nyeshArrival) hoff (nyeshArrival_full (s := { s with out := [] }) htake hfull)
    exact ⟨t, ht, hcore⟩
  · obtain ⟨hans, hserved⟩ := State.nyArrive_answered (s := s.taken rest) hf halias htdm hc h5
    obtain ⟨t, ht, hcore⟩ := exec_nyeshArrival hoff htake hroom hserved.build hserved.aon
    have hc := hcore.trans hserved.core
    exact ⟨t, ht, hans.congr (s.taken_routes rest) hcore fun _ hp => hp, congrArg (·.resp.arrivals) hc, congrArg (·.win) hc,
      congrArg (·.mem) hc, congrArg (·.jobs) hc⟩
  · have hbody := State.nyArrive_ok (s := s.taken rest) hf hc hw h5
    have hentered := (s.taken rest).nyEntered_spec i
    obtain ⟨t, ht, hcore⟩ := exec_nyeshArrival hoff htake hroom
      ((congrArg (·.build) hbody).trans hentered.build) ((congrArg (·.aon) hbody).trans hentered.aon)
    rw [hbody] at hcore
    have hid : ((s.taken rest).nyEntered i).core.nextId = s.core.nextId + 1 := congrArg (·.nextId) hentered.core
    obtain ⟨j, hjob, hacc, hfunc, hlen⟩ :=
      ((s.taken rest).nyEntered i).checkFive_job s.core.nextId ((s.taken rest).nyArrival i) w
    rw [hid] at hjob
    refine ⟨t, _, j, ht, (State.arr?_congr hcore _).trans (SMap.get?_put_self _ _ _), rfl, rfl, rfl,
      (congrArg (fun c => SMap.get? c.jobs (s.core.nextId + 1)) hcore).trans hjob, hacc, hfunc,
      (congrArg some hlen).trans (State.lookup_ok_len hw), ?_, ?_, ?_⟩ <;> rw [hcore]
    · exact congrArg (·.resp.inbox) hentered.core
    · exact congrArg (·.win) hentered.core
    · exact congrArg (·.mem) hentered.core

end Sys2Proof.Machine

namespace Sys2Proof.Machine

/-! ## Registers that the end of an operation leaves (R44, R47, R70) -/

/-- `t` has the registers of `s` below the trace unit's. -/
def State.SameLow (s t : State) : Prop := ∀ f : Fld, f.addr < 0x160000 → t.rd f = s.rd f

section
variable {s t u : State}

theorem State.SameLow.refl (s : State) : s.SameLow s := fun _ _ => rfl

theorem State.SameLow.trans (h : s.SameLow t) (g : t.SameLow u) : s.SameLow u := fun f hf => (g f hf).trans (h f hf)

theorem State.SameLow.ite (c : Prop) [Decidable c] (h : s.SameLow t) (g : s.SameLow u) : s.SameLow (if c then t else u) := by
  split
  · exact h
  · exact g

theorem State.SameLow.post (h : s.SameLow t) (w : Work) : s.SameLow (t.post w) := h.trans fun _ _ => rfl

theorem State.SameLow.count (h : s.SameLow t) (slot event : Nat) : s.SameLow (t.count slot event) := h.trans fun _ _ => rfl

theorem State.SameLow.modQs (h : s.SameLow t) (q : Nat) (f : QState → QState) : s.SameLow (t.modQs q f) := h.trans fun _ _ => rfl

theorem State.SameLow.setOps (h : s.SameLow t) (ops : SMap Op) : s.SameLow { t with core.rq.ops := ops } := h.trans fun _ _ => rfl

theorem State.SameLow.setSig (h : s.SameLow t) (i v : Nat) : s.SameLow (t.setSig i v) := h.trans fun _ _ => rfl

theorem State.SameLow.setQs (h : s.SameLow t) (q : Nat) (x : QState) : s.SameLow (t.setQs q x) := h.trans fun _ _ => rfl

theorem State.Traced.sameLow (h : s.Traced t) : s.SameLow t := fun _ hf => h.rd_outside (.inl hf)

theorem State.SameLow.wr (h : s.SameLow t) (f : Fld) (v : Nat) (hf : 0x160000 ≤ f.addr) : s.SameLow (t.wr f v) :=
  fun g hg => (State.rd_wr_ne t f g v (.inr (.inl (by omega)))).trans (h g hg)

theorem State.SameLow.stopQueue (h : s.SameLow t) (q : Nat) : s.SameLow (t.stopQueue q (R.QUEUE_STATUS_ERR q)) := by
  have hcause : s.SameLow (t.wr (R.QUEUE_STATUS_ERR q) 1) := h.wr _ _ (by simp only [R.QUEUE_STATUS_ERR]; omega)
  exact .ite _ (hcause.wr _ _ (by simp only [R.QUEUE_STATUS_STATE]; omega)) hcause

theorem State.SameLow.drainCheck (h : s.SameLow t) (q : Nat) : s.SameLow (t.drainCheck q) := by
  have hstate : s.SameLow ((t.wr (R.QUEUE_STATUS_STATE q) 0).wr (R.QUEUE_CTL_ENABLE q) 0) :=
    (h.wr _ _ (by simp only [R.QUEUE_STATUS_STATE]; omega)).wr _ _ (by simp only [R.QUEUE_CTL_ENABLE]; omega)
  exact .ite _ ((hstate.setQs _ _).post _) h

theorem State.SameLow.foldl {α : Type} {f : State → α → State} (hf : ∀ (u : State) (x : α), u.SameLow (f u x)) (h : s.SameLow t)
    (l : List α) : s.SameLow (l.foldl f t) := by
  induction l generalizing t with
  | nil => exact h
  | cons x l ih => exact ih (h.trans (hf t x))

/-- An operation that leaves its queue changes registers of its queue and of the trace unit alone. -/
theorem State.retire_sameLow (s : State) (id : Nat) (o : Op) (status : Nat) : s.SameLow (s.retire id o status) := by
  unfold State.retire
  extract_lets q core rq gone left counted traced raised failed noted waits told stopped
  have hleft : s.SameLow left := ((State.SameLow.refl s).setOps _).modQs _ _
  have hcounted : s.SameLow counted := .ite _ hleft (hleft.count _ _)
  have htraced : s.SameLow traced :=
    hcounted.trans ((State.Traced.refl _).traceEv _ _ _ _ _ _ _ _ _ _ _ _ _ _).sameLow
  have hraised : s.SameLow raised := by
    refine .ite _ ?_ htraced
    split
    · rw [State.addSig_eq]
      exact htraced.setSig _ _
    · exact htraced
  have hnoted : s.SameLow noted := .ite _ (hraised.modQs _ _) hraised
  have htold : s.SameLow told := hnoted.foldl (fun u x => ((State.SameLow.refl u).setOps _).post _) _
  have hstopped : s.SameLow stopped := .ite _ (htold.stopQueue _) htold
  exact (((State.SameLow.ite _ (hstopped.post _) hstopped).post _).post _).drainCheck _

theorem State.endOp_sameLow (s : State) (id status detail result stamp : Nat) : s.SameLow (s.endOp id status detail result stamp) := by
  unfold State.endOp
  cases s.op? id with
  | none => exact .refl _
  | some o =>
    have hcount : s.SameLow (if status = 0x0E then s.count (funcSlot o.func) 14 else s) :=
      .ite _ ((State.SameLow.refl s).count _ _) (.refl _)
    exact .ite _ (.refl _) (.ite _ ((hcount.modQs _ _).trans (State.retire_sameLow _ _ _ _))
      (((hcount.setOps _).modQs _ _).post _))

theorem State.Issued.sameLow {q : Nat} {h : Head} {rs : List Range} (i : s.Issued t q h rs) : s.SameLow t := fun f hf =>
  i.rd f fun g hg => .inr (.inl (by
    rcases List.mem_cons.mp hg with rfl | hg
    · simp only [R.QUEUE_SQ_HEAD_COUNT]
      omega
    · have := traceFields_addr g hg
      omega))

end

end Sys2Proof.Machine

namespace Sys2Proof.Machine

/-! ## Slots of the code tables (R209, R232) -/

/-- The version slots of the code tables hold in `t` what they hold in `s`. -/
structure State.SameSlots (s t : State) : Prop where
  state : ∀ n k, n < 64 → t.tblState n k = s.tblState n k
  ver : ∀ n k, n < 64 → t.tblVer n k = s.tblVer n k
  refs : ∀ n k, n < 64 → t.tblRefs n k = s.tblRefs n k

/-- `t` is `s` but for registers of the core domain and the code tables. -/
structure State.Tabled (s t : State) : Prop where
  build : t.build = s.build
  aon : t.aon = s.aon
  core : t.core = { s.core with regs := t.core.regs, tables := t.core.tables }

section
variable {s t u : State} {n k v : Nat} {f : Fld}

theorem State.SameSlots.trans (h : s.SameSlots t) (g : t.SameSlots u) : s.SameSlots u where
  state := fun n k hn => (g.state n k hn).trans (h.state n k hn)
  ver := fun n k hn => (g.ver n k hn).trans (h.ver n k hn)
  refs := fun n k hn => (g.refs n k hn).trans (h.refs n k hn)

/-- The slots lie below the trace unit's registers. -/
theorem State.SameLow.sameSlots (h : s.SameLow t) : s.SameSlots t where
  state := fun n k hn => h _ (by split <;> simp only [R.TUMBLER_TBL_STATE_A, R.TUMBLER_TBL_STATE_B] <;> omega)
  ver := fun n k hn => h _ (by split <;> simp only [R.TUMBLER_TBL_VER_A, R.TUMBLER_TBL_VER_B] <;> omega)
  refs := fun n k hn => h _ (by split <;> simp only [R.TUMBLER_REFS_REFS_A, R.TUMBLER_REFS_REFS_B] <;> omega)

/-- The status word of the code tables lies below the slots. -/
theorem State.SameSlots.wr_status (s : State) (hf : f.addr = 0xf0004) (v : Nat) : s.SameSlots (s.wr f v) where
  state := fun n k _ => State.rd_wr_ne _ _ _ _ (.inr (.inl (by split <;> simp only [R.TUMBLER_TBL_STATE_A, R.TUMBLER_TBL_STATE_B] <;> omega)))
  ver := fun n k _ => State.rd_wr_ne _ _ _ _ (.inr (.inl (by split <;> simp only [R.TUMBLER_TBL_VER_A, R.TUMBLER_TBL_VER_B] <;> omega)))
  refs := fun n k _ => State.rd_wr_ne _ _ _ _ (.inr (.inl (by split <;> simp only [R.TUMBLER_REFS_REFS_A, R.TUMBLER_REFS_REFS_B] <;> omega)))

theorem State.SameSlots.setLoads (s : State) (l : SMap TableLoad) : s.SameSlots (s.setLoads l) :=
  (State.SameLow.sameSlots (s := s) (t := { s with core.tables.loads := l }) fun _ _ => rfl).trans
    (.wr_status (f := R.TUMBLER_STATUS_LOAD_BUSY) _ rfl _)

theorem State.tblState_setTblState (s : State) (n k : Nat) (hv : v < 4) : (s.setTblState n k v).tblState n k = v := by
  unfold State.tblState State.setTblState
  split <;> exact (State.rd_wr_self _ _ _ (Nat.le_of_ble_eq_true rfl)).trans (Nat.mod_eq_of_lt hv)

theorem State.tblVer_setTblVer (s : State) (n k : Nat) (hv : v < 16) : (s.setTblVer n k v).tblVer n k = v := by
  unfold State.tblVer State.setTblVer
  split <;> exact (State.rd_wr_self _ _ _ (Nat.le_of_ble_eq_true rfl)).trans (Nat.mod_eq_of_lt hv)

/-- The version of a slot lies beside its state. -/
theorem State.tblState_setTblVer (s : State) (n k v : Nat) : (s.setTblVer n k v).tblState n k = s.tblState n k := by
  refine State.rd_wr_ne _ _ _ _ (.inr (.inr (.inl ?_)))
  split <;> exact Nat.le_of_ble_eq_true rfl

/-- The symbol width of a slot lies above its state. -/
theorem State.tblState_setTblBits (s : State) (n k v : Nat) : (s.setTblBits n k v).tblState n k = s.tblState n k := by
  refine State.rd_wr_ne _ _ _ _ (.inr (.inr (.inr ?_)))
  split <;> exact Nat.le_of_ble_eq_true rfl

/-- OLDER of a table lies above the states of its slots. -/
theorem State.tblState_wr_older (s : State) (n k v : Nat) : (s.wr (R.TUMBLER_TBL_OLDER n) v).tblState n k = s.tblState n k := by
  refine State.rd_wr_ne _ _ _ _ (.inr (.inr (.inr ?_)))
  split <;> exact Nat.le_of_ble_eq_true rfl

/-- The references of a slot are in a word of their own. -/
theorem State.tblRefs_setTblState (s : State) (n k v : Nat) : (s.setTblState n k v).tblRefs n k = s.tblRefs n k := by
  refine State.rd_wr_ne _ _ _ _ (.inr (.inl ?_))
  split <;> simp only [R.TUMBLER_REFS_REFS_A, R.TUMBLER_REFS_REFS_B, R.TUMBLER_TBL_STATE_A, R.TUMBLER_TBL_STATE_B] <;> omega

/-! ### Frames -/

@[simp] theorem State.wr_tables (s : State) (f : Fld) (v : Nat) : (s.wr f v).core.tables = s.core.tables := by
  unfold State.wr State.setWord
  split <;> rfl

@[simp] theorem State.setTblState_tables (s : State) (n k v : Nat) : (s.setTblState n k v).core.tables = s.core.tables :=
  State.wr_tables _ _ _

@[simp] theorem State.setTblBits_tables (s : State) (n k v : Nat) : (s.setTblBits n k v).core.tables = s.core.tables :=
  State.wr_tables _ _ _

@[simp] theorem State.setLoads_tables (s : State) (l : SMap TableLoad) : (s.setLoads l).core.tables = { s.core.tables with loads := l } :=
  State.wr_tables _ _ _

theorem State.Tabled.refl (s : State) : s.Tabled s := ⟨rfl, rfl, rfl⟩

theorem State.Tabled.trans (h : s.Tabled t) (g : t.Tabled u) : s.Tabled u where
  build := g.build.trans h.build
  aon := g.aon.trans h.aon
  core := g.core.trans (by rw [h.core])

theorem State.Tabled.wr (h : s.Tabled t) (f : Fld) (v : Nat) (hf : f.aon = false) : s.Tabled (t.wr f v) := by
  obtain ⟨ha, hc⟩ := State.wr_core_aon t f v hf
  exact h.trans ⟨State.wr_build _ _ _, ha, by rw [hc]⟩

theorem State.Tabled.setTables (h : s.Tabled t) (x : Tables) : s.Tabled { t with core.tables := x } := h.trans ⟨rfl, rfl, rfl⟩

theorem State.Tabled.setTblState (h : s.Tabled t) (n k v : Nat) : s.Tabled (t.setTblState n k v) := h.wr _ _ (by split <;> rfl)

theorem State.Tabled.setTblVer (h : s.Tabled t) (n k v : Nat) : s.Tabled (t.setTblVer n k v) := h.wr _ _ (by split <;> rfl)

theorem State.Tabled.setTblBits (h : s.Tabled t) (n k v : Nat) : s.Tabled (t.setTblBits n k v) := h.wr _ _ (by split <;> rfl)

theorem State.Tabled.setLoads (h : s.Tabled t) (l : SMap TableLoad) : s.Tabled (t.setLoads l) :=
  (h.setTables { t.core.tables with loads := l }).wr _ _ rfl

end

end Sys2Proof.Machine

namespace Sys2Proof.Machine

/-! ## TABLE_LOAD (R210, R211) -/

section
variable {s t u v : State} {q : QueueId} {h : Head} {k c : Nat} {l : TableLoad}

theorem dTable_lt (d : BitVec 1024) : dTable d < 64 := bits_lt _ _ _

theorem dVersion_lt (d : BitVec 1024) : dVersion d < 16 := bits_lt _ _ _

theorem State.SameSlots.tblFind (g : s.SameSlots t) {n : Nat} (hn : n < 64) (x : Nat) (f : Nat → Bool) : t.tblFind n x f = s.tblFind n x f := by
  simp only [State.tblFind, g.state n _ hn, g.ver n _ hn]

theorem State.SameSlots.tableRefusal (g : s.SameSlots t) (d : BitVec 1024) : t.tableRefusal d = s.tableRefusal d := by
  simp only [State.tableRefusal, g.tblFind (dTable_lt d)]

/-- Slot A of a table holds a version in a state. -/
theorem State.tblFind_slotA {n x : Nat} {f : Nat → Bool} (hf : f (s.tblState n 0) = true) (hx : s.tblVer n 0 = x) : s.tblFind n x f = some 0 := by
  simp [State.tblFind, hf, hx]

theorem State.loadSlot_absent {n : Nat} (hst : s.tblState n 0 = 0) : s.loadSlot n = 0 := by
  simp [State.loadSlot, hst]

/-- LOAD_TABLE and LOAD_VERSION name the table and the version of a descriptor. -/
def State.named (s : State) (d : BitVec 1024) : State :=
  (s.wr R.TUMBLER_STATUS_LOAD_TABLE (dTable d)).wr R.TUMBLER_STATUS_LOAD_VERSION (dVersion d)

theorem State.named_slots (s : State) (d : BitVec 1024) : s.SameSlots (s.named d) :=
  (State.SameSlots.wr_status (f := R.TUMBLER_STATUS_LOAD_TABLE) s rfl _).trans
    (.wr_status (f := R.TUMBLER_STATUS_LOAD_VERSION) _ rfl _)

theorem State.Tabled.named (g : s.Tabled t) (d : BitVec 1024) : s.Tabled (t.named d) := (g.wr _ _ rfl).wr _ _ rfl

/-! ### The three ways of a descriptor -/

/-- A descriptor that R211 refuses ends at issue. -/
theorem tableLoad_refused (hr : s.ready q.val 0x30 (fun _ => []) = .ok h) (hh : s.held q.val h (tableRanges h.desc) = false)
    (hl : SMap.get? s.core.tables.loads (dTable h.desc) = none) (hc : s.tableRefusal h.desc = some c) :
    ∃ v, s.Issued v q.val h (tableRanges h.desc) ∧ tableLoad q s = v.endOp s.core.nextId 0x05 (det 5 c) 0 0 := by
  obtain ⟨hid, i⟩ := s.issue_issued q.val h (tableRanges h.desc)
  refine ⟨_, i, ?_⟩
  have hc' := (i.sameLow.sameSlots.tableRefusal h.desc).trans hc
  simp only [tableLoad, hr, hh, hl, hc', hid, Bool.false_eq_true, Option.isSome_none, or_self, if_false]

/-- A load into a table whose slot A is ABSENT takes that slot. -/
theorem tableLoad_loads (hr : s.ready q.val 0x30 (fun _ => []) = .ok h) (hh : s.held q.val h (tableRanges h.desc) = false)
    (hl : SMap.get? s.core.tables.loads (dTable h.desc) = none) (hc : s.tableRefusal h.desc = none) (hlen : dTblLength h.desc ≠ 0)
    (hst : s.tblState (dTable h.desc) 0 = 0) :
    ∃ v, s.Issued v q.val h (tableRanges h.desc) ∧
      tableLoad q s = (v.named h.desc).loadStart (dTable h.desc) 0 ⟨s.core.nextId, 0, false, false, none⟩ := by
  obtain ⟨hid, i⟩ := s.issue_issued q.val h (tableRanges h.desc)
  refine ⟨_, i, ?_⟩
  have hslots := i.sameLow.sameSlots.trans (State.named_slots _ h.desc)
  have hc' := (i.sameLow.sameSlots.tableRefusal h.desc).trans hc
  have hst' := (hslots.state _ 0 (dTable_lt _)).trans hst
  have hslot := State.loadSlot_absent hst'
  simp only [State.named] at hst' hslot ⊢
  simp [tableLoad, hr, hh, hl, hc', hid, hlen, hslot, hst']

/-- A retire of the version in slot A drains that slot. -/
theorem tableLoad_retires (hr : s.ready q.val 0x30 (fun _ => []) = .ok h) (hh : s.held q.val h (tableRanges h.desc) = false)
    (hl : SMap.get? s.core.tables.loads (dTable h.desc) = none) (hc : s.tableRefusal h.desc = none) (hlen : dTblLength h.desc = 0)
    (hst : s.tblState (dTable h.desc) 0 = 2) (hver : s.tblVer (dTable h.desc) 0 = dVersion h.desc) :
    ∃ v, s.Issued v q.val h (tableRanges h.desc) ∧
      tableLoad q s = (((v.named h.desc).setTblState (dTable h.desc) 0 3).setLoads (SMap.put s.core.tables.loads (dTable h.desc)
        ⟨s.core.nextId, 0, true, true, none⟩)).tableStep (dTable h.desc) := by
  obtain ⟨hid, i⟩ := s.issue_issued q.val h (tableRanges h.desc)
  refine ⟨_, i, ?_⟩
  have hslots := i.sameLow.sameSlots.trans (State.named_slots _ h.desc)
  have hc' := (i.sameLow.sameSlots.tableRefusal h.desc).trans hc
  have hfind := (hslots.tblFind (dTable_lt h.desc) (dVersion h.desc) (· == 2)).trans (State.tblFind_slotA (by simp [hst]) hver)
  have hloads : (s.issue q.val h (tableRanges h.desc)).2.core.tables.loads = s.core.tables.loads := congrArg (·.tables.loads) i.core
  simp only [State.named] at hfind ⊢
  simp [tableLoad, hr, hh, hl, hc', hid, hlen, hfind, hloads]

/-! ### What happens to a slot -/

/-- A slot that starts LOADING a version, before its image is read. -/
def State.slotLoading (s : State) (n k : Nat) (d : BitVec 1024) (l : TableLoad) : State :=
  ((({ s with core.tables.images := SMap.del s.core.tables.images (n * 2 + k) } : State).setTblState n k 1).setTblVer n k
    (dVersion d)).setLoads (SMap.put s.core.tables.loads n { l with waits := false })

/-- A slot that is ABSENT again, its table free for the next TABLE_LOAD. -/
def State.slotFreed (s : State) (n k : Nat) : State := (s.setTblState n k 0).setLoads (SMap.del s.core.tables.loads n)

/-- A slot that is RESIDENT with an image; OLDER names the other slot if that one is RESIDENT too (R210). -/
def State.slotResident (s : State) (n k : Nat) (img : Bytes) : State :=
  let other := 1 - k
  let s := (s.setTblState n k 2).setTblBits n k (tableBits img)
  let s := s.wr (R.TUMBLER_TBL_OLDER n) (if s.tblState n other = 2 then other else k)
  ({ s with core.tables.images := SMap.put s.core.tables.images (n * 2 + k) img }).setLoads (SMap.del s.core.tables.loads n)

theorem SMap.isEmpty_put {α : Type} (m : SMap α) (k : Nat) (x : α) : (SMap.put m k x).isEmpty = false := by
  cases hm : SMap.put m k x with
  | nil => simpa [hm] using SMap.get?_put_self m k x
  | cons _ _ => rfl

theorem State.Tabled.slotLoading (g : s.Tabled t) (n k : Nat) (d : BitVec 1024) (l : TableLoad) : s.Tabled (t.slotLoading n k d l) :=
  (((g.setTables _).setTblState _ _ _).setTblVer _ _ _).setLoads _

theorem State.Tabled.slotFreed (g : s.Tabled t) (n k : Nat) : s.Tabled (t.slotFreed n k) := (g.setTblState _ _ _).setLoads _

theorem State.Tabled.slotResident (g : s.Tabled t) (n k : Nat) (img : Bytes) : s.Tabled (t.slotResident n k img) :=
  ((((g.setTblState _ _ _).setTblBits _ _ _).wr _ _ rfl).setTables _).setLoads _

theorem State.slotLoading_spec (s : State) {n : Nat} (hn : n < 64) (k : Nat) (d : BitVec 1024) (l : TableLoad) :
    (s.slotLoading n k d l).tblState n k = 1 ∧ (s.slotLoading n k d l).tblVer n k = dVersion d ∧
      (s.slotLoading n k d l).rd R.TUMBLER_STATUS_LOAD_BUSY = 1 ∧
      SMap.get? (s.slotLoading n k d l).core.tables.loads n = some { l with waits := false } := by
  refine ⟨?_, ?_, ?_, ?_⟩
  · rw [State.slotLoading, (State.SameSlots.setLoads _ _).state _ _ hn, State.tblState_setTblVer, State.tblState_setTblState _ _ _ (by decide)]
  · rw [State.slotLoading, (State.SameSlots.setLoads _ _).ver _ _ hn, State.tblVer_setTblVer _ _ _ (dVersion_lt d)]
  · rw [State.slotLoading, State.setLoads, State.rd_wr_self _ _ _ (by decide), SMap.isEmpty_put]
    rfl
  · rw [State.slotLoading, State.setLoads_tables]
    exact SMap.get?_put_self _ _ _

theorem State.slotFreed_spec (s : State) {n : Nat} (hn : n < 64) (k : Nat) :
    (s.slotFreed n k).tblState n k = 0 ∧ (s.slotFreed n k).core.tables = ⟨s.core.tables.images, SMap.del s.core.tables.loads n⟩ := by
  refine ⟨?_, ?_⟩
  · rw [State.slotFreed, (State.SameSlots.setLoads _ _).state _ _ hn, State.tblState_setTblState _ _ _ (by decide)]
  · rw [State.slotFreed, State.setLoads_tables, State.setTblState_tables]

theorem State.slotResident_spec (s : State) {n : Nat} (hn : n < 64) (k : Nat) (img : Bytes) :
    (s.slotResident n k img).tblState n k = 2 ∧ (s.slotResident n k img).core.tables =
      ⟨SMap.put s.core.tables.images (n * 2 + k) img, SMap.del s.core.tables.loads n⟩ := by
  refine ⟨?_, ?_⟩
  · have hstate := ((s.setTblState n k 2).tblState_setTblBits n k (tableBits img)).trans (s.tblState_setTblState n k (by decide))
    exact ((State.SameSlots.setLoads _ _).state n k hn).trans ((State.tblState_wr_older _ n k _).trans hstate)
  · simp [State.slotResident]

/-! ### Loads and retires -/

/-- A load reads its image in F0's space (R210). -/
theorem State.loadStart_eq {o : Op} (n k : Nat) (ho : s.op? l.op = some o) :
    s.loadStart n k l = (s.slotLoading n k o.desc l).virtJob 0 (dSrc o.desc) (dTblLength o.desc) .read [] 5 o.queue (.tableImage n) := by
  simp only [State.loadStart, ho]
  rfl

theorem State.virtJob_job (s : State) (func va len : Nat) (acc : Acc) (data : Bytes) (src queue : Nat) (p : Purpose) :
    ∃ j, SMap.get? (s.virtJob func va len acc data src queue p).core.jobs s.core.nextId = some j ∧ j.acc = acc ∧ j.func = func ∧
      j.va = va ∧ j.len = len :=
  ⟨_, SMap.get?_put_self _ _ _, rfl, rfl, rfl, rfl⟩

/-- `t` is `s` after slot `k` of table `n` has begun to load what a descriptor names. -/
structure State.LoadStarted (s t : State) (n k : Nat) (d : BitVec 1024) (l : TableLoad) : Prop where
  build : t.build = s.build
  aon : t.aon = s.aon
  win : t.core.win = s.core.win
  resp : t.core.resp = s.core.resp
  state : t.tblState n k = 1
  ver : t.tblVer n k = dVersion d
  busy : t.rd R.TUMBLER_STATUS_LOAD_BUSY = 1
  load : SMap.get? t.core.tables.loads n = some { l with waits := false }
  job : ∃ j, SMap.get? t.core.jobs s.core.nextId = some j ∧ j.acc = .read ∧ j.func = 0 ∧ j.va = dSrc d ∧ j.len = dTblLength d

theorem State.loadStart_spec {o : Op} {n : Nat} (hn : n < 64) (k : Nat) (ho : s.op? l.op = some o) :
    s.LoadStarted (s.loadStart n k l) n k o.desc l := by
  rw [State.loadStart_eq n k ho]
  obtain ⟨hstate, hver, hbusy, hload⟩ := s.slotLoading_spec hn k o.desc l
  have g := (State.Tabled.refl s).slotLoading n k o.desc l
  generalize s.slotLoading n k o.desc l = y at *
  have hjob := y.virtJob_job 0 (dSrc o.desc) (dTblLength o.desc) .read [] 5 o.queue (.tableImage n)
  rw [show y.core.nextId = s.core.nextId from congrArg (·.nextId) g.core] at hjob
  exact ⟨g.build, g.aon, congrArg (·.win) g.core, congrArg (·.resp) g.core, hstate, hver, hbusy, hload, hjob⟩

theorem State.LoadStarted.wired {n k : Nat} {d : BitVec 1024} (g : s.LoadStarted t n k d l) (hoff : t.off = false) :
    s.LoadStarted (wire t) n k d l where
  build := (wire_build _).trans g.build
  aon := (wire_aon _).trans g.aon
  win := (congrArg (·.win) (wire_core t hoff)).trans g.win
  resp := (congrArg (·.resp) (wire_core t hoff)).trans g.resp
  state := (wire_rd t hoff _).trans g.state
  ver := (wire_rd t hoff _).trans g.ver
  busy := (wire_rd t hoff _).trans g.busy
  load := (congrArg (fun c => SMap.get? c.tables.loads n) (wire_core t hoff)).trans g.load
  job := by
    rw [wire_core t hoff]
    exact g.job

/-- A retire whose slot has no references ends with the slot ABSENT (R210). -/
theorem State.tableStep_retires {n : Nat} (hl : SMap.get? s.core.tables.loads n = some l) (hwaits : l.waits = true)
    (hretire : l.retire = true) (hrefs : s.tblRefs n l.slot = 0) :
    s.tableStep n =
      (({ s with core.tables.images := SMap.del s.core.tables.images (n * 2 + l.slot) } : State).slotFreed n l.slot).endOp l.op 0 0 0 0 := by
  simp only [State.tableStep, hl, hwaits, hretire, hrefs, not_true_eq_false, ne_eq, or_self, if_false, if_true]
  rfl

/-- A valid image makes its slot RESIDENT (R210). -/
theorem State.loadEnd_valid {n : Nat} {r : JobResult} (hr : r.fail = none) (hv : tableValid r.data = true) :
    s.loadEnd n l r = (s.slotResident n l.slot r.data).endOp l.op 0 0 0 0 := by
  simp only [State.loadEnd, hr, hv, if_true]
  rfl

/-- An image that is not valid frees its slot (R211). -/
theorem State.loadEnd_invalid {n : Nat} {r : JobResult} (hr : r.fail = none) (hv : tableValid r.data = false) :
    s.loadEnd n l r = (s.slotFreed n l.slot).endOp l.op 0x05 (det 5 0x05A) 0 0 := by
  simp only [State.loadEnd, hr, hv, Bool.false_eq_true, if_false]
  rfl

theorem tableLoadReadDone_ends {n : Nat} {r : JobResult} (hf : s.fatal = false)
    (hl : s.core.tables.loads.find? (fun l => l.2.read.isSome) = some (n, l)) (hr : l.read = some r) :
    tableLoadReadDone s = s.loadEnd n l r := by
  simp only [tableLoadReadDone, hl, hr, hf, Bool.false_eq_true, if_false]

/-! ### The commands -/

theorem State.Recorded.records {n : Nat} {r : Record} (g : s.Recorded t n r) : (t.qs n).records = (s.qs n).records ++ [r] := by
  rw [g.qs]

/-- The end of an operation changes no code table. -/
theorem exec_endOp {cmd : Instr} {body : State → State} {id status detail : Nat} (hoff : s.off = false)
    (hexec : exec cmd s = coreCmd body s) (hb : body { s with out := [] } = u.endOp id status detail 0 0) (hbuild : u.build = s.build)
    (haon : u.aon = s.aon) :
    ∃ t, exec cmd s = .next t ∧ t.core = (u.endOp id status detail 0 0).core ∧ t.core.tables = u.core.tables ∧ u.SameSlots t ∧
      t.aon = s.aon ∧ t.core.win = u.core.win := by
  have hret := (State.Retired.refl u).endOp id status detail 0 0
  obtain ⟨t, ht, hcore, ha, hrd⟩ := coreCmd_next body s _ hoff hb
    ((State.off_eq_of (hret.build.trans hbuild) (hret.aon.trans haon)).trans hoff)
  have hlow : u.SameLow t := fun f hf => (hrd f).trans (u.endOp_sameLow id status detail 0 0 f hf)
  have hc := hcore.trans hret.core
  exact ⟨t, hexec.trans ht, hcore, congrArg (·.tables) hc, hlow.sameSlots, ha.trans (hret.aon.trans haon), congrArg (·.win) hc⟩

/-- A load of slot A begins (R210). -/
theorem exec_tableLoad_loads (hoff : s.off = false) (hr : s.ready q.val 0x30 (fun _ => []) = .ok h)
    (hh : s.held q.val h (tableRanges h.desc) = false) (hl : SMap.get? s.core.tables.loads (dTable h.desc) = none)
    (hc : s.tableRefusal h.desc = none) (hlen : dTblLength h.desc ≠ 0) (hst : s.tblState (dTable h.desc) 0 = 0) :
    ∃ t, ∃ y : State, exec (.tableLoad q) s = .next t ∧ y.LoadStarted t (dTable h.desc) 0 h.desc ⟨s.core.nextId, 0, false, false, none⟩ ∧
      y.aon = s.aon ∧ y.core.win = s.core.win ∧ y.core.resp = s.core.resp ∧ y.core.nextId = s.core.nextId + 1 := by
  obtain ⟨v, i, hbody⟩ := tableLoad_loads (s := { s with out := [] }) ((State.ready_out s [] q.val 0x30 (fun _ => [])).trans hr) hh hl hc
    hlen hst
  have hnamed := (State.Tabled.refl v).named h.desc
  generalize v.named h.desc = y at hbody hnamed
  have ho : y.op? s.core.nextId = _ := (State.op?_congr (congrArg (·.rq.ops) hnamed.core) _).trans i.op?
  have g := State.loadStart_spec (l := ⟨s.core.nextId, 0, false, false, none⟩) (dTable_lt h.desc) 0 ho
  have hexec := coreCmd_on (tableLoad q) s hoff
  rw [hbody] at hexec
  refine ⟨_, y, hexec, g.wired ((State.off_eq_of (g.build.trans (hnamed.build.trans i.build))
    (g.aon.trans (hnamed.aon.trans i.aon))).trans hoff), hnamed.aon.trans i.aon,
    (congrArg (·.win) hnamed.core).trans (congrArg (·.win) i.core), (congrArg (·.resp) hnamed.core).trans (congrArg (·.resp) i.core),
    (congrArg (·.nextId) hnamed.core).trans (congrArg (·.nextId) i.core)⟩

/-- The state of a retire of slot A whose operation `id` is about to end. -/
def State.slotRetired (s : State) (d : BitVec 1024) (id : Nat) : State :=
  let y := ((s.named d).setTblState (dTable d) 0 3).setLoads (SMap.put s.core.tables.loads (dTable d) ⟨id, 0, true, true, none⟩)
  ({ y with core.tables.images := SMap.del y.core.tables.images (dTable d * 2) } : State).slotFreed (dTable d) 0

theorem State.slotRetired_spec (s : State) (d : BitVec 1024) (id : Nat) : s.Tabled (s.slotRetired d id) ∧
    (s.slotRetired d id).tblState (dTable d) 0 = 0 ∧ SMap.get? (s.slotRetired d id).core.tables.images (dTable d * 2) = none := by
  have g := (((State.Tabled.refl s).named d).setTblState (dTable d) 0 3).setLoads
    (SMap.put s.core.tables.loads (dTable d) ⟨id, 0, true, true, none⟩)
  rw [State.slotRetired]
  generalize ((s.named d).setTblState (dTable d) 0 3).setLoads _ = y at *
  obtain ⟨hstate, htables⟩ := State.slotFreed_spec
    { y with core.tables.images := SMap.del y.core.tables.images (dTable d * 2) } (dTable_lt d) 0
  refine ⟨(g.setTables _).slotFreed _ _, hstate, ?_⟩
  rw [htables]
  exact SMap.get?_del_self _ _

/-- A retire of a version without references ends at once (R210). -/
theorem tableLoad_ends (hr : s.ready q.val 0x30 (fun _ => []) = .ok h) (hh : s.held q.val h (tableRanges h.desc) = false)
    (hl : SMap.get? s.core.tables.loads (dTable h.desc) = none) (hc : s.tableRefusal h.desc = none) (hlen : dTblLength h.desc = 0)
    (hst : s.tblState (dTable h.desc) 0 = 2) (hver : s.tblVer (dTable h.desc) 0 = dVersion h.desc)
    (hrefs : s.tblRefs (dTable h.desc) 0 = 0) :
    ∃ v, s.Issued v q.val h (tableRanges h.desc) ∧
      tableLoad q s = (v.slotRetired h.desc s.core.nextId).endOp s.core.nextId 0 0 0 0 := by
  obtain ⟨v, i, hbody⟩ := tableLoad_retires hr hh hl hc hlen hst hver
  have hloads : v.core.tables.loads = s.core.tables.loads := congrArg (·.tables.loads) i.core
  have hslots := i.sameLow.sameSlots.trans (v.named_slots h.desc)
  refine ⟨v, i, hbody.trans ?_⟩
  rw [State.tableStep_retires (l := ⟨s.core.nextId, 0, true, true, none⟩), State.slotRetired, hloads]
  · rfl
  · rw [State.setLoads_tables]
    exact SMap.get?_put_self _ _ _
  · rfl
  · rfl
  · rw [(State.SameSlots.setLoads _ _).refs _ _ (dTable_lt _), State.tblRefs_setTblState, hslots.refs _ _ (dTable_lt _), hrefs]

end

/-- Settles O35: a TABLE_LOAD starts its load, is refused or ends a retire; an image that has been read makes its slot RESIDENT or frees
it. -/
theorem codeTables : Obligations.CodeTables := by
  intro s hoff
  refine ⟨fun q h hr hh hl hc hlen hst => ?_, fun q h c hr hh hl hc => ?_, fun q h hr hh hcqe hl hc hlen hst hver hrefs => ?_,
    fun n l r hf hl hread hslot hfail hn => ?_⟩
  · obtain ⟨t, y, ht, g, haon, hwin, hresp, hid⟩ := exec_tableLoad_loads hoff hr hh hl hc hlen hst
    obtain ⟨j, hjob, hacc, hfunc, hva, hjlen⟩ := g.job
    rw [hid] at hjob
    exact ⟨t, j, _, ht, g.state, g.ver, g.load, rfl, rfl, hjob, hacc, hfunc, hva, hjlen, g.busy, g.aon.trans haon, g.win.trans hwin,
      g.resp.trans hresp⟩
  · obtain ⟨v, i, hbody⟩ := tableLoad_refused (s := { s with out := [] }) ((State.ready_out s [] q.val 0x30 (fun _ => [])).trans hr) hh hl hc
    obtain ⟨t, ht, g⟩ := State.Completed.exec (c := .tableLoad q) hoff rfl hbody (i.endOp fun h0 => absurd h0 (by decide))
    exact ⟨t, _, ht, g.records, rfl, rfl, congrArg (·.tables) g.core⟩
  · obtain ⟨v, i, hbody⟩ := tableLoad_ends (s := { s with out := [] }) ((State.ready_out s [] q.val 0x30 (fun _ => [])).trans hr) hh hl hc
      hlen hst hver hrefs
    obtain ⟨g, hstate, himages⟩ := v.slotRetired_spec h.desc s.core.nextId
    generalize v.slotRetired h.desc s.core.nextId = y at hbody g hstate himages
    have ho : y.op? s.core.nextId = _ := (State.op?_congr (congrArg (·.rq.ops) g.core) _).trans i.op?
    obtain ⟨t, ht, hcore, htables, hslots, -, -⟩ := exec_endOp (cmd := .tableLoad q) hoff rfl hbody (g.build.trans i.build)
      (g.aon.trans i.aon)
    have hrec := State.endOp_recorded (status := 0) (detail := 0) (result := 0) (stamp := 0) ho rfl fun _ => hcqe
    have hkept : (y.qs q.val).records = (s.qs q.val).records :=
      congrArg (·.records) ((State.qs_congr (congrArg (·.rq.queues) g.core) _).trans i.qs)
    have hrecords := (congrArg (·.records) (State.qs_congr (congrArg (·.rq.queues) hcore) q.val)).trans
      (hrec.records.trans (congrArg (· ++ _) hkept))
    exact ⟨t, _, ht, (hslots.state _ 0 (dTable_lt _)).trans hstate, htables ▸ himages, hrecords, rfl⟩
  · have hbody := tableLoadReadDone_ends (s := { s with out := [] }) hf hl hread
    cases hv : tableValid r.data with
    | true =>
      rw [State.loadEnd_valid hfail hv, hslot] at hbody
      obtain ⟨hstate, htables⟩ := State.slotResident_spec { s with out := [] } hn 0 r.data
      have g := (State.Tabled.refl { s with out := [] }).slotResident n 0 r.data
      obtain ⟨t, ht, -, htab, hslots, haon, hwin⟩ := exec_endOp (cmd := .tableLoadReadDone) hoff rfl hbody g.build g.aon
      rw [htables] at htab
      refine ⟨t, ht, ?_, (hslots.state n 0 hn).trans hstate, fun _ => ?_, haon, hwin.trans (congrArg (·.win) g.core)⟩ <;> rw [htab]
      · exact SMap.get?_del_self _ _
      · exact SMap.get?_put_self _ _ _
    | false =>
      rw [State.loadEnd_invalid hfail hv, hslot] at hbody
      obtain ⟨hstate, htables⟩ := State.slotFreed_spec { s with out := [] } hn 0
      have g := (State.Tabled.refl { s with out := [] }).slotFreed n 0
      obtain ⟨t, ht, -, htab, hslots, haon, hwin⟩ := exec_endOp (cmd := .tableLoadReadDone) hoff rfl hbody g.build g.aon
      rw [htables] at htab
      refine ⟨t, ht, ?_, (hslots.state n 0 hn).trans hstate, fun h => absurd h (by decide), haon, hwin.trans (congrArg (·.win) g.core)⟩
      rw [htab]
      exact SMap.get?_del_self _ _

end Sys2Proof.Machine

namespace Sys2Proof.Machine

/-! ## Slots of a table that holds a key twice (R255, R326) -/

/-- An ACTIVE hop that leaves by a port in every slot, holding what `buf` says. -/
def hopBy (p : Nat) (buf : List (Nat × Nat × Packet)) : Circuit :=
  { newCircuit 1 0 0 0 0 2 0 p 0 0 0 0 1 0 0 0 false with state := 2, buf := buf }

/-- A block in RUN in slot 0, ports 0 and 1 READY, whose table of circuits holds key 0 twice: a hop by port 1 that holds a packet for the
slot, and behind it a hop by port 0. No run reaches it: set-up puts circuits into the table by key. -/
def repeatedKey : State :=
  { State.reset with
    aon.regs := [(R.GLOBAL_START_STATUS_STATE.addr, 4)]
    core.regs := [((R.GATE_STATUS_STATE 0).addr, 6), ((R.GATE_STATUS_STATE 1).addr, 6)]
    core.bolts.table := [(0, hopBy 1 [(0, 0, ⟨0, []⟩)]), (0, hopBy 0 [])] }

/-- Port 0 serves key 0 for the second entry and finds the first, whose packet leaves by port 1 before that port has marked the slot. -/
theorem repeatedKey_sends_before_mark :
    ∃ t, exec .slotBegin repeatedKey = .next t ∧ ((t.link 1).tx.map (·.kind)).head? = some 1 :=
  ⟨_, rfl, by decide +kernel⟩

/-- Refutes O45: its first clause lets every READY port mark the slot before anything of the slot leaves by it, in every state; in a table
that holds a key twice, a port's turn can send the packet of another port, whose turn and mark come later. -/
theorem not_slotsBegin : ¬ Obligations.SlotsBegin := by
  unfold Obligations.SlotsBegin
  intro h
  obtain ⟨hbegin, -⟩ := h repeatedKey (by decide)
  obtain ⟨t, ht, -, -, -, -, hmarks⟩ := hbegin (by decide) (by decide)
  obtain ⟨l, htx⟩ := hmarks 1 (by decide)
  obtain ⟨u, hu, hfirst⟩ := repeatedKey_sends_before_mark
  obtain rfl := Host.Outcome.next.inj (hu.symm.trans ht)
  have hbefore : (repeatedKey.link 1).tx = [] := rfl
  have hlink : u.link (1 : Port).val = u.link 1 := rfl
  rw [← hlink, htx] at hfirst
  simp [hbefore] at hfirst

end Sys2Proof.Machine

namespace Sys2Proof.Machine

/-! ## What is sent by a named port leaves (R306, R307, R311) -/

/-- The field lies neither in the peak of a port nor in its count of discarded packets. -/
abbrev Fld.untallied (f : Fld) : Prop := f.addr % 16 ≠ 12 ∧ (f.addr % 16 ≠ 8 ∨ 0xc0000 ≤ f.addr)

/-- `t` is `s` but for what sending or discarding a packet without a tag changes. -/
structure State.Sent (s t : State) : Prop where
  build : t.build = s.build
  aon : t.aon = s.aon
  core : t.core = { s.core with
    regs := t.core.regs, router := t.core.router, links := t.core.links, err := t.core.err, cnt := t.core.cnt }
  rd : ∀ f : Fld, f.untallied → t.rd f = s.rd f

section
variable {s t u : State} {p : Nat}

theorem State.Sent.refl (s : State) : s.Sent s := ⟨rfl, rfl, rfl, fun _ _ => rfl⟩

theorem State.Sent.trans (h : s.Sent t) (g : t.Sent u) : s.Sent u where
  build := g.build.trans h.build
  aon := g.aon.trans h.aon
  core := g.core.trans (by rw [h.core])
  rd := fun f hf => (g.rd f hf).trans (h.rd f hf)

theorem State.Sent.ite (c : Prop) [Decidable c] (h : s.Sent t) (g : s.Sent u) : s.Sent (if c then t else u) := by
  split
  · exact h
  · exact g

theorem State.Sent.off (h : s.Sent t) : t.off = s.off := State.off_eq_of h.build h.aon

theorem State.Sent.circuit? (h : s.Sent t) (k : Nat) : t.circuit? k = s.circuit? k :=
  congrArg (SMap.get? · k) (congrArg (·.bolts.table) h.core)

theorem State.Sent.wr (s : State) (f : Fld) (v : Nat) (haon : f.aon = false) (hf : ∀ g : Fld, g.untallied → f.apart g) :
    s.Sent (s.wr f v) where
  build := State.wr_build _ _ _
  aon := (State.wr_core_aon s f v haon).1
  core := by rw [(State.wr_core_aon s f v haon).2]
  rd := fun g hg => State.rd_wr_ne s f g v (hf g hg)

theorem State.Sent.peak (h : s.Sent t) (p v : Nat) : s.Sent (t.wr (R.ROUTE_TELEM_PEAK_FLITS p) v) :=
  h.trans (.wr t _ v rfl fun g hg => .inr (.inl (by simp only [R.ROUTE_TELEM_PEAK_FLITS]; omega)))

theorem State.Sent.count (h : s.Sent t) (slot event : Nat) : s.Sent (t.count slot event) := h.trans ⟨rfl, rfl, rfl, fun _ _ => rfl⟩

theorem State.Sent.setQueued (h : s.Sent t) (l : List OutPkt) : s.Sent { t with core.router.queued := l } :=
  h.trans ⟨rfl, rfl, rfl, fun _ _ => rfl⟩

theorem State.enqueue_sent (s : State) (o : OutPkt) : s.Sent (s.enqueue o) := by
  exact .setQueued (.peak (.ite _ ((State.Sent.refl s).count _ _) (.refl s)) _ _) _

theorem State.sendBy_sent (s : State) (inPort p : Nat) (entry : Bool) (stamp : Nat) (k : Packet) :
    s.Sent (s.sendBy inPort p entry stamp k) :=
  .ite _ (s.enqueue_sent _) (.ite _ ⟨rfl, rfl, rfl, fun _ _ => rfl⟩ (.refl s))

theorem State.sendPort_sent (s : State) (p : Nat) (k : Packet) : s.Sent (s.sendPort p k) := s.sendBy_sent _ _ _ _ _

theorem State.passOn_sent (s : State) (i : InPkt) (p : Nat) (k : Packet) : s.Sent (s.passOn i p k) := s.sendBy_sent _ _ _ _ _

/-- The record of a discarded packet waits to be merged (R401). -/
theorem State.logDiscard_sent (s : State) (port out node : Nat) : s.Sent (s.logDiscard port out node) :=
  .ite _ ⟨rfl, rfl, rfl, fun _ _ => rfl⟩ ⟨rfl, rfl, rfl, fun _ _ => rfl⟩

/-- A discarded packet without a tag is counted and logged (R306). -/
theorem State.discardFor_sent (s : State) (inPort port dest : Nat) : s.Sent (s.discardFor inPort port none dest) := by
  refine .trans ?_ (State.logDiscard_sent _ _ _ _)
  by_cases hp : port < 10
  · rw [if_pos hp]
    refine .wr _ _ _ rfl fun g hg => .inr (.inl ?_)
    simp only [R.ROUTE_TELEM_DISCARD_COUNT]
    omega
  · rw [if_neg hp]
    exact .refl s

/-- A packet leaves by a port that carries traffic, last in the router's queue. -/
theorem State.sendBy_queued (h : s.portReady p = true) (inPort : Nat) (entry : Bool) (stamp : Nat) (k : Packet) :
    ∃ o, (⟨inPort, p, entry, stamp, none, none, k, 0⟩ : OutPkt).Queued o ∧
      (s.sendBy inPort p entry stamp k).core.router.queued = s.core.router.queued ++ [o] := by
  rw [State.sendBy_ready h]
  exact s.enqueue_queued _

end

/-! ## Circuits break (R260) -/

/-- `t` is `s` after something that breaks circuits: every circuit is as it was, or was ACTIVE and is BROKEN, and event records are
only added. -/
structure State.Broken (s t : State) : Prop where
  build : t.build = s.build
  aon : t.aon = s.aon
  core : t.core = { s.core with
    regs := t.core.regs, jobs := t.core.jobs, work := t.core.work, mem := t.core.mem, rq := t.core.rq, router := t.core.router,
    links := t.core.links, bolts := t.core.bolts, events := t.core.events, err := t.core.err, trace := t.core.trace, cnt := t.core.cnt }
  rd : ∀ f : Fld, f.addr < 0x160000 → f.untallied → t.rd f = s.rd f
  events : ∀ e ∈ s.core.events, e ∈ t.core.events
  circuit : ∀ k c, s.circuit? k = some c → ∃ c', t.circuit? k = some c' ∧ (c' = c ∨ c.state = 2 ∧ c'.state = 4)

section
variable {s t u : State}

theorem State.Broken.refl (s : State) : s.Broken s :=
  ⟨rfl, rfl, rfl, fun _ _ _ => rfl, fun _ h => h, fun _ c h => ⟨c, h, .inl rfl⟩⟩

theorem State.Broken.trans (h : s.Broken t) (g : t.Broken u) : s.Broken u where
  build := g.build.trans h.build
  aon := g.aon.trans h.aon
  core := g.core.trans (by rw [h.core])
  rd := fun f hf hu => (g.rd f hf hu).trans (h.rd f hf hu)
  events := fun e he => g.events e (h.events e he)
  circuit := fun k c hc => by
    obtain ⟨d, hd, hcd⟩ := h.circuit k c hc
    obtain ⟨e, he, hde⟩ := g.circuit k d hd
    refine ⟨e, he, ?_⟩
    rcases hcd with rfl | ⟨h2, h4⟩
    · exact hde
    · rcases hde with rfl | ⟨h2', -⟩
      · exact .inr ⟨h2, h4⟩
      · omega

theorem State.Broken.ite (c : Prop) [Decidable c] (h : s.Broken t) (g : s.Broken u) : s.Broken (if c then t else u) := by
  split
  · exact h
  · exact g

theorem State.Broken.foldl {α : Type} {f : State → α → State} (hf : ∀ (u : State) (x : α), u.Broken (f u x)) (h : s.Broken t)
    (l : List α) : s.Broken (l.foldl f t) := by
  induction l generalizing t with
  | nil => exact h
  | cons x l ih => exact ih (h.trans (hf t x))

theorem State.Broken.off (h : s.Broken t) : t.off = s.off := State.off_eq_of h.build h.aon

/-- A circuit that is BROKEN stays as it is. -/
theorem State.Broken.circuit_broken (h : s.Broken t) {k : Nat} {c : Circuit} (hc : s.circuit? k = some c) (h4 : c.state = 4) :
    t.circuit? k = some c := by
  obtain ⟨d, hd, rfl | ⟨h2, -⟩⟩ := h.circuit k c hc
  · exact hd
  · omega

/-- What changes neither registers nor events nor the table of circuits breaks nothing. -/
theorem State.Broken.of_same (hb : t.build = s.build) (ha : t.aon = s.aon)
    (hc : t.core = { s.core with
      jobs := t.core.jobs, work := t.core.work, mem := t.core.mem, rq := t.core.rq, router := t.core.router, links := t.core.links,
      bolts := t.core.bolts, err := t.core.err, trace := t.core.trace, cnt := t.core.cnt })
    (htable : t.core.bolts.table = s.core.bolts.table) : s.Broken t where
  build := hb
  aon := ha
  core := hc.trans (by rw [hc])
  rd := fun f _ _ => State.rd_congr s t f hb (congrArg (·.regs) ha) (congrArg (·.regs) hc)
  events := fun e he => by rw [hc]; exact he
  circuit := fun k c h => ⟨c, by rw [State.circuit?, htable]; exact h, .inl rfl⟩

theorem State.Sent.broken (h : s.Sent t) : s.Broken t where
  build := h.build
  aon := h.aon
  core := by rw [h.core]
  rd := fun f _ hu => h.rd f hu
  events := fun e he => by rw [h.core]; exact he
  circuit := fun k c hc => ⟨c, (h.circuit? k).trans hc, .inl rfl⟩

theorem State.Broken.freeTag (s : State) (n : Nat) : s.Broken (s.freeTag n) := by
  obtain ⟨-, reqs, work, h⟩ := s.freeTag_spec n
  rw [h]
  exact .of_same rfl rfl rfl rfl

theorem State.Broken.endOp (s : State) (id status detail result stamp : Nat) : s.Broken (s.endOp id status detail result stamp) := by
  have h := (State.Retired.refl s).endOp id status detail result stamp
  have hbolts : (s.endOp id status detail result stamp).core.bolts = s.core.bolts := congrArg (·.bolts) h.core
  exact ⟨h.build, h.aon, by rw [h.core], fun f hf _ => s.endOp_sameLow id status detail result stamp f hf,
    fun e he => by rw [h.core]; exact he, fun k c hc => ⟨c, by rw [State.circuit?, hbolts]; exact hc, .inl rfl⟩⟩

theorem State.Broken.dropBoltReads (s : State) (tag : Nat) : s.Broken (s.dropBoltReads tag) := .of_same rfl rfl rfl rfl

/-- Transfers that end free their tags and drop their reads (R260). -/
theorem State.Broken.abortXfers (s : State) (reason : Nat) (xs : List Transfer) : s.Broken (s.abortXfers reason xs) :=
  .foldl (f := fun u (x : Transfer) => ((u.freeTag x.tag).dropBoltReads x.tag).endOp x.op 0x12 (det 7 reason) 0 0)
    (fun u x => ((State.Broken.freeTag u x.tag).trans (.dropBoltReads _ _)).trans (.endOp _ _ _ _ _ _)) (.refl s) xs

theorem State.Broken.event (s : State) (opcode userTag result : Nat) : s.Broken (s.event opcode userTag result) :=
  ⟨rfl, rfl, rfl, fun _ _ _ => rfl, fun _ he => List.mem_append_left _ he, fun _ c hc => ⟨c, hc, .inl rfl⟩⟩

theorem State.event_mem (s : State) (opcode userTag result : Nat) :
    eventRecord opcode userTag result ∈ (s.event opcode userTag result).core.events :=
  List.mem_append_right _ (List.mem_singleton_self _)

/-- A circuit that has broken: nothing is left of what it held. -/
def Circuit.broken (c : Circuit) : Circuit := { c with state := 4, xfers := [], buf := [], tdm := [], pending_ := 0, land := [] }

@[simp] theorem State.circuit?_setCircuit_self (s : State) (k : Nat) (c : Circuit) : (s.setCircuit k c).circuit? k = some c :=
  SMap.get?_put_self _ _ _

theorem State.circuit?_setCircuit_ne (s : State) {k j : Nat} (c : Circuit) (h : j ≠ k) : (s.setCircuit k c).circuit? j = s.circuit? j :=
  SMap.get?_put_ne _ _ _ _ h

@[simp] theorem State.circuit?_delCircuit_self (s : State) (k : Nat) : (s.delCircuit k).circuit? k = none := SMap.get?_del_self _ _

theorem State.circuit?_delCircuit_ne (s : State) {k j : Nat} (h : j ≠ k) : (s.delCircuit k).circuit? j = s.circuit? j :=
  SMap.get?_del_ne _ _ _ h

theorem State.Broken.setCircuit {k : Nat} {c : Circuit} (hc : s.circuit? k = some c) (h2 : c.state = 2) :
    s.Broken (s.setCircuit k c.broken) where
  build := rfl
  aon := rfl
  core := rfl
  rd := fun _ _ _ => rfl
  events := fun _ he => he
  circuit := fun j d hd => by
    by_cases hj : j = k
    · subst hj
      obtain rfl := Option.some.inj (hc.symm.trans hd)
      exact ⟨_, s.circuit?_setCircuit_self _ _, .inr ⟨h2, rfl⟩⟩
    · exact ⟨d, (s.circuit?_setCircuit_ne _ hj).trans hd, .inl rfl⟩

/-- Once its entry says BROKEN, the rest of a circuit's break breaks no other, and an event record is raised. -/
theorem State.toBroken_spec (s : State) (k : Nat) (c : Circuit) :
    (s.setCircuit k c.broken).Broken (s.toBroken k c) ∧ eventRecord 0x20 0 0 ∈ (s.toBroken k c).core.events := by
  have htimers := State.Broken.foldl (f := fun (u : State) (o : OutPkt) => u.startTimer o.tag)
    (fun u o => by cases h : o.tag <;> exact .of_same rfl rfl rfl rfl) (.refl (s.setCircuit k c.broken)) c.tdm
  refine ⟨?_, State.event_mem _ _ _ _⟩
  unfold State.toBroken
  dsimp only
  exact (htimers.trans (.ite _ (.abortXfers _ _ _) (.refl _))).trans (.event _ _ _ _)

/-- An ACTIVE circuit breaks (R260). -/
theorem State.breakOne_active {k : Nat} {c : Circuit} (hc : s.circuit? k = some c) (h2 : c.state = 2) :
    (s.setCircuit k c.broken).Broken (s.breakOne k) := by
  have hforward : (s.setCircuit k c.broken).Broken
      (if c.role ≠ 2 then (s.toBroken k c).sendPort c.outPort (c.forward 3 []) else s.toBroken k c) :=
    .ite _ ((s.toBroken_spec k c).1.trans (State.sendPort_sent _ _ _).broken) (s.toBroken_spec k c).1
  simp only [State.breakOne, hc]
  rw [if_neg (not_not.mpr h2)]
  exact .ite _ (hforward.trans (State.sendPort_sent _ _ _).broken) hforward

theorem State.breakOne_other {k : Nat} (h : ∀ c, s.circuit? k = some c → c.state ≠ 2) : s.breakOne k = s := by
  unfold State.breakOne
  split
  · rfl
  · exact if_pos (h _ ‹_›)

theorem State.breakOne_broken (s : State) (k : Nat) : s.Broken (s.breakOne k) := by
  by_cases h : ∃ c, s.circuit? k = some c ∧ c.state = 2
  · obtain ⟨c, hc, h2⟩ := h
    exact (State.Broken.setCircuit hc h2).trans (State.breakOne_active hc h2)
  · rw [State.breakOne_other fun c hc h2 => h ⟨c, hc, h2⟩]
    exact .refl s

theorem State.breakOne_state {k : Nat} {c : Circuit} (hc : s.circuit? k = some c) (h2 : c.state = 2) :
    (s.breakOne k).circuit? k = some c.broken :=
  (State.breakOne_active hc h2).circuit_broken (s.circuit?_setCircuit_self _ _) rfl

/-- A circuit breaks first, the other circuit of its pair after it (R260). -/
theorem State.breakCircuit_after (s : State) (k : Nat) : (s.breakOne k).Broken (s.breakCircuit k) := by
  cases hc : s.circuit? k with
  | none =>
    rw [State.breakOne_other (by simp [hc])]
    simp only [State.breakCircuit, hc]
    exact .refl s
  | some c =>
    simp only [State.breakCircuit, hc]
    split
    · exact State.breakOne_broken _ _
    · exact .refl _

theorem State.breakCircuits_broken (s : State) (ks : List Nat) : s.Broken (ks.foldl State.breakCircuit s) :=
  .foldl (fun u k => (u.breakOne_broken k).trans (u.breakCircuit_after k)) (.refl s) ks

theorem State.breakWhere_broken (s : State) (f : Circuit → Bool) : s.Broken (s.breakWhere f) := s.breakCircuits_broken _

/-- Every ACTIVE circuit of a list of keys breaks. -/
theorem State.breakCircuits_state {ks : List Nat} {k : Nat} {c : Circuit} (hk : k ∈ ks) (hc : s.circuit? k = some c) (h2 : c.state = 2) :
    ∃ c', (ks.foldl State.breakCircuit s).circuit? k = some c' ∧ c'.state = 4 := by
  induction ks generalizing s c with
  | nil => simp at hk
  | cons j ks ih =>
    rw [List.foldl_cons]
    by_cases hj : j = k
    · subst hj
      have hbroken := (s.breakCircuit_after j).circuit_broken (State.breakOne_state hc h2) rfl
      exact ⟨_, (State.breakCircuits_broken _ ks).circuit_broken hbroken rfl, rfl⟩
    · obtain ⟨d, hd, rfl | ⟨-, h4⟩⟩ := ((s.breakOne_broken j).trans (s.breakCircuit_after j)).circuit k c hc
      · exact ih ((List.mem_cons.mp hk).resolve_left (Ne.symm hj)) hd h2
      · exact ⟨d, (State.breakCircuits_broken _ ks).circuit_broken hd h4, h4⟩

theorem State.breakAll_state {k : Nat} {c : Circuit} (hc : s.circuit? k = some c) (h2 : c.state = 2) :
    ∃ c', s.breakAll.circuit? k = some c' ∧ c'.state = 4 :=
  State.breakCircuits_state (List.mem_map.mpr ⟨(k, c), List.mem_filter.mpr ⟨SMap.mem_of_get? hc, by simp [h2]⟩, rfl⟩) hc h2

end

end Sys2Proof.Machine

namespace Sys2Proof.Machine

/-! ## The state of fabric time (R249, R250) -/

section
variable {s t u : State}

theorem State.wr_core_of_aon (s : State) {f : Fld} (v : Nat) (h : f.aon = true) : (s.wr f v).core = s.core := by
  simp [State.wr, State.setWord, h]

theorem State.rd_wr_addr (s : State) (f : Fld) {g : Fld} (v : Nat) (h : g.addr ≠ f.addr) : (s.wr f v).rd g = s.rd g :=
  State.rd_wr_ne s f g v (.inr (.inl h))

/-- A bit of GLOBAL_READY changes that register and GLOBAL_READY_CHG alone (R373). -/
theorem State.setReadyBit_spec (s : State) (i : Nat) (v : Bool) :
    (s.setReadyBit i v).build = s.build ∧ (s.setReadyBit i v).core = s.core ∧
      ∀ f : Fld, f.addr ≠ R.GLOBAL_READY_GATE.addr → f.addr ≠ R.GLOBAL_READY_CHG_CHG.addr → (s.setReadyBit i v).rd f = s.rd f := by
  unfold State.setReadyBit
  dsimp only
  generalize hf : (⟨R.GLOBAL_READY_GATE.addr, i, 1, true⟩ : Fld) = f
  generalize hg : (⟨R.GLOBAL_READY_CHG_CHG.addr, i, 1, true⟩ : Fld) = g
  split
  · exact ⟨rfl, rfl, fun _ _ _ => rfl⟩
  · refine ⟨by simp only [State.wr_build], ?_, fun x hx hy => ?_⟩
    · rw [State.wr_core_of_aon _ _ (by rw [← hg]), State.wr_core_of_aon _ _ (by rw [← hf])]
    · rw [State.rd_wr_addr _ g _ (by rw [← hg]; exact hy), State.rd_wr_addr _ f _ (by rw [← hf]; exact hx)]

/-- `t` is `s` in state `st` of R250: TIME_STATUS, a bit of GLOBAL_READY and the start of journal coverage aside, nothing changes. -/
structure State.Entered (s t : State) (st : Nat) : Prop where
  build : t.build = s.build
  core : t.core = { s.core with regs := t.core.regs, resp := t.core.resp }
  state : t.rd R.TIME_STATUS_STATE = st
  synced : st = 1 ∨ st = 2 → t.rd R.TIME_STATUS_SYNCED = 1
  rd : ∀ f : Fld, f.addr ≠ R.GLOBAL_READY_GATE.addr → f.addr ≠ R.GLOBAL_READY_CHG_CHG.addr → f.addr ≠ R.TIME_STATUS_STATE.addr →
    t.rd f = s.rd f

theorem State.Entered.cover {st : Nat} (h : s.Entered t st) (p : Prop) [Decidable p] (c : Option Nat) :
    s.Entered (if p then { t with core.resp.cover := c } else t) st := by
  split
  · exact ⟨h.build, by rw [h.core], h.state, h.synced, h.rd⟩
  · exact h

theorem State.Entered.off {st : Nat} (h : s.Entered t st) : t.off = s.off := by
  simp only [State.off, State.seq, h.rd R.GLOBAL_START_STATUS_STATE (by decide) (by decide) (by decide)]

theorem State.now_congr (h : t.core.time = s.core.time) : t.now = s.now := by rw [State.now, h, State.now]

theorem State.Entered.now {st : Nat} (h : s.Entered t st) : t.now = s.now := State.now_congr (congrArg (·.time) h.core)

/-- The state of R250 is written, with its bit of GLOBAL_READY. -/
theorem State.stateBit_spec (s : State) {st : Nat} (hst : st < 4) (up : Bool) :
    let v := (s.wr R.TIME_STATUS_STATE st).setReadyBit 11 up
    v.build = s.build ∧ v.core = { s.core with regs := v.core.regs } ∧ v.rd R.TIME_STATUS_STATE = st ∧
      ∀ f : Fld, f.addr ≠ R.GLOBAL_READY_GATE.addr → f.addr ≠ R.GLOBAL_READY_CHG_CHG.addr → f.addr ≠ R.TIME_STATUS_STATE.addr →
        v.rd f = s.rd f := by
  obtain ⟨hbuild, hcore, hrd⟩ := (s.wr R.TIME_STATUS_STATE st).setReadyBit_spec 11 up
  have hw := (s.wr_core_aon R.TIME_STATUS_STATE st rfl).2
  refine ⟨by rw [hbuild, State.wr_build], by rw [hcore, hw], ?_, fun f h1 h2 h3 => ?_⟩
  · rw [hrd _ (by decide) (by decide), State.rd_wr_self _ _ _ (by decide)]
    exact Nat.mod_eq_of_lt hst
  · rw [hrd f h1 h2, State.rd_wr_addr _ _ _ h3]

/-- An entry to LOCKING or LOCKED sets SYNCED too. -/
theorem State.timeState_entered (s : State) {st : Nat} (hst : st < 4) : s.Entered (s.timeState st) st := by
  obtain ⟨hbuild, hcore, hstate, hrd⟩ := s.stateBit_spec hst (st == 1 || st == 2)
  have hset : s.Entered
      (if (st == 1 || st == 2) = true then ((s.wr R.TIME_STATUS_STATE st).setReadyBit 11 (st == 1 || st == 2)).wr R.TIME_STATUS_SYNCED 1
        else (s.wr R.TIME_STATUS_STATE st).setReadyBit 11 (st == 1 || st == 2)) st := by
    revert hbuild hcore hstate hrd
    generalize (s.wr R.TIME_STATUS_STATE st).setReadyBit 11 (st == 1 || st == 2) = v
    intro hbuild hcore hstate hrd
    split
    · refine ⟨by rw [State.wr_build, hbuild], by rw [(v.wr_core_aon R.TIME_STATUS_SYNCED 1 rfl).2, hcore], ?_,
        fun _ => State.rd_wr_self _ _ _ (by decide), fun f h1 h2 h3 => ?_⟩
      · rw [State.rd_wr_ne _ _ _ _ (.inr (.inr (.inr (by decide)))), hstate]
      · rw [State.rd_wr_addr v R.TIME_STATUS_SYNCED 1 h3, hrd f h1 h2 h3]
    · exact ⟨hbuild, by rw [hcore], hstate, fun h => absurd h (by simp_all), hrd⟩
  exact hset.cover _ _

/-- The count shows what it was set to. -/
theorem State.now_setNow (s : State) (v : Nat) : (s.setNow v).now = v % 2 ^ 64 := by
  simp only [State.now, State.setNow]
  rw [Nat.mul_div_cancel _ (Nat.two_pow_pos 24), Nat.mod_mod]

theorem State.setNow_core (s : State) (v : Nat) : (s.setNow v).core = { s.core with time := (s.setNow v).core.time } := by
  unfold State.setNow
  rfl

theorem State.setNow_rd (s : State) (v : Nat) (f : Fld) : (s.setNow v).rd f = s.rd f :=
  State.rd_congr _ _ f rfl rfl (congrArg (·.regs) (s.setNow_core v))

theorem State.setNow_off (s : State) (v : Nat) : (s.setNow v).off = s.off := State.off_eq_of rfl rfl

theorem State.now_lt (s : State) : s.now < 2 ^ 64 := Nat.mod_lt _ (Nat.two_pow_pos 64)

theorem State.timeSet_lt (s : State) : s.timeSet < 2 ^ 64 := by
  have hlo : s.rd R.TIME_SET_LO_COUNT < 2 ^ 32 := s.rd_lt _
  have hhi : s.rd R.TIME_SET_HI_COUNT < 2 ^ 32 := s.rd_lt _
  unfold State.timeSet
  omega

theorem ofSigned_lt (w : Nat) (i : Int) : ofSigned w i < 2 ^ w := by
  unfold ofSigned
  have hpos : (0 : Int) < ((2 ^ w : Nat) : Int) := Int.natCast_pos.mpr (Nat.two_pow_pos w)
  have hlt := Int.emod_lt_of_pos i hpos
  have hge := Int.emod_nonneg i hpos.ne'
  omega

/-! ## TIME_CTL (R250, R269) -/

def timeCtlFields : List Fld := [R.TIME_CTL_MASTER, R.TIME_CTL_PARENT, R.TIME_CTL_HOLD_MAX, R.TIME_CTL_ENABLE]

/-- A write of TIME_CTL; MASTER is written only while ENABLE is 0 (R269). -/
theorem State.storeTimeCtl_spec (s : State) (n : Nat) : s.Wrote (s.storeTimeCtl n) timeCtlFields ∧
    (s.storeTimeCtl n).rd R.TIME_CTL_ENABLE = bits n 0 1 ∧
    (s.storeTimeCtl n).rd R.TIME_CTL_MASTER = if s.on R.TIME_CTL_ENABLE then s.rd R.TIME_CTL_MASTER else bits n 1 1 := by
  have hctl : ∀ (v : State) (m : Nat), s.Wrote v timeCtlFields → v.rd R.TIME_CTL_MASTER = m →
      s.Wrote ((v.wr R.TIME_CTL_HOLD_MAX (bits n 8 8)).wr R.TIME_CTL_ENABLE (bits n 0 1)) timeCtlFields ∧
      ((v.wr R.TIME_CTL_HOLD_MAX (bits n 8 8)).wr R.TIME_CTL_ENABLE (bits n 0 1)).rd R.TIME_CTL_ENABLE = bits n 0 1 ∧
      ((v.wr R.TIME_CTL_HOLD_MAX (bits n 8 8)).wr R.TIME_CTL_ENABLE (bits n 0 1)).rd R.TIME_CTL_MASTER = m := by
    intro v m hv hm
    refine ⟨(hv.wr _ _ (by simp [timeCtlFields]) rfl).wr _ _ (by simp [timeCtlFields]) rfl, ?_, ?_⟩
    · rw [State.rd_wr_self _ _ _ (by decide)]
      exact Nat.mod_eq_of_lt (bits_lt _ _ _)
    · rw [State.rd_wr_ne _ _ _ _ (.inr (.inr (.inl (by decide)))), State.rd_wr_ne _ _ _ _ (.inr (.inr (.inr (by decide)))), hm]
  have hmaster : ((s.wr R.TIME_CTL_MASTER (bits n 1 1)).wr R.TIME_CTL_PARENT (bits n 2 4)).rd R.TIME_CTL_MASTER = bits n 1 1 := by
    rw [State.rd_wr_ne _ _ _ _ (.inr (.inr (.inr (by decide)))), State.rd_wr_self _ _ _ (by decide)]
    exact Nat.mod_eq_of_lt (bits_lt _ _ _)
  unfold State.storeTimeCtl
  dsimp only
  split
  · exact hctl s _ (.refl _ _) rfl
  · exact hctl _ _ (((State.Wrote.refl s _).wr R.TIME_CTL_MASTER _ (by simp [timeCtlFields]) rfl).wr R.TIME_CTL_PARENT _
      (by simp [timeCtlFields]) rfl) hmaster

theorem timeCtl_apart {f : Fld} (hf : f.addr ≠ R.TIME_CTL_ENABLE.addr) : ∀ g ∈ timeCtlFields, g.apart f := by
  simp only [timeCtlFields, List.forall_mem_cons, List.not_mem_nil, false_implies, implies_true, and_true]
  exact ⟨.inr (.inl hf), .inr (.inl hf), .inr (.inl hf), .inr (.inl hf)⟩

theorem State.Wrote.now {fs : List Fld} (h : s.Wrote t fs) : t.now = s.now := State.now_congr (congrArg (·.time) h.core)

theorem State.Wrote.timeSet (h : s.Wrote t timeCtlFields) : t.timeSet = s.timeSet := by
  rw [State.timeSet, h.rd _ (timeCtl_apart (by decide)), h.rd _ (timeCtl_apart (by decide)), State.timeSet]

/-- The master's entry to LOCKED (R250). -/
def State.lockMaster (s : State) : State := (s.timeState 2).wr R.TIME_STATUS_HOPS 0

/-- ENABLE written 1 with MASTER (R250). -/
theorem timeEnable_master {d : Word} (hd : bits d.toNat 0 1 = 1) (hm : bits d.toNat 1 1 = 1) (hoff : s.on R.TIME_CTL_ENABLE = false) :
    timeEnable d s =
      if s.rd R.TIME_STATUS_STATE = 0 then ((s.storeTimeCtl d.toNat).setNow s.timeSet).lockMaster
      else if s.rd R.TIME_STATUS_STATE = 3 then
        (if s.timeSet > s.now then (s.storeTimeCtl d.toNat).timeStep (s.timeSet - s.now) else s.storeTimeCtl d.toNat).lockMaster
      else s.storeTimeCtl d.toNat := by
  obtain ⟨hw, -, hmaster⟩ := s.storeTimeCtl_spec d.toNat
  have hon : (s.storeTimeCtl d.toNat).on R.TIME_CTL_MASTER = true := by
    rw [State.on_eq, hmaster, hoff, hm]
    rfl
  unfold timeEnable
  rw [if_neg (not_not.mpr hd)]
  simp only [hon, not_true_eq_false, if_false, hw.rd R.TIME_STATUS_STATE (timeCtl_apart (by decide)), hw.now, hw.timeSet]
  rfl

theorem State.lockMaster_spec (s : State) : s.lockMaster.now = s.now ∧ s.lockMaster.rd R.TIME_STATUS_STATE = 2 ∧
    s.lockMaster.rd R.TIME_STATUS_SYNCED = 1 ∧ s.lockMaster.rd R.TIME_STATUS_HOPS = 0 ∧
    s.lockMaster.rd R.TIME_CTL_ENABLE = s.rd R.TIME_CTL_ENABLE ∧ s.lockMaster.core.bolts = s.core.bolts ∧ s.lockMaster.off = s.off := by
  have g := s.timeState_entered (st := 2) (by decide)
  have hw := (State.Wrote.refl (s.timeState 2) [R.TIME_STATUS_HOPS]).wr R.TIME_STATUS_HOPS 0 (by simp) rfl
  have hkeep : ∀ f : Fld, R.TIME_STATUS_HOPS.apart f → s.lockMaster.rd f = (s.timeState 2).rd f := fun f hf =>
    State.rd_wr_ne _ _ _ _ hf
  refine ⟨hw.now.trans g.now, (hkeep _ (.inr (.inr (.inr (by decide))))).trans g.state,
    (hkeep _ (.inr (.inr (.inr (by decide))))).trans (g.synced (.inr rfl)), State.rd_wr_self _ _ _ (by decide),
    (hkeep _ (.inr (.inl (by decide)))).trans (g.rd _ (by decide) (by decide) (by decide)), ?_, hw.off.trans g.off⟩
  exact (congrArg (·.bolts) hw.core).trans (congrArg (·.bolts) g.core)

/-- A forward step moves the count and breaks circuits (R250). -/
theorem State.timeStep_spec (s : State) (n : Nat) : (s.timeStep n).now = (s.now + n) % 2 ^ 64 ∧ (s.timeStep n).off = s.off := by
  obtain ⟨v, hv, hstep⟩ : ∃ v, (s.setNow (s.now + n)).Traced v ∧ s.timeStep n = (v.wr R.TIME_STATUS_STEPPED 1).breakAll :=
    ⟨_, (State.Traced.refl _).traceEv _ _ _ _ _ _ _ _ _ _ _ _ _ _, rfl⟩
  have hbreak := State.breakWhere_broken (v.wr R.TIME_STATUS_STEPPED 1) (fun _ => true)
  have htime : (s.timeStep n).core.time = (s.setNow (s.now + n)).core.time := by
    rw [hstep, State.breakAll, hbreak.core, State.wr_core_time, hv.core]
  constructor
  · rw [State.now_congr htime, State.now_setNow]
  · rw [hstep]
    exact hbreak.off.trans ((State.off_wr _ _ _ rfl).trans ((State.off_eq_of hv.build hv.aon).trans (s.setNow_off _)))

/-! ### The commands that write TIME_CTL -/

/-- Enabling a master sets its count in UNSYNCED (R250). -/
theorem exec_timeEnable_unsynced {d : Word} (hoff : s.off = false) (hd : bits d.toNat 0 1 = 1) (hm : bits d.toNat 1 1 = 1)
    (hen : s.on R.TIME_CTL_ENABLE = false) (hst : s.rd R.TIME_STATUS_STATE = 0) :
    ∃ t, exec (.timeEnable d) s = .next t ∧ t.now = s.timeSet ∧ t.rd R.TIME_STATUS_STATE = 2 ∧ t.rd R.TIME_STATUS_SYNCED = 1 ∧
      t.rd R.TIME_STATUS_HOPS = 0 ∧ t.rd R.TIME_CTL_ENABLE = 1 ∧ t.core.bolts = s.core.bolts := by
  obtain ⟨hw, henable, -⟩ := ({ s with out := [] } : State).storeTimeCtl_spec d.toNat
  have hbody := (timeEnable_master (s := { s with out := [] }) hd hm hen).trans (if_pos hst)
  revert hw henable hbody
  generalize ({ s with out := [] } : State).storeTimeCtl d.toNat = v
  intro hw henable hbody
  obtain ⟨hnow, hstate, hsynced, hhops, hctl, hbolts, hstill⟩ := (v.setNow s.timeSet).lockMaster_spec
  obtain ⟨t, ht, hcore, -, hrd⟩ := coreCmd_next (timeEnable d) s _ hoff hbody
    (hstill.trans ((v.setNow_off _).trans (hw.off.trans hoff)))
  refine ⟨t, ht, ?_, (hrd _).trans hstate, (hrd _).trans hsynced, (hrd _).trans hhops,
    (hrd _).trans (hctl.trans ((v.setNow_rd _ _).trans (henable.trans hd))), ?_⟩
  · rw [State.now_congr (congrArg (·.time) hcore)]
    exact hnow.trans ((State.now_setNow _ _).trans (Nat.mod_eq_of_lt s.timeSet_lt))
  · exact (congrArg (·.bolts) hcore).trans
      (hbolts.trans ((congrArg (·.bolts) (v.setNow_core _)).trans (congrArg (·.bolts) hw.core)))

/-- Enabling a master in HOLDOVER moves its count forward only (R250). -/
theorem exec_timeEnable_holdover {d : Word} (hoff : s.off = false) (hd : bits d.toNat 0 1 = 1) (hm : bits d.toNat 1 1 = 1)
    (hen : s.on R.TIME_CTL_ENABLE = false) (hst : s.rd R.TIME_STATUS_STATE = 3) :
    ∃ t, exec (.timeEnable d) s = .next t ∧ t.now = max s.now s.timeSet ∧ t.rd R.TIME_STATUS_STATE = 2 := by
  have hw := (({ s with out := [] } : State).storeTimeCtl_spec d.toNat).1
  have hbody := (timeEnable_master (s := { s with out := [] }) hd hm hen).trans
    ((if_neg fun h0 => absurd (hst.symm.trans h0) (by decide)).trans (if_pos hst))
  revert hw hbody
  generalize ({ s with out := [] } : State).storeTimeCtl d.toNat = v
  intro hw hbody
  have hforward : ∀ w : State, w.now = max s.now s.timeSet → w.off = false → timeEnable d { s with out := [] } = w.lockMaster →
      ∃ t, exec (.timeEnable d) s = .next t ∧ t.now = max s.now s.timeSet ∧ t.rd R.TIME_STATUS_STATE = 2 := by
    intro w hnow hwoff hb
    obtain ⟨hkept, hstate, -, -, -, -, hstill⟩ := w.lockMaster_spec
    obtain ⟨t, ht, hcore, -, hrd⟩ := coreCmd_next (timeEnable d) s _ hoff hb (hstill.trans hwoff)
    exact ⟨t, ht, (State.now_congr (congrArg (·.time) hcore)).trans (hkept.trans hnow), (hrd _).trans hstate⟩
  have hvnow : v.now = s.now := hw.now
  by_cases hlate : s.timeSet > s.now
  · obtain ⟨hstep, hsame⟩ := v.timeStep_spec (s.timeSet - s.now)
    have hset := s.timeSet_lt
    refine hforward _ ?_ (hsame.trans (hw.off.trans hoff)) (hbody.trans (congrArg State.lockMaster (if_pos hlate)))
    rw [hstep, hvnow]
    omega
  · refine hforward v ?_ (hw.off.trans hoff) (hbody.trans (congrArg State.lockMaster (if_neg hlate)))
    omega

/-- Disabling a block that is synchronised leads to HOLDOVER (R250). -/
theorem exec_timeDisable {d : Word} (hoff : s.off = false) (hd : bits d.toNat 0 1 = 0) (hen : s.on R.TIME_CTL_ENABLE = true)
    (hst : s.rd R.TIME_STATUS_STATE ≠ 0) :
    ∃ t, exec (.timeDisable d) s = .next t ∧ t.rd R.TIME_STATUS_STATE = 3 ∧ t.rd R.TIME_CTL_ENABLE = 0 ∧ t.now = s.now ∧
      t.rd R.TIME_CTL_MASTER = s.rd R.TIME_CTL_MASTER := by
  obtain ⟨hw, henable, hmaster⟩ := ({ s with out := [] } : State).storeTimeCtl_spec d.toNat
  have hkept : (({ s with out := [] } : State).storeTimeCtl d.toNat).rd R.TIME_STATUS_STATE ≠ 0 := by
    rw [hw.rd _ (timeCtl_apart (by decide))]
    exact hst
  have hbody : timeDisable d { s with out := [] } = (({ s with out := [] } : State).storeTimeCtl d.toNat).timeState 3 := by
    unfold timeDisable
    rw [if_neg (not_not.mpr hd)]
    exact if_pos ⟨hen, hkept⟩
  have g := (({ s with out := [] } : State).storeTimeCtl d.toNat).timeState_entered (st := 3) (by decide)
  obtain ⟨t, ht, hcore, -, hrd⟩ := coreCmd_next (timeDisable d) s _ hoff hbody (g.off.trans (hw.off.trans hoff))
  refine ⟨t, ht, (hrd _).trans g.state, ?_, (State.now_congr (congrArg (·.time) hcore)).trans (g.now.trans hw.now), ?_⟩
  · exact (hrd _).trans ((g.rd _ (by decide) (by decide) (by decide)).trans (henable.trans hd))
  · exact (hrd _).trans ((g.rd _ (by decide) (by decide) (by decide)).trans (hmaster.trans (if_pos hen)))

end

end Sys2Proof.Machine

namespace Sys2Proof.Machine

/-! ## Exchanges of fabric time (R251, R283) -/

/-- A TIME message with the fields of R283 a receiver reads. -/
structure Packet.IsTime (k : Packet) (sub xseq stamp : Nat) : Prop where
  type : k.type = 1
  sub : k.fld 0x10 0 2 = sub % 4
  xseq : k.fld 0x12 0 16 = xseq % 2 ^ 16
  stamp : k.fld 0x18 0 64 = stamp % 2 ^ 64

section
variable {s u v : State}

theorem OutPkt.Queued.isTime {o x : OutPkt} {sub xseq stamp : Nat} (h : o.Queued x) (hp : o.pkt.IsTime sub xseq stamp) :
    x.pkt.IsTime sub xseq stamp where
  type := (h.fld 0x00 3 5 (by decide) (by decide)).trans hp.type
  sub := (h.fld 0x10 0 2 (by decide) (by decide)).trans hp.sub
  xseq := (h.fld 0x12 0 16 (by decide) (by decide)).trans hp.xseq
  stamp := (h.fld 0x18 0 64 (by decide) (by decide)).trans hp.stamp

theorem State.timePkt_isTime (s : State) (p sub disc hops xseq stamp : Nat) :
    (s.timePkt p sub disc hops xseq stamp).IsTime sub xseq stamp := by
  unfold State.timePkt
  dsimp only
  have hapart (dest src : Nat) : (headFields 0 1 dest src 0 0 0 0 ++ [hf 0x10 0 2 sub, hf 0x10 2 1 disc, hf 0x11 0 8 hops,
      hf 0x12 0 16 xseq, hf 0x18 0 64 stamp]).Pairwise bitsApart :=
    bitsApart_of_places (l' := headFields 0 0 0 0 0 0 0 0 ++ [hf 0x10 0 2 0, hf 0x10 2 1 0, hf 0x11 0 8 0, hf 0x12 0 16 0,
      hf 0x18 0 64 0]) rfl (by unfold bitsApart; decide)
  exact ⟨mkPacket_fld _ _ _ _ _ _ _ _ _ 0x00 3 5 1 (hapart _ _) (by simp [headFields]) (by decide),
    mkPacket_fld _ _ _ _ _ _ _ _ _ 0x10 0 2 sub (hapart _ _) (by simp) (by decide),
    mkPacket_fld _ _ _ _ _ _ _ _ _ 0x12 0 16 xseq (hapart _ _) (by simp) (by decide),
    mkPacket_fld _ _ _ _ _ _ _ _ _ 0x18 0 64 stamp (hapart _ _) (by simp) (by decide)⟩

/-- A command that sends a TIME message by a port that carries traffic. -/
theorem exec_sendTime {body : State → State} {p sub disc hops xseq stamp : Nat} (hoff : s.off = false)
    (hb : body { s with out := [] } = v.sendPort p (u.timePkt p sub disc hops xseq stamp)) (hv : v.off = s.off)
    (hp : v.portReady p = true) :
    ∃ t o, coreCmd body s = .next t ∧ t.core.time = v.core.time ∧ t.core.router.queued = v.core.router.queued ++ [o] ∧ o.port = p ∧
      o.pkt.IsTime sub xseq stamp := by
  have hsent := v.sendPort_sent p (u.timePkt p sub disc hops xseq stamp)
  obtain ⟨o, ho, hqueued⟩ := State.sendBy_queued hp 10 true 0 (u.timePkt p sub disc hops xseq stamp)
  obtain ⟨t, ht, hcore, -, -⟩ := coreCmd_next body s _ hoff hb (hsent.off.trans (hv.trans hoff))
  exact ⟨t, o, ht, (congrArg (·.time) hcore).trans (congrArg (·.time) hsent.core), (congrArg (·.router.queued) hcore).trans hqueued,
    ho.port, ho.isTime (u.timePkt_isTime p sub disc hops xseq stamp)⟩

/-- An exchange starts with a SYNC of the port's next number (R251). -/
theorem exec_timeExchangeStart {p : Port} (hoff : s.off = false) (hp : s.portReady p.val = true) :
    ∃ t o, exec (.timeExchangeStart p) s = .next t ∧ t.core.router.queued = s.core.router.queued ++ [o] ∧ o.port = p.val ∧
      o.pkt.type = 1 ∧ o.pkt.fld 0x10 0 2 = 0 ∧ o.pkt.fld 0x12 0 16 = SMap.getD s.core.time.xseq p.val 0 % 2 ^ 16 ∧
      SMap.getD t.core.time.xseq p.val 0 = (SMap.getD s.core.time.xseq p.val 0 + 1) % 2 ^ 16 := by
  have hbody : timeExchangeStart p { s with out := [] } = _ := if_neg (not_not.mpr hp)
  obtain ⟨t, o, ht, htime, hqueued, hport, hpkt⟩ := exec_sendTime hoff hbody rfl hp
  refine ⟨t, o, ht, hqueued, hport, hpkt.type, hpkt.sub, hpkt.xseq, ?_⟩
  rw [htime]
  exact SMap.getD_putD_self _ _ _ _

variable {i : InPkt} {rest : List InPkt}

theorem State.withTime_some (sub : Nat) (f : InPkt → State → State)
    (h : takeFirst (fun i => i.pkt.cls == 0 && i.pkt.type == 1 && i.pkt.fld 0x10 0 2 == sub) s.core.resp.inbox = some (i, rest)) :
    s.withTime sub f = f i { s with core.resp.inbox := rest } := State.withPkt_some f h

/-- A SYNC is answered by a DELAY_REQ, its stamp kept (R251). -/
theorem exec_syncArrival (hoff : s.off = false)
    (hi : takeFirst (fun i => i.pkt.cls == 0 && i.pkt.type == 1 && i.pkt.fld 0x10 0 2 == 0) s.core.resp.inbox = some (i, rest))
    (hp : s.portReady i.port = true) (hhops : s.disciplines i.port (i.pkt.fld 0x10 2 1 == 1) = false ∨ i.pkt.fld 0x11 0 8 < 255) :
    ∃ t o e, exec .syncArrival s = .next t ∧ t.core.router.queued = s.core.router.queued ++ [o] ∧ o.port = i.port ∧
      o.pkt.fld 0x10 0 2 = 1 ∧ o.pkt.fld 0x12 0 16 = i.pkt.fld 0x12 0 16 ∧ SMap.get? t.core.time.exch i.port = some e ∧
      e.t1 = i.pkt.fld 0x18 0 64 ∧ e.t2 = i.stamp % 2 ^ 64 ∧ t.now = s.now := by
  have hnotlooped : ¬ (s.disciplines i.port (i.pkt.fld 0x10 2 1 == 1) = true ∧ i.pkt.fld 0x11 0 8 + 1 > 255) := by
    rintro ⟨hd, hmany⟩
    rcases hhops with h | h
    · simp [h] at hd
    · omega
  have hstep : syncArrival { s with out := [] } = _ := State.withTime_some (s := { s with out := [] }) 0 _ hi
  have hbody := hstep.trans (if_neg hnotlooped)
  obtain ⟨t, o, ht, htime, hqueued, hport, hpkt⟩ := exec_sendTime hoff hbody rfl hp
  refine ⟨t, o, ⟨i.pkt.fld 0x12 0 16, false, i.pkt.fld 0x10 2 1 == 1, i.pkt.fld 0x18 0 64, i.stamp % 2 ^ 64, 0⟩, ht, hqueued, hport,
    hpkt.sub, hpkt.xseq.trans (Nat.mod_eq_of_lt (Packet.fld_lt _ _ _ _)), ?_, rfl, rfl, ?_⟩
  · rw [htime]
    exact SMap.get?_put_self _ _ _
  · rw [State.now, htime]
    rfl

/-- A SYNC of the parent with 255 hops closes a loop (R251). -/
theorem exec_syncArrival_loop (hoff : s.off = false)
    (hi : takeFirst (fun i => i.pkt.cls == 0 && i.pkt.type == 1 && i.pkt.fld 0x10 0 2 == 0) s.core.resp.inbox = some (i, rest))
    (hd : s.disciplines i.port (i.pkt.fld 0x10 2 1 == 1) = true) (hhops : i.pkt.fld 0x11 0 8 = 255) :
    ∃ t, exec .syncArrival s = .next t ∧ t.rd R.TIME_STATUS_LOOP = 1 ∧ t.core.time = s.core.time ∧ t.core.router = s.core.router := by
  have hlooped : s.disciplines i.port (i.pkt.fld 0x10 2 1 == 1) = true ∧ i.pkt.fld 0x11 0 8 + 1 > 255 := ⟨hd, by omega⟩
  have hstep : syncArrival { s with out := [] } = _ := State.withTime_some (s := { s with out := [] }) 0 _ hi
  have hbody := hstep.trans (if_pos hlooped)
  have hw := (State.Wrote.refl { s with core.resp.inbox := rest, out := [] } [R.TIME_STATUS_LOOP]).wr R.TIME_STATUS_LOOP 1 (by simp) rfl
  obtain ⟨t, ht, hcore, -, hrd⟩ := coreCmd_next syncArrival s _ hoff hbody (hw.off.trans hoff)
  exact ⟨t, ht, (hrd _).trans (State.rd_wr_self _ _ _ (by decide)), (congrArg (·.time) hcore).trans (congrArg (·.time) hw.core),
    (congrArg (·.router) hcore).trans (congrArg (·.router) hw.core)⟩

/-- A DELAY_REQ is answered with its stamp (R251). -/
theorem exec_delayReqArrival {e : Exchange} (hoff : s.off = false)
    (hi : takeFirst (fun i => i.pkt.cls == 0 && i.pkt.type == 1 && i.pkt.fld 0x10 0 2 == 1) s.core.resp.inbox = some (i, rest))
    (hp : s.portReady i.port = true) (he : SMap.get? s.core.time.exch (i.port + 16) = some e) (hseq : e.xseq = i.pkt.fld 0x12 0 16)
    (hup : e.disc = false ∨ s.timeUp = true) :
    ∃ t o, exec .delayReqArrival s = .next t ∧ SMap.get? t.core.time.exch (i.port + 16) = none ∧
      t.core.router.queued = s.core.router.queued ++ [o] ∧ o.pkt.fld 0x10 0 2 = 2 ∧ o.pkt.fld 0x18 0 64 = i.stamp % 2 ^ 64 := by
  have hanswer : ¬ (e.xseq ≠ i.pkt.fld 0x12 0 16 ∨ (e.disc = true ∧ ¬ s.timeUp = true)) := by
    rcases hup with h | h <;> simp [hseq, h]
  have hbody : delayReqArrival { s with out := [] } =
      ({ s with core.resp.inbox := rest, core.time.exch := SMap.del s.core.time.exch (i.port + 16), out := [] } : State).sendPort i.port
        (({ s with core.resp.inbox := rest, core.time.exch := SMap.del s.core.time.exch (i.port + 16), out := [] } : State).timePkt
          i.port 2 (b2n e.disc) 0 e.xseq i.stamp) := by
    refine (State.withTime_some (s := { s with out := [] }) 1 _ hi).trans ?_
    simp only [he]
    exact if_neg hanswer
  obtain ⟨t, o, ht, htime, hqueued, -, hpkt⟩ := exec_sendTime hoff hbody rfl hp
  refine ⟨t, o, ht, ?_, hqueued, hpkt.sub, hpkt.stamp⟩
  rw [htime]
  exact SMap.get?_del_self _ _

/-! ## Holdover (R250) -/

/-- A synchronised block that no longer hears its parent goes to HOLDOVER. -/
theorem exec_timeHoldoverTimeout (hoff : s.off = false) (hup : s.timeUp = true)
    (hm : s.on R.TIME_CTL_MASTER = false ∨ s.on R.TIME_CTL_ENABLE = false) :
    ∃ t, exec .timeHoldoverTimeout s = .next t ∧ t.rd R.TIME_STATUS_STATE = 3 ∧ t.now = s.now ∧ t.core.bolts = s.core.bolts := by
  have hnotmaster : ¬ (s.on R.TIME_CTL_MASTER = true ∧ s.on R.TIME_CTL_ENABLE = true) := by
    rcases hm with h | h <;> simp [h]
  have hbody : timeHoldoverTimeout { s with out := [] } = ({ s with out := [] } : State).timeState 3 := if_pos ⟨hup, hnotmaster⟩
  have g := ({ s with out := [] } : State).timeState_entered (st := 3) (by decide)
  obtain ⟨t, ht, hcore, -, hrd⟩ := coreCmd_next timeHoldoverTimeout s _ hoff hbody (g.off.trans hoff)
  exact ⟨t, ht, (hrd _).trans g.state, (State.now_congr (congrArg (·.time) hcore)).trans g.now,
    (congrArg (·.bolts) hcore).trans (congrArg (·.bolts) g.core)⟩

/-- An enabled master, and a block that is not synchronised, stay as they are. -/
theorem exec_timeHoldoverTimeout_still (hoff : s.off = false)
    (hm : s.timeUp = false ∨ s.on R.TIME_CTL_MASTER = true ∧ s.on R.TIME_CTL_ENABLE = true) :
    ∃ t, exec .timeHoldoverTimeout s = .next t ∧ t.core = s.core ∧ t.aon = s.aon := by
  refine coreCmd_still hoff (if_neg ?_)
  rintro ⟨hup, hnotmaster⟩
  rcases hm with h | h
  · exact absurd (hup.symm.trans h) (by decide)
  · exact hnotmaster h

/-- Holdover of HOLD_MAX superframes breaks every ACTIVE circuit. -/
theorem exec_timeHoldMax (hoff : s.off = false) (hst : s.rd R.TIME_STATUS_STATE = 3) :
    ∃ t, exec .timeHoldMax s = .next t ∧ ∀ k c, s.circuit? k = some c → c.state = 2 → ∃ c', t.circuit? k = some c' ∧ c'.state = 4 := by
  have hbody : timeHoldMax { s with out := [] } = ({ s with out := [] } : State).breakAll := if_pos hst
  obtain ⟨t, ht, hcore, -, -⟩ := coreCmd_next timeHoldMax s _ hoff hbody
    ((State.breakWhere_broken { s with out := [] } fun _ => true).off.trans hoff)
  refine ⟨t, ht, fun k c hc h2 => ?_⟩
  obtain ⟨c', hc', h4⟩ := State.breakAll_state (s := { s with out := [] }) hc h2
  exact ⟨c', by rw [State.circuit?, hcore]; exact hc', h4⟩

end

end Sys2Proof.Machine

namespace Sys2Proof.Machine

/-! ## The answer of the parent (R250, R251) -/

/-- `t` is `s` after something that moves the count or the state of fabric time: the exchanges in progress and the measured path delays
stay. -/
structure State.Paced (s t : State) : Prop where
  off : t.off = s.off
  exch : t.core.time.exch = s.core.time.exch
  delay : ∀ p, p < 10 → t.rd (R.TIME_PATH_DELAY p) = s.rd (R.TIME_PATH_DELAY p)

/-- The state of fabric time after an exchange, with the count of good exchanges (R250). -/
def State.lock (s : State) (st good : Nat) : State := ({ s with core.time.good := good }).timeState st

/-- The offset an exchange found and the hops of the parent are shown (R269). -/
def State.noteOffset (s : State) (off : Int) : State :=
  (s.wr R.TIME_OFFSET_VALUE (ofSigned 32 (max (-2 ^ 31) (min (2 ^ 31 - 1) off)))).wr R.TIME_STATUS_HOPS (s.core.time.hops + 1)

section
variable {s t u v : State}

theorem State.Paced.refl (s : State) : s.Paced s := ⟨rfl, rfl, fun _ _ => rfl⟩

theorem State.Paced.trans (h : s.Paced t) (g : t.Paced u) : s.Paced u :=
  ⟨g.off.trans h.off, g.exch.trans h.exch, fun p hp => (g.delay p hp).trans (h.delay p hp)⟩

theorem State.Paced.ite (c : Prop) [Decidable c] (h : s.Paced t) (g : s.Paced u) : s.Paced (if c then t else u) := by
  split
  · exact h
  · exact g

/-- A path delay is a field of another register than one below those of the path delays. -/
theorem pathDelay_addr {a p : Nat} (ha : a < 0xc0100) : (R.TIME_PATH_DELAY p).addr ≠ a := by
  simp only [R.TIME_PATH_DELAY]
  omega

theorem State.Paced.wr (s : State) {f : Fld} (v : Nat) (haon : f.aon = false) (hf : f.addr < 0xc0100) : s.Paced (s.wr f v) where
  off := State.off_wr s f v haon
  exch := by rw [State.wr_core_time]
  delay := fun _ _ => State.rd_wr_addr s f v (pathDelay_addr hf)

theorem State.slew_core (s : State) :
    s.slew.core = { s.core with time := { s.core.time with inc := s.slew.core.time.inc } } := by
  unfold State.slew
  rfl

theorem State.slew_rd (s : State) (f : Fld) : s.slew.rd f = s.rd f :=
  State.rd_congr _ _ f rfl rfl (congrArg (·.regs) s.slew_core)

theorem State.slew_now (s : State) : s.slew.now = s.now := by rw [State.now, s.slew_core, State.now]

theorem State.Paced.slew (s : State) : s.Paced s.slew :=
  ⟨State.off_eq_of rfl rfl, by rw [s.slew_core], fun _ _ => s.slew_rd _⟩

theorem State.Paced.setNow (s : State) (n : Nat) : s.Paced (s.setNow n) :=
  ⟨s.setNow_off n, by unfold State.setNow; rfl, fun _ _ => s.setNow_rd n _⟩

theorem State.Paced.lock (s : State) {st : Nat} (hst : st < 4) (good : Nat) : s.Paced (s.lock st good) := by
  have g := ({ s with core.time.good := good } : State).timeState_entered hst
  exact ⟨g.off, congrArg (·.time.exch) g.core, fun p _ =>
    g.rd _ (pathDelay_addr (by decide)) (pathDelay_addr (by decide)) (pathDelay_addr (by decide))⟩

theorem State.lock_spec (s : State) {st : Nat} (hst : st < 4) (good : Nat) :
    (s.lock st good).rd R.TIME_STATUS_STATE = st ∧ (s.lock st good).now = s.now := by
  have g := ({ s with core.time.good := good } : State).timeState_entered hst
  exact ⟨g.state, g.now⟩

theorem State.Broken.paced (h : s.Broken t) : s.Paced t where
  off := h.off
  exch := by rw [h.core]
  delay := fun p hp => h.rd _ (by simp only [R.TIME_PATH_DELAY]; omega)
    ⟨by simp only [R.TIME_PATH_DELAY]; omega, .inr (by simp only [R.TIME_PATH_DELAY]; omega)⟩

theorem State.Traced.paced (h : s.Traced t) : s.Paced t :=
  ⟨State.off_eq_of h.build h.aon, by rw [h.core], fun p hp => h.rd _ fun g hg => .inr (.inl (by
    have := (traceFields_addr g hg).1
    simp only [R.TIME_PATH_DELAY]
    omega))⟩

theorem State.Paced.timeStep (s : State) (n : Nat) : s.Paced (s.timeStep n) := by
  obtain ⟨v, hv, hstep⟩ : ∃ v, (s.setNow (s.now + n)).Traced v ∧ s.timeStep n = (v.wr R.TIME_STATUS_STEPPED 1).breakAll :=
    ⟨_, (State.Traced.refl _).traceEv _ _ _ _ _ _ _ _ _ _ _ _ _ _, rfl⟩
  have hmoved := (State.Paced.setNow s (s.now + n)).trans hv.paced
  rw [hstep]
  exact (hmoved.trans (.wr v 1 rfl (by decide))).trans (State.breakWhere_broken _ _).paced

theorem State.noteOffset_wrote (s : State) (off : Int) :
    s.Wrote (s.noteOffset off) [R.TIME_OFFSET_VALUE, R.TIME_STATUS_HOPS] :=
  ((State.Wrote.refl s _).wr _ _ (by simp) rfl).wr _ _ (by simp) rfl

theorem State.Paced.noteOffset (s : State) (off : Int) : s.Paced (s.noteOffset off) :=
  (State.Paced.wr s _ rfl (by decide)).trans (.wr _ _ rfl (by decide))

theorem State.noteOffset_state (s : State) (off : Int) : (s.noteOffset off).rd R.TIME_STATUS_STATE = s.rd R.TIME_STATUS_STATE :=
  (State.rd_wr_ne _ _ _ _ (.inr (.inr (.inr (by decide))))).trans (State.rd_wr_addr _ _ _ (by decide))

/-- What an exchange with the parent does, by the state and the size of the offset (R250). -/
theorem State.discipline_eq (s : State) (off : Int) : s.discipline off =
    let v := s.noteOffset off
    if s.rd R.TIME_STATUS_STATE = 0 then (v.setNow (ofSigned 64 ((v.now : Int) - off))).slew.lock 1 0
    else if off.natAbs < 16 then
      if s.rd R.TIME_STATUS_STATE = 1 then
        if v.slew.core.time.good + 1 ≥ 4 then v.slew.lock 2 0 else v.slew.lock 1 (v.slew.core.time.good + 1)
      else v.slew.lock 2 0
    else if off.natAbs < usLsb then v.slew.lock 1 0
    else if off < 0 then (v.timeStep off.natAbs).slew.lock 1 0
    else ({ v with core.time.inc := nominalInc v.core.time.khz - nominalInc v.core.time.khz / 64 }.wr R.TIME_STATUS_AHEAD 1).lock 1 0 := by
  rw [← s.noteOffset_state off]
  rfl

theorem State.discipline_paced (s : State) (off : Int) : s.Paced (s.discipline off) := by
  have hslew : ∀ {v : State} {st : Nat} (good : Nat), st < 4 → s.Paced v → s.Paced (v.slew.lock st good) :=
    fun good hst h => (h.trans (.slew _)).trans (.lock _ hst good)
  have h := State.Paced.noteOffset s off
  rw [State.discipline_eq]
  dsimp only
  refine .ite _ (hslew 0 (by decide) (h.trans (.setNow _ _))) (.ite _ (.ite _ (.ite _ ?_ ?_) ?_) (.ite _ ?_ (.ite _ ?_ ?_)))
  · exact hslew _ (by decide) h
  · exact hslew _ (by decide) h
  · exact hslew _ (by decide) h
  · exact hslew _ (by decide) h
  · exact hslew _ (by decide) (h.trans (.timeStep _ _))
  · have hinc (n : Nat) : (s.noteOffset off).Paced { s.noteOffset off with core.time.inc := n } := ⟨rfl, rfl, fun _ _ => rfl⟩
    exact ((h.trans (hinc _)).trans (.wr _ 1 rfl (by decide))).trans (.lock _ (by decide) 0)

/-- The first exchange sets the count. -/
theorem State.discipline_unsynced (off : Int) (hst : s.rd R.TIME_STATUS_STATE = 0) :
    (s.discipline off).rd R.TIME_STATUS_STATE = 1 ∧ (s.discipline off).now = ofSigned 64 ((s.now : Int) - off) := by
  have hfirst := (s.discipline_eq off).trans (if_pos hst)
  obtain ⟨hstate, hnow⟩ :=
    ((s.noteOffset off).setNow (ofSigned 64 (((s.noteOffset off).now : Int) - off))).slew.lock_spec (st := 1) (by decide) 0
  rw [hfirst]
  refine ⟨hstate, hnow.trans ((State.slew_now _).trans ((State.now_setNow _ _).trans ?_))⟩
  rw [(s.noteOffset_wrote off).now, Nat.mod_eq_of_lt (ofSigned_lt _ _)]

/-- The fourth good exchange in a row locks. -/
theorem State.discipline_locks {off : Int} (hst : s.rd R.TIME_STATUS_STATE = 1) (hsmall : off.natAbs < 16) (hgood : 3 ≤ s.core.time.good) :
    (s.discipline off).rd R.TIME_STATUS_STATE = 2 ∧ (s.discipline off).now = s.now := by
  have hkept : (s.noteOffset off).slew.core.time.good = s.core.time.good := by
    rw [State.slew_core, (s.noteOffset_wrote off).core]
  have hlocks : s.discipline off = (s.noteOffset off).slew.lock 2 0 :=
    (s.discipline_eq off).trans ((if_neg (by rw [hst]; decide)).trans ((if_pos hsmall).trans ((if_pos hst).trans (if_pos (by omega)))))
  obtain ⟨hstate, hnow⟩ := (s.noteOffset off).slew.lock_spec (st := 2) (by decide) 0
  rw [hlocks]
  exact ⟨hstate, hnow.trans ((State.slew_now _).trans (s.noteOffset_wrote off).now)⟩

/-- A new path delay is shown, and the hops whose advance rises break (R251, R259). -/
def State.setPathDelay (s : State) (p d : Nat) : State :=
  if (s.wr (R.TIME_PATH_DELAY p) d).rd (R.TIME_PATH_DELAY p) = s.rd (R.TIME_PATH_DELAY p) then s.wr (R.TIME_PATH_DELAY p) d
  else (s.wr (R.TIME_PATH_DELAY p) d).pathChanged p

theorem State.setPathDelay_broken (s : State) (p d : Nat) : (s.wr (R.TIME_PATH_DELAY p) d).Broken (s.setPathDelay p d) :=
  .ite _ (.refl _) (State.breakWhere_broken _ _)

/-- A new path delay leaves the registers below it and those of the AON domain. -/
theorem State.setPathDelay_spec (s : State) {p d : Nat} (hp : p < 10) (hd : d < 2 ^ 24) :
    (s.setPathDelay p d).off = s.off ∧ (s.setPathDelay p d).core.time = s.core.time ∧
      (s.setPathDelay p d).rd (R.TIME_PATH_DELAY p) = d ∧
      (∀ f : Fld, f.addr < 0xc0100 → f.untallied → (s.setPathDelay p d).rd f = s.rd f) ∧
      (s.setPathDelay p d).rd (R.TIME_ASYM_CORR p) = s.rd (R.TIME_ASYM_CORR p) := by
  have hbroken := s.setPathDelay_broken p d
  obtain ⟨haon, hcore⟩ := s.wr_core_aon (R.TIME_PATH_DELAY p) d rfl
  refine ⟨hbroken.off.trans (State.off_wr _ _ _ rfl), ?_, ?_, fun f hf hu => ?_, ?_⟩
  · rw [hbroken.core, hcore]
  · rw [hbroken.paced.delay p hp, State.rd_wr_self _ _ _ (by simp [R.TIME_PATH_DELAY])]
    exact Nat.mod_eq_of_lt hd
  · rw [hbroken.rd f (by omega) hu, State.rd_wr_addr _ _ _ (by simp only [R.TIME_PATH_DELAY]; omega)]
  · simp only [State.rd, State.word, R.TIME_ASYM_CORR, if_true, hbroken.aon, haon, hbroken.build, State.wr_build]

variable {i : InPkt} {rest : List InPkt} {e : Exchange} {off d : Int}

/-- A DELAY_RESP ends the exchange; on the parent port it disciplines the block. -/
theorem delayRespArrival_eq
    (hi : takeFirst (fun i => i.pkt.cls == 0 && i.pkt.type == 1 && i.pkt.fld 0x10 0 2 == 2) s.core.resp.inbox = some (i, rest))
    (he : SMap.get? s.core.time.exch i.port = some e) (hown : e.parent = false) (hseq : e.xseq = i.pkt.fld 0x12 0 16)
    (hd : d = (toSigned 64 (subMod 64 e.t2 e.t1) + toSigned 64 (subMod 64 (i.pkt.fld 0x18 0 64) e.t3)) / 2)
    (hv : v = ({ s with core.resp.inbox := rest, core.time.exch := SMap.del s.core.time.exch i.port } : State).setPathDelay i.port
      (ofSigned 24 d)) :
    delayRespArrival s = if v.disciplines i.port e.disc then
      v.discipline (toSigned 64 (subMod 64 e.t2 e.t1) - d - toSigned 16 (v.rd (R.TIME_ASYM_CORR i.port))) else v := by
  have hstep : delayRespArrival s = _ := State.withTime_some 2 _ hi
  rw [hstep, hv, hd]
  simp only [he]
  exact if_neg (by simp [hown, hseq])

theorem exec_delayRespArrival (hoff : s.off = false)
    (hi : takeFirst (fun i => i.pkt.cls == 0 && i.pkt.type == 1 && i.pkt.fld 0x10 0 2 == 2) s.core.resp.inbox = some (i, rest))
    (hp : i.port < 10) (he : SMap.get? s.core.time.exch i.port = some e) (hown : e.parent = false) (hseq : e.xseq = i.pkt.fld 0x12 0 16)
    (hd : d = (toSigned 64 (subMod 64 e.t2 e.t1) + toSigned 64 (subMod 64 (i.pkt.fld 0x18 0 64) e.t3)) / 2)
    (ho : off = toSigned 64 (subMod 64 e.t2 e.t1) - d - toSigned 16 (s.rd (R.TIME_ASYM_CORR i.port))) :
    ∃ t, exec .delayRespArrival s = .next t ∧ t.rd (R.TIME_PATH_DELAY i.port) = ofSigned 24 d ∧
      SMap.get? t.core.time.exch i.port = none ∧
      (s.disciplines i.port e.disc = false → t.now = s.now ∧ t.rd R.TIME_STATUS_STATE = s.rd R.TIME_STATUS_STATE) ∧
      (s.disciplines i.port e.disc = true → s.rd R.TIME_STATUS_STATE = 0 →
        t.rd R.TIME_STATUS_STATE = 1 ∧ t.now = ofSigned 64 ((s.now : Int) - off)) ∧
      (s.disciplines i.port e.disc = true → s.rd R.TIME_STATUS_STATE = 1 → off.natAbs < 16 → 3 ≤ s.core.time.good →
        t.rd R.TIME_STATUS_STATE = 2 ∧ t.now = s.now) := by
  obtain ⟨v, hv⟩ : ∃ v, v =
    ({ s with core.resp.inbox := rest, core.time.exch := SMap.del s.core.time.exch i.port, out := [] } : State).setPathDelay i.port
      (ofSigned 24 d) := ⟨_, rfl⟩
  obtain ⟨hvoff, hvtime, hvdelay, hvrd, hvcorr⟩ := State.setPathDelay_spec
    { s with core.resp.inbox := rest, core.time.exch := SMap.del s.core.time.exch i.port, out := [] } hp (ofSigned_lt 24 d)
  have hbody := delayRespArrival_eq (s := { s with out := [] }) hi he hown hseq hd hv
  rw [← hv] at hvoff hvtime hvdelay hvrd hvcorr
  have hstate : v.rd R.TIME_STATUS_STATE = s.rd R.TIME_STATUS_STATE := hvrd _ (by decide) (by decide)
  have hnow : v.now = s.now := by rw [State.now, hvtime, State.now]
  have hdisc : v.disciplines i.port e.disc = s.disciplines i.port e.disc := by
    unfold State.disciplines
    rw [State.on_eq, State.on_eq, hvrd _ (by decide) (by decide), hvrd _ (by decide) (by decide), hvrd _ (by decide) (by decide)]
    rfl
  rw [hdisc, hvcorr, show ({ s with core.resp.inbox := rest, core.time.exch := SMap.del s.core.time.exch i.port, out := [] } : State).rd
    (R.TIME_ASYM_CORR i.port) = s.rd (R.TIME_ASYM_CORR i.port) from rfl, ← ho] at hbody
  have hpaced : v.Paced (if s.disciplines i.port e.disc then v.discipline off else v) := .ite _ (v.discipline_paced off) (.refl v)
  obtain ⟨t, ht, hcore, -, hrd⟩ := coreCmd_next delayRespArrival s _ hoff hbody (hpaced.off.trans (hvoff.trans hoff))
  have hnow' := State.now_congr (congrArg (·.time) hcore)
  refine ⟨t, ht, (hrd _).trans ((hpaced.delay _ hp).trans hvdelay), ?_, fun h => ?_, fun h h0 => ?_, fun h h1 hsmall hgood => ?_⟩
  · rw [hcore, hpaced.exch, hvtime]
    exact SMap.get?_del_self _ _
  · simp only [h, Bool.false_eq_true, if_false] at hrd hnow'
    exact ⟨hnow'.trans hnow, (hrd _).trans hstate⟩
  · simp only [h, if_true] at hrd hnow'
    obtain ⟨hlocking, hset⟩ := State.discipline_unsynced off (hstate.trans h0)
    exact ⟨(hrd _).trans hlocking, hnow'.trans (hset.trans (by rw [hnow]))⟩
  · simp only [h, if_true] at hrd hnow'
    obtain ⟨hlocked, hkept⟩ := State.discipline_locks (hstate.trans h1) hsmall (by rw [hvtime]; exact hgood)
    exact ⟨(hrd _).trans hlocked, hnow'.trans (hkept.trans hnow)⟩

end

/-- Settles O47, command by command. -/
theorem fabricTime : Obligations.FabricTime := by
  unfold Obligations.FabricTime
  intro s hoff
  exact ⟨fun _ hd hm hen hst => exec_timeEnable_unsynced hoff hd hm hen hst,
    fun _ hd hm hen hst => exec_timeEnable_holdover hoff hd hm hen hst,
    fun _ hd hen hst => exec_timeDisable hoff hd hen hst, fun _ hp => exec_timeExchangeStart hoff hp,
    fun _ _ hi hp hhops => exec_syncArrival hoff hi hp hhops, fun _ _ hi hd hhops => exec_syncArrival_loop hoff hi hd hhops,
    fun _ _ _ hi hp he hseq hup => exec_delayReqArrival hoff hi hp he hseq hup,
    fun _ _ _ _ _ hi hp he hown hseq hd ho => exec_delayRespArrival hoff hi hp he hown hseq hd ho,
    exec_timeHoldoverTimeout hoff, exec_timeHoldoverTimeout_still hoff, exec_timeHoldMax hoff⟩

end Sys2Proof.Machine

namespace Sys2Proof.Machine

/-! ## Set-up does not rest on BOLT_STATUS (R256, R258, R305) -/

/-- `t` is `s` but for the register BOLT_STATUS. -/
structure State.BoltStatus (s t : State) : Prop where
  build : t.build = s.build
  aon : t.aon = s.aon
  core : t.core = { s.core with regs := t.core.regs }
  rd : ∀ f : Fld, f.addr ≠ R.BOLT_STATUS_BUSY.addr → t.rd f = s.rd f

section
variable {s t v : State}

theorem State.BoltStatus.refl (s : State) : s.BoltStatus s := ⟨rfl, rfl, rfl, fun _ _ => rfl⟩

theorem State.BoltStatus.wr (h : s.BoltStatus t) (f : Fld) (n : Nat) (hf : f.addr = R.BOLT_STATUS_BUSY.addr) (haon : f.aon = false) :
    s.BoltStatus (t.wr f n) where
  build := (State.wr_build _ _ _).trans h.build
  aon := (t.wr_core_aon f n haon).1.trans h.aon
  core := by rw [(t.wr_core_aon f n haon).2, h.core]
  rd := fun g hg => (State.rd_wr_addr t f n (by rw [hf]; exact hg)).trans (h.rd g hg)

theorem State.BoltStatus.off (h : s.BoltStatus t) : t.off = s.off := State.off_eq_of h.build h.aon

theorem State.BoltStatus.circuits (h : s.BoltStatus t) : t.circuits = s.circuits := congrArg (·.bolts.table) h.core

theorem State.BoltStatus.router (h : s.BoltStatus t) : t.core.router = s.core.router := congrArg (·.router) h.core

theorem State.BoltStatus.self (h : s.BoltStatus t) : t.self = s.self := h.rd _ (by decide)

theorem State.BoltStatus.selfValid (h : s.BoltStatus t) : t.selfValid = s.selfValid := by
  simp only [State.selfValid, State.on, h.rd R.ROUTE_SELF_VALID (by decide), h.rd R.ROUTE_STATUS_SELF_ERR (by decide)]

theorem State.BoltStatus.extent (h : s.BoltStatus t) (dim : Nat) : t.extent dim = s.extent dim := by
  simp only [State.extent, h.rd R.ROUTE_EXTENT_EX (by decide), h.rd R.ROUTE_EXTENT_EY (by decide), h.rd R.ROUTE_EXTENT_EZ (by decide),
    h.rd R.ROUTE_EXTENT_DIES (by decide)]

theorem State.BoltStatus.auxWord (h : s.BoltStatus t) (p : Nat) : t.auxWord p = s.auxWord p := by
  simp only [State.auxWord, h.router]

theorem State.BoltStatus.auxMode (h : s.BoltStatus t) (p : Nat) : t.auxMode p = s.auxMode p := by
  simp only [State.auxMode, h.auxWord, h.extent]

theorem State.BoltStatus.flip (h : s.BoltStatus t) (dim c : Nat) : t.flip dim c = s.flip dim c := by
  simp only [State.flip, h.router]

theorem State.BoltStatus.portReady (h : s.BoltStatus t) {p : Nat} (hp : p < 10) : t.portReady p = s.portReady p := by
  have hstate : t.portState p = s.portState p := h.rd _ (by simp only [R.GATE_STATUS_STATE, R.BOLT_STATUS_BUSY]; omega)
  simp only [State.portReady, hstate]

theorem State.BoltStatus.routable (h : s.BoltStatus t) {p : Nat} (hp : p < 10) : t.routable p = s.routable p := by
  simp only [State.routable, h.portReady hp, State.flow, h.router, h.auxMode]

theorem State.BoltStatus.expressGate (h : s.BoltStatus t) (dim : Nat) (minus : Bool) : t.expressGate dim minus = s.expressGate dim minus := by
  simp only [State.expressGate, List.find?, h.auxMode, h.auxWord, h.routable (show 6 < 10 by decide), h.routable (show 7 < 10 by decide)]

theorem State.BoltStatus.routeOf (h : s.BoltStatus t) (inPort dest : Nat) : t.routeOf inPort dest = s.routeOf inPort dest := by
  simp only [State.routeOf, h.selfValid, h.self, h.extent, h.auxWord, h.auxMode, h.flip, h.expressGate]
  generalize hd : (if nodeX s.self ≠ nodeX dest then 0 else if nodeY s.self ≠ nodeY dest then 1
    else if nodeZ s.self ≠ nodeZ dest then 2 else 3) = dim
  have hdim : dim ≤ 3 := by rw [← hd]; split_ifs <;> omega
  simp only [h.routable (regularPort_lt _ hdim)]
  congr 3
  refine if_congr .rfl rfl ?_
  split
  · rw [h.routable (State.expressGate_lt ‹_›)]
  · rfl

theorem State.BoltStatus.pathPort (h : s.BoltStatus t) (inPort dest : Nat) : t.pathPort inPort dest = s.pathPort inPort dest := by
  simp only [State.pathPort, h.routeOf]

theorem State.BoltStatus.denied (h : s.BoltStatus t) (node : Nat) : t.denied node = s.denied node := by
  rw [Bool.eq_iff_iff]
  simp only [State.denied, List.any_eq_true, List.mem_range]
  refine exists_congr fun i => and_congr_right fun hi => ?_
  have hmask : t.rd (R.ROUTE_DENY_MASK_MASK i) = s.rd (R.ROUTE_DENY_MASK_MASK i) :=
    h.rd _ (by simp only [R.ROUTE_DENY_MASK_MASK, R.BOLT_STATUS_BUSY]; omega)
  have hval (f : Fld) (hf : f.addr = 0xb0100 + i * 8) : t.rd f = s.rd f := h.rd _ (by simp only [hf, R.BOLT_STATUS_BUSY]; omega)
  rw [State.on_eq, State.on_eq, hval (R.ROUTE_DENY_VAL_NODE i) rfl, hval (R.ROUTE_DENY_VAL_VALID i) rfl, hmask]

theorem State.BoltStatus.routeReason (h : s.BoltStatus t) (node : Nat) : t.routeReason node = s.routeReason node := by
  simp only [State.routeReason, h.selfValid, h.denied, h.rd R.ROUTE_EXTENT_EX (by decide), h.rd R.ROUTE_EXTENT_EY (by decide),
    h.rd R.ROUTE_EXTENT_EZ (by decide), h.rd R.ROUTE_EXTENT_DIES (by decide)]

/-- A port that a path goes by is one of the ten (R256, R305). -/
theorem State.pathPort_lt {inPort dest p : Nat} (h : s.pathPort inPort dest = some p) : p < 10 := by
  have hfinish {q : Nat} {e entry : Bool} (hq : q < 10) (hr : (if s.routable q then Decision.out q e else .discard q) = .out p entry) :
      p < 10 := by
    split at hr
    · cases hr
      exact hq
    · cases hr
  have hout {entry : Bool} (hr : s.routeOf inPort dest = .out p entry) : p < 10 := by
    unfold State.routeOf at hr
    extract_lets me dim _ _ _ _ _ _ _ _ minus _ reg finish at hr
    have hdim : dim ≤ 3 := by
      unfold dim
      split_ifs <;> omega
    have hreg : reg < 10 := regularPort_lt _ hdim
    split_ifs at hr
    · exact hfinish hreg hr
    · split at hr
      · split_ifs at hr
        · exact hfinish (State.expressGate_lt ‹_›) hr
        · exact hfinish hreg hr
      · exact hfinish hreg hr
  unfold State.pathPort at h
  split at h
  · rename_i hr
    cases h
    exact hout hr
  · split at h
    · cases h
      assumption
    · cases h
  · cases h

/-- The check of R258 reads the port's registers, its slots and the circuits that hold it. -/
theorem State.BoltStatus.admission (h : s.BoltStatus t) {p : Nat} (hp : p < 10) (func start stride pkts : Nat) (room : Bool) :
    t.admission p func start stride pkts room = s.admission p func start stride pkts room := by
  have hneg (f : Fld) (hf : f.addr = 0x1000c + p * 0x10000) : t.rd f = s.rd f := h.rd _ (by simp only [hf, R.BOLT_STATUS_BUSY]; omega)
  have hslot : t.slotFlits p = s.slotFlits p := by
    simp only [State.slotFlits, State.on, hneg (R.GATE_NEG_X4 p) rfl, hneg (R.GATE_NEG_SHORT p) rfl, hneg (R.GATE_NEG_RATE p) rfl,
      show t.core.time = s.core.time from congrArg (·.time) h.core]
    rfl
  have hload : t.patternLoad p start stride = s.patternLoad p start stride := by
    have hslots : t.slotLoad p = s.slotLoad p := by
      funext slot
      simp only [State.slotLoad, h.circuits]
    simp only [State.patternLoad, h.circuits, hslots]
  simp only [State.admission, hneg (R.GATE_NEG_VERSION p) rfl, State.synced, State.on, h.rd R.TIME_STATUS_SYNCED (by decide),
    h.rd R.TIME_STATUS_STATE (by decide), h.portReady hp, State.portCircuits, State.shareOf, h.circuits, hload, hslot,
    h.rd (R.BOLT_PORT_LIMIT_MAX_PKTS p) (by simp only [R.BOLT_PORT_LIMIT_MAX_PKTS, R.BOLT_STATUS_BUSY]; omega),
    h.rd (R.BOLT_FUNC_SHARE_MAX func) (by simp only [R.BOLT_FUNC_SHARE_MAX, R.BOLT_STATUS_BUSY]; omega),
    show t.core.bolts = s.core.bolts from congrArg (·.bolts) h.core]
  rfl

end

end Sys2Proof.Machine

namespace Sys2Proof.Machine

/-! ## Messages of circuits (R280, R283) -/

/-- A BOLT message of a SUB under an index of its link. -/
structure Packet.IsBolt (k : Packet) (sub idx : Nat) : Prop where
  cls : k.cls = 0
  type : k.type = 4
  sub : k.fld 0x10 0 2 = sub % 4
  circuit : k.circuit = idx % 256

/-- The fields every BOLT message has. -/
def boltFields (sub kind idx pkts start stride func : Nat) : List (Nat × Nat × Nat) :=
  [hf 0x0C 18 8 idx, hf 0x10 0 2 sub, hf 0x10 2 1 kind, hf 0x11 0 8 pkts, hf 0x12 0 10 start, hf 0x12 10 4 stride, hf 0x14 0 6 func]

/-- The fields of an answer. -/
def answerFields (status reason node : Nat) : List (Nat × Nat × Nat) := [hf 0x24 0 8 status, hf 0x25 0 12 reason, hf 0x28 0 20 node]

theorem setupFields_apart (dest src sub kind idx pkts start stride func sig : Nat) :
    (headFields 0 4 dest src 0 0 0 0 ++ (boltFields sub kind idx pkts start stride func ++ [hf 0x18 0 96 sig])).Pairwise bitsApart :=
  bitsApart_of_places (l' := headFields 0 0 0 0 0 0 0 0 ++ (boltFields 0 0 0 0 0 0 0 ++ [hf 0x18 0 96 0])) rfl
    (by unfold bitsApart; decide)

theorem answerFields_apart (dest src sub kind idx pkts start stride func status reason node : Nat) :
    (headFields 0 4 dest src 0 0 0 0 ++ (boltFields sub kind idx pkts start stride func ++ answerFields status reason node)).Pairwise
      bitsApart :=
  bitsApart_of_places (l' := headFields 0 0 0 0 0 0 0 0 ++ (boltFields 0 0 0 0 0 0 0 ++ answerFields 0 0 0)) rfl
    (by unfold bitsApart; decide)

section
variable {s t v : State}

theorem boltMsg_fld {dest src sub kind idx pkts start stride func : Nat} {fields : List (Nat × Nat × Nat)} (off lo w n : Nat)
    (hapart : (headFields 0 4 dest src 0 0 0 0 ++ (boltFields sub kind idx pkts start stride func ++ fields)).Pairwise bitsApart)
    (hm : hf off lo w n ∈ headFields 0 4 dest src 0 0 0 0 ++ (boltFields sub kind idx pkts start stride func ++ fields))
    (hb : 8 * off + lo + w ≤ 512) : (boltMsg dest src sub kind idx pkts start stride func fields).fld off lo w = n % 2 ^ w :=
  mkPacket_fld _ _ _ _ _ _ _ _ _ off lo w n hapart hm hb

theorem boltMsg_isBolt {dest src sub kind idx pkts start stride func : Nat} {fields : List (Nat × Nat × Nat)}
    (hapart : (headFields 0 4 dest src 0 0 0 0 ++ (boltFields sub kind idx pkts start stride func ++ fields)).Pairwise bitsApart) :
    (boltMsg dest src sub kind idx pkts start stride func fields).IsBolt sub idx where
  cls := boltMsg_fld 0x00 0 3 0 hapart (by simp [headFields]) (by decide)
  type := boltMsg_fld 0x00 3 5 4 hapart (by simp [headFields]) (by decide)
  sub := boltMsg_fld 0x10 0 2 sub hapart (by simp [boltFields]) (by decide)
  circuit := boltMsg_fld 0x0C 18 8 idx hapart (by simp [boltFields]) (by decide)

theorem OutPkt.Queued.isBolt {o x : OutPkt} {sub idx : Nat} (h : o.Queued x) (hp : o.pkt.IsBolt sub idx) : x.pkt.IsBolt sub idx where
  cls := (h.fld 0x00 0 3 (by decide) (by decide)).trans hp.cls
  type := (h.fld 0x00 3 5 (by decide) (by decide)).trans hp.type
  sub := (h.fld 0x10 0 2 (by decide) (by decide)).trans hp.sub
  circuit := (h.fld 0x0C 18 8 (by decide) (by decide)).trans hp.circuit

/-! ## SETUP goes on by the port of its path (R305, R306) -/

theorem State.routable_ready {p : Nat} (h : s.routable p = true) : s.portReady p = true := by
  simp only [State.routable, Bool.and_eq_true] at h
  exact h.1.1

theorem State.sendSetup_sent (s : State) (inPort p stamp : Nat) (k : Packet) : s.Sent (s.sendSetup inPort p stamp k) :=
  .ite _ (s.sendBy_sent _ _ _ _ _) (s.discardFor_sent _ _ _)

/-- An error of a class that is merged waits in a record of that class (R401). -/
theorem State.logErrAt_merging (s : State) (time : Nat) {cls : Nat} (hcls : ¬ (cls = 6 ∨ cls = 7)) (status detail port : Nat)
    (func : Option Nat) (queue node info : Nat) :
    ∃ m, s.logErrAt time cls status detail port func queue node info = { s with core.err.merging := m } ∧ ∃ e ∈ m, e.cls = cls := by
  obtain ⟨r, hr, hrc⟩ : ∃ r : ErrRec,
    r = ⟨cls, status, detail, port, func, queue, node, 1, if s.synced then time else 0, info⟩ ∧ r.cls = cls := ⟨_, rfl, rfl⟩
  unfold State.logErrAt
  dsimp only
  rw [if_neg hcls, ← hr]
  split
  · rename_i hany
    obtain ⟨x, hx, hsame⟩ := List.any_eq_true.mp hany
    refine ⟨_, rfl, _, List.mem_map_of_mem hx, ?_⟩
    have hc : r.cls = x.cls := by
      simp only [ErrRec.same, Bool.and_eq_true, beq_iff_eq] at hsame
      exact hsame.1.1.1.1.1.1
    rw [if_pos hsame]
    exact hc.symm.trans hrc
  · exact ⟨_, rfl, r, List.mem_append_right _ (List.mem_singleton_self _), hrc⟩

/-- A discarded packet leaves nothing in the queues. -/
theorem State.discardFor_router (s : State) (inPort port dest : Nat) : (s.discardFor inPort port none dest).core.router = s.core.router := by
  have hlog (v : State) (a : Nat) : (v.logDiscard a port dest).core.router = v.core.router := by
    obtain ⟨m, hm, -⟩ := v.draw.2.logErrAt_merging v.draw.2.now (cls := 9) (by decide) 0 0 a none 0 dest (port % 16 + v.draw.1 % 16 * 16)
    exact congrArg (·.core.router) hm
  refine (hlog _ _).trans ?_
  by_cases hp : port < 10
  · rw [if_pos hp]
    exact congrArg (·.router) (s.wr_core_aon (R.ROUTE_TELEM_DISCARD_COUNT port) _ rfl).2
  · rw [if_neg hp]
    rfl

theorem State.sendSetup_routable {p : Nat} (h : s.routable p = true) (inPort stamp : Nat) {k : Packet} {sub idx : Nat} (hk : k.IsBolt sub idx) :
    ∃ o, (s.sendSetup inPort p stamp k).core.router.queued = s.core.router.queued ++ [o] ∧ o.port = p ∧ o.pkt.IsBolt sub idx := by
  obtain ⟨o, ho, hqueued⟩ := State.sendBy_queued (State.routable_ready h) inPort (s.entersRing inPort p) stamp k
  refine ⟨o, ?_, ho.port, ho.isBolt hk⟩
  rw [State.sendSetup, if_pos h, hqueued]

theorem State.sendSetup_unroutable {p : Nat} (h : s.routable p = false) (inPort stamp : Nat) (k : Packet) :
    (s.sendSetup inPort p stamp k).core.router = s.core.router := by
  rw [State.sendSetup, if_neg (by simp [h]), State.discardFor_router]

/-- `t` is `s` with a circuit held under a key, its SETUP sent by a port that is routable (R256, R306). -/
structure State.Held (s t : State) (p key : Nat) (c : Circuit) : Prop where
  off : t.off = s.off
  aon : t.aon = s.aon
  rd : ∀ f : Fld, f.untallied → t.rd f = s.rd f
  self : t.circuit? key = some c
  others : ∀ k, k ≠ key → t.circuit? k = s.circuit? k
  sent : s.routable p = true →
    ∃ o, t.core.router.queued = s.core.router.queued ++ [o] ∧ o.port = p ∧ o.pkt.IsBolt 0 c.outIndex
  discarded : s.routable p = false → t.core.router.queued = s.core.router.queued

theorem State.Held.sendSetup (s : State) (order inPort p key stamp sig : Nat) (c : Circuit) :
    s.Held ((({ s with core.bolts.order := order } : State).setCircuit key c).sendSetup inPort p stamp (c.forward 0 [hf 0x18 0 96 sig]))
      p key c := by
  have hmsg : (c.forward 0 [hf 0x18 0 96 sig]).IsBolt 0 c.outIndex := boltMsg_isBolt (setupFields_apart _ _ _ _ _ _ _ _ _ _)
  obtain ⟨w, hw⟩ : ∃ w, w = ({ s with core.bolts.order := order } : State).setCircuit key c := ⟨_, rfl⟩
  have hroutable : w.routable p = s.routable p := by rw [hw]; rfl
  have hrouter : w.core.router = s.core.router := by rw [hw]; rfl
  have hsent := w.sendSetup_sent inPort p stamp (c.forward 0 [hf 0x18 0 96 sig])
  rw [← hw]
  refine ⟨hsent.off.trans ?_, hsent.aon.trans ?_, fun f hf => (hsent.rd f hf).trans ?_, (hsent.circuit? key).trans ?_,
    fun k hk => (hsent.circuit? k).trans ?_, fun h => ?_, fun h => ?_⟩
  · rw [hw]; rfl
  · rw [hw]; rfl
  · rw [hw]; rfl
  · rw [hw, State.circuit?_setCircuit_self]
  · rw [hw, State.circuit?_setCircuit_ne _ _ hk]; rfl
  · rw [← hrouter]
    exact State.sendSetup_routable (hroutable.trans h) _ _ hmsg
  · rw [State.sendSetup_unroutable (hroutable.trans h), hrouter]

theorem State.circuit?_congr (h : t.core = s.core) (k : Nat) : t.circuit? k = s.circuit? k := by rw [State.circuit?, h, State.circuit?]

theorem State.SameAon.of_eq (h : t.aon = s.aon) : s.SameAon t := by
  unfold State.SameAon
  rw [h]

/-! ## The driver's command (R257) -/

/-- The circuit a SETUP holds at its source. -/
def State.sourceEntry (s : State) (p kind func dest start stride pkts rxSig : Nat) (rev : Bool) : Circuit :=
  newCircuit 0 kind func dest s.self 10 0 p (s.freeIndex p) 0 start stride pkts 0 rxSig s.core.bolts.order rev

theorem State.sourceSetup_held {p kind func dest start stride pkts rxSig : Nat} {rev : Bool} (hr : s.routeReason dest = none)
    (hd : dest / 8 ≠ s.self / 8) (hs : stride ≤ 10) (hp : s.pathPort 10 dest = some p)
    (ha : s.admission p func start stride pkts (decide (s.stageUsed + 3 * pkts * 512 ≤ s.build.boltStageKib * 1024)) = none) :
    ∃ u, s.sourceSetup kind func dest start stride pkts rxSig rev = (u, none) ∧
      s.Held u p (p * 256 + s.freeIndex p) (s.sourceEntry p kind func dest start stride pkts rxSig rev) := by
  refine ⟨_, ?_, .sendSetup s (s.core.bolts.order + 1) 10 p _ 0 rxSig _⟩
  unfold State.sourceSetup
  rw [if_neg (by simp [hr, hd]), if_neg (by omega), hp]
  dsimp only
  rw [ha]
  rfl

theorem State.sourceSetup_unroutable {kind func dest start stride pkts rxSig : Nat} {rev : Bool}
    (h : dest / 8 = s.self / 8 ∨ s.routeReason dest ≠ none) :
    s.sourceSetup kind func dest start stride pkts rxSig rev = (s, some (0x11, 0)) :=
  if_pos (h.symm.imp_left Option.isSome_iff_ne_none.mpr)

/-- SIG of the driver's command. -/
def State.setupSig (s : State) : Nat := s.rd R.BOLT_SETUP_SIG0_PTR + s.rd R.BOLT_SETUP_SIG1_PTR * 2 ^ 32 + s.rd R.BOLT_SETUP_SIG2_PTR * 2 ^ 64

/-- What the driver's command asks for. -/
def State.setupAsked (s v : State) : State × Option (Nat × Nat) :=
  v.sourceSetup (s.rd R.BOLT_SETUP_DEST_KIND) (s.rd R.BOLT_SETUP_DEST_FUNC) (s.rd R.BOLT_SETUP_DEST_NODE) (s.rd R.BOLT_SETUP_PAT_START)
    (s.rd R.BOLT_SETUP_PAT_STRIDE_LOG2) (s.rd R.BOLT_SETUP_PAT_PKTS) s.setupSig false

theorem State.busySet (s : State) : s.BoltStatus (s.wr R.BOLT_STATUS_BUSY 1) := (State.BoltStatus.refl s).wr _ _ rfl rfl

/-- The driver's command waits for its answer, or ends with the refusal. -/
def setupEnd : State × Option (Nat × Nat) → State
  | (u, none) => u
  | (u, some (st, r)) => u.boltEnd st 0 u.self r

theorem boltSetupCmd_eq {d : Word} (hd : bits d.toNat 0 2 = 1) (hb : s.on R.BOLT_STATUS_BUSY = false) :
    boltSetupCmd d s = setupEnd (s.setupAsked (s.wr R.BOLT_STATUS_BUSY 1)) := by
  have h := s.busySet
  unfold boltSetupCmd State.setupAsked State.setupSig
  rw [if_neg (not_not.mpr hd), if_neg (by simp [hb])]
  dsimp only
  simp only [h.rd _ (show R.BOLT_SETUP_DEST_KIND.addr ≠ _ by decide), h.rd _ (show R.BOLT_SETUP_DEST_FUNC.addr ≠ _ by decide),
    h.rd _ (show R.BOLT_SETUP_DEST_NODE.addr ≠ _ by decide), h.rd _ (show R.BOLT_SETUP_PAT_START.addr ≠ _ by decide),
    h.rd _ (show R.BOLT_SETUP_PAT_STRIDE_LOG2.addr ≠ _ by decide), h.rd _ (show R.BOLT_SETUP_PAT_PKTS.addr ≠ _ by decide),
    h.rd _ (show R.BOLT_SETUP_SIG0_PTR.addr ≠ _ by decide), h.rd _ (show R.BOLT_SETUP_SIG1_PTR.addr ≠ _ by decide),
    h.rd _ (show R.BOLT_SETUP_SIG2_PTR.addr ≠ _ by decide)]
  rfl

/-- The command holds a circuit at its source and sends SETUP (R257). -/
theorem exec_boltSetupCmd_held {d : Word} {p : Nat} (hoff : s.off = false) (hd : bits d.toNat 0 2 = 1)
    (hb : s.on R.BOLT_STATUS_BUSY = false) (hr : s.routeReason (s.rd R.BOLT_SETUP_DEST_NODE) = none)
    (hn : s.rd R.BOLT_SETUP_DEST_NODE / 8 ≠ s.self / 8) (hs : s.rd R.BOLT_SETUP_PAT_STRIDE_LOG2 ≤ 10)
    (hp : s.pathPort 10 (s.rd R.BOLT_SETUP_DEST_NODE) = some p)
    (ha : s.admission p (s.rd R.BOLT_SETUP_DEST_FUNC) (s.rd R.BOLT_SETUP_PAT_START) (s.rd R.BOLT_SETUP_PAT_STRIDE_LOG2)
      (s.rd R.BOLT_SETUP_PAT_PKTS) (decide (s.stageUsed + 3 * s.rd R.BOLT_SETUP_PAT_PKTS * 512 ≤ s.build.boltStageKib * 1024)) = none) :
    ∃ t c, exec (.boltSetupCmd d) s = .next t ∧ t.rd R.BOLT_STATUS_BUSY = 1 ∧ t.circuit? (p * 256 + s.freeIndex p) = some c ∧
      c.role = 0 ∧ c.state = 1 ∧ c.dest = s.rd R.BOLT_SETUP_DEST_NODE ∧ c.func = s.rd R.BOLT_SETUP_DEST_FUNC ∧ c.outPort = p ∧
      c.start = s.rd R.BOLT_SETUP_PAT_START ∧ c.stride = s.rd R.BOLT_SETUP_PAT_STRIDE_LOG2 ∧ c.pkts = s.rd R.BOLT_SETUP_PAT_PKTS ∧
      (s.routable p = true → ∃ o, t.core.router.queued = s.core.router.queued ++ [o] ∧ o.port = p ∧ o.pkt.cls = 0 ∧ o.pkt.type = 4 ∧
        o.pkt.fld 0x10 0 2 = 0 ∧ o.pkt.circuit = s.freeIndex p % 256) ∧
      (s.routable p = false → t.core.router.queued = s.core.router.queued) ∧
      (∀ k, k ≠ p * 256 + s.freeIndex p → t.circuit? k = s.circuit? k) ∧ s.SameAon t := by
  have hlt := State.pathPort_lt hp
  have h := State.busySet { s with out := [] }
  have hbusy : (({ s with out := [] } : State).wr R.BOLT_STATUS_BUSY 1).rd R.BOLT_STATUS_BUSY = 1 := State.rd_wr_self _ _ _ (by decide)
  have hbody := boltSetupCmd_eq (s := { s with out := [] }) hd hb
  revert h hbusy hbody
  generalize ({ s with out := [] } : State).wr R.BOLT_STATUS_BUSY 1 = v
  intro h hbusy hbody
  have hstage : v.stageUsed = s.stageUsed := by
    simp only [State.stageUsed, h.circuits]
    rfl
  have hfree : v.freeIndex p = s.freeIndex p := by rw [State.freeIndex, h.core, State.freeIndex]
  have hheld := State.sourceSetup_held (s := v) (kind := s.rd R.BOLT_SETUP_DEST_KIND) (rxSig := s.setupSig) (rev := false)
    ((h.routeReason _).trans hr) (by rw [h.self]; exact hn) hs ((h.pathPort _ _).trans hp)
    ((h.admission hlt _ _ _ _ _).trans (by rw [hstage, h.build]; exact ha))
  rw [hfree] at hheld
  obtain ⟨u, hu, g⟩ := hheld
  have hasked : ({ s with out := [] } : State).setupAsked v = (u, none) := hu
  rw [hasked] at hbody
  obtain ⟨t, ht, hcore, haon, hrd⟩ := coreCmd_next (boltSetupCmd d) s u hoff hbody (g.off.trans (h.off.trans hoff))
  have hqueued : t.core.router.queued = u.core.router.queued := congrArg (·.router.queued) hcore
  have hvqueued : v.core.router.queued = s.core.router.queued := congrArg (·.queued) h.router
  refine ⟨t, _, ht, (hrd _).trans ((g.rd _ (by decide)).trans hbusy), (State.circuit?_congr hcore _).trans g.self, rfl, rfl, rfl, rfl,
    rfl, rfl, rfl, rfl, fun hroute => ?_, fun hroute => ?_, fun k hk => ?_, .of_eq (haon.trans (g.aon.trans h.aon))⟩
  · obtain ⟨o, ho, hport, hmsg⟩ := g.sent ((h.routable hlt).trans hroute)
    exact ⟨o, by rw [hqueued, ho, hvqueued], hport, hmsg.cls, hmsg.type, hmsg.sub, hmsg.circuit.trans (congrArg (· % 256) hfree)⟩
  · rw [hqueued, g.discarded ((h.routable hlt).trans hroute), hvqueued]
  · exact (State.circuit?_congr hcore k).trans ((g.others k hk).trans (congrArg (fun m => SMap.get? m k) h.circuits))

end

end Sys2Proof.Machine

namespace Sys2Proof.Machine

/-! ## The driver's command ends, circuits end at their source (R257, R260) -/

/-- The fields a command that ends writes. -/
def boltEndFields : List Fld := [R.BOLT_STATUS_BUSY, R.BOLT_STATUS_STATUS, R.BOLT_STATUS_CIRCUIT, R.BOLT_FAIL_NODE, R.BOLT_FAIL_REASON]

section
variable {s t u v : State} {d : Word}

/-- A command that ends is no longer BUSY and shows its STATUS, and its circuit when it is 0. -/
theorem State.boltEnd_spec (s : State) {status : Nat} (circuit node reason : Nat) (hst : status < 256) :
    s.Wrote (s.boltEnd status circuit node reason) boltEndFields ∧ (s.boltEnd status circuit node reason).rd R.BOLT_STATUS_BUSY = 0 ∧
      (s.boltEnd status circuit node reason).rd R.BOLT_STATUS_STATUS = status ∧
      (status = 0 → (s.boltEnd status circuit node reason).rd R.BOLT_STATUS_CIRCUIT = circuit % 2 ^ 11) := by
  have hw : s.Wrote ((s.wr R.BOLT_STATUS_BUSY 0).wr R.BOLT_STATUS_STATUS status) boltEndFields :=
    ((State.Wrote.refl s _).wr _ _ (by simp [boltEndFields]) rfl).wr _ _ (by simp [boltEndFields]) rfl
  have hbusy : ((s.wr R.BOLT_STATUS_BUSY 0).wr R.BOLT_STATUS_STATUS status).rd R.BOLT_STATUS_BUSY = 0 := by
    rw [State.rd_wr_ne _ R.BOLT_STATUS_STATUS _ _ (by unfold Fld.apart; decide), State.rd_wr_self _ _ _ (by decide)]
    rfl
  have hstatus : ((s.wr R.BOLT_STATUS_BUSY 0).wr R.BOLT_STATUS_STATUS status).rd R.BOLT_STATUS_STATUS = status := by
    rw [State.rd_wr_self _ _ _ (by decide)]
    exact Nat.mod_eq_of_lt hst
  revert hw hbusy hstatus
  unfold State.boltEnd
  dsimp only
  generalize (s.wr R.BOLT_STATUS_BUSY 0).wr R.BOLT_STATUS_STATUS status = w
  intro hw hbusy hstatus
  split
  · refine ⟨hw.wr _ _ (by simp [boltEndFields]) rfl, ?_, ?_, fun _ => State.rd_wr_self _ _ _ (by decide)⟩
    · rw [State.rd_wr_ne _ _ _ _ (by unfold Fld.apart; decide), hbusy]
    · rw [State.rd_wr_ne _ _ _ _ (by unfold Fld.apart; decide), hstatus]
  · split
    · refine ⟨(hw.wr _ _ (by simp [boltEndFields]) rfl).wr _ _ (by simp [boltEndFields]) rfl, ?_, ?_, fun h => absurd h ‹_›⟩
      · rw [State.rd_wr_addr _ _ _ (by decide), State.rd_wr_addr _ _ _ (by decide), hbusy]
      · rw [State.rd_wr_addr _ _ _ (by decide), State.rd_wr_addr _ _ _ (by decide), hstatus]
    · exact ⟨hw, hbusy, hstatus, fun h => absurd h ‹_›⟩

/-- A SETUP to this block's own package, or to a node no route check allows, ends with NO_ROUTE. -/
theorem exec_boltSetupCmd_refused (hoff : s.off = false) (hd : bits d.toNat 0 2 = 1) (hb : s.on R.BOLT_STATUS_BUSY = false)
    (hn : s.rd R.BOLT_SETUP_DEST_NODE / 8 = s.self / 8 ∨ s.routeReason (s.rd R.BOLT_SETUP_DEST_NODE) ≠ none) :
    ∃ t, exec (.boltSetupCmd d) s = .next t ∧ t.rd R.BOLT_STATUS_BUSY = 0 ∧ t.rd R.BOLT_STATUS_STATUS = 0x11 ∧
      t.core.bolts = s.core.bolts := by
  have h := State.busySet { s with out := [] }
  have hbody := boltSetupCmd_eq (s := { s with out := [] }) hd hb
  revert h hbody
  generalize ({ s with out := [] } : State).wr R.BOLT_STATUS_BUSY 1 = v
  intro h hbody
  have hasked : ({ s with out := [] } : State).setupAsked v = (v, some (0x11, 0)) :=
    State.sourceSetup_unroutable (by rw [h.self, h.routeReason]; exact hn)
  rw [hasked] at hbody
  obtain ⟨hw, hbusy, hstatus, -⟩ := v.boltEnd_spec (status := 0x11) 0 v.self 0 (by decide)
  obtain ⟨t, ht, hcore, -, hrd⟩ := coreCmd_next (boltSetupCmd d) s _ hoff hbody (hw.off.trans (h.off.trans hoff))
  exact ⟨t, ht, (hrd _).trans hbusy, (hrd _).trans hstatus,
    (congrArg (·.bolts) hcore).trans ((congrArg (·.bolts) hw.core).trans (congrArg (·.bolts) h.core))⟩

/-- A command while one is in progress is lost. -/
theorem exec_boltCmd_lost (hoff : s.off = false) (hb : s.on R.BOLT_STATUS_BUSY = true) :
    ∀ c ∈ [(Instr.boltSetupCmd d, 1), (.boltTeardownCmd d, 2)], bits d.toNat 0 2 = c.2 →
      ∃ t, exec c.1 s = .next t ∧ t.rd R.BOLT_STATUS_CMD_LOST = 1 ∧ s.SameBut t [R.BOLT_STATUS_CMD_LOST] ∧ s.SameAon t ∧
        s.SameCore t := by
  simp only [List.forall_mem_cons, List.not_mem_nil, false_implies, implies_true, and_true]
  exact ⟨fun hd => coreCmd_wr (body := boltSetupCmd d) hoff rfl (by decide) (by decide) ((if_neg (not_not.mpr hd)).trans (if_pos hb)),
    fun hd => coreCmd_wr (body := boltTeardownCmd d) hoff rfl (by decide) (by decide) ((if_neg (not_not.mpr hd)).trans (if_pos hb))⟩

/-- A circuit that is taken from the table, after which a message is sent. -/
theorem State.Sent.delCircuit {k : Nat} (h : (s.delCircuit k).Sent t) :
    t.off = s.off ∧ t.circuit? k = none ∧ (∀ j, j ≠ k → t.circuit? j = s.circuit? j) :=
  ⟨h.off, (h.circuit? k).trans (State.circuit?_delCircuit_self _ _), fun j hj => (h.circuit? j).trans (State.circuit?_delCircuit_ne _ hj)⟩

/-- The RELEASE of a circuit that is torn down (R260). -/
theorem State.teardown_spec {k : Nat} {c : Circuit} (hc : s.circuit? k = some c) (hrole : c.role = 0)
    (hidle : c.state = 4 ∨ c.state = 2 ∧ c.xfers = [] ∧ c.pending_ = 0) :
    (s.teardown k).off = s.off ∧ (s.teardown k).circuit? k = none ∧ (∀ j, j ≠ k → (s.teardown k).circuit? j = s.circuit? j) ∧
      ∀ f : Fld, f.untallied → (s.teardown k).rd f = s.rd f := by
  rcases hidle with h4 | ⟨h2, hx, hpend⟩
  · have heq : s.teardown k = (s.delCircuit k).sendPort c.outPort (c.forward 2 []) := by
      simp only [State.teardown, hc]
      rw [if_neg (not_not.mpr hrole), if_pos h4]
    have hsent := (s.delCircuit k).sendPort_sent c.outPort (c.forward 2 [])
    rw [← heq] at hsent
    obtain ⟨hoff, hgone, hothers⟩ := hsent.delCircuit
    exact ⟨hoff, hgone, hothers, hsent.rd⟩
  · obtain ⟨v, hv⟩ : ∃ v, v = s.setCircuit k { c with state := 3, xfers := [] } := ⟨_, rfl⟩
    have hclosing : v.circuit? k = some { c with state := 3, xfers := [] } := by rw [hv, State.circuit?_setCircuit_self]
    have heq : s.teardown k = (v.delCircuit k).sendPort c.outPort (({ c with state := 3, xfers := [] } : Circuit).forward 2 []) := by
      simp only [State.teardown, hc]
      rw [if_neg (not_not.mpr hrole), if_neg (by omega), if_neg (not_not.mpr h2), hx]
      dsimp only [List.filter, State.abortXfers, List.foldl]
      rw [← hv, State.closeCheck, hclosing]
      exact if_pos ⟨rfl, hrole, rfl, hpend⟩
    have hsent := (v.delCircuit k).sendPort_sent c.outPort (({ c with state := 3, xfers := [] } : Circuit).forward 2 [])
    rw [← heq] at hsent
    obtain ⟨hoff, hgone, hothers⟩ := hsent.delCircuit
    refine ⟨hoff.trans ?_, hgone, fun j hj => (hothers j hj).trans ?_, fun f hf => (hsent.rd f hf).trans ?_⟩
    · rw [hv]; rfl
    · rw [hv, State.circuit?_setCircuit_ne _ _ hj]
    · rw [hv]; rfl

/-- TEARDOWN of an idle ACTIVE circuit, or of a BROKEN one, at its source. -/
theorem exec_boltTeardownCmd {c : Circuit} (hoff : s.off = false) (hd : bits d.toNat 0 2 = 2) (hb : s.on R.BOLT_STATUS_BUSY = false)
    (hc : s.circuit? (bits d.toNat 4 11) = some c) (hrole : c.role = 0)
    (hidle : c.state = 4 ∨ c.state = 2 ∧ c.xfers = [] ∧ c.pending_ = 0) :
    ∃ t, exec (.boltTeardownCmd d) s = .next t ∧ t.circuit? (bits d.toNat 4 11) = none ∧ t.rd R.BOLT_STATUS_STATUS = 0 ∧
      (∀ k, k ≠ bits d.toNat 4 11 → t.circuit? k = s.circuit? k) := by
  have hbody : boltTeardownCmd d { s with out := [] } =
      (({ s with out := [] } : State).wr R.BOLT_STATUS_STATUS 0).teardown (bits d.toNat 4 11) :=
    (if_neg (not_not.mpr hd)).trans (if_neg (ne_true_of_eq_false hb))
  have hw := (State.Wrote.refl { s with out := [] } [R.BOLT_STATUS_STATUS]).wr R.BOLT_STATUS_STATUS 0 (by simp) rfl
  have hstatus : (({ s with out := [] } : State).wr R.BOLT_STATUS_STATUS 0).rd R.BOLT_STATUS_STATUS = 0 :=
    State.rd_wr_self _ _ _ (by decide)
  revert hbody hw hstatus
  generalize ({ s with out := [] } : State).wr R.BOLT_STATUS_STATUS 0 = v
  intro hbody hw hstatus
  have hcircuit (k : Nat) : v.circuit? k = s.circuit? k := by rw [State.circuit?, hw.core, State.circuit?]
  obtain ⟨hvoff, hgone, hothers, hvrd⟩ := State.teardown_spec ((hcircuit _).trans hc) hrole hidle
  obtain ⟨t, ht, hcore, -, hrd⟩ := coreCmd_next (boltTeardownCmd d) s _ hoff hbody (hvoff.trans (hw.off.trans hoff))
  exact ⟨t, ht, (State.circuit?_congr hcore _).trans hgone, (hrd _).trans ((hvrd _ (by decide)).trans hstatus),
    fun k hk => (State.circuit?_congr hcore k).trans ((hothers k hk).trans (hcircuit k))⟩

/-- A PENDING circuit is released when no answer comes (R260). -/
theorem exec_boltSetupTimeout {k : HopId} {c : Circuit} (hoff : s.off = false) (hc : s.circuit? k.val = some c) (h1 : c.state = 1) :
    ∃ t, exec (.boltSetupTimeout k) s = .next t ∧ t.circuit? k.val = none ∧ (∀ j, j ≠ k.val → t.circuit? j = s.circuit? j) ∧
      (c.role = 0 → c.rev = false → t.rd R.BOLT_STATUS_BUSY = 0) := by
  obtain ⟨v, hv⟩ : ∃ v, v = ({ s with out := [] } : State).delCircuit k.val := ⟨_, rfl⟩
  have hvoff : v.off = false := by rw [hv]; exact hoff
  have hgone : v.circuit? k.val = none := by rw [hv]; exact State.circuit?_delCircuit_self _ _
  have hothers (j : Nat) (hj : j ≠ k.val) : v.circuit? j = s.circuit? j := by rw [hv]; exact State.circuit?_delCircuit_ne _ hj
  have hbody : boltSetupTimeout k { s with out := [] } =
      if c.role = 0 ∧ ¬ c.rev = true then v.draw.2.boltEnd (v.draw.1 % 256) 0 0 0 else v := by
    have hc' : ({ s with out := [] } : State).circuit? k.val = some c := hc
    simp only [boltSetupTimeout, hc']
    rw [if_neg (not_not.mpr h1), ← hv]
  obtain ⟨hw, hbusy, -⟩ := v.draw.2.boltEnd_spec (status := v.draw.1 % 256) 0 0 0 (Nat.mod_lt _ (by decide))
  by_cases hdriver : c.role = 0 ∧ ¬ c.rev = true
  · rw [if_pos hdriver] at hbody
    obtain ⟨t, ht, hcore, -, hrd⟩ := coreCmd_next (boltSetupTimeout k) s _ hoff hbody (hw.off.trans hvoff)
    have hcircuit (j : Nat) : t.circuit? j = v.circuit? j := by
      rw [State.circuit?_congr hcore, State.circuit?, hw.core]
      rfl
    exact ⟨t, ht, (hcircuit _).trans hgone, fun j hj => (hcircuit j).trans (hothers j hj), fun _ _ => (hrd _).trans hbusy⟩
  · rw [if_neg hdriver] at hbody
    obtain ⟨t, ht, hcore, -, -⟩ := coreCmd_next (boltSetupTimeout k) s _ hoff hbody hvoff
    exact ⟨t, ht, (State.circuit?_congr hcore _).trans hgone, fun j hj => (State.circuit?_congr hcore j).trans (hothers j hj),
      fun h0 hrev => absurd ⟨h0, ne_true_of_eq_false hrev⟩ hdriver⟩

end

end Sys2Proof.Machine

namespace Sys2Proof.Machine

/-! ## Messages of circuits arrive (R257, R258, R260) -/

section
variable {s t u v : State} {i : InPkt} {rest : List InPkt}

theorem State.withBolt_some (sub : Nat) (f : InPkt → State → State)
    (h : takeFirst (fun i => i.pkt.cls == 0 && i.pkt.type == 4 && i.pkt.fld 0x10 0 2 == sub) s.core.resp.inbox = some (i, rest)) :
    s.withBolt sub f = f i { s with core.resp.inbox := rest } := State.withPkt_some f h

/-- The command of a BOLT message runs on the state without it. -/
theorem boltSetupArrival_eq
    (hi : takeFirst (fun i => i.pkt.cls == 0 && i.pkt.type == 4 && i.pkt.fld 0x10 0 2 == 0) s.core.resp.inbox = some (i, rest)) :
    boltSetupArrival { s with out := [] } = State.setupArrived { s with core.resp.inbox := rest, out := [] } i :=
  State.withBolt_some (s := { s with out := [] }) 0 _ hi

/-- A block without a valid ROUTE_SELF sends no answer (R299). -/
theorem exec_boltSetupArrival_silent (hoff : s.off = false)
    (hi : takeFirst (fun i => i.pkt.cls == 0 && i.pkt.type == 4 && i.pkt.fld 0x10 0 2 == 0) s.core.resp.inbox = some (i, rest))
    (hself : s.selfValid = false) :
    ∃ t, exec .boltSetupArrival s = .next t ∧ t.core.bolts = s.core.bolts ∧ t.core.router = s.core.router := by
  have hbody := (boltSetupArrival_eq hi).trans (if_pos (ne_true_of_eq_false hself))
  obtain ⟨t, ht, hcore, -, -⟩ := coreCmd_next boltSetupArrival s _ hoff hbody hoff
  exact ⟨t, ht, congrArg (·.bolts) hcore, congrArg (·.router) hcore⟩

/-- A SETUP at its destination makes an ACTIVE circuit, which is answered (R258). -/
theorem State.setupArrived_dest (hself : s.selfValid = true) (hdest : i.pkt.dest = s.self) (hkind : i.pkt.fld 0x10 2 1 = 0)
    (hroom : s.landUsed + 4 * i.pkt.fld 0x11 0 8 * 512 ≤ s.build.boltLandKib * 1024) :
    ∃ (v : State) (c : Circuit) (k : Packet),
      s.setupArrived i = (v.setCircuit (4096 + i.port * 256 + i.pkt.circuit) c).sendPort i.port k ∧ v.off = s.off ∧ c.role = 2 ∧
      c.state = 2 ∧ c.src = i.pkt.srcNode ∧ c.inPort = i.port ∧ c.inIndex = i.pkt.circuit ∧ c.pkts = i.pkt.fld 0x11 0 8 ∧
      c.rxSig = i.pkt.fld 0x18 0 96 := by
  refine ⟨_, _, _, (if_neg (not_not.mpr hself)).trans ((if_pos hdest).trans ((if_neg (Nat.not_lt.mpr hroom)).trans (if_neg ?_))), ?_⟩
  · rintro ⟨h1, -⟩
    omega
  · exact ⟨rfl, rfl, rfl, rfl, rfl, rfl, rfl, rfl⟩

theorem exec_boltSetupArrival_dest (hoff : s.off = false)
    (hi : takeFirst (fun i => i.pkt.cls == 0 && i.pkt.type == 4 && i.pkt.fld 0x10 0 2 == 0) s.core.resp.inbox = some (i, rest))
    (hself : s.selfValid = true) (hdest : i.pkt.dest = s.self) (hkind : i.pkt.fld 0x10 2 1 = 0)
    (hroom : s.landUsed + 4 * i.pkt.fld 0x11 0 8 * 512 ≤ s.build.boltLandKib * 1024) :
    ∃ t c, exec .boltSetupArrival s = .next t ∧ t.circuit? (4096 + i.port * 256 + i.pkt.circuit) = some c ∧ c.role = 2 ∧ c.state = 2 ∧
      c.src = i.pkt.srcNode ∧ c.inPort = i.port ∧ c.inIndex = i.pkt.circuit ∧ c.pkts = i.pkt.fld 0x11 0 8 ∧
      c.rxSig = i.pkt.fld 0x18 0 96 := by
  obtain ⟨v, c, k, harrived, hvoff, hc⟩ :=
    State.setupArrived_dest (s := { s with core.resp.inbox := rest, out := [] }) hself hdest hkind hroom
  have hsent := (v.setCircuit (4096 + i.port * 256 + i.pkt.circuit) c).sendPort_sent i.port k
  obtain ⟨t, ht, hcore, -, -⟩ := coreCmd_next boltSetupArrival s _ hoff ((boltSetupArrival_eq hi).trans harrived)
    (hsent.off.trans (hvoff.trans hoff))
  exact ⟨t, c, ht, (State.circuit?_congr hcore _).trans ((hsent.circuit? _).trans (State.circuit?_setCircuit_self _ _ _)), hc⟩

/-- An answer leaves by the port its SETUP came by, with its STATUS and REASON (R283). -/
theorem State.answer_queued {p : Nat} (hp : s.portReady p = true) (inIndex dest kind pkts start stride func status reason : Nat) :
    ∃ o, (s.answer p inIndex dest kind pkts start stride func status reason).core.router.queued = s.core.router.queued ++ [o] ∧
      o.port = p ∧ o.pkt.fld 0x10 0 2 = 1 ∧ o.pkt.fld 0x24 0 8 = status % 2 ^ 8 ∧ o.pkt.fld 0x25 0 12 = reason % 2 ^ 12 := by
  have hapart := answerFields_apart dest s.self 1 kind inIndex pkts start stride func status reason (if status = 0 then 0 else s.self)
  obtain ⟨o, ho, hqueued⟩ := State.sendBy_queued hp 10 true 0 (boltMsg dest s.self 1 kind inIndex pkts start stride func
    (answerFields status reason (if status = 0 then 0 else s.self)))
  exact ⟨o, hqueued, ho.port, (ho.isBolt (boltMsg_isBolt hapart)).sub,
    (ho.fld 0x24 0 8 (by decide) (by decide)).trans (boltMsg_fld 0x24 0 8 status hapart (by simp [answerFields]) (by decide)),
    (ho.fld 0x25 0 12 (by decide) (by decide)).trans (boltMsg_fld 0x25 0 12 reason hapart (by simp [answerFields]) (by decide))⟩

/-- A SETUP is refused when the landing pool is full (R258). -/
theorem exec_boltSetupArrival_full (hoff : s.off = false)
    (hi : takeFirst (fun i => i.pkt.cls == 0 && i.pkt.type == 4 && i.pkt.fld 0x10 0 2 == 0) s.core.resp.inbox = some (i, rest))
    (hself : s.selfValid = true) (hdest : i.pkt.dest = s.self)
    (hroom : s.build.boltLandKib * 1024 < s.landUsed + 4 * i.pkt.fld 0x11 0 8 * 512) (hp : s.portReady i.port = true) :
    ∃ t o, exec .boltSetupArrival s = .next t ∧ t.core.bolts = s.core.bolts ∧ t.core.router.queued = s.core.router.queued ++ [o] ∧
      o.port = i.port ∧ o.pkt.fld 0x10 0 2 = 1 ∧ o.pkt.fld 0x24 0 8 = 0x05 ∧ o.pkt.fld 0x25 0 12 = 0x076 := by
  have hbody : boltSetupArrival { s with out := [] } =
      ({ s with core.resp.inbox := rest, out := [] } : State).answer i.port i.pkt.circuit i.pkt.srcNode (i.pkt.fld 0x10 2 1)
        (i.pkt.fld 0x11 0 8) (i.pkt.fld 0x12 0 10) (i.pkt.fld 0x12 10 4) (i.pkt.fld 0x14 0 6) 0x05 0x076 :=
    (boltSetupArrival_eq hi).trans ((if_neg (not_not.mpr hself)).trans ((if_pos hdest).trans (if_pos hroom)))
  obtain ⟨o, hqueued, ho⟩ := State.answer_queued (s := { s with core.resp.inbox := rest, out := [] }) hp i.pkt.circuit i.pkt.srcNode
    (i.pkt.fld 0x10 2 1) (i.pkt.fld 0x11 0 8) (i.pkt.fld 0x12 0 10) (i.pkt.fld 0x12 10 4) (i.pkt.fld 0x14 0 6) 0x05 0x076
  rw [← hbody] at hqueued
  have hsent : ({ s with core.resp.inbox := rest, out := [] } : State).Sent (boltSetupArrival { s with out := [] }) := by
    rw [hbody]
    exact State.sendPort_sent _ _ _
  obtain ⟨t, ht, hcore, -, -⟩ := coreCmd_next boltSetupArrival s _ hoff rfl (hsent.off.trans hoff)
  exact ⟨t, o, ht, (congrArg (·.bolts) hcore).trans (congrArg (·.bolts) hsent.core), (congrArg (·.router.queued) hcore).trans hqueued, ho⟩

/-- A SETUP at a hop holds a PENDING circuit and goes on (R257, R259). -/
theorem State.setupArrived_hop {p : Nat} (hself : s.selfValid = true) (hdest : i.pkt.dest ≠ s.self)
    (hp : s.pathPort i.port i.pkt.dest = some p)
    (ha : s.admission p (i.pkt.fld 0x14 0 6) ((i.pkt.fld 0x12 0 10 + s.advance i.port (i.pkt.fld 0x11 0 8)) % 1024) (i.pkt.fld 0x12 10 4)
      (i.pkt.fld 0x11 0 8) (decide (s.shareUsed i.port + (s.advance i.port (i.pkt.fld 0x11 0 8) + 1) * i.pkt.fld 0x11 0 8 * 9 ≤
        s.bltShare i.port)) = none) :
    ∃ c, s.Held (s.setupArrived i) p (p * 256 + s.freeIndex p) c ∧ c.role = 1 ∧ c.state = 1 ∧ c.inPort = i.port ∧ c.outPort = p ∧
      c.start = (i.pkt.fld 0x12 0 10 + s.advance i.port (i.pkt.fld 0x11 0 8)) % 1024 := by
  obtain ⟨c, hc⟩ : ∃ c, c = newCircuit 1 (i.pkt.fld 0x10 2 1) (i.pkt.fld 0x14 0 6) i.pkt.dest i.pkt.srcNode i.port i.pkt.circuit p
    (s.freeIndex p) (i.pkt.fld 0x12 0 10) ((i.pkt.fld 0x12 0 10 + s.advance i.port (i.pkt.fld 0x11 0 8)) % 1024) (i.pkt.fld 0x12 10 4)
    (i.pkt.fld 0x11 0 8) (s.advance i.port (i.pkt.fld 0x11 0 8)) 0 s.core.bolts.order false := ⟨_, rfl⟩
  have heq : s.setupArrived i = (({ s with core.bolts.order := s.core.bolts.order + 1 } : State).setCircuit (p * 256 + s.freeIndex p)
      c).sendSetup i.port p i.stamp (c.forward 0 [hf 0x18 0 96 (i.pkt.fld 0x18 0 96)]) := by
    unfold State.setupArrived
    rw [if_neg (not_not.mpr hself), if_neg hdest, hp]
    dsimp only
    rw [ha, hc]
  rw [heq]
  exact ⟨c, .sendSetup _ _ _ _ _ _ _ _, by rw [hc]; rfl, by rw [hc]; rfl, by rw [hc]; rfl, by rw [hc]; rfl, by rw [hc]; rfl⟩

theorem exec_boltSetupArrival_hop {p : Nat} (hoff : s.off = false)
    (hi : takeFirst (fun i => i.pkt.cls == 0 && i.pkt.type == 4 && i.pkt.fld 0x10 0 2 == 0) s.core.resp.inbox = some (i, rest))
    (hself : s.selfValid = true) (hdest : i.pkt.dest ≠ s.self) (hp : s.pathPort i.port i.pkt.dest = some p)
    (ha : s.admission p (i.pkt.fld 0x14 0 6) ((i.pkt.fld 0x12 0 10 + s.advance i.port (i.pkt.fld 0x11 0 8)) % 1024) (i.pkt.fld 0x12 10 4)
      (i.pkt.fld 0x11 0 8) (decide (s.shareUsed i.port + (s.advance i.port (i.pkt.fld 0x11 0 8) + 1) * i.pkt.fld 0x11 0 8 * 9 ≤
        s.bltShare i.port)) = none) :
    ∃ t c, exec .boltSetupArrival s = .next t ∧ t.circuit? (p * 256 + s.freeIndex p) = some c ∧ c.role = 1 ∧ c.state = 1 ∧
      c.inPort = i.port ∧ c.outPort = p ∧ c.start = (i.pkt.fld 0x12 0 10 + s.advance i.port (i.pkt.fld 0x11 0 8)) % 1024 := by
  obtain ⟨c, g, hc⟩ := State.setupArrived_hop (s := { s with core.resp.inbox := rest, out := [] }) hself hdest hp ha
  obtain ⟨t, ht, hcore, -, -⟩ := coreCmd_next boltSetupArrival s _ hoff (boltSetupArrival_eq hi) (g.off.trans hoff)
  exact ⟨t, c, ht, (State.circuit?_congr hcore _).trans g.self, hc⟩

/-! ### Answers -/

variable {c : Circuit}

/-- The circuit an answer passes is ACTIVE, or is free (R257). -/
def State.settleCircuit (s : State) (key st : Nat) (c : Circuit) : State :=
  if st = 0 then s.setCircuit key { c with state := 2 } else s.delCircuit key

theorem State.settleCircuit_spec (s : State) (key st : Nat) (c : Circuit) : (s.settleCircuit key st c).off = s.off ∧
    (s.settleCircuit key st c).circuit? key = if st = 0 then some { c with state := 2 } else none := by
  unfold State.settleCircuit
  split
  · exact ⟨rfl, State.circuit?_setCircuit_self _ _ _⟩
  · exact ⟨rfl, State.circuit?_delCircuit_self _ _⟩

theorem boltAnswerArrival_eq
    (hi : takeFirst (fun i => i.pkt.cls == 0 && i.pkt.type == 4 && i.pkt.fld 0x10 0 2 == 1) s.core.resp.inbox = some (i, rest)) :
    boltAnswerArrival { s with out := [] } = State.answered { s with core.resp.inbox := rest, out := [] } i :=
  State.withBolt_some (s := { s with out := [] }) 1 _ hi

/-- At a hop the answer goes on. -/
theorem State.answered_hop (hc : s.circuit? (i.port * 256 + i.pkt.circuit) = some c) (h1 : c.state = 1) (hrole : c.role = 1) :
    (s.settleCircuit (i.port * 256 + i.pkt.circuit) (i.pkt.fld 0x24 0 8) c).Sent (s.answered i) := by
  simp only [State.answered, hc]
  rw [if_neg (not_not.mpr h1), if_pos hrole]
  exact State.passOn_sent _ _ _ _

/-- At the source of the driver's circuit the answer ends the command. -/
theorem State.answered_source (hc : s.circuit? (i.port * 256 + i.pkt.circuit) = some c) (h1 : c.state = 1) (hrole : c.role = 0)
    (hrev : c.rev = false) :
    s.answered i = (s.settleCircuit (i.port * 256 + i.pkt.circuit) (i.pkt.fld 0x24 0 8) c).boltEnd (i.pkt.fld 0x24 0 8)
      (bits (i.port * 256 + i.pkt.circuit) 0 11) (i.pkt.fld 0x28 0 20) (i.pkt.fld 0x25 0 12) := by
  simp only [State.answered, hc]
  rw [if_neg (not_not.mpr h1), if_neg (by omega), if_neg (by simp [hrev])]
  rfl

theorem exec_boltAnswerArrival_hop (hoff : s.off = false)
    (hi : takeFirst (fun i => i.pkt.cls == 0 && i.pkt.type == 4 && i.pkt.fld 0x10 0 2 == 1) s.core.resp.inbox = some (i, rest))
    (hc : s.circuit? (i.port * 256 + i.pkt.circuit) = some c) (h1 : c.state = 1) (hrole : c.role = 1) :
    ∃ t, exec .boltAnswerArrival s = .next t ∧ t.circuit? (i.port * 256 + i.pkt.circuit) =
      if i.pkt.fld 0x24 0 8 = 0 then some { c with state := 2 } else none := by
  have hsent := State.answered_hop (s := { s with core.resp.inbox := rest, out := [] }) hc h1 hrole
  obtain ⟨hsoff, hsettled⟩ := ({ s with core.resp.inbox := rest, out := [] } : State).settleCircuit_spec
    (i.port * 256 + i.pkt.circuit) (i.pkt.fld 0x24 0 8) c
  obtain ⟨t, ht, hcore, -, -⟩ := coreCmd_next boltAnswerArrival s _ hoff (boltAnswerArrival_eq hi)
    (hsent.off.trans (hsoff.trans hoff))
  exact ⟨t, ht, (State.circuit?_congr hcore _).trans ((hsent.circuit? _).trans hsettled)⟩

theorem exec_boltAnswerArrival_source (hoff : s.off = false)
    (hi : takeFirst (fun i => i.pkt.cls == 0 && i.pkt.type == 4 && i.pkt.fld 0x10 0 2 == 1) s.core.resp.inbox = some (i, rest))
    (hc : s.circuit? (i.port * 256 + i.pkt.circuit) = some c) (h1 : c.state = 1) (hrole : c.role = 0) (hrev : c.rev = false)
    (hst : i.pkt.fld 0x24 0 8 = 0) :
    ∃ t, exec .boltAnswerArrival s = .next t ∧ t.circuit? (i.port * 256 + i.pkt.circuit) = some { c with state := 2 } ∧
      t.rd R.BOLT_STATUS_BUSY = 0 ∧ t.rd R.BOLT_STATUS_STATUS = 0 ∧
      t.rd R.BOLT_STATUS_CIRCUIT = (i.port * 256 + i.pkt.circuit) % 2 ^ 11 := by
  obtain ⟨hsoff, hsettled⟩ := ({ s with core.resp.inbox := rest, out := [] } : State).settleCircuit_spec
    (i.port * 256 + i.pkt.circuit) (i.pkt.fld 0x24 0 8) c
  have hended := State.answered_source (s := { s with core.resp.inbox := rest, out := [] }) hc h1 hrole hrev
  revert hsoff hsettled hended
  generalize ({ s with core.resp.inbox := rest, out := [] } : State).settleCircuit (i.port * 256 + i.pkt.circuit)
    (i.pkt.fld 0x24 0 8) c = v
  intro hsoff hsettled hended
  rw [hst] at hended hsettled
  obtain ⟨hw, hbusy, hstatus, hcircuit⟩ := v.boltEnd_spec (status := 0) (bits (i.port * 256 + i.pkt.circuit) 0 11)
    (i.pkt.fld 0x28 0 20) (i.pkt.fld 0x25 0 12) (by decide)
  obtain ⟨t, ht, hcore, -, hrd⟩ := coreCmd_next boltAnswerArrival s _ hoff ((boltAnswerArrival_eq hi).trans hended)
    (hw.off.trans (hsoff.trans hoff))
  refine ⟨t, ht, ?_, (hrd _).trans hbusy, (hrd _).trans hstatus, (hrd _).trans ((hcircuit rfl).trans ?_)⟩
  · rw [State.circuit?_congr hcore, State.circuit?, hw.core]
    exact hsettled
  · rw [bits, Nat.pow_zero, Nat.div_one, Nat.mod_mod]

/-! ### RELEASE and BREAK -/

/-- The reverse circuit of a pair leaves with its forward circuit, which is gone already (R267). -/
theorem State.endPair_spec {k : Nat} (hk : s.circuit? k = none) (c : Circuit) :
    (s.endPair c).off = s.off ∧ (s.endPair c).aon = s.aon ∧ (s.endPair c).circuit? k = none := by
  unfold State.endPair
  split
  · split
    · rename_i j r _
      split
      · have hsent := (s.delCircuit j).sendPort_sent r.outPort (r.forward 2 [])
        refine ⟨hsent.off, hsent.aon, (hsent.circuit? k).trans ?_⟩
        by_cases hj : k = j
        · rw [hj, State.circuit?_delCircuit_self]
        · rw [State.circuit?_delCircuit_ne _ hj, hk]
      · exact ⟨rfl, rfl, hk⟩
    · exact ⟨rfl, rfl, hk⟩
  · exact ⟨rfl, rfl, hk⟩

theorem exec_boltReleaseArrival {k : Nat} (hoff : s.off = false)
    (hi : takeFirst (fun i => i.pkt.cls == 0 && i.pkt.type == 4 && i.pkt.fld 0x10 0 2 == 2) s.core.resp.inbox = some (i, rest))
    (hin : s.incoming i.port i.pkt.circuit = some (k, c)) :
    ∃ t, exec .boltReleaseArrival s = .next t ∧ t.circuit? k = none ∧ t.aon = s.aon := by
  obtain ⟨v, hv⟩ : ∃ v, v = ({ s with core.resp.inbox := rest, out := [] } : State).delCircuit k := ⟨_, rfl⟩
  have hbody : boltReleaseArrival { s with out := [] } = if c.role = 1 then v.passOn i c.outPort (c.forward 2 []) else v.endPair c := by
    refine (State.withBolt_some (s := { s with out := [] }) 2 _ hi).trans ?_
    have hin' : ({ s with core.resp.inbox := rest, out := [] } : State).incoming i.port i.pkt.circuit = some (k, c) := hin
    simp only [hin', hv]
  have hgone : v.circuit? k = none := by rw [hv, State.circuit?_delCircuit_self]
  have hvoff : v.off = false := by rw [hv]; exact hoff
  have hvaon : v.aon = s.aon := by rw [hv]; rfl
  obtain ⟨u, hu⟩ : ∃ u, u = if c.role = 1 then v.passOn i c.outPort (c.forward 2 []) else v.endPair c := ⟨_, rfl⟩
  have hspec : u.off = v.off ∧ u.aon = v.aon ∧ u.circuit? k = none := by
    rw [hu]
    split
    · have hsent := v.passOn_sent i c.outPort (c.forward 2 [])
      exact ⟨hsent.off, hsent.aon, (hsent.circuit? k).trans hgone⟩
    · exact State.endPair_spec hgone c
  obtain ⟨hoff', haon', hgone'⟩ := hspec
  obtain ⟨t, ht, hcore, haon, -⟩ := coreCmd_next boltReleaseArrival s u hoff (hbody.trans hu.symm) (hoff'.trans hvoff)
  exact ⟨t, ht, (State.circuit?_congr hcore _).trans hgone', haon.trans (haon'.trans hvaon)⟩

/-- A BREAK from the source breaks the circuit it reaches, goes on at a hop and breaks the pair at the destination (R260). -/
theorem exec_boltBreakArrival {k : Nat} (hoff : s.off = false)
    (hi : takeFirst (fun i => i.pkt.cls == 0 && i.pkt.type == 4 && i.pkt.fld 0x10 0 2 == 3) s.core.resp.inbox = some (i, rest))
    (hin : s.incoming i.port i.pkt.circuit = some (k, c)) (hdest : c.dest = i.pkt.dest) (h2 : c.state = 2) :
    ∃ t c', exec .boltBreakArrival s = .next t ∧ t.circuit? k = some c' ∧ c'.state = 4 ∧ c'.buf = [] ∧
      eventRecord 0x20 0 0 ∈ t.core.events := by
  obtain ⟨w, hw⟩ : ∃ w, w = ({ s with core.resp.inbox := rest, out := [] } : State) := ⟨_, rfl⟩
  obtain ⟨v, hv⟩ : ∃ v, v = w.toBroken k c := ⟨_, rfl⟩
  obtain ⟨hbroken, hevent⟩ := w.toBroken_spec k c
  rw [← hv] at hbroken hevent
  have hafter : ∃ u, boltBreakArrival { s with out := [] } = u ∧ v.Broken u := by
    refine ⟨_, State.withBolt_some (s := { s with out := [] }) 3 _ hi, ?_⟩
    have hin' : w.incoming i.port i.pkt.circuit = some (k, c) := by rw [hw]; exact hin
    rw [← hw]
    simp only [hin']
    rw [if_pos hdest, if_pos h2, ← hv]
    refine .ite _ (v.passOn_sent _ _ _).broken (.ite _ ?_ (.refl v))
    split
    · exact v.breakOne_broken _
    · exact .refl v
  obtain ⟨u, hu, hrest⟩ := hafter
  have hall := hbroken.trans hrest
  obtain ⟨t, ht, hcore, -, -⟩ := coreCmd_next boltBreakArrival s u hoff hu (hall.off.trans (by rw [hw]; exact hoff))
  exact ⟨t, c.broken, ht, (State.circuit?_congr hcore _).trans (hall.circuit_broken (State.circuit?_setCircuit_self _ _ _) rfl), rfl, rfl,
    by rw [hcore]; exact hrest.events _ hevent⟩

end

/-- Settles O46, command by command. -/
theorem boltCircuits : Obligations.BoltCircuits := by
  unfold Obligations.BoltCircuits
  intro s hoff
  exact ⟨fun _ _ hd hb hr hn hs hp ha => exec_boltSetupCmd_held hoff hd hb hr hn hs hp ha,
    fun _ hd hb hn => exec_boltSetupCmd_refused hoff hd hb hn, fun _ hb => exec_boltCmd_lost hoff hb,
    fun _ _ hd hb hc hrole hidle => exec_boltTeardownCmd hoff hd hb hc hrole hidle,
    fun _ _ hi => ⟨exec_boltSetupArrival_silent hoff hi,
      fun hself hdest hkind hroom => exec_boltSetupArrival_dest hoff hi hself hdest hkind hroom,
      fun hself hdest hroom hp => exec_boltSetupArrival_full hoff hi hself hdest hroom hp,
      fun _ hself hdest hp ha => exec_boltSetupArrival_hop hoff hi hself hdest hp ha⟩,
    fun _ _ _ hi hc h1 => ⟨exec_boltAnswerArrival_hop hoff hi hc h1,
      fun hrole hrev hst => exec_boltAnswerArrival_source hoff hi hc h1 hrole hrev hst⟩,
    fun _ _ _ _ hi hin => exec_boltReleaseArrival hoff hi hin,
    fun _ _ _ _ hi hin hdest h2 => exec_boltBreakArrival hoff hi hin hdest h2,
    fun _ _ hc h1 => exec_boltSetupTimeout hoff hc h1⟩

end Sys2Proof.Machine

namespace Sys2Proof.Machine

/-! ## A BOLT_PUT leaves its ring (R261, R263) -/

section
variable {s t u v : State} {h : Head} {q : QueueId}

/-- Whether a descriptor that passes R50 is ready rests on the further reasons it fails itself. -/
theorem State.ready_ok_congr {n op : Nat} {extra extra' : BitVec 1024 → List Nat} (hr : s.ready n op extra = .ok h)
    (he : extra' h.desc = extra h.desc) : s.ready n op extra' = .ok h := by
  obtain ⟨hhead, -⟩ := State.ready_ok hr
  simp only [State.ready, hhead] at hr ⊢
  rw [he]
  exact hr

theorem pickReason_none {rs : List Nat} (h : pickReason rs = none) : rs = [] := by
  unfold pickReason at h
  split_ifs at h
  cases rs with
  | nil => rfl
  | cons x rs => cases h

/-- A descriptor that passes R50 but for one further reason fails with it. -/
theorem State.r50_further {kind f n : Nat} {d : BitVec 1024} (h : s.r50 kind f d [] = none) : s.r50 kind f d [n] = pickReason [n] := by
  unfold State.r50 at h ⊢
  dsimp only at h ⊢
  split at h
  · cases h
  · rename_i hknown
    rw [if_neg hknown]
    rw [List.append_nil] at h
    rw [pickReason_none h, List.nil_append]

theorem State.ready_further {n op c : Nat} {extra : BitVec 1024 → List Nat} (hr : s.ready n op (fun _ => []) = .ok h)
    (he : extra h.desc = [c]) (hc : pickReason [c] = some c) : s.ready n op extra = .fails h c := by
  obtain ⟨hhead, -⟩ := State.ready_ok hr
  simp only [State.ready, hhead] at hr ⊢
  split at hr
  · cases hr
  · rename_i hgo
    rw [if_neg hgo, he]
    split at hr
    · cases hr
    · rename_i hpass
      rw [State.r50_further hpass, hc]

/-- The reason 0x00A is R261's second row. -/
theorem State.boltRefusal_perm {f st de : Nat} {d : BitVec 1024} (h : s.boltRefusal f d = some (st, de)) :
    (st = 0x05 → de = det 0 0x00A) ∧ st ≠ 0 := by
  unfold State.boltRefusal at h
  dsimp only at h
  split at h
  · cases h
    decide
  · split at h
    · cases h
      decide
    · split_ifs at h
      · cases h
        decide
      · cases h
        decide

theorem State.boltReasons_of_refusal {f st de : Nat} {d : BitVec 1024} (h : s.boltRefusal f d = some (st, de)) :
    s.boltReasons f d = if st = 0x05 then [0x00A] else [] := by
  simp only [State.boltReasons, h]

/-- A BOLT_PUT to a circuit that does not stand fails R50; another one that R261 refuses issues and completes. -/
theorem boltPut_refused {st de : Nat} (hr : s.ready q.val 0x20 (fun _ => []) = .ok h)
    (hno : s.boltRefusal (s.qFunc q.val) h.desc = some (st, de)) (hgo : st = 0x05 ∨ s.held q.val h [] = false) :
    s.Completed (boltPut q s) q.val h ((s.headOp q.val h).record s.core.nextId st de 0 0) := by
  obtain ⟨hperm, hst⟩ := State.boltRefusal_perm hno
  have hreasons := State.boltReasons_of_refusal hno
  by_cases h5 : st = 0x05
  · subst h5
    rw [hperm rfl]
    have hfails := State.ready_further (extra := s.boltReasons (s.qFunc q.val)) hr (hreasons.trans (if_pos rfl)) rfl
    simp only [boltPut, hfails]
    exact s.completeHead_completed q.val h (by decide)
  · have hok := State.ready_ok_congr (extra' := s.boltReasons (s.qFunc q.val)) hr (hreasons.trans (if_neg h5))
    have hheld := hgo.resolve_left h5
    simp only [boltPut, hok, hno, Option.isSome_some, Bool.true_or, if_true, hheld, Bool.false_eq_true, if_false]
    obtain ⟨hid, i⟩ := s.issue_issued q.val h []
    revert hid i
    generalize s.issue q.val h [] = p
    obtain ⟨id, v⟩ := p
    rintro rfl i
    exact i.endOp fun h0 => absurd h0 hst

theorem exec_boltPut_refused {st de : Nat} (hoff : s.off = false) (hr : s.ready q.val 0x20 (fun _ => []) = .ok h)
    (hno : s.boltRefusal (s.qFunc q.val) h.desc = some (st, de)) (hgo : st = 0x05 ∨ s.held q.val h [] = false) :
    ∃ t r, exec (.boltPut q) s = .next t ∧ (t.qs q.val).records = (s.qs q.val).records ++ [r] ∧ r.status = st ∧ r.detail = de ∧
      t.core.bolts = s.core.bolts ∧ t.core.rq.reqs = s.core.rq.reqs := by
  obtain ⟨t, ht, g⟩ := (boltPut_refused (s := { s with out := [] }) ((s.ready_out [] _ _ _).trans hr) hno hgo).exec (s := s)
    (c := .boltPut q) (body := boltPut q) hoff rfl rfl
  exact ⟨t, _, ht, g.records, rfl, rfl, congrArg (·.bolts) g.core, congrArg (·.rq.reqs) g.core⟩

/-- The request that a queued transfer holds its tag by. -/
def State.xferReq (s : State) (id : Nat) (o : Op) : Req :=
  { newReq .bolt .prep id o 0 s.core.rq.sendOrder with node := ptrNode (dDstPtr o.desc), ptr := dDstPtr o.desc }

/-- A transfer that has been queued. -/
def State.newXfer (s : State) (id : Nat) (o : Op) (t : Nat) (c : Circuit) : Transfer :=
  ⟨id, c.nextXfer, t, s.firstSlot c, .waiting, some (startCursor o.desc), 0, false, [], 0, none⟩

/-- A circuit with one transfer more. -/
def Circuit.queue (c : Circuit) (x : Transfer) : Circuit := { c with xfers := c.xfers ++ [x], nextXfer := (c.nextXfer + 1) % 2 ^ 16 }

theorem State.queueXfer_some {id n : Nat} {o : Op} {c : Circuit} (hc : s.circuit? (dCircuit o.desc) = some c) :
    s.queueXfer id o n = ((s.setOp id { o with slip := 0 }).enterReq n (s.xferReq id o)).setCircuit (dCircuit o.desc)
      (c.queue (s.newXfer id o n c)) := by
  simp only [State.queueXfer, hc]
  rfl

/-- A BOLT_PUT that nothing holds or refuses queues a transfer under a new tag. -/
theorem boltPut_queues {n : Nat} (hr : s.ready q.val 0x20 (fun _ => []) = .ok h)
    (hno : s.boltRefusal (s.qFunc q.val) h.desc = none) (hlen : dLength h.desc ≠ 0) (hheld : s.held q.val h (boltRanges h.desc) = false)
    (hn : s.allocTag q.val (s.qFunc q.val) = some n) :
    ∃ v, s.Issued v q.val h (boltRanges h.desc) ∧ boltPut q s = v.queueXfer s.core.nextId (s.headOp q.val h) n := by
  have hok := State.ready_ok_congr (extra' := s.boltReasons (s.qFunc q.val)) hr (by simp only [State.boltReasons, hno])
  obtain ⟨hid, i⟩ := s.issue_issued q.val h (boltRanges h.desc)
  refine ⟨_, i, ?_⟩
  have hlen' : (dLength h.desc == 0) = false := by simpa using hlen
  simp only [boltPut, hok, hno, Option.isSome_none, Bool.false_or, hlen', Bool.false_eq_true, if_false, hheld, hlen, hn]
  have hop := i.op?
  revert hid hop
  generalize s.issue q.val h (boltRanges h.desc) = p
  obtain ⟨id, v⟩ := p
  rintro rfl hop
  dsimp only at hop ⊢
  rw [hop]

theorem exec_boltPut_queues {n : Nat} {c : Circuit} (hoff : s.off = false) (hr : s.ready q.val 0x20 (fun _ => []) = .ok h)
    (hno : s.boltRefusal (s.qFunc q.val) h.desc = none) (hlen : dLength h.desc ≠ 0) (hheld : s.held q.val h (boltRanges h.desc) = false)
    (hn : s.allocTag q.val (s.qFunc q.val) = some n) (hc : s.circuit? (dCircuit h.desc) = some c) :
    ∃ t c' x r, exec (.boltPut q) s = .next t ∧ t.circuit? (dCircuit h.desc) = some c' ∧ c'.xfers = c.xfers ++ [x] ∧
      x.op = s.core.nextId ∧ x.num = c.nextXfer ∧ x.tag = n ∧ x.phase = .waiting ∧ x.first = s.firstSlot c ∧
      c'.nextXfer = (c.nextXfer + 1) % 2 ^ 16 ∧ t.req? n = some r ∧ r.kind = .bolt ∧ r.ptr = dDstPtr h.desc ∧
      t.rd (R.QUEUE_SQ_HEAD_COUNT q.val) = (s.rd (R.QUEUE_SQ_HEAD_COUNT q.val) + h.slots) % 2 ^ 32 ∧ t.aon = s.aon ∧
      t.core.mem = s.core.mem ∧ t.core.router = s.core.router ∧ t.core.win = s.core.win := by
  obtain ⟨v, i, hbody⟩ := boltPut_queues (s := { s with out := [] }) ((s.ready_out [] _ _ _).trans hr) hno hlen hheld hn
  obtain ⟨o, ho⟩ : ∃ o, o = ({ s with out := [] } : State).headOp q.val h := ⟨_, rfl⟩
  have hdesc : o.desc = h.desc := by rw [ho]; rfl
  have hvc : v.circuit? (dCircuit o.desc) = some c := by
    rw [hdesc, State.circuit?, i.core]
    exact hc
  have hfirst : v.firstSlot c = s.firstSlot c := by
    have hnow : v.now = s.now := State.now_congr (congrArg (·.time) i.core)
    simp only [State.firstSlot, hnow]
  rw [← ho, State.queueXfer_some hvc, hdesc] at hbody
  obtain ⟨t, ht, hcore, haon, hrd⟩ := coreCmd_next (boltPut q) s _ hoff hbody ((State.off_eq_of i.build i.aon).trans hoff)
  refine ⟨t, _, _, v.xferReq s.core.nextId o, ht, (State.circuit?_congr hcore _).trans (State.circuit?_setCircuit_self _ _ _), rfl, rfl,
    rfl, rfl, rfl, hfirst, rfl,
    ?_, rfl, congrArg dDstPtr hdesc, (hrd _).trans i.count, haon.trans i.aon, ?_, ?_, ?_⟩
  · rw [State.req?_congr (congrArg (·.rq.reqs) hcore)]
    exact SMap.get?_put_self _ _ _
  · exact (congrArg (·.mem) hcore).trans (congrArg (·.mem) i.core)
  · exact (congrArg (·.router) hcore).trans (congrArg (·.router) i.core)
  · exact (congrArg (·.win) hcore).trans (congrArg (·.win) i.core)

end

end Sys2Proof.Machine

namespace Sys2Proof.Machine

/-! ## The reads of a transfer (R262-R264, R449) -/

section
variable {s t u v : State} {i : SspId} {r : SspRead} {rest : List SspRead} {x : Transfer} {k tag : Nat}

/-- A scratchpad's slot takes the first read that waits for it (R449). -/
theorem exec_scratchpadSlotOffer (hfatal : s.fatal = false) (hiso : s.pins.iso = false) (hi : s.idle = false)
    (htake : takeFirst (fun r => r.ssp == i.val) s.core.bolts.sspWait = some (r, rest)) :
    ∃ t, exec (.scratchpadSlotOffer i) s = .next t ∧ t.out = [.sspRead i.val r.line] ∧
      t.core = { s.core with bolts.sspWait := rest, bolts.sspOut := s.core.bolts.sspOut ++ [r] } ∧ t.aon = s.aon := by
  have hf : ({ s with out := [] } : State).fatal = false := hfatal
  have hbody : scratchpadSlotOffer i { s with out := [] } =
      ({ s with core.bolts.sspWait := rest, core.bolts.sspOut := s.core.bolts.sspOut ++ [r], out := [] } : State).emit
        (.sspRead i.val r.line) := by
    simp only [scratchpadSlotOffer, hf, Bool.false_eq_true, if_false, htake]
  have hwire := wire_id (scratchpadSlotOffer i { s with out := [] }) (by rw [hbody]; exact hi) (by rw [hbody]; exact hiso)
  refine ⟨_, portCmd_on (scratchpadSlotOffer i) s hi, ?_, ?_, ?_⟩
  · rw [hwire, hbody]; rfl
  · rw [hwire, hbody]; rfl
  · rw [hwire, hbody]; rfl

/-- A change of a circuit's transfers touches the table alone. -/
theorem State.modXfer_table (s : State) (k tag : Nat) (f : Transfer → Transfer) :
    ∃ m, s.modXfer k tag f = { s with core.bolts.table := m } := by
  unfold State.modXfer
  split
  · exact ⟨s.core.bolts.table, rfl⟩
  · exact ⟨_, rfl⟩

/-- The transfer of a tag after a change under that tag which keeps tags. -/
theorem State.xfer?_modXfer {f : Transfer → Transfer} (hx : s.xfer? k tag = some x) (hf : ∀ y, (f y).tag = y.tag) :
    (s.modXfer k tag f).xfer? k tag = some (f x) := by
  obtain ⟨c, hc, hfind⟩ := Option.bind_eq_some_iff.mp hx
  have hkept : ((fun y : Transfer => y.tag == tag) ∘ fun y => if y.tag = tag then f y else y) = fun y => y.tag == tag := by
    funext y
    simp only [Function.comp]
    split
    · rw [hf]
    · rfl
  have htag : x.tag = tag := by simpa using List.find?_some hfind
  simp only [State.xfer?, State.modXfer, hc, State.circuit?_setCircuit_self, Option.bind_some, List.find?_map, hkept, hfind,
    Option.map_some, htag, if_true]

/-- A transfer whose reading has failed: an ABORT marker is due (R264). -/
def Transfer.readFailed (x : Transfer) (reason : Nat) : Transfer :=
  { x with phase := .abort, cursor := none, reads := [], fail := some (0x0F, det 7 reason, 0) }

/-- Reading that fails drops the transfer's reads and leaves the requester. -/
theorem State.readFails_spec (s : State) (k tag reason : Nat) :
    (s.readFails k tag reason).build = s.build ∧ (s.readFails k tag reason).aon = s.aon ∧
      (s.readFails k tag reason).core.rq = s.core.rq ∧ (s.readFails k tag reason).core.err = s.core.err ∧
      (s.readFails k tag reason).core.bolts.sspOut = s.core.bolts.sspOut := by
  obtain ⟨m, hm⟩ := (s.dropBoltReads tag).modXfer_table k tag fun x => x.readFailed reason
  have heq : s.readFails k tag reason = _ := hm
  rw [heq]
  exact ⟨rfl, rfl, rfl, rfl, rfl⟩

theorem State.xfer?_readFails {reason : Nat} (hx : s.xfer? k tag = some x) :
    (s.readFails k tag reason).xfer? k tag = some (x.readFailed reason) :=
  State.xfer?_modXfer (s := s.dropBoltReads tag) (f := fun x => x.readFailed reason) hx fun _ => rfl

theorem State.xfer?_congr (h : t.core = s.core) (k tag : Nat) : t.xfer? k tag = s.xfer? k tag := by
  rw [State.xfer?, State.circuit?_congr h, State.xfer?]

/-- A scratchpad line joins its packet (R449). -/
theorem exec_sspReadReturn_line {line : BitVec 1024} (hi : s.idle = false)
    (htake : takeFirst (fun r => r.ssp == i.val) s.core.bolts.sspOut = some (r, rest))
    (hx : s.xfer? r.circ (r.pkt / 2 ^ 32) = some x) :
    ∃ t x', exec (.sspReadReturn i line false) s = .next t ∧ t.xfer? r.circ (r.pkt / 2 ^ 32) = some x' ∧
      x'.reads = x.reads.map (fun b => if b.pkt = r.pkt % 2 ^ 32 then b.line (toLE 128 line.toNat) else b) ∧
      t.core.bolts.sspOut = rest ∧ t.aon = s.aon ∧ t.core.regs = s.core.regs ∧ t.core.rq = s.core.rq := by
  obtain ⟨w, hw⟩ : ∃ w : State, w = { s with core.bolts.sspOut := rest, out := [] } := ⟨_, rfl⟩
  obtain ⟨f, hf⟩ : ∃ f : Transfer → Transfer, f = fun x =>
    { x with reads := x.reads.map (fun b => if b.pkt = r.pkt % 2 ^ 32 then b.line (toLE 128 line.toNat) else b) } := ⟨_, rfl⟩
  have hwx : w.xfer? r.circ (r.pkt / 2 ^ 32) = some x := by rw [hw]; exact hx
  have hbody : sspReadReturn i line false { s with out := [] } = w.modXfer r.circ (r.pkt / 2 ^ 32) f := by
    simp only [sspReadReturn, htake]
    rw [← hw, hf, if_neg (by rw [hwx]; exact Bool.false_ne_true), if_neg (by decide)]
  obtain ⟨m, hm⟩ := w.modXfer_table r.circ (r.pkt / 2 ^ 32) f
  obtain ⟨t, ht, hcore, haon, -⟩ := portCmd_next hi hbody (by rw [hm, hw]; exact State.off_of_idle hi)
  refine ⟨t, f x, ht, (State.xfer?_congr hcore _ _).trans (State.xfer?_modXfer hwx fun y => by rw [hf]), by rw [hf], ?_, ?_, ?_, ?_⟩
  · rw [hcore, hm, hw]
  · rw [haon, hm, hw]
  · rw [hcore, hm, hw]
  · rw [hcore, hm, hw]

/-- A scratchpad's error ends the reading, with an error record of CLASS 4 (R264, R395). -/
theorem exec_sspReadReturn_error {line : BitVec 1024} (hi : s.idle = false)
    (htake : takeFirst (fun r => r.ssp == i.val) s.core.bolts.sspOut = some (r, rest))
    (hx : s.xfer? r.circ (r.pkt / 2 ^ 32) = some x) :
    ∃ t x', exec (.sspReadReturn i line true) s = .next t ∧ t.xfer? r.circ (r.pkt / 2 ^ 32) = some x' ∧ x'.phase = .abort ∧
      x'.reads = [] ∧ x'.fail = some (0x0F, 7 * 4096 + 0x07C, 0) ∧ t.core.bolts.sspOut = rest ∧
      ∃ e ∈ t.core.err.merging, e.cls = 4 := by
  obtain ⟨w, hw⟩ : ∃ w : State, w = { s with core.bolts.sspOut := rest, out := [] } := ⟨_, rfl⟩
  have hwx : w.xfer? r.circ (r.pkt / 2 ^ 32) = some x := by rw [hw]; exact hx
  have hbody : ∃ queue node, sspReadReturn i line true { s with out := [] } =
      (w.logErrAt w.now 4 0x0F (det 7 0x07C) 15 ((w.circuit? r.circ).map (·.func)) queue node (r.line * 128)).readFails r.circ
        (r.pkt / 2 ^ 32) 0x07C := by
    simp only [sspReadReturn, htake]
    rw [← hw, if_neg (by rw [hwx]; exact Bool.false_ne_true)]
    exact ⟨_, _, rfl⟩
  obtain ⟨queue, node, hbody⟩ := hbody
  obtain ⟨m, hm, e, he, hcls⟩ := w.logErrAt_merging w.now (cls := 4) (by decide) 0x0F (det 7 0x07C) 15
    ((w.circuit? r.circ).map (·.func)) queue node (r.line * 128)
  rw [hm] at hbody
  obtain ⟨v, hv⟩ : ∃ v : State, v = { w with core.err.merging := m } := ⟨_, rfl⟩
  rw [← hv] at hbody
  obtain ⟨hbuild, haon', -, herr, hout⟩ := v.readFails_spec r.circ (r.pkt / 2 ^ 32) 0x07C
  have hvx : v.xfer? r.circ (r.pkt / 2 ^ 32) = some x := by rw [hv]; exact hwx
  have hvoff : v.off = false := by rw [hv, hw]; exact State.off_of_idle hi
  obtain ⟨t, ht, hcore, -, -⟩ := portCmd_next hi hbody ((State.off_eq_of hbuild haon').trans hvoff)
  refine ⟨t, _, ht, (State.xfer?_congr hcore _ _).trans (State.xfer?_readFails hvx), rfl, rfl, rfl, ?_, e, ?_, hcls⟩
  · rw [hcore, hout, hv, hw]
  · rw [hcore, herr, hv]
    exact he

/-- A read that takes one request timeout ends the reading of its transfer (R264, R391). -/
theorem exec_boltReadTimeout {k : CircuitId} {c : Circuit} {y : Transfer} (hoff : s.off = false) (hc : s.circuit? k.val = some c)
    (hrole : c.role = 0) (hy : c.xfers.find? (fun x => x.phase == .prefetch && x.reads.any (·.data.isNone)) = some y) :
    ∃ t y', exec (.boltReadTimeout k) s = .next t ∧ t.xfer? k.val y.tag = some y' ∧ y'.phase = .abort ∧
      y'.fail = some (0x0F, 7 * 4096 + 0x07D, 0) ∧ t.core.rq = s.core.rq ∧ t.aon = s.aon := by
  have hc' : ({ s with out := [] } : State).circuit? k.val = some c := hc
  have hbody : boltReadTimeout k { s with out := [] } = ({ s with out := [] } : State).readFails k.val y.tag 0x07D := by
    simp only [boltReadTimeout, hc', hy, hrole, if_true]
  obtain ⟨x, hx⟩ : ∃ x, c.xfers.find? (·.tag == y.tag) = some x := by
    rw [← Option.isSome_iff_exists, List.find?_isSome]
    exact ⟨y, List.mem_of_find?_eq_some hy, by simp⟩
  have hx' : ({ s with out := [] } : State).xfer? k.val y.tag = some x := by rw [State.xfer?, hc', Option.bind_some, hx]
  obtain ⟨hbuild, haon', hrq, -, -⟩ := ({ s with out := [] } : State).readFails_spec k.val y.tag 0x07D
  obtain ⟨t, ht, hcore, haon, -⟩ := coreCmd_next (boltReadTimeout k) s _ hoff hbody ((State.off_eq_of hbuild haon').trans hoff)
  exact ⟨t, _, ht, (State.xfer?_congr hcore _ _).trans (State.xfer?_readFails hx'), rfl, rfl, (congrArg (·.rq) hcore).trans hrq,
    haon.trans haon'⟩

end

end Sys2Proof.Machine

namespace Sys2Proof.Machine

/-! ## A transfer in ACK_WAIT (R266, R391) -/

section
variable {s t u v : State} {x : Transfer} {r : Req} {o : Op}

/-- A circuit that closes changes what a message sent changes, and the table. -/
theorem State.closeCheck_spec (s : State) (k : Nat) : ∃ m, ({ s with core.bolts.table := m } : State).Sent (s.closeCheck k) := by
  unfold State.closeCheck
  split
  · split
    · exact ⟨_, (s.delCircuit k).sendPort_sent _ _⟩
    · exact ⟨s.core.bolts.table, .refl s⟩
  · exact ⟨s.core.bolts.table, .refl s⟩

/-- An operation that fails ends with its status. -/
theorem State.endOp_op? {id status detail result stamp : Nat} (ho : s.op? id = some o) (hd : o.done = none) (hst : status ≠ 0) :
    (s.endOp id status detail result stamp).op? id = some { o with done := some (status, detail) } := by
  simp only [State.endOp, ho, hd, Option.isSome_none, Bool.false_eq_true, if_false, hst, false_and]
  split
  · exact SMap.get?_put_self _ _ _
  · exact SMap.get?_put_self _ _ _

/-- A transfer that timed out: its tag stays in quarantine, its operation has ended (R390, R394). -/
theorem State.xferTimeout_spec {id n reason : Nat} (hr : s.req? n = some r) (ho : s.op? id = some o) (hd : o.done = none) (y : Req) :
    (s.xferTimeout id n y reason).off = s.off ∧
      (s.xferTimeout id n y reason).req? n = some { r with state := .quarantine, payload := [], staged := false } ∧
      (s.xferTimeout id n y reason).op? id = some { o with done := some (0x02, det 8 reason) } := by
  have hquiet := (State.Quiet.refl s).logTimeout n y (det 8 reason)
  obtain ⟨v, hv⟩ : ∃ v, v = (s.logTimeout n y (det 8 reason)).quarantine n := ⟨_, rfl⟩
  have hv' := hv.trans (State.quarantine_some ((hquiet.req? n).trans hr))
  have hvo : v.op? id = some o := by rw [hv, State.quarantine_op?, hquiet.op?, ho]
  have hvr : v.req? n = some { r with state := .quarantine, payload := [], staged := false } := by
    rw [hv']
    exact State.req?_setReq_self _ _ _
  have hvoff : v.off = s.off := by
    rw [hv']
    exact State.off_eq_of hquiet.build hquiet.aon
  have g := State.endOp_recorded (status := 0x02) (detail := det 8 reason) (result := y.node * 2 ^ 64) (stamp := 0) hvo hd
    fun h0 => absurd h0 (by decide)
  have heq : s.xferTimeout id n y reason = v.endOp id 0x02 (det 8 reason) (y.node * 2 ^ 64) 0 := by rw [hv]; rfl
  rw [heq]
  exact ⟨(State.off_eq_of g.build g.aon).trans hvoff, (State.req?_congr (congrArg (·.rq.reqs) g.core) n).trans hvr,
    State.endOp_op? hvo hd (by decide)⟩

theorem State.Sent.mayRetry (h : s.Sent t) (r : Req) : t.mayRetry r = s.mayRetry r := by
  have hops : t.op? r.op = s.op? r.op := State.op?_congr (congrArg (·.rq.ops) h.core) _
  have hctl : t.rd (R.QUEUE_CTL_RETRY_OK r.queue) = s.rd (R.QUEUE_CTL_RETRY_OK r.queue) :=
    h.rd _ ⟨by simp only [R.QUEUE_CTL_RETRY_OK]; omega, .inl (by simp only [R.QUEUE_CTL_RETRY_OK]; omega)⟩
  have hstate : t.rd (R.FUNC_STATUS_STATE r.func) = s.rd (R.FUNC_STATUS_STATE r.func) :=
    h.rd _ ⟨by simp only [R.FUNC_STATUS_STATE]; omega, .inl (by simp only [R.FUNC_STATUS_STATE]; omega)⟩
  simp only [State.mayRetry, State.funcState, State.on, hops, hctl, hstate]

/-- A transfer whose acknowledgement does not come, and which is not tried again, leaves its circuit and ends (R266). -/
theorem boltAckTimeout_ends {k : CircuitId} {c : Circuit} (hc : s.circuit? k.val = some c)
    (hx : c.xfers.find? (fun x => x.phase == .ackWait) = some x) (hr : s.req? x.tag = some r)
    (hend : x.fail = none ∧ s.mayRetry r = false ∨ x.fail.map (·.1) = some 0x01) :
    ∃ (m : SMap Circuit) (v : State), ({ s with core.bolts.table := m } : State).Sent v ∧
      ∃ y : Req, boltAckTimeout k s = v.xferTimeout x.op x.tag y 0x081 := by
  obtain ⟨m, hm⟩ := (s.setCircuit k.val { c with xfers := c.xfers.filter (·.tag != x.tag) }).closeCheck_spec k.val
  obtain ⟨w, hw⟩ : ∃ w, w = (s.setCircuit k.val { c with xfers := c.xfers.filter (·.tag != x.tag) }).closeCheck k.val := ⟨_, rfl⟩
  rw [← hw] at hm
  have hsent : ({ s with core.bolts.table := m } : State).Sent (w.count (funcSlot r.func) 7) := hm.count _ _
  refine ⟨m, _, hsent, { r with expired := (w.count (funcSlot r.func) 7).now }, ?_⟩
  simp only [boltAckTimeout, hc, hx, hr]
  rw [← hw]
  rcases hend with ⟨hf, hno⟩ | hf
  · rw [hf]
    exact if_neg (by rw [hsent.mayRetry]; exact ne_true_of_eq_false hno)
  · obtain ⟨⟨a, d, res⟩, hfail, ha⟩ := Option.map_eq_some_iff.mp hf
    dsimp only at ha
    subst ha
    rw [hfail]
    rfl

theorem exec_boltAckTimeout {k : CircuitId} {c : Circuit} (hoff : s.off = false) (hc : s.circuit? k.val = some c)
    (hx : c.xfers.find? (fun x => x.phase == .ackWait) = some x) (hr : s.req? x.tag = some r)
    (hend : x.fail = none ∧ s.mayRetry r = false ∨ x.fail.map (·.1) = some 0x01) (ho : s.op? x.op = some o) (hd : o.done = none) :
    ∃ t r' o', exec (.boltAckTimeout k) s = .next t ∧ t.req? x.tag = some r' ∧ r'.state = .quarantine ∧ t.op? x.op = some o' ∧
      o'.done = some (0x02, 8 * 4096 + 0x081) := by
  obtain ⟨m, v, hsent, y, hbody⟩ := boltAckTimeout_ends (s := { s with out := [] }) hc hx hr hend
  have hrq : v.core.rq = s.core.rq := congrArg (·.rq) hsent.core
  obtain ⟨hoff', hr', ho'⟩ := State.xferTimeout_spec (reason := 0x081) ((State.req?_congr (congrArg (·.reqs) hrq) _).trans hr)
    ((State.op?_congr (congrArg (·.ops) hrq) _).trans ho) hd y
  obtain ⟨t, ht, hcore, -, -⟩ := coreCmd_next (boltAckTimeout k) s _ hoff hbody (hoff'.trans (hsent.off.trans hoff))
  exact ⟨t, _, _, ht, (State.req?_congr (congrArg (·.rq.reqs) hcore) _).trans hr', rfl,
    (State.op?_congr (congrArg (·.rq.ops) hcore) _).trans ho', rfl⟩

/-! ### The acknowledgement -/

/-- `t` is `s` after the trace event and the echo of a response: its counts, its trace and the rate cache aside, nothing differs. -/
structure State.Echoed (s t : State) : Prop where
  build : t.build = s.build
  aon : t.aon = s.aon
  core : t.core = { s.core with
    regs := t.core.regs, rq := { s.core.rq with rates := t.core.rq.rates }, trace := t.core.trace, cnt := t.core.cnt }

theorem State.Echoed.trans (h : s.Echoed t) (g : t.Echoed u) : s.Echoed u where
  build := g.build.trans h.build
  aon := g.aon.trans h.aon
  core := g.core.trans (by rw [h.core])

theorem State.Echoed.ite (c : Prop) [Decidable c] (h : s.Echoed t) (g : s.Echoed u) : s.Echoed (if c then t else u) := by
  split
  · exact h
  · exact g

theorem State.Traced.echoed (h : s.Traced t) : s.Echoed t := ⟨h.build, h.aon, by rw [h.core]⟩

theorem State.Echoed.count (h : s.Echoed t) (slot event : Nat) : s.Echoed (t.count slot event) := h.trans ⟨rfl, rfl, rfl⟩

theorem State.Echoed.setRates (h : s.Echoed t) (l : List RateEntry) : s.Echoed { t with core.rq.rates := l } := h.trans ⟨rfl, rfl, rfl⟩

theorem State.Echoed.wr (h : s.Echoed t) (f : Fld) (n : Nat) (hf : f.aon = false) : s.Echoed (t.wr f n) :=
  h.trans ⟨State.wr_build _ _ _, (t.wr_core_aon f n hf).1, by rw [(t.wr_core_aon f n hf).2]⟩

theorem State.Echoed.rateRoom (h : s.Echoed t) (f node : Nat) : s.Echoed (t.rateRoom f node) := by
  refine .ite _ h (.ite _ h ?_)
  split
  · exact h
  · exact .ite _ (((h.setRates _).wr _ _ rfl).count _ _) (h.setRates _)

theorem State.Echoed.echo (h : s.Echoed t) (f node : Nat) : s.Echoed (t.echo f node) := by
  refine .ite _ (h.count _ _) (.setRates ?_ _)
  split
  · exact h.count _ _
  · exact ((h.count _ _).rateRoom f node).trans ⟨rfl, rfl, rfl⟩

variable {i : InPkt} {rest : List InPkt}

/-- The response to a request that was sent reaches it; queues and circuits stay. -/
theorem State.withRsp_echoed {type : Nat} (f : Nat → Req → InPkt → State → State)
    (htake : takeFirst (fun i => i.pkt.cls == 3 && i.pkt.type == type && true) s.core.resp.inbox = some (i, rest))
    (hr : s.req? i.pkt.tag = some r) (hs : r.state = .sent) :
    ∃ v, ({ s with core.resp.inbox := rest } : State).Echoed v ∧ s.withRsp type f = f i.pkt.tag r i v := by
  have hr' : ({ s with core.resp.inbox := rest } : State).req? i.pkt.tag = some r := hr
  rw [State.withRsp, State.withPkt_some _ htake]
  simp only [hr', hs]
  refine ⟨_, ?_, rfl⟩
  have htraced := (((State.Traced.refl { s with core.resp.inbox := rest }).count (funcSlot r.func) 3).tracePkt R.TRACE_CTL_PKT 0x14
    (if i.port < 10 then i.port else 15) i.pkt.rspStatus (some r.func) i.pkt
    (State.now { s with core.resp.inbox := rest }) i.stamp).echoed
  exact .ite _ (htraced.echo _ _) htraced

theorem State.xferOf_tag {n k : Nat} (h : s.xferOf n = some (k, x)) : x.tag = n := by
  obtain ⟨c, -, hc⟩ := List.exists_of_findSome?_eq_some h
  obtain ⟨y, hy, heq⟩ := Option.map_eq_some_iff.mp hc
  obtain ⟨-, rfl⟩ := Prod.mk.inj heq
  simpa using List.find?_some hy

/-- A transfer that is over has freed its tag; operations and queues stay. -/
theorem State.xferOver_spec (s : State) (k : Nat) (x : Transfer) :
    (s.xferOver k x).off = s.off ∧ (s.xferOver k x).req? x.tag = none ∧ (s.xferOver k x).core.rq.ops = s.core.rq.ops ∧
      (s.xferOver k x).core.rq.queues = s.core.rq.queues := by
  obtain ⟨hfree, reqs, work, heq⟩ := s.freeTag_spec x.tag
  have hoff : (s.freeTag x.tag).off = s.off := by rw [heq]; rfl
  have hops : (s.freeTag x.tag).core.rq.ops = s.core.rq.ops := by rw [heq]
  have hqueues : (s.freeTag x.tag).core.rq.queues = s.core.rq.queues := by rw [heq]
  unfold State.xferOver
  split
  · exact ⟨hoff, hfree, hops, hqueues⟩
  · rename_i c _
    obtain ⟨m, hm⟩ := ((s.freeTag x.tag).setCircuit k { c with xfers := c.xfers.filter (·.tag != x.tag) }).closeCheck_spec k
    have hrq : (((s.freeTag x.tag).setCircuit k { c with xfers := c.xfers.filter (·.tag != x.tag) }).closeCheck k).core.rq =
      (s.freeTag x.tag).core.rq := congrArg (·.rq) hm.core
    exact ⟨hm.off.trans hoff, (State.req?_congr (congrArg (·.reqs) hrq) _).trans hfree, (congrArg (·.ops) hrq).trans hops,
      (congrArg (·.queues) hrq).trans hqueues⟩

/-- The record of a transfer that was acknowledged without an error at either end (R71, R266). -/
theorem State.xferRecord_ok {de bytes : Nat} (ho : s.op? x.op = some o) (hf : x.fail = none) :
    s.xferRecord x (0, de, bytes) = (s.countN (funcSlot o.func) 18 bytes).endOp x.op (if x.slip ≤ dSlack o.desc then 0 else 0x14) 0
      (bytes + x.slip % 2 ^ 32 * 2 ^ 64) 2 := by
  simp only [State.xferRecord, ho, hf]
  rfl

/-- What an acknowledgement does. -/
def boltAcked (n : Nat) (r : Req) (i : InPkt) (s : State) : State :=
  if r.kind ≠ .bolt then s
  else match s.xferOf n with
    | none => s
    | some (k, x) =>
      if x.phase ≠ .ackWait then s
      else (s.xferOver k x).xferRecord x (i.pkt.rspStatus, i.pkt.rspDetail, i.pkt.fld 0x18 0 64)

theorem boltAckReceive_eq (s : State) : boltAckReceive s = s.withRsp 5 boltAcked := rfl

theorem boltAcked_waiting {n k : Nat} (hkind : r.kind = .bolt) (hx : s.xferOf n = some (k, x)) (hphase : x.phase = .ackWait) :
    boltAcked n r i s = (s.xferOver k x).xferRecord x (i.pkt.rspStatus, i.pkt.rspDetail, i.pkt.fld 0x18 0 64) := by
  simp only [boltAcked, hkind, hx, hphase, ne_eq, not_true_eq_false, if_false]

/-- The acknowledgement completes its transfer with its bytes and SLIP. -/
theorem exec_boltAckReceive {k : Nat} (hoff : s.off = false)
    (htake : takeFirst (fun i => i.pkt.cls == 3 && i.pkt.type == 5 && true) s.core.resp.inbox = some (i, rest))
    (hr : s.req? i.pkt.tag = some r) (hs : r.state = .sent) (hkind : r.kind = .bolt) (hx : s.xferOf i.pkt.tag = some (k, x))
    (hphase : x.phase = .ackWait) (hf : x.fail = none) (ho : s.op? x.op = some o) (hd : o.done = none) (hcqe : dCqe o.desc = true)
    (hst : i.pkt.rspStatus = 0) :
    ∃ t r', exec .boltAckReceive s = .next t ∧ t.req? i.pkt.tag = none ∧ (t.qs o.queue).records = (s.qs o.queue).records ++ [r'] ∧
      r'.status = (if x.slip ≤ dSlack o.desc then 0x00 else 0x14) ∧ r'.result = i.pkt.fld 0x18 0 64 + x.slip % 2 ^ 32 * 2 ^ 64 := by
  obtain ⟨v, hv, hbody⟩ := State.withRsp_echoed (s := { s with out := [] }) boltAcked htake hr hs
  have hvx : v.xferOf i.pkt.tag = some (k, x) := by
    rw [State.xferOf, State.circuits, hv.core]
    exact hx
  obtain ⟨w, hw⟩ : ∃ w, w = v.xferOver k x := ⟨_, rfl⟩
  obtain ⟨hwoff, hfree, hops, hqueues⟩ := v.xferOver_spec k x
  rw [← hw] at hwoff hfree hops hqueues
  have hwo : w.op? x.op = some o := by rw [State.op?, hops, hv.core]; exact ho
  have hwq (q : Nat) : w.qs q = s.qs q := by rw [State.qs, hqueues, hv.core]; rfl
  have hacked : boltAckReceive { s with out := [] } = (w.countN (funcSlot o.func) 18 (i.pkt.fld 0x18 0 64)).endOp x.op
      (if x.slip ≤ dSlack o.desc then 0 else 0x14) 0 (i.pkt.fld 0x18 0 64 + x.slip % 2 ^ 32 * 2 ^ 64) 2 := by
    refine (boltAckReceive_eq _).trans (hbody.trans ?_)
    rw [boltAcked_waiting hkind hvx hphase, hst, ← hw, State.xferRecord_ok hwo hf]
  have g := State.endOp_recorded (s := w.countN (funcSlot o.func) 18 (i.pkt.fld 0x18 0 64)) (id := x.op)
    (status := if x.slip ≤ dSlack o.desc then 0 else 0x14) (detail := 0) (result := i.pkt.fld 0x18 0 64 + x.slip % 2 ^ 32 * 2 ^ 64)
    (stamp := 2) hwo hd fun _ => hcqe
  obtain ⟨t, ht, hcore, -, -⟩ := coreCmd_next boltAckReceive s _ hoff hacked
    ((State.off_eq_of g.build g.aon).trans (hwoff.trans ((State.off_eq_of hv.build hv.aon).trans hoff)))
  refine ⟨t, o.record x.op (if x.slip ≤ dSlack o.desc then 0 else 0x14) 0 (i.pkt.fld 0x18 0 64 + x.slip % 2 ^ 32 * 2 ^ 64) 2, ht, ?_, ?_,
    rfl, rfl⟩
  · rw [State.req?_congr (congrArg (·.rq.reqs) hcore), State.req?_congr (congrArg (·.rq.reqs) g.core), ← State.xferOf_tag hx]
    exact hfree
  · rw [State.qs_congr (congrArg (·.rq.queues) hcore), g.qs]
    exact congrArg (fun y : QState => y.records ++ _) (hwq o.queue)

end

/-- Settles O44, command by command. -/
theorem boltTransfers : Obligations.BoltTransfers := by
  unfold Obligations.BoltTransfers
  intro s hoff
  exact ⟨fun _ _ _ _ hr hno hlen hheld hn hc => exec_boltPut_queues hoff hr hno hlen hheld hn hc,
    fun _ _ _ _ hr hno hgo => exec_boltPut_refused hoff hr hno hgo,
    fun _ _ _ hfatal hiso hi htake => exec_scratchpadSlotOffer hfatal hiso hi htake,
    fun _ _ _ _ _ hi htake hx => ⟨exec_sspReadReturn_line hi htake hx, exec_sspReadReturn_error hi htake hx⟩,
    fun _ _ _ hc hrole hy => exec_boltReadTimeout hoff hc hrole hy,
    fun _ _ _ _ _ hc hx hr hend ho hd => exec_boltAckTimeout hoff hc hx hr hend ho hd,
    fun _ _ _ _ _ _ htake hr hs hkind hx hphase hf ho hd hcqe hst =>
      exec_boltAckReceive hoff htake hr hs hkind hx hphase hf ho hd hcqe hst⟩

end Sys2Proof.Machine

namespace Sys2Proof.Machine

/-! ## How a write or a latch leaves (R91, R267, R285, R295, R345) -/

section
variable {s : State} {n k : Nat} {r : Req} {c : Circuit} {o : Op}

/-- A request is charged to the rate cache and the injection bucket, outside a TDM pair. -/
def State.charge (s : State) (r : Req) : State :=
  let tdm := (s.tdmPair r.func r.node).isSome
  let s := if tdm ∨ r.kind = .jquery ∨ r.kind = .jservice then s else s.rateSpend r.func r.node r.cost
  if tdm then s else s.injSpend r.func r.cost

/-- A write or latch as it leaves: T and its deadline are taken, and a latch knows whether the target holds it. -/
def Req.leaving (r : Req) (s : State) (held : Bool) : Req :=
  { r with hdr := if r.kind = .latch then b2n held else r.hdr, tout := s.timeout r.func, dline := s.now + s.timeout r.func * usLsb }

/-- A request that may be counted takes its place among those of its queue, or goes uncounted (R91). -/
def State.place (s : State) (r : Req) : Req × State :=
  if r.kind.countable ∧ r.counted.isNone then
    if r.tries > 0 then ({ r with uncounted := true }, s.modQs r.queue (fun x => { x with uncounted := x.uncounted + 1 }))
    else match s.countWrite r.queue r.node with
      | (some c, s) => ({ r with counted := some c }, s)
      | (none, s) => ({ r with uncounted := true }, s)
  else (r, s)

/-- A write or latch is charged, takes its times and its place, and is handed on. -/
theorem State.sendReq_eq (hk : r.kind = .write ∨ r.kind = .latch) (n : Nat) (held : Bool) :
    s.sendReq n r held =
      let y := (s.charge r).place (r.leaving (s.charge r) held)
      y.2.handOver n y.1 (y.2.reqPacket n y.1 held) := by
  obtain ⟨kind⟩ := r
  dsimp only at hk
  rcases hk with rfl | rfl
  · rfl
  · rfl

/-- Charging changes the rate cache, which it leaves alone for a request in a TDM pair, and the injection bucket. -/
theorem State.charge_spec (s : State) (r : Req) :
    ∃ rates inj, s.charge r = { s with core.rq.rates := rates, core.rq.inj := inj } ∧
      ((s.tdmPair r.func r.node).isSome = true → rates = s.core.rq.rates) := by
  unfold State.charge
  dsimp only
  by_cases htdm : (s.tdmPair r.func r.node).isSome = true
  · rw [if_pos htdm, if_pos (.inl htdm)]
    exact ⟨_, _, rfl, fun _ => rfl⟩
  · rw [if_neg htdm]
    split <;> exact ⟨_, _, rfl, fun h => absurd h htdm⟩

/-- The latch table of one queue is all that counting a write changes. -/
theorem State.countWrite_setQs (s : State) (q node : Nat) : ∃ y, (s.countWrite q node).2 = s.setQs q y := by
  unfold State.countWrite
  dsimp only
  split
  · exact ⟨_, rfl⟩
  · split
    · exact ⟨_, rfl⟩
    · split <;> exact ⟨_, rfl⟩

/-- Taking a place changes the queues' latch tables, and of the request whether and where it is counted. -/
theorem State.place_spec (s : State) (r : Req) :
    ∃ counted uncounted queues, s.place r = ({ r with counted := counted, uncounted := uncounted }, { s with core.rq.queues := queues }) := by
  unfold State.place
  split
  · split
    · exact ⟨_, _, _, rfl⟩
    · obtain ⟨y, hy⟩ := s.countWrite_setQs r.queue r.node
      split <;>
      · rename_i heq
        rw [heq] at hy
        dsimp only at hy
        rw [hy]
        exact ⟨_, _, _, rfl⟩
  · exact ⟨_, _, _, rfl⟩

/-- A write or latch is handed on with its times, once the rate cache, the injection bucket and the latch tables have changed. -/
theorem State.sendReq_spec (hk : r.kind = .write ∨ r.kind = .latch) (n : Nat) (held : Bool) :
    ∃ rates inj queues counted uncounted,
      let v : State := { s with core.rq.rates := rates, core.rq.inj := inj, core.rq.queues := queues }
      let x : Req := { r.leaving s held with counted := counted, uncounted := uncounted }
      s.sendReq n r held = v.handOver n x (v.reqPacket n x held) ∧
        ((s.tdmPair r.func r.node).isSome = true → rates = s.core.rq.rates) := by
  obtain ⟨rates, inj, hcharge, hrates⟩ := s.charge_spec r
  obtain ⟨counted, uncounted, queues, hplace⟩ := (s.charge r).place_spec (r.leaving (s.charge r) held)
  refine ⟨rates, inj, queues, counted, uncounted, ?_, hrates⟩
  rw [State.sendReq_eq hk, hplace, hcharge]
  rfl

/-- Outside TDM pairs a write or latch goes to the router, with its times. -/
theorem State.sendReq_routed (hk : r.kind = .write ∨ r.kind = .latch) (hpair : s.tdmPair r.func r.node = none) (n : Nat) (held : Bool) :
    s.Sends (s.sendReq n r held) ∧ ∃ st counted uncounted, (st = .queued ∨ st = .sent) ∧
      (s.sendReq n r held).req? n = some { r.leaving s held with counted := counted, uncounted := uncounted, state := st } := by
  obtain ⟨rates, inj, queues, counted, uncounted, hsend, -⟩ := State.sendReq_spec (s := s) hk n held
  obtain ⟨v, hv⟩ : ∃ v : State, v = { s with core.rq.rates := rates, core.rq.inj := inj, core.rq.queues := queues } := ⟨_, rfl⟩
  rw [← hv] at hsend
  have hsends : s.Sends v := by
    rw [hv]
    exact ⟨rfl, rfl, rfl⟩
  have hvpair : v.tdmPair r.func r.node = none := by
    rw [hv]
    exact hpair
  obtain ⟨hhanded, st, hst, hreq, -⟩ := State.handOver_routed (s := v) (n := n)
    (r := { r.leaving s held with counted := counted, uncounted := uncounted }) (v.reqPacket n _ held) hvpair
  rw [hsend]
  exact ⟨hsends.trans hhanded, st, counted, uncounted, hst, hreq⟩

/-! ## Requests of a TDM pair (R267, R268) -/

theorem State.handOver_paired (p : Packet) (hpair : s.tdmPair r.func r.node = some (k, c)) :
    s.handOver n r p = (s.setReq n { r with state := .queued, tdm := some k }).setCircuit k { c with
      tdm := c.tdm ++ [⟨10, c.outPort, false, 0, some r.func, some n, (p.set 0x0C 18 8 c.outIndex).set 0x0C 26 1 1, 0⟩],
      pending_ := c.pending_ + 1 } := by
  simp only [State.handOver, hpair]

/-- The packet of a write carries its tag (R276). -/
theorem State.reqPacket_tag (hk : r.kind = .write) (n : Nat) (held : Bool) : (s.reqPacket n r held).tag = n % 2 ^ 18 := by
  simp only [State.reqPacket, hk]
  refine mkPacket_fld _ _ _ _ _ _ _ _ _ 0x0C 0 18 n ?_ (by simp [headFields]) (by decide)
  cases r.counted <;> simp [headFields, hf, bitsApart]

/-- CIRCUIT and TDM of a packet that enters a pair; its tag stays. -/
theorem Packet.enterPair (p : Packet) (index : Nat) :
    let q := (p.set 0x0C 18 8 index).set 0x0C 26 1 1
    q.tdm = true ∧ q.circuit = index % 2 ^ 8 ∧ q.tag = p.tag := by
  intro q
  refine ⟨?_, ?_, ?_⟩
  · exact beq_iff_eq.mpr (Packet.fld_set_self _ 0x0C 26 1 1 (by decide))
  · exact (Packet.fld_set_ne _ 0x0C 26 1 1 0x0C 18 8 (by decide) (by decide)).trans (Packet.fld_set_self _ 0x0C 18 8 _ (by decide))
  · exact (Packet.fld_set_ne _ 0x0C 26 1 1 0x0C 0 18 (by decide) (by decide)).trans
      (Packet.fld_set_ne _ 0x0C 18 8 _ 0x0C 0 18 (by decide) (by decide))

/-- A write of a function with an ACTIVE pair to its node waits for a slot of the pair: it takes no tokens, and the router does not see it. -/
theorem State.sendReq_paired (hk : r.kind = .write) (hpair : s.tdmPair r.func r.node = some (k, c)) (n : Nat) (held : Bool) :
    let u := s.sendReq n r held
    u.build = s.build ∧ u.aon = s.aon ∧ u.core.router = s.core.router ∧ u.core.rq.rates = s.core.rq.rates ∧
      (∃ x, u.req? n = some x ∧ x.state = .queued ∧ x.tdm = some k) ∧
      ∃ o, u.circuit? k = some { c with tdm := c.tdm ++ [o], pending_ := c.pending_ + 1 } ∧ o.pkt.tdm = true ∧
        o.pkt.circuit = c.outIndex % 2 ^ 8 ∧ o.pkt.tag = n % 2 ^ 18 := by
  intro u
  obtain ⟨rates, inj, queues, counted, uncounted, hsend, hrates⟩ := State.sendReq_spec (s := s) (.inl hk) n held
  obtain ⟨v, hv⟩ : ∃ v : State, v = { s with core.rq.rates := rates, core.rq.inj := inj, core.rq.queues := queues } := ⟨_, rfl⟩
  obtain ⟨x, hx⟩ : ∃ x : Req, x = { r.leaving s held with counted := counted, uncounted := uncounted } := ⟨_, rfl⟩
  rw [← hv, ← hx] at hsend
  have hvpair : v.tdmPair x.func x.node = some (k, c) := by
    rw [hv, hx]
    exact hpair
  have htag := State.reqPacket_tag (s := v) (r := x) (by rw [hx]; exact hk) n held
  have hu : u = _ := hsend.trans (State.handOver_paired _ hvpair)
  obtain ⟨htdm, hcircuit, hkept⟩ := (v.reqPacket n x held).enterPair c.outIndex
  rw [hu]
  refine ⟨?_, ?_, ?_, ?_, ⟨_, State.req?_setReq_self _ _ _, rfl, rfl⟩, _, SMap.get?_put_self _ _ _, htdm, hcircuit, hkept.trans htag⟩
  · exact (congrArg State.build hv :)
  · exact (congrArg State.aon hv :)
  · exact congrArg (·.core.router) hv
  · exact (congrArg (·.core.rq.rates) hv).trans (hrates (by rw [hpair]; rfl))

/-! ## What holds a request (R268, R354) -/

/-- A pair with room holds nothing back. -/
theorem State.reqHeld_paired (hpair : s.tdmPair r.func r.node = some (k, c)) (hroom : c.pending_ < 4 * c.pkts) : s.reqHeld r = .no := by
  simp only [State.reqHeld, hpair, ge_iff_le, Nat.not_le.mpr hroom, if_false]

/-- A write of a strict function without a pair to a node outside its package cannot leave. -/
theorem State.reqHeld_cut (hk : r.kind = .write) (hcut : s.strictCut r.func r.node = true) : s.reqHeld r = .cut := by
  simp only [State.strictCut, Bool.and_eq_true, Option.isNone_iff_eq_none] at hcut
  obtain ⟨hstrict, hpair⟩ := hcut
  simp [State.reqHeld, hpair, hstrict, hk]

/-! ## The end of a request leaves the router (R22, R354) -/

theorem State.writeEnded_router (s : State) (r : Req) (failed : Bool) : (s.writeEnded r failed).core.router = s.core.router := by
  unfold State.writeEnded
  dsimp only
  split <;> split <;> rfl

theorem State.opPacket_router (s : State) (r : Req) (status detail : Nat) : (s.opPacket r status detail).core.router = s.core.router := by
  unfold State.opPacket
  split <;> rfl

theorem State.reqEnd_router (htdm : r.tdm = none) (n : Nat) {status : Nat} (hst : status ≠ 0) (detail : Nat) :
    (s.reqEnd n r status detail).core.router = s.core.router := by
  have hend : s.reqEnd n r status detail = ((s.writeEnded r (status != 0)).freeTag n).opPacket r status detail := by
    simp only [State.reqEnd, State.tdmDone, htdm, hst, false_and, if_false]
  obtain ⟨-, reqs, work, hfree⟩ := (s.writeEnded r (status != 0)).freeTag_spec n
  rw [hend, State.opPacket_router, hfree]
  exact s.writeEnded_router r _

/-- A failure is kept by an operation without one. -/
theorem Op.afterPacket_firstFail (hff : o.firstFail = none) (r : Req) {status : Nat} (hst : status ≠ 0) (detail : Nat) :
    (o.afterPacket r status detail).firstFail = some (r.pkt, status, detail, r.failResult o.desc status) := by
  simp only [Op.afterPacket, if_neg hst, hff]

/-! ## The commands that send requests (R91, R276) -/

section
variable {q : QueueId}

/-- The queue's next ready request is a write that nothing holds. -/
theorem reqPacketSend_write (hhold : s.on R.GLOBAL_START_STATUS_HOLDING = false) (hfatal : s.fatal = false)
    (hnext : s.nextReady q.val = some (n, r)) (hk : r.kind = .write) (hfree : s.reqHeld r = .no) :
    reqPacketSend q s = s.sendReq n r false := by
  have hlatch : r.kind ≠ .latch := by simp [hk]
  simp only [reqPacketSend, hhold, hfatal, Bool.false_eq_true, or_self, if_false, hnext, hfree, hlatch]

/-- The queue's next ready request is cut off from its node. -/
theorem reqPacketSend_cut (hhold : s.on R.GLOBAL_START_STATUS_HOLDING = false) (hfatal : s.fatal = false)
    (hnext : s.nextReady q.val = some (n, r)) (hcut : s.reqHeld r = .cut) :
    reqPacketSend q s = s.reqEnd n r 0x11 (det 2 0x025) := by
  simp only [reqPacketSend, hhold, hfatal, Bool.false_eq_true, or_self, if_false, hnext, hcut]

/-- A latch that waits at the requester, and that nothing holds any more, leaves unheld. -/
theorem latchResend_free (hhold : s.on R.GLOBAL_START_STATUS_HOLDING = false) (hfatal : s.fatal = false)
    (hnext : s.nextHeld q.val = some (n, r)) (hcounted : (s.qs q.val).uncounted = 0) (hfree : s.reqHeld r = .no) :
    latchResend q s = s.sendReq n r false := by
  simp only [latchResend, hhold, hfatal, hcounted, Bool.false_eq_true, gt_iff_lt, Nat.lt_irrefl, or_self, if_false, hnext, hfree]

/-- While HOLDING is 1 no request leaves (R370). -/
theorem requests_hold (hhold : s.on R.GLOBAL_START_STATUS_HOLDING = true) : reqPacketSend q s = s ∧ latchResend q s = s := by
  refine ⟨if_pos (.inl hhold), ?_⟩
  unfold latchResend
  split
  · rfl
  · exact if_pos (.inl hhold)

/-- A command whose body sends a write or latch outside TDM pairs. -/
theorem coreCmd_sendReq {body : State → State} (hoff : s.off = false) (hk : r.kind = .write ∨ r.kind = .latch)
    (hpair : s.tdmPair r.func r.node = none)
    (hbody : body { s with out := [] } = ({ s with out := [] } : State).sendReq n r false) :
    ∃ t st counted uncounted, coreCmd body s = .next t ∧ (st = .queued ∨ st = .sent) ∧
      t.req? n = some { r.leaving s false with counted := counted, uncounted := uncounted, state := st } ∧
      t.core.rq.ops = s.core.rq.ops ∧ t.core.win = s.core.win ∧ t.core.jobs = s.core.jobs := by
  obtain ⟨hsends, st, counted, uncounted, hst, hreq⟩ := State.sendReq_routed (s := { s with out := [] }) hk hpair n false
  obtain ⟨t, ht, hcore, -⟩ := coreCmd_next body s _ hoff hbody ((State.off_eq_of hsends.build hsends.aon).trans hoff)
  rw [hsends.core] at hcore
  refine ⟨t, st, counted, uncounted, ht, hst, ?_, ?_, ?_, ?_⟩
  · rw [State.req?, hcore]
    exact hreq
  all_goals rw [hcore]

end

end

/-- Settles O19: a write that enters its pair, one that is cut off, one that the router takes, none under HOLDING, and a latch that waited. -/
theorem requestsLeave : Obligations.RequestsLeave := by
  intro s q hoff
  refine ⟨fun n r k c hhold hfatal hnext hk hpair hroom => ?_, fun n r o hhold hfatal hnext htdm hcut hk ho hff => ?_,
    fun n r hhold hfatal hnext hk hpair hstrict hrate hinj => ?_, fun c hc hhold => ?_,
    fun n r hhold hfatal hnext hk hcounted hpair hstrict hrate hinj => ?_⟩
  · obtain ⟨hb, ha, hrouter, hrates, ⟨x, hx, hst, hxtdm⟩, o, hcircuit, hotdm, hocircuit, hotag⟩ :=
      State.sendReq_paired (s := { s with out := [] }) hk hpair n false
    obtain ⟨t, ht, hcore, -⟩ := coreCmd_next (reqPacketSend q) s _ hoff
      (reqPacketSend_write (s := { s with out := [] }) hhold hfatal hnext hk (State.reqHeld_paired hpair hroom))
      ((State.off_eq_of hb ha).trans hoff)
    exact ⟨t, x, _, o, ht, (State.req?_congr (congrArg (·.rq.reqs) hcore) n).trans hx, hst, hxtdm,
      (State.circuit?_congr hcore k).trans hcircuit, rfl, rfl, hotdm, hocircuit, hotag, (congrArg (·.router) hcore).trans hrouter,
      (congrArg (·.rq.rates) hcore).trans hrates⟩
  · obtain ⟨hreq, hop, -, hb, ha, -⟩ := State.reqEnd_spec { s with out := [] } n r o ho 0x11 (det 2 0x025)
    have hrouter := State.reqEnd_router (s := { s with out := [] }) htdm n (status := 0x11) (by decide) (det 2 0x025)
    obtain ⟨t, ht, hcore, -⟩ := coreCmd_next (reqPacketSend q) s _ hoff
      (reqPacketSend_cut (s := { s with out := [] }) hhold hfatal hnext (State.reqHeld_cut hk hcut)) ((State.off_eq_of hb ha).trans hoff)
    refine ⟨t, _, ht, (State.req?_congr (congrArg (·.rq.reqs) hcore) n).trans hreq,
      (State.op?_congr (congrArg (·.rq.ops) hcore) _).trans hop, ?_, (congrArg (·.router) hcore).trans hrouter⟩
    rw [Op.afterPacket_firstFail hff r (by decide)]
    rfl
  · obtain ⟨t, st, counted, uncounted, ht, hst, hreq, hframe⟩ := coreCmd_sendReq hoff (.inl hk) hpair
      (reqPacketSend_write (s := { s with out := [] }) hhold hfatal hnext hk (State.reqHeld_no hpair hstrict (.inr hrate) hinj))
    exact ⟨t, _, ht, hreq, hst, rfl, rfl, rfl, rfl, hframe⟩
  · obtain ⟨hsend, hresend⟩ := requests_hold (s := { s with out := [] }) (q := q) hhold
    simp only [List.mem_cons, List.not_mem_nil, or_false] at hc
    rcases hc with rfl | rfl
    · exact coreCmd_still (body := reqPacketSend q) hoff hsend
    · exact coreCmd_still (body := latchResend q) hoff hresend
  · obtain ⟨t, st, counted, uncounted, ht, hst, hreq, hops, -⟩ := coreCmd_sendReq hoff (.inr hk) hpair
      (latchResend_free (s := { s with out := [] }) hhold hfatal hnext hcounted (State.reqHeld_no hpair hstrict (.inr hrate) hinj))
    exact ⟨t, _, ht, hreq, hst, if_pos hk, hops⟩

end Sys2Proof.Machine

namespace Sys2Proof.Machine

/-! ## What an output's arbitration picks (R290, R291) -/

/-- A fold that keeps one of two elements at each step ends with an element of its list. -/
theorem foldl_choice_mem {α : Type} {f : α → α → α} (hf : ∀ b a, f b a = b ∨ f b a = a) (x : α) (l : List α) : l.foldl f x ∈ x :: l :=
  List.foldlRecOn l f List.mem_cons_self fun b hb a ha => by
    rcases hf b a with h | h <;> rw [h]
    · exact hb
    · exact List.mem_cons_of_mem x ha

/-- An element that satisfies `p` is taken out of a list, or one before it is. -/
theorem takeFirst_of_mem {α : Type} {p : α → Bool} {l : List α} {x : α} (hx : x ∈ l) (hp : p x = true) :
    ∃ y rest, takeFirst p l = some (y, rest) ∧ rest.length + 1 = l.length := by
  induction l with
  | nil => simp at hx
  | cons a l ih =>
    by_cases ha : p a = true
    · exact ⟨a, l, by simp only [takeFirst, ha, if_true], rfl⟩
    · obtain ⟨y, rest, htake, hlen⟩ := ih ((List.mem_cons.mp hx).resolve_left fun h => ha (h ▸ hp))
      refine ⟨y, a :: rest, ?_, congrArg (· + 1) hlen⟩
      simp only [takeFirst, ha, htake, Bool.false_eq_true, if_false, Option.map_some]

section
variable {s t u : State} {o : OutPkt} {p : Nat}

theorem State.heads_subset (s : State) (p : Nat) (f : OutPkt → Bool) : s.heads p f ⊆ s.core.router.queued := by
  refine List.foldlRecOn (motive := fun acc => acc ⊆ s.core.router.queued) _ _ (List.nil_subset _) fun acc hacc o ho => ?_
  split
  · exact hacc
  · exact List.append_subset.mpr ⟨hacc, List.cons_subset.mpr ⟨List.mem_of_mem_filter ho, List.nil_subset _⟩⟩

/-- What a class is served from waits for an output. -/
theorem State.pickClass_mem {c : Nat} {f : OutPkt → Bool} (h : s.pickClass p c f = some o) : o ∈ s.core.router.queued := by
  refine s.heads_subset p (fun o => o.pkt.cls == c && f o && !s.barred o) ?_
  unfold State.pickClass at h
  dsimp only at h
  split at h
  · rename_i x l hentering
    split at h
    · rw [← Option.some.inj h]
      have hmem := foldl_choice_mem (f := fun b o : OutPkt => if b.wait < o.wait then o else b)
        (fun b a => (ite_eq_or_eq _ a b).symm) x l
      rw [← hentering] at hmem
      split at hmem
      · exact List.mem_of_mem_filter hmem
      · simp at hmem
    · simp at h
  · simp at h
  · rename_i x l _ hsendable
    rw [← Option.some.inj h]
    refine List.mem_of_mem_filter (p := s.sendable) ?_
    rw [hsendable]
    exact foldl_choice_mem (fun b a => (ite_eq_or_eq _ a b).symm) x l

/-- Deficit round robin does not look at what leaves at the ports. -/
theorem State.drr_out (l : List Output) (n turn deficit : Nat) (ws : List Nat) :
    ({ s with out := l } : State).drr p n turn deficit ws = s.drr p n turn deficit ws := by
  induction n generalizing turn deficit ws with
  | zero => rfl
  | succ n ih =>
    simp only [State.drr, ih]
    rfl

/-- An LCF goes before all other packets. -/
theorem packetSend_lcf {p : Port} (h : s.pickClass p.val 0 (fun o => o.pkt.type == 2) = some o) : packetSend p s = s.sendPacket o := by
  simp only [packetSend, h]

/-- Other link control goes before the other classes while CTL_CAP has room for it or none of them has a packet. -/
theorem packetSend_ctl {p : Port} (hlcf : s.pickClass p.val 0 (fun o => o.pkt.type == 2) = none)
    (h : s.pickClass p.val 0 (fun o => o.pkt.type != 2) = some o)
    (hcap : (s.flow p.val).ctlSent.length + o.pkt.flits ≤ s.ctlCap p.val ∨
      s.drr p.val 6 (s.flow p.val).turn (s.flow p.val).deficit (s.flow p.val).weights = none) : packetSend p s = s.sendPacket o := by
  simp only [packetSend, hlcf, h]
  cases hdrr : s.drr p.val 6 (s.flow p.val).turn (s.flow p.val).deficit (s.flow p.val).weights with
  | none => rfl
  | some x => exact if_pos (hcap.resolve_right (by simp [hdrr]))

/-- Past CTL_CAP, or without link control that can go, deficit round robin picks. -/
theorem packetSend_drr {p : Port} {turn deficit : Nat} {ws : List Nat} (hlcf : s.pickClass p.val 0 (fun o => o.pkt.type == 2) = none)
    (hcap : ∀ c, s.pickClass p.val 0 (fun o => o.pkt.type != 2) = some c → s.ctlCap p.val < (s.flow p.val).ctlSent.length + c.pkt.flits)
    (h : s.drr p.val 6 (s.flow p.val).turn (s.flow p.val).deficit (s.flow p.val).weights = some (o, turn, deficit, ws)) :
    packetSend p s = (s.sendPacket o).modFlow p.val (fun f => { f with turn := turn, deficit := deficit, weights := ws }) := by
  simp only [packetSend, hlcf, h]
  cases hctl : s.pickClass p.val 0 (fun o => o.pkt.type != 2) with
  | none => rfl
  | some c => exact if_neg (Nat.not_le.mpr (hcap c hctl))

/-! ## What an output leaves when it has sent a packet (R285) -/

@[simp] theorem State.flow_modFlow_self (s : State) (p : Nat) (g : Flow → Flow) : (s.modFlow p g).flow p = g (s.flow p) :=
  SMap.getD_putD_self _ _ _ _

theorem State.flow_modFlow_ne (s : State) (g : Flow → Flow) {k : Nat} (h : k ≠ p) : (s.modFlow p g).flow k = s.flow k :=
  SMap.getD_putD_ne _ _ _ _ _ _ h

@[simp] theorem State.link_modLink_self (s : State) (p : Nat) (g : Link → Link) : (s.modLink p g).link p = g (s.link p) :=
  SMap.getD_putD_self _ _ _ _

theorem State.link_modLink_ne (s : State) (g : Link → Link) {k : Nat} (h : k ≠ p) : (s.modLink p g).link k = s.link k :=
  SMap.getD_putD_ne _ _ _ _ _ _ h

/-- The flow state of a port that has sent a packet: its credits are taken. -/
def Flow.sends (f : Flow) (o : OutPkt) : Flow :=
  { f with
    txc := SMap.putD f.txc o.pkt.cls ((SMap.getD f.txc o.pkt.cls 0 + o.pkt.flits) % 2 ^ 16) 0,
    lastIn := SMap.put f.lastIn o.pkt.cls o.inPort,
    guard := if o.entry then f.guard.filter (· ≠ o.pkt.cls) else f.guard,
    ctlSent := if o.pkt.cls = 0 ∧ o.pkt.type ≠ 2 then f.ctlSent ++ List.replicate o.pkt.flits 0 else f.ctlSent }

@[simp] theorem Flow.sends_txc (f : Flow) (o : OutPkt) :
    SMap.getD (f.sends o).txc o.pkt.cls 0 = (SMap.getD f.txc o.pkt.cls 0 + o.pkt.flits) % 2 ^ 16 := SMap.getD_putD_self _ _ _ _

/-- A packet that is sent is counted, and its request's timer starts (R389, R409). -/
def State.tallySent (s : State) (o : OutPkt) : State :=
  let c := o.pkt.cls
  let s := s.countN o.port (13 + c) o.pkt.flits
  let s := if c = 0 ∧ o.pkt.type = 2 then s.count o.port 22 else s
  let s := s.startTimer o.tag
  match o.func, o.tag with
  | some f, some _ => if c = 1 then s.count (funcSlot f) 2 else s
  | _, _ => s

/-- A packet that is sent leaves its queue and takes its credits, and its flits wait for the port's frames. -/
theorem State.sendPacket_eq (s : State) (o : OutPkt) :
    ∃ rest, (o ∈ s.core.router.queued → rest.length + 1 = s.core.router.queued.length) ∧
      s.sendPacket o = ((({ s with core.router.queued := rest } : State).modFlow o.port (·.sends o)).tallySent o).modLink o.port
        (fun l => { l with tx := l.tx ++ txItems o }) := by
  cases htake : takeFirst (· == o) s.core.router.queued with
  | none =>
    refine ⟨s.core.router.queued, fun ho => ?_, by simp only [State.sendPacket, htake]; rfl⟩
    obtain ⟨y, rest, h, -⟩ := takeFirst_of_mem (p := (· == o)) ho (beq_self_eq_true o)
    simp [htake] at h
  | some x =>
    refine ⟨x.2, fun ho => ?_, by simp only [State.sendPacket, htake]; rfl⟩
    obtain ⟨y, rest, h, hlen⟩ := takeFirst_of_mem (p := (· == o)) ho (beq_self_eq_true o)
    rw [Option.some.inj (htake.symm.trans h)]
    exact hlen

/-- `t` is `s` but for counters and requests whose timers have started. -/
structure State.Tallied (s t : State) : Prop where
  build : t.build = s.build
  aon : t.aon = s.aon
  core : t.core = { s.core with rq.reqs := t.core.rq.reqs, cnt := t.core.cnt }

theorem State.Tallied.refl (s : State) : s.Tallied s := ⟨rfl, rfl, rfl⟩

theorem State.Tallied.trans (h : s.Tallied t) (g : t.Tallied u) : s.Tallied u :=
  ⟨g.build.trans h.build, g.aon.trans h.aon, g.core.trans (by rw [h.core])⟩

theorem State.Tallied.countN (h : s.Tallied t) (slot event n : Nat) : s.Tallied (t.countN slot event n) := h.trans ⟨rfl, rfl, rfl⟩

theorem State.Tallied.startTimer (h : s.Tallied t) (tag : Option Nat) : s.Tallied (t.startTimer tag) := by
  cases tag with
  | none => exact h
  | some n => exact h.trans ⟨rfl, rfl, rfl⟩

theorem State.Tallied.ite (c : Prop) [Decidable c] (h : s.Tallied t) (g : s.Tallied u) : s.Tallied (if c then t else u) := by
  split
  · exact h
  · exact g

theorem State.tallySent_tallied (s : State) (o : OutPkt) : s.Tallied (s.tallySent o) := by
  have hcounted := (State.Tallied.refl s).countN o.port (13 + o.pkt.cls) o.pkt.flits
  have htimed := (State.Tallied.ite (o.pkt.cls = 0 ∧ o.pkt.type = 2) (hcounted.countN o.port 22 1) hcounted).startTimer o.tag
  unfold State.tallySent
  dsimp only
  split
  · exact .ite _ (htimed.countN _ _ _) htimed
  · exact htimed

/-- `t` is `s` after an output has sent `o`, with the flow state `f` at its port. -/
structure State.Outputs (s t : State) (o : OutPkt) (f : Flow) : Prop where
  aon : t.aon = s.aon
  rd : ∀ g, t.rd g = s.rd g
  core : t.core = { s.core with
    rq.reqs := t.core.rq.reqs, router.queued := t.core.router.queued, router.flow := t.core.router.flow, links := t.core.links,
    cnt := t.core.cnt }
  tx : (t.link o.port).tx = (s.link o.port).tx ++ txItems o
  flow : t.flow o.port = f
  queued : o ∈ s.core.router.queued → t.core.router.queued.length + 1 = s.core.router.queued.length

theorem State.sendPacket_outputs (s : State) (o : OutPkt) : s.Outputs (s.sendPacket o) o ((s.flow o.port).sends o) := by
  obtain ⟨rest, hlen, hsend⟩ := s.sendPacket_eq o
  obtain ⟨w, hw⟩ : ∃ w, w = ({ s with core.router.queued := rest } : State).modFlow o.port (·.sends o) := ⟨_, rfl⟩
  rw [← hw] at hsend
  have h := w.tallySent_tallied o
  have hcore : (s.sendPacket o).core = { w.core with
      rq.reqs := (w.tallySent o).core.rq.reqs, cnt := (w.tallySent o).core.cnt, links := (s.sendPacket o).core.links } := by
    rw [hsend, State.modLink, State.setLink, h.core]
  have haon : (s.sendPacket o).aon = s.aon := by
    rw [hsend]
    exact h.aon.trans (by rw [hw]; rfl)
  have hlink : (w.tallySent o).link o.port = s.link o.port := by
    rw [State.link, h.core, hw]
    rfl
  have hflow : (s.sendPacket o).flow o.port = w.flow o.port := by rw [State.flow, hcore, State.flow]
  refine ⟨haon, fun g => ?_, ?_, ?_, ?_, fun ho => ?_⟩
  · refine State.rd_congr _ _ g ?_ (congrArg Aon.regs haon) (by rw [hcore, hw]; rfl)
    rw [hsend]
    exact h.build.trans (by rw [hw]; rfl)
  · rw [hcore, hw]
    rfl
  · rw [hsend, State.link_modLink_self, hlink]
  · rw [hflow, hw]
    exact State.flow_modFlow_self _ _ _
  · rw [hcore, hw]
    exact hlen ho

theorem State.Outputs.modFlow {f : Flow} (h : s.Outputs t o f) (g : Flow → Flow) : s.Outputs (t.modFlow o.port g) o (g f) where
  aon := h.aon
  rd := h.rd
  core := by
    have hcore := h.core
    rw [State.modFlow, State.setFlow, hcore]
  tx := h.tx
  flow := by rw [State.flow_modFlow_self, h.flow]
  queued := h.queued

/-- An output that serves a packet has sent it. -/
theorem exec_packetSend {p : Port} {f : Flow} (hoff : s.off = false) (hb : packetSend p { s with out := [] } = u)
    (hu : ({ s with out := [] } : State).Outputs u o f) : ∃ t, exec (.packetSend p) s = .next t ∧ s.Outputs t o f := by
  have huoff : u.off = false := (congrArg (· == 0) (hu.rd R.GLOBAL_START_STATUS_STATE)).trans hoff
  obtain ⟨t, ht, hcore, haon, hrd⟩ := coreCmd_next (packetSend p) s u hoff hb huoff
  refine ⟨t, ht, haon.trans hu.aon, fun g => (hrd g).trans (hu.rd g), ?_, ?_, ?_, ?_⟩
  · rw [hcore]
    exact hu.core
  · rw [State.link, hcore]
    exact hu.tx
  · rw [State.flow, hcore]
    exact hu.flow
  · rw [hcore]
    exact hu.queued

/-! ## Link control flits and ring entries (R286, R291) -/

/-- A port in service sends its cumulative counts. -/
theorem exec_lcfSend {p : Port} (hoff : s.off = false) (hready : s.portReady p.val = true) :
    ∃ t, exec (.lcfSend p) s = .next t ∧ (t.link p.val).tx = (s.link p.val).tx ++ [⟨2, s.lcfFlit p.val, none, 0⟩] ∧ t.aon = s.aon ∧
      t.core = { s.core with links := t.core.links } ∧ ∀ k, k ≠ p.val → t.link k = s.link k := by
  obtain ⟨t, ht, hcore, haon, -⟩ := coreCmd_next (lcfSend p) s _ hoff (if_pos hready) hoff
  have hlink (k : Nat) : t.link k = (s.modLink p.val (fun l => { l with tx := l.tx ++ [⟨2, s.lcfFlit p.val, none, 0⟩] })).link k := by
    rw [State.link, hcore]
    rfl
  refine ⟨t, ht, ?_, haon, by rw [hcore]; rfl, fun k hk => (hlink k).trans (State.link_modLink_ne _ _ hk)⟩
  rw [hlink, State.link_modLink_self]

/-- A ring entry that has waited raises its guard and is counted. -/
theorem exec_ringEntryGuard {p : Port} {vc : Fin 5} (hoff : s.off = false)
    (hwait : s.core.router.queued.any (fun o => o.port == p.val && o.entry && o.pkt.cls == vc.val) = true)
    (hguard : (s.flow p.val).guard.contains vc.val = false) :
    ∃ t, exec (.ringEntryGuard p vc) s = .next t ∧ (t.flow p.val).guard = (s.flow p.val).guard ++ [vc.val] ∧
      t.rd (R.ROUTE_TELEM_GUARD_COUNT p.val) = (s.rd (R.ROUTE_TELEM_GUARD_COUNT p.val) + 1) % 2 ^ 32 ∧
      s.SameBut t [R.ROUTE_TELEM_GUARD_COUNT p.val] ∧ s.SameAon t ∧
      t.core = { s.core with regs := t.core.regs, router := t.core.router } ∧ t.core.router.queued = s.core.router.queued ∧
      ∀ k, k ≠ p.val → t.flow k = s.flow k := by
  obtain ⟨w, hw⟩ : ∃ w, w = ({ s with out := [] } : State).modFlow p.val (fun f => { f with guard := f.guard ++ [vc.val] }) := ⟨_, rfl⟩
  have hbody : ringEntryGuard p vc { s with out := [] } =
      w.wr (R.ROUTE_TELEM_GUARD_COUNT p.val) (s.rd (R.ROUTE_TELEM_GUARD_COUNT p.val) + 1) := by
    rw [hw]
    exact if_pos ⟨hwait, by rw [show State.flow { s with out := [] } p.val = s.flow p.val from rfl, hguard]; decide⟩
  have hwrote := (State.Wrote.refl w [R.ROUTE_TELEM_GUARD_COUNT p.val]).wr (R.ROUTE_TELEM_GUARD_COUNT p.val)
    (s.rd (R.ROUTE_TELEM_GUARD_COUNT p.val) + 1) (by simp) rfl
  have hcount := State.rd_wr_self w (R.ROUTE_TELEM_GUARD_COUNT p.val) (s.rd (R.ROUTE_TELEM_GUARD_COUNT p.val) + 1) (Nat.le_refl 32)
  obtain ⟨t, ht, hcore, haon, hrd⟩ := coreCmd_next (ringEntryGuard p vc) s _ hoff hbody (hwrote.off.trans (by rw [hw]; exact hoff))
  have hflow (k : Nat) : t.flow k = w.flow k := by rw [State.flow, hcore, hwrote.core, State.flow]
  refine ⟨t, ht, ?_, (hrd _).trans hcount, fun f hf => (hrd f).trans ((hwrote.rd f hf).trans (by rw [hw]; rfl)), ?_, ?_, ?_, fun k hk => ?_⟩
  · rw [hflow, hw, State.flow_modFlow_self]
    rfl
  · rw [State.SameAon, haon, hwrote.aon, hw]
    rfl
  · rw [hcore, hwrote.core, hw]
    rfl
  · rw [hcore, hwrote.core, hw]
    rfl
  · rw [hflow, hw, State.flow_modFlow_ne _ _ hk]
    rfl

end

/-- Settles O23: the LCF, the link control and the round robin packet that an output sends, the LCF of a port in service, and a guard that
is raised. -/
theorem portsSend : Obligations.PortsSend := by
  intro s p hoff
  refine ⟨fun o hlcf hport hcls => ?_, fun o hlcf hctl hport hcls hcap => ?_, fun o turn deficit ws hlcf hcap hdrr hport => ?_,
    exec_lcfSend hoff, fun vc => exec_ringEntryGuard hoff⟩
  · obtain ⟨t, ht, h⟩ := exec_packetSend (f := (s.flow o.port).sends o) hoff (packetSend_lcf (s := { s with out := [] }) hlcf)
      (State.sendPacket_outputs _ o)
    have htxc := (congrArg (fun f => SMap.getD f.txc o.pkt.cls 0) h.flow).trans (Flow.sends_txc _ o)
    rw [hcls] at htxc
    rw [← hport]
    exact ⟨t, ht, h.tx, htxc, h.queued (State.pickClass_mem hlcf), congrArg (·.rq.ops) h.core, h.aon, congrArg (·.regs) h.core⟩
  · rw [← State.drr_out []] at hcap
    obtain ⟨t, ht, h⟩ := exec_packetSend (f := (s.flow o.port).sends o) hoff
      (packetSend_ctl (s := { s with out := [] }) hlcf hctl hcap) (State.sendPacket_outputs _ o)
    have htxc := (congrArg (fun f => SMap.getD f.txc o.pkt.cls 0) h.flow).trans (Flow.sends_txc _ o)
    rw [hcls] at htxc
    rw [← hport]
    exact ⟨t, ht, h.tx, htxc, (congrArg Flow.turn h.flow :), (congrArg Flow.deficit h.flow :), congrArg (·.rq.ops) h.core, h.aon,
      congrArg (·.regs) h.core⟩
  · have hbody := packetSend_drr (s := { s with out := [] }) hlcf hcap ((State.drr_out _ _ _ _ _).trans hdrr)
    rw [← hport] at hbody ⊢
    obtain ⟨t, ht, h⟩ := exec_packetSend
      (f := { (s.flow o.port).sends o with turn := turn, deficit := deficit, weights := ws }) hoff hbody
      ((State.sendPacket_outputs _ o).modFlow _)
    exact ⟨t, ht, h.tx, congrArg Flow.turn h.flow, congrArg Flow.deficit h.flow, congrArg Flow.weights h.flow,
      (congrArg (fun f => SMap.getD f.txc o.pkt.cls 0) h.flow).trans (Flow.sends_txc _ o), (congrArg Flow.rx h.flow :),
      congrArg (·.resp) h.core, congrArg (·.rq.ops) h.core, h.aon, congrArg (·.regs) h.core⟩

end Sys2Proof.Machine

namespace Sys2Proof.Machine

/-! ## Routing a packet keeps the active set (R305, R306, R308) -/

/-- `t` is `s` but for what routing packets changes: queues, the local units' store, timers, frames, errors, counters and traces. The
active set stays. -/
structure State.Routed (s t : State) : Prop where
  build : t.build = s.build
  aon : t.aon = s.aon
  core : t.core = { s.core with
    regs := t.core.regs, rq.reqs := t.core.rq.reqs, router := t.core.router, links := t.core.links, err := t.core.err,
    trace := t.core.trace, cnt := t.core.cnt, resp.inbox := t.core.resp.inbox }
  active : t.core.router.active = s.core.router.active
  rd : ∀ f : Fld, f.addr < 0x160000 → f.untallied → t.rd f = s.rd f

section
variable {s t u : State}

theorem State.Routed.refl (s : State) : s.Routed s := ⟨rfl, rfl, rfl, rfl, fun _ _ _ => rfl⟩

theorem State.Routed.trans (h : s.Routed t) (g : t.Routed u) : s.Routed u where
  build := g.build.trans h.build
  aon := g.aon.trans h.aon
  core := g.core.trans (by rw [h.core])
  active := g.active.trans h.active
  rd := fun f hf hu => (g.rd f hf hu).trans (h.rd f hf hu)

theorem State.Routed.ite (c : Prop) [Decidable c] (h : s.Routed t) (g : s.Routed u) : s.Routed (if c then t else u) := by
  split
  · exact h
  · exact g

theorem State.Routed.foldl {α : Type} {f : State → α → State} (hf : ∀ (u : State) (x : α), u.Routed (f u x)) (h : s.Routed t)
    (l : List α) : s.Routed (l.foldl f t) :=
  List.foldlRecOn l f h fun _ hv x _ => hv.trans (hf _ x)

theorem State.Routed.off (h : s.Routed t) : t.off = s.off := State.off_eq_of h.build h.aon

theorem State.Routed.bolts (h : s.Routed t) : t.core.bolts = s.core.bolts := congrArg (·.bolts) h.core

theorem State.Routed.rates (h : s.Routed t) : t.core.rq.rates = s.core.rq.rates := congrArg (·.rq.rates) h.core

theorem State.Sent.routed (h : s.Sent t) (hactive : t.core.router.active = s.core.router.active) : s.Routed t :=
  ⟨h.build, h.aon, by rw [h.core], hactive, fun f _ hu => h.rd f hu⟩

theorem State.Traced.routed (h : s.Traced t) : s.Routed t :=
  ⟨h.build, h.aon, by rw [h.core], h.sameRoutes.active, fun f hf _ => h.sameRoutes.rd f hf⟩

theorem State.startTimer_routed (s : State) (tag : Option Nat) : s.Routed (s.startTimer tag) := by
  cases tag <;> exact ⟨rfl, rfl, rfl, rfl, fun _ _ _ => rfl⟩

theorem State.enqueue_routed (s : State) (o : OutPkt) : s.Routed (s.enqueue o) := by
  refine (s.enqueue_sent o).routed ?_
  unfold State.enqueue
  dsimp only
  split <;> rfl

theorem State.sendPort_routed (s : State) (p : Nat) (k : Packet) : s.Routed (s.sendPort p k) :=
  .ite _ (s.enqueue_routed _) (.ite _ ⟨rfl, rfl, rfl, rfl, fun _ _ _ => rfl⟩ (.refl s))

/-- A discarded packet starts its request's timer and is discarded as one without a tag (R306, R389). -/
theorem State.discardFor_tag (s : State) (inPort port : Nat) (tag : Option Nat) (dest : Nat) :
    s.discardFor inPort port tag dest = (s.startTimer tag).discardFor inPort port none dest := by
  by_cases hport : port < 10
  · simp only [State.discardFor, if_pos hport]
    cases tag <;> rfl
  · simp only [State.discardFor, if_neg hport]
    rfl

theorem State.discardFor_routed (s : State) (inPort port : Nat) (tag : Option Nat) (dest : Nat) :
    s.Routed (s.discardFor inPort port tag dest) := by
  rw [State.discardFor_tag]
  exact (s.startTimer_routed tag).trans
    ((State.discardFor_sent _ inPort port dest).routed (congrArg (·.active) (State.discardFor_router _ inPort port dest)))

/-- A packet for the local units starts its request's timer and may be traced (R305, R389). -/
theorem State.routePacket_deliver {inPort : Nat} {p : Packet} (h : s.routeOf inPort p.dest = .deliver) (stamp : Nat) (func tag : Option Nat) :
    ∃ v, (s.startTimer tag).Traced v ∧ s.routePacket inPort stamp func tag p = v.deliver ⟨inPort, stamp, p⟩ := by
  have hstart := State.Traced.refl (s.startTimer tag)
  simp only [State.routePacket, h]
  split
  case h_1 f _ =>
    exact ⟨_, (State.Traced.ite (p.cls = 1) (hstart.count (funcSlot f) 2) hstart).tracePkt _ _ _ _ _ _ _ _, rfl⟩
  case h_2 => exact ⟨_, hstart, rfl⟩

theorem State.deliver_routed (s : State) (i : InPkt) : s.Routed (s.deliver i) := ⟨rfl, rfl, rfl, rfl, fun _ _ _ => rfl⟩

theorem State.routePacket_routed (s : State) (inPort stamp : Nat) (func tag : Option Nat) (p : Packet) :
    s.Routed (s.routePacket inPort stamp func tag p) := by
  cases h : s.routeOf inPort p.dest with
  | deliver =>
    obtain ⟨v, hv, hroute⟩ := State.routePacket_deliver h stamp func tag
    rw [hroute]
    exact ((s.startTimer_routed tag).trans hv.routed).trans (v.deliver_routed _)
  | out port entry =>
    simp only [State.routePacket, h]
    exact s.enqueue_routed _
  | discard port =>
    simp only [State.routePacket, h]
    exact s.discardFor_routed _ _ _ _

theorem State.rerouteHeld_routed (s : State) : s.Routed s.rerouteHeld := by
  have hqueued (l : List OutPkt) : s.Routed { s with core.router.queued := l } := ⟨rfl, rfl, rfl, rfl, fun _ _ _ => rfl⟩
  unfold State.rerouteHeld
  exact .foldl (fun u (o : OutPkt) => u.routePacket_routed o.inPort o.stamp o.func o.tag o.pkt) (hqueued _) _

end

end Sys2Proof.Machine

namespace Sys2Proof.Machine

/-! ## COMMIT in DRAINED (R309) -/

section
variable {s : State}

/-- A port whose row of R304 has changed has received no ANNOUNCE under the new row. -/
theorem State.forgetAnn_routed (s : State) (p : Nat) : s.Routed (s.modFlow p fun f => { f with ann := none }) :=
  ⟨rfl, rfl, rfl, rfl, fun _ _ _ => rfl⟩

/-- The state with an active set. -/
def State.setActive (s : State) (a : RouteSet) : State := { s with core.router.active := a }

theorem State.setActive_rd (s : State) (a : RouteSet) (f : Fld) : (s.setActive a).rd f = s.rd f := State.rd_congr _ _ _ rfl rfl rfl

theorem State.setActive_off (s : State) (a : RouteSet) : (s.setActive a).off = s.off := State.off_eq_of rfl rfl

theorem State.setActive_bolts (s : State) (a : RouteSet) : (s.setActive a).core.bolts = s.core.bolts := rfl

theorem State.setActive_rates (s : State) (a : RouteSet) : (s.setActive a).core.rq.rates = s.core.rq.rates := rfl

/-- A COMMIT loads the active set and forgets announcements, writes EPOCH and STATE, and routes packets. -/
theorem State.routeCommit_parts (s : State) :
    ∃ v, (s.setActive s.shadow).Routed v ∧
      ((v.wr R.ROUTE_STATUS_EPOCH (v.rd R.ROUTE_STATUS_EPOCH + 1)).wr R.ROUTE_STATUS_STATE 0).Routed s.routeCommit := by
  have hsix := State.Routed.ite (s.auxRow 6 ≠ (s.setActive s.shadow).auxRow 6) ((s.setActive s.shadow).forgetAnn_routed 6) (.refl _)
  exact ⟨_, hsix.trans (.ite _ (State.forgetAnn_routed _ 7) (.refl _)),
    (State.Routed.foldl (fun u p => u.sendPort_routed p (u.announcePkt p)) (.refl _) _).trans (State.rerouteHeld_routed _)⟩

/-- The state in which every group probes again (R174). -/
def State.reprobe (s : State) : State :=
  { s with core.col.groups := s.core.col.groups.map (fun e => (e.1, { e.2 with probed := false, paths := [] })) }

theorem State.reprobe_rd (s : State) (f : Fld) : s.reprobe.rd f = s.rd f := State.rd_congr _ _ _ rfl rfl rfl

theorem State.reprobe_off (s : State) : s.reprobe.off = s.off := State.off_eq_of rfl rfl

theorem State.reprobe_groups (s : State) : ∀ g ∈ s.reprobe.core.col.groups, g.2.probed = false ∧ g.2.paths = [] :=
  List.forall_mem_map.mpr fun _ _ => ⟨rfl, rfl⟩

/-- What a COMMIT in DRAINED leaves (R174, R309). -/
structure State.Committed (s t : State) : Prop where
  state : t.rd R.ROUTE_STATUS_STATE = 0
  epoch : t.rd R.ROUTE_STATUS_EPOCH = (s.rd R.ROUTE_STATUS_EPOCH + 1) % 2 ^ 16
  active : t.core.router.active = s.shadow
  groups : ∀ g ∈ t.core.col.groups, g.2.probed = false ∧ g.2.paths = []
  bolts : t.core.bolts = s.core.bolts
  rates : t.core.rq.rates = s.core.rq.rates

/-- A COMMIT writes STATE and EPOCH, and what it sends keeps both, the active set, the circuits and the rate cache. -/
theorem State.reprobe_committed (s : State) : s.Committed s.routeCommit.reprobe ∧ s.routeCommit.reprobe.off = s.off := by
  obtain ⟨v, hv, hrouted⟩ := s.routeCommit_parts
  have hepoch : v.rd R.ROUTE_STATUS_EPOCH = s.rd R.ROUTE_STATUS_EPOCH :=
    (hv.rd _ (by decide) (by decide)).trans (s.setActive_rd _ _)
  have hw := ((State.Wrote.refl v [R.ROUTE_STATUS_EPOCH, R.ROUTE_STATUS_STATE]).wr R.ROUTE_STATUS_EPOCH
    (v.rd R.ROUTE_STATUS_EPOCH + 1) (by simp) rfl).wr R.ROUTE_STATUS_STATE 0 (by simp) rfl
  refine ⟨⟨?_, ?_, ?_, State.reprobe_groups _, ?_, ?_⟩, ?_⟩
  · rw [State.reprobe_rd, hrouted.rd _ (by decide) (by decide)]
    exact State.rd_wr_self _ _ _ (by decide)
  · rw [State.reprobe_rd, hrouted.rd _ (by decide) (by decide), State.rd_wr_ne _ _ _ _ (.inr (.inr (.inl (by decide)))), ← hepoch]
    exact State.rd_wr_self _ _ _ (by decide)
  · exact hrouted.active.trans ((congrArg (·.router.active) hw.core).trans hv.active)
  · exact hrouted.bolts.trans ((congrArg (·.bolts) hw.core).trans (hv.bolts.trans (s.setActive_bolts _)))
  · exact hrouted.rates.trans ((congrArg (·.rq.rates) hw.core).trans (hv.rates.trans (s.setActive_rates _)))
  · rw [State.reprobe_off, hrouted.off, hw.off, hv.off, State.setActive_off]

theorem exec_routeCommit_drained (hoff : s.off = false) (hstate : s.rd R.ROUTE_STATUS_STATE = 2) :
    ∃ t, exec .routeCommit s = .next t ∧ s.Committed t := by
  have hbody : routeCommitCmd { s with out := [] } = _ := if_neg (not_not.mpr hstate)
  obtain ⟨h, hbodyoff⟩ := State.reprobe_committed { s with out := [] }
  obtain ⟨t, ht, hcore, -, hrd⟩ := coreCmd_next routeCommitCmd s _ hoff hbody (hbodyoff.trans hoff)
  have hout : ({ s with out := [] } : State).rd R.ROUTE_STATUS_EPOCH = s.rd R.ROUTE_STATUS_EPOCH := State.rd_congr _ _ _ rfl rfl rfl
  refine ⟨t, ht, (hrd _).trans h.state, (hrd _).trans (by rw [← hout]; exact h.epoch), ?_, ?_, ?_, ?_⟩
  · exact (congrArg (·.router.active) hcore).trans h.active
  · rw [hcore]
    exact h.groups
  · exact (congrArg (·.bolts) hcore).trans h.bolts
  · exact (congrArg (·.rq.rates) hcore).trans h.rates

end

end Sys2Proof.Machine

namespace Sys2Proof.Machine

/-! ## CLEAR_PEAKS (R311) -/

section
variable {s : State}

/-- The peaks of the ports. -/
def peakFields : List Fld := (List.range 10).map fun p => R.ROUTE_TELEM_PEAK_FLITS p

theorem peakFields_apart : peakFields.Pairwise Fld.apart := by
  refine List.pairwise_map.mpr (List.nodup_range.imp fun {p q} hpq => .inr (.inl ?_))
  simp only [R.ROUTE_TELEM_PEAK_FLITS]
  omega

theorem peakFields_inWord : ∀ f ∈ peakFields, f.lo + f.width ≤ 32 ∧ f.aon = false := by
  simp [peakFields, R.ROUTE_TELEM_PEAK_FLITS]

theorem getField_zero (lo w : Nat) : getField 0 lo w = 0 := by
  simp [getField]

theorem clearPeaks_eq (s : State) : clearPeaks s = s.wrFields 0 peakFields := by
  simp only [clearPeaks, State.wrFields, peakFields, List.foldl_map, getField_zero]

theorem exec_clearPeaks (hoff : s.off = false) :
    ∃ t, exec .clearPeaks s = .next t ∧ (∀ f ∈ peakFields, t.rd f = 0) ∧ s.SameBut t peakFields ∧ s.SameAon t ∧ s.SameCore t := by
  obtain ⟨hbut, haon, hcore, hoff'⟩ := State.wrFields_frame 0 peakFields peakFields { s with out := [] } { s with out := [] }
    (fun f hf => ⟨hf, (peakFields_inWord f hf).2⟩) (.refl _ _) (.refl _) (.refl _)
  obtain ⟨t, ht, hrd, hframe⟩ := coreCmd_writes hoff (clearPeaks_eq _) (hoff'.trans hoff) hbut haon hcore
  refine ⟨t, ht, fun f hf => (hrd f).trans ?_, hframe⟩
  rw [State.wrFields_rd 0 peakFields _ peakFields_apart (fun g hg => (peakFields_inWord g hg).1) f hf, getField_zero]

/-! ## ANNOUNCE arrives (R304) -/

/-- An ANNOUNCE is judged by what R304 expects at the port it came by (log entry 25). -/
theorem announceArrival_eq {i : InPkt} {rest : List InPkt}
    (htake : takeFirst (fun i => i.pkt.cls == 0 && i.pkt.type == 6 && true) s.core.resp.inbox = some (i, rest))
    (hsub : i.pkt.fld 0x10 0 4 = 0) :
    announceArrival { s with out := [] } = (s.taken rest).modFlow i.port fun f => { f with ann := some (s.announceOk i.port i.pkt) } := by
  have hwith := State.withPkt_some (s := { s with out := [] }) (g := fun _ => true) (fun i s =>
    if i.pkt.fld 0x10 0 4 ≠ 0 then s else s.modFlow i.port (fun f => { f with ann := some (s.announceOk i.port i.pkt) })) htake
  exact hwith.trans (if_neg (not_not.mpr hsub))

/-- An ANNOUNCE leaves its mark at the port it came by and nothing else (R304). -/
theorem exec_announceArrival {i : InPkt} {rest : List InPkt} (hoff : s.off = false)
    (htake : takeFirst (fun i => i.pkt.cls == 0 && i.pkt.type == 6 && true) s.core.resp.inbox = some (i, rest))
    (hsub : i.pkt.fld 0x10 0 4 = 0) :
    ∃ t, exec .announceArrival s = .next t ∧ (t.flow i.port).ann = some (s.announceOk i.port i.pkt) ∧ t.core.resp.inbox = rest ∧
      t.aon = s.aon ∧ t.core.regs = s.core.regs ∧ t.core.rq = s.core.rq ∧ ∀ k, k ≠ i.port → t.flow k = s.flow k := by
  obtain ⟨t, ht, hcore, haon, -⟩ := coreCmd_next announceArrival s _ hoff (announceArrival_eq htake hsub) hoff
  have hflow (k : Nat) : t.flow k = ((s.taken rest).modFlow i.port fun f => { f with ann := some (s.announceOk i.port i.pkt) }).flow k := by
    rw [State.flow, hcore, State.flow]
  refine ⟨t, ht, ?_, congrArg (·.resp.inbox) hcore, haon, congrArg (·.regs) hcore, congrArg (·.rq) hcore, fun k hk => ?_⟩
  · rw [hflow, State.flow_modFlow_self]
  · exact (hflow k).trans (State.flow_modFlow_ne _ _ hk)

/-! ## A recovery interval of the rate cache (R294) -/

section
variable {f : FuncId} {n : BitVec 20} {e : RateEntry}

theorem exec_rateRecovery (hoff : s.off = false) :
    ∃ t, exec (.rateRecovery f n) s = .next t ∧ t.core = (rateRecovery f n s).core ∧ t.aon = s.aon := by
  obtain ⟨t, ht, hcore, haon, -⟩ := coreCmd_next (rateRecovery f n) s _ hoff rfl hoff
  exact ⟨t, ht, hcore, haon⟩

/-- An entry below 1,024 after its INCR stays with the raised rate. -/
theorem rateRecovery_raises (he : e ∈ s.core.rq.rates) (hfunc : e.func = f.val) (hnode : e.node = n.toNat)
    (hrate : e.rate + s.rd R.RATE_CURVE_INCR < 1024) :
    { e with rate := e.rate + s.rd R.RATE_CURVE_INCR } ∈ (rateRecovery f n s).core.rq.rates := by
  refine List.mem_filterMap.mpr ⟨e, he, ?_⟩
  rw [if_pos ⟨hfunc, hnode⟩]
  exact if_neg (Nat.not_le.mpr hrate)

/-- The entries of other functions and nodes stay. -/
theorem rateRecovery_keeps (he : e ∈ s.core.rq.rates) (hother : e.func ≠ f.val ∨ e.node ≠ n.toNat) :
    e ∈ (rateRecovery f n s).core.rq.rates :=
  List.mem_filterMap.mpr ⟨e, he, if_neg (not_and_or.mpr hother)⟩

/-- An entry that reaches 1,024 is gone. -/
theorem rateRecovery_frees (hrates : ∀ e ∈ s.core.rq.rates, e.func = f.val → e.node = n.toNat → 1024 ≤ e.rate + s.rd R.RATE_CURVE_INCR) :
    (rateRecovery f n s).rateEntry f.val n.toNat = none := by
  refine List.find?_eq_none.mpr fun x hx hmatch => ?_
  simp only [Bool.and_eq_true, beq_iff_eq] at hmatch
  obtain ⟨e, he, hex⟩ := List.mem_filterMap.mp hx
  by_cases hown : e.func = f.val ∧ e.node = n.toNat
  · rw [if_pos hown] at hex
    dsimp only at hex
    rw [if_pos (hrates e he hown.1 hown.2)] at hex
    cases hex
  · rw [if_neg hown] at hex
    obtain rfl := Option.some.inj hex
    exact hown hmatch

end

end

/-- Settles O24: the route state's commands, a COMMIT, the peaks, an ANNOUNCE by what R304 expects, and the rate entries of a recovery
interval. -/
theorem routeCommands : Obligations.RouteCommands := by
  refine ⟨fun s hoff => ⟨fun h => ?_, fun h => ?_, fun h => ?_, ?_, fun h => ?_, fun h => ?_, ?_⟩,
    fun s hoff => ⟨fun i rest htake hsub => ?_, fun f n e he hfunc hnode hrate => ?_, fun f n hrates => ?_⟩⟩
  · exact coreCmd_wr (body := routeHold) hoff rfl (by decide) (by decide) (if_pos h)
  · exact coreCmd_wr (body := routeHold) hoff rfl (by decide) (by decide) (if_neg h)
  · exact coreCmd_wr (body := routeDrainDone) hoff rfl (by decide) (by decide) (if_pos h)
  · exact coreCmd_wr (body := routeRelease) hoff rfl (by decide) (by decide) rfl
  · exact coreCmd_wr (body := routeCommitCmd) hoff rfl (by decide) (by decide) (if_pos h)
  · obtain ⟨t, ht, hc⟩ := exec_routeCommit_drained hoff h
    exact ⟨t, ht, hc.state, hc.epoch, hc.active, hc.groups, hc.bolts, hc.rates⟩
  · obtain ⟨t, ht, hpeaks, hframe⟩ := exec_clearPeaks hoff
    exact ⟨t, ht, fun p => hpeaks _ (List.mem_map_of_mem (List.mem_range.mpr p.isLt)), hframe⟩
  · exact exec_announceArrival hoff htake hsub
  · obtain ⟨t, ht, hcore, haon⟩ := exec_rateRecovery hoff
    refine ⟨t, ht, ?_, ?_, haon⟩
    · rw [hcore]
      exact rateRecovery_raises he hfunc hnode hrate
    · rw [hcore, rateRecovery]
  · obtain ⟨t, ht, hcore, -⟩ := exec_rateRecovery hoff
    refine ⟨t, ht, ?_, fun e he hother => ?_⟩
    · rw [State.rateEntry, hcore]
      exact rateRecovery_frees hrates
    · rw [hcore]
      exact rateRecovery_keeps he hother

end Sys2Proof.Machine

namespace Sys2Proof.Machine

/-! ## What the business of ports leaves (R330-R341) -/

/-- The sequencer's status, and the registers of gates, hinge ports and session keys that no peak and no count of discarded packets
reaches, whatever the port. -/
def Fld.ofPorts (f : Fld) : Prop :=
  f.addr = 0x10 ∨ 0x10000 ≤ f.addr ∧ f.addr < 0xb0000 ∨ 0x130000 ≤ f.addr ∧ f.addr < 0x160000 ∧ f.addr % 16 ≠ 12

/-- `t` is `s` after something that only adds to what leaves the block and that changes, of the registers of ports, fields of `W`
alone. A port out of service for which no packet waits gets none. -/
structure State.Moved (W : Fld → Prop) (s t : State) : Prop where
  build : t.build = s.build
  pins : t.pins = s.pins
  out : s.out <+: t.out
  rd : ∀ f : Fld, f.ofPorts → (∀ g, W g → g.apart f) → t.rd f = s.rd f
  queue : ∀ p, p < 10 → (∀ g, W g → g.apart (R.GATE_STATUS_STATE p)) → s.portReady p = false →
    (∀ x ∈ s.core.router.queued, x.port ≠ p) → ∀ x ∈ t.core.router.queued, x.port ≠ p

theorem GATE_STATUS_STATE_ofPorts {p : Nat} (hp : p < 10) : (R.GATE_STATUS_STATE p).ofPorts := by
  simp only [Fld.ofPorts, R.GATE_STATUS_STATE]
  omega

section
variable {W V : Fld → Prop} {s t u : State}

theorem State.Moved.refl (W : Fld → Prop) (s : State) : s.Moved W s :=
  ⟨rfl, rfl, List.prefix_rfl, fun _ _ _ => rfl, fun _ _ _ _ h => h⟩

theorem State.Moved.portState (h : s.Moved W t) {p : Nat} (hp : p < 10) (hw : ∀ g, W g → g.apart (R.GATE_STATUS_STATE p)) :
    t.portState p = s.portState p := h.rd _ (GATE_STATUS_STATE_ofPorts hp) hw

theorem State.Moved.portReady (h : s.Moved W t) {p : Nat} (hp : p < 10) (hw : ∀ g, W g → g.apart (R.GATE_STATUS_STATE p)) :
    t.portReady p = s.portReady p := by
  rw [State.portReady, h.portState hp hw, State.portReady]

theorem State.Moved.trans (h : s.Moved W t) (g : t.Moved W u) : s.Moved W u where
  build := g.build.trans h.build
  pins := g.pins.trans h.pins
  out := h.out.trans g.out
  rd := fun f hf hw => (g.rd f hf hw).trans (h.rd f hf hw)
  queue := fun p hp hw hr hq => g.queue p hp hw ((h.portReady hp hw).trans hr) (h.queue p hp hw hr hq)

theorem State.Moved.mono (h : s.Moved W t) (hsub : ∀ g, W g → V g) : s.Moved V t :=
  ⟨h.build, h.pins, h.out, fun f hf hv => h.rd f hf fun g hg => hv g (hsub g hg),
    fun p hp hv => h.queue p hp fun g hg => hv g (hsub g hg)⟩

theorem State.Moved.ite (c : Prop) [Decidable c] (h : s.Moved W t) (g : s.Moved W u) : s.Moved W (if c then t else u) := by
  split
  · exact h
  · exact g

theorem State.Moved.foldl {α : Type} {f : State → α → State} (hf : ∀ (u : State) (x : α), u.Moved W (f u x)) (h : s.Moved W t)
    (l : List α) : s.Moved W (l.foldl f t) :=
  List.foldlRecOn l f h fun _ hv x _ => hv.trans (hf _ x)

/-- What changes neither pins, outputs, registers nor the packets that wait. -/
theorem State.Moved.same (h : s.Moved W t) (hb : u.build = t.build) (hp : u.pins = t.pins) (ho : u.out = t.out)
    (ha : u.aon.regs = t.aon.regs) (hc : u.core.regs = t.core.regs) (hq : u.core.router.queued = t.core.router.queued) : s.Moved W u :=
  h.trans ⟨hb, hp, by rw [ho], fun f _ _ => State.rd_congr t u f hb ha hc, fun p _ _ _ h => by rwa [hq]⟩

theorem State.Moved.setTrace (h : s.Moved W t) (x : TraceUnit) : s.Moved W { t with core.trace := x } := h.same rfl rfl rfl rfl rfl rfl

theorem State.Moved.setErr (h : s.Moved W t) (x : ErrLog) : s.Moved W { t with core.err := x } := h.same rfl rfl rfl rfl rfl rfl

theorem State.Moved.setOps (h : s.Moved W t) (ops : SMap Op) : s.Moved W { t with core.rq.ops := ops } := h.same rfl rfl rfl rfl rfl rfl

theorem State.Moved.setCircuit (h : s.Moved W t) (k : Nat) (c : Circuit) : s.Moved W (t.setCircuit k c) := h.same rfl rfl rfl rfl rfl rfl

theorem State.Moved.wr (h : s.Moved W t) (f : Fld) (v : Nat) (hf : W f ∨ ¬ f.ofPorts) : s.Moved W (t.wr f v) := by
  refine h.trans ⟨State.wr_build _ _ _, State.wr_pins _ _ _, by rw [State.wr_out], fun g hg hw => State.rd_wr_ne t f g v ?_,
    fun _ _ _ _ hq => by rwa [State.wr_core_router]⟩
  rcases hf with hf | hf
  · exact hw f hf
  · exact .inr (.inl fun hga => hf (by simpa only [Fld.ofPorts, hga] using hg))

theorem State.Moved.emit (h : s.Moved W t) (o : Output) : s.Moved W (t.emit o) :=
  h.trans ⟨rfl, rfl, List.prefix_append _ _, fun _ _ _ => rfl, fun _ _ _ _ h => h⟩

theorem State.Moved.post (h : s.Moved W t) (w : Work) : s.Moved W (t.post w) := h.same rfl rfl rfl rfl rfl rfl

theorem State.Moved.count (h : s.Moved W t) (slot event : Nat) : s.Moved W (t.count slot event) := h.same rfl rfl rfl rfl rfl rfl

theorem State.Moved.event (h : s.Moved W t) (opcode userTag result : Nat) : s.Moved W (t.event opcode userTag result) :=
  h.same rfl rfl rfl rfl rfl rfl

theorem State.Moved.modLink (h : s.Moved W t) (p : Nat) (g : Link → Link) : s.Moved W (t.modLink p g) := h.same rfl rfl rfl rfl rfl rfl

theorem State.Moved.setFlow (h : s.Moved W t) (p : Nat) (f : Flow) : s.Moved W (t.setFlow p f) := h.same rfl rfl rfl rfl rfl rfl

theorem State.Moved.modQs (h : s.Moved W t) (q : Nat) (f : QState → QState) : s.Moved W (t.modQs q f) := h.same rfl rfl rfl rfl rfl rfl

theorem State.Moved.startTimer (h : s.Moved W t) (tag : Option Nat) : s.Moved W (t.startTimer tag) := by
  cases tag <;> exact h.same rfl rfl rfl rfl rfl rfl

theorem State.Moved.traceTake (h : s.Moved W t) (r : Nat) : s.Moved W (t.traceTake r) := by
  have hdrop : s.Moved W t.traceDrop :=
    (((h.setTrace _).wr R.TRACE_LOST_COUNT _ (.inr (by simp [Fld.ofPorts, R.TRACE_LOST_COUNT]))).wr R.TRACE_STATUS_LOSS_PEND _
      (.inr (by simp [Fld.ofPorts, R.TRACE_STATUS_LOSS_PEND]))).count _ _
  exact .ite _ hdrop ((h.setTrace _).wr R.TRACE_STATUS_FIFO_PEAK _ (.inr (by simp [Fld.ofPorts, R.TRACE_STATUS_FIFO_PEAK])))

theorem State.Moved.traceEv (h : s.Moved W t) (cat : Option Fld) (kind port cls status : Nat) (func : Option Nat)
    (src queue dest type tag len time arg : Nat) :
    s.Moved W (t.traceEv cat kind port cls status func src queue dest type tag len time arg) := .ite _ (h.traceTake _) h

/-- An error is merged, or its record left for the tick (R401). -/
theorem State.Moved.logErr (h : s.Moved W t) (cls status detail port : Nat) (func : Option Nat) (queue node info : Nat) :
    s.Moved W (t.logErr cls status detail port func queue node info) :=
  .ite _ ((h.setErr _).post _) (.ite _ (h.setErr _) (h.setErr _))

theorem State.Moved.draw (h : s.Moved W t) : s.Moved W t.draw.2 := h.same rfl rfl rfl rfl rfl rfl

theorem State.Moved.logDiscard (h : s.Moved W t) (port out node : Nat) : s.Moved W (t.logDiscard port out node) :=
  h.draw.logErr _ _ _ _ _ _ _ _

/-! ## Packets by a named port and the break of circuits (R260, R307) -/

/-- Queueing for a port in service leaves the other ports' packets. -/
theorem State.Moved.enqueue (h : s.Moved W t) (o : OutPkt) (ho : t.portReady o.port = true) : s.Moved W (t.enqueue o) := by
  obtain ⟨y, hy, hqueued⟩ := t.enqueue_queued o
  have hregs (v : State) (hv : t.Moved W v) (q n : Nat) : t.Moved W (v.wr (R.ROUTE_TELEM_PEAK_FLITS q) n) :=
    hv.wr _ _ (.inr (by simp only [Fld.ofPorts, R.ROUTE_TELEM_PEAK_FLITS]; omega))
  obtain ⟨v, hv, heq⟩ : ∃ v : State, t.Moved W v ∧ t.enqueue o = { v with core.router.queued := (t.enqueue o).core.router.queued } := by
    unfold State.enqueue
    exact ⟨_, hregs _ (.ite _ ((State.Moved.refl W t).count _ _) (.refl W t)) _ _, rfl⟩
  refine h.trans ⟨(congrArg State.build heq).trans hv.build, (congrArg State.pins heq).trans hv.pins, ?_, fun f hf hw => ?_,
    fun q _ _ hr hq x hx => ?_⟩
  · rw [heq]
    exact hv.out
  · rw [heq, ← hv.rd f hf hw]
    exact State.rd_congr _ _ f rfl rfl rfl
  · rw [hqueued, List.mem_append, List.mem_singleton] at hx
    rcases hx with hx | rfl
    · exact hq x hx
    · rw [hy.port]
      rintro rfl
      simp_all

theorem State.Moved.sendPort (h : s.Moved W t) (p : Nat) (k : Packet) : s.Moved W (t.sendPort p k) := by
  unfold State.sendPort State.sendBy
  split
  · exact h.enqueue _ ‹_›
  · exact .ite _ (h.modLink _ _) h

theorem State.Moved.addSig (h : s.Moved W t) (i n : Nat) : s.Moved W (t.addSig i n) := by
  have hset (m : SMap Nat) : s.Moved W { t with core.rq.signals := m } := h.same rfl rfl rfl rfl rfl rfl
  exact ((hset _).emit _).post _

theorem Fld.ofPorts_lt {f : Fld} (h : f.ofPorts) : f.addr < 0x160000 := by
  unfold Fld.ofPorts at h
  omega

theorem queueRegs_far (q : Nat) {f : Fld} (h : 0x400000 + q * 0x400 ≤ f.addr) : ¬ f.ofPorts := fun hf => by
  have := Fld.ofPorts_lt hf
  omega

theorem State.Moved.retire (h : s.Moved W t) (id : Nat) (o : Op) (status : Nat) : s.Moved W (t.retire id o status) := by
  unfold State.retire
  extract_lets q core rq gone left counted traced raised failed noted waits told stopped
  have hleft : s.Moved W left := (h.setOps _).modQs _ _
  have htraced : s.Moved W traced := (State.Moved.ite _ hleft (hleft.count _ _)).traceEv _ _ _ _ _ _ _ _ _ _ _ _ _ _
  have hraised : s.Moved W raised := by
    refine .ite _ ?_ htraced
    split
    · exact htraced.addSig _ _
    · exact htraced
  have htold : s.Moved W told := (State.Moved.ite _ (hraised.modQs _ _) hraised).foldl
    (fun u x => ((State.Moved.refl W u).setOps _).post _) _
  have hstopped : s.Moved W stopped := by
    have herr := htold.wr (R.QUEUE_STATUS_ERR q) 1 (.inr (queueRegs_far q (Nat.add_le_add_right (by decide) _)))
    exact .ite _ (.ite _ (herr.wr _ _ (.inr (queueRegs_far q (Nat.add_le_add_right (by decide) _)))) herr) htold
  have hposted := ((State.Moved.ite (dOpcode o.desc = 0x31) (hstopped.post (.window (dWindow o.desc))) hstopped).post (.head q)).post
    (.func o.func)
  refine .ite _ ?_ hposted
  exact (((hposted.wr _ _ (.inr (queueRegs_far q (Nat.add_le_add_right (by decide) _)))).wr _ _
    (.inr (queueRegs_far q (Nat.le_refl _)))).modQs _ (fun x => { QState.empty with
      lincNext := x.lincNext, atomNext := x.atomNext, latches := x.latches })).post _

theorem State.Moved.endOp (h : s.Moved W t) (id status detail result stamp : Nat) : s.Moved W (t.endOp id status detail result stamp) := by
  unfold State.endOp
  cases t.op? id with
  | none => exact h
  | some o =>
    have hcount : s.Moved W (if status = 0x0E then t.count (funcSlot o.func) 14 else t) := .ite _ (h.count _ _) h
    exact .ite _ h (.ite _ ((hcount.modQs _ _).retire _ _ _) (((hcount.setOps _).modQs _ _).post _))

theorem State.Moved.abortXfers (h : s.Moved W t) (reason : Nat) (xs : List Transfer) : s.Moved W (t.abortXfers reason xs) := by
  refine .foldl (f := fun u (x : Transfer) => ((u.freeTag x.tag).dropBoltReads x.tag).endOp x.op 0x12 (det 7 reason) 0 0)
    (fun u x => ?_) h xs
  obtain ⟨-, reqs, work, hfree⟩ := u.freeTag_spec x.tag
  have hu : u.Moved W ((u.freeTag x.tag).dropBoltReads x.tag) := by
    rw [hfree]
    exact (State.Moved.refl W u).same rfl rfl rfl rfl rfl rfl
  exact hu.endOp _ _ _ _ _

theorem State.Moved.breakOne (h : s.Moved W t) (k : Nat) : s.Moved W (t.breakOne k) := by
  unfold State.breakOne
  cases t.circuit? k with
  | none => exact h
  | some c =>
    have htimers := State.Moved.foldl (f := fun (u : State) (o : OutPkt) => u.startTimer o.tag)
      (fun u o => (State.Moved.refl W u).startTimer _)
      (h.setCircuit k c.broken) c.tdm
    have hbroken : s.Moved W (t.toBroken k c) := (State.Moved.ite _ (htimers.abortXfers _ _) htimers).event _ _ _
    have hforward := State.Moved.ite (c.role ≠ 2) (hbroken.sendPort c.outPort (c.forward 3 [])) hbroken
    exact .ite _ h (.ite _ (hforward.sendPort _ _) hforward)

theorem State.Moved.breakCircuit (h : s.Moved W t) (k : Nat) : s.Moved W (t.breakCircuit k) := by
  unfold State.breakCircuit
  cases t.circuit? k with
  | none => exact h
  | some c =>
    dsimp only
    split
    · exact (h.breakOne k).breakOne _
    · exact h.breakOne k

theorem State.Moved.breakPort (h : s.Moved W t) (p : Nat) : s.Moved W (t.breakPort p) :=
  .foldl (fun u k => (State.Moved.refl W u).breakCircuit k) h _

end

end Sys2Proof.Machine

namespace Sys2Proof.Machine

/-! ## What a port's own units leave (R317-R341) -/

/-- `t` is `s` after something the units of port `p` did by themselves: the port's link is `l`, the other links stay, and nothing else
changes but registers, outputs, the trace, counters, the error log, event records, the key port and the exchanges of fabric time. -/
structure State.OnPort (W : Fld → Prop) (p : Nat) (l : Link) (s t : State) : Prop where
  moved : s.Moved W t
  core : t.core = { s.core with
    regs := t.core.regs, links := t.core.links, trace := t.core.trace, cnt := t.core.cnt, err := t.core.err, work := t.core.work,
    events := t.core.events, keyPort := t.core.keyPort, time := { s.core.time with exch := t.core.time.exch } }
  link : t.link p = l
  links : ∀ k, k ≠ p → t.link k = s.link k

/-- The lane registers of a port, and the lanes' part of its status. -/
def laneRegs (p : Nat) (g : Fld) : Prop :=
  g.addr = 0x10020 + p * 0x10000 ∨ 0x10040 + p * 0x10000 ≤ g.addr ∧ g.addr < 0x10064 + p * 0x10000 ∨
    g.addr = 0x10004 + p * 0x10000 ∧ g.aon = false ∧ 16 ≤ g.lo

/-- The key registers of a port (R357). -/
def keyRegs (p : Nat) (g : Fld) : Prop := g.addr = 0x130100 + p * 0x8 ∨ g.addr = 0x130104 + p * 0x8

section
variable {W V : Fld → Prop} {p : Nat} {l k : Link} {s t u : State}

theorem State.OnPort.refl (W : Fld → Prop) (p : Nat) (s : State) : s.OnPort W p (s.link p) s := ⟨.refl W s, rfl, rfl, fun _ _ => rfl⟩

theorem State.OnPort.trans (h : s.OnPort W p l t) (g : t.OnPort W p k u) : s.OnPort W p k u where
  moved := h.moved.trans g.moved
  core := g.core.trans (by rw [h.core])
  link := g.link
  links := fun j hj => (g.links j hj).trans (h.links j hj)

theorem State.OnPort.mono (h : s.OnPort W p l t) (hsub : ∀ g, W g → V g) : s.OnPort V p l t :=
  ⟨h.moved.mono hsub, h.core, h.link, h.links⟩

theorem State.OnPort.ite (c : Prop) [Decidable c] (h : s.OnPort W p l t) (g : s.OnPort W p l u) :
    s.OnPort W p l (if c then t else u) := by
  split
  · exact h
  · exact g

/-- What changes no link. -/
theorem State.OnPort.still (h : s.OnPort W p l t) (hm : t.Moved W u)
    (hc : u.core = { t.core with
      regs := u.core.regs, trace := u.core.trace, cnt := u.core.cnt, err := u.core.err, work := u.core.work,
      events := u.core.events, keyPort := u.core.keyPort, time := { t.core.time with exch := u.core.time.exch } }) :
    s.OnPort W p l u := by
  have hlink (k : Nat) : u.link k = t.link k := by rw [State.link, hc, State.link]
  exact h.trans ⟨hm, hc.trans (by rw [hc]), (hlink p).trans h.link, fun k _ => hlink k⟩

theorem State.OnPort.wr (h : s.OnPort W p l t) (f : Fld) (v : Nat) (hf : W f ∨ ¬ f.ofPorts) : s.OnPort W p l (t.wr f v) := by
  refine h.still ((State.Moved.refl W t).wr f v hf) ?_
  cases hfa : f.aon with
  | false => rw [(State.wr_core_aon t f v hfa).2]
  | true => rw [State.wr_core_of_aon t v hfa]

theorem State.OnPort.modLink (h : s.OnPort W p l t) (g : Link → Link) : s.OnPort W p (g l) (t.modLink p g) where
  moved := h.moved.modLink p g
  core := (congrArg (fun c : Core => { c with links := (t.modLink p g).core.links }) h.core :)
  link := (State.link_modLink_self t p g).trans (by rw [h.link])
  links := fun k hk => (State.link_modLink_ne t g hk).trans (h.links k hk)

theorem State.OnPort.setLink (h : s.OnPort W p l t) (k : Link) : s.OnPort W p k (t.setLink p k) := h.modLink fun _ => k

theorem State.OnPort.emit (h : s.OnPort W p l t) (o : Output) : s.OnPort W p l (t.emit o) := h.still ((State.Moved.refl W t).emit o) rfl

theorem State.OnPort.countN (h : s.OnPort W p l t) (slot event n : Nat) : s.OnPort W p l (t.countN slot event n) :=
  h.still ((State.Moved.refl W t).same rfl rfl rfl rfl rfl rfl) rfl

theorem State.OnPort.count (h : s.OnPort W p l t) (slot event : Nat) : s.OnPort W p l (t.count slot event) := h.countN _ _ _

theorem State.OnPort.traceEv (h : s.OnPort W p l t) (cat : Option Fld) (kind port cls status : Nat) (func : Option Nat)
    (src queue dest type tag len time arg : Nat) :
    s.OnPort W p l (t.traceEv cat kind port cls status func src queue dest type tag len time arg) := by
  refine h.still ((State.Moved.refl W t).traceEv _ _ _ _ _ _ _ _ _ _ _ _ _ _) ?_
  rw [((State.Traced.refl t).traceEv cat kind port cls status func src queue dest type tag len time arg).core]

theorem State.OnPort.tracePkt (h : s.OnPort W p l t) (cat : Fld) (kind port status : Nat) (func : Option Nat) (x : Packet)
    (time arg : Nat) : s.OnPort W p l (t.tracePkt cat kind port status func x time arg) :=
  .ite _ (h.traceEv _ _ _ _ _ _ _ _ _ _ _ _ _ _) h

theorem State.OnPort.post (h : s.OnPort W p l t) (w : Work) : s.OnPort W p l (t.post w) := h.still ((State.Moved.refl W t).post w) rfl

theorem State.OnPort.setErr (h : s.OnPort W p l t) (x : ErrLog) : s.OnPort W p l { t with core.err := x } :=
  h.still ((State.Moved.refl W t).setErr x) rfl

theorem State.OnPort.logErr (h : s.OnPort W p l t) (cls status detail port : Nat) (func : Option Nat) (queue node info : Nat) :
    s.OnPort W p l (t.logErr cls status detail port func queue node info) :=
  .ite _ ((h.setErr _).post _) (.ite _ (h.setErr _) (h.setErr _))

theorem State.OnPort.portEvent (h : s.OnPort W p l t) (q : Nat) : s.OnPort W p l (t.portEvent q) :=
  h.still ((State.Moved.refl W t).event _ _ _) rfl

theorem State.OnPort.keySend (h : s.OnPort W p l t) (type port cause : Nat) (payload : Bytes) :
    s.OnPort W p l (t.keySend type port cause payload) :=
  .ite _ h (h.still ((State.Moved.refl W t).same rfl rfl rfl rfl rfl rfl) rfl)

theorem State.OnPort.keyNeed (h : s.OnPort W p l t) (q cause : Nat) : s.OnPort W p l (t.keyNeed q cause) := by
  unfold State.keyNeed
  exact h.keySend _ _ _ _

theorem State.OnPort.setPortState (h : s.OnPort W p l t) (st : Nat) (hW : W (R.GATE_STATUS_STATE p)) :
    s.OnPort W p l (t.setPortState p st) := by
  unfold State.setPortState
  exact (h.wr _ _ (.inl hW)).traceEv _ _ _ _ _ _ _ _ _ _ _ _ _ _

/-! ## Lanes and equalization requests (R434-R439) -/

theorem laneRegs_lane {j n : Nat} (hj : j < 9) (lo w : Nat) (aon : Bool) (hn : n = 0x10040 + p * 0x10000 + j * 0x4) :
    laneRegs p ⟨n, lo, w, aon⟩ := by
  unfold laneRegs
  dsimp only
  omega

/-- Writes for each of the nine lanes. -/
theorem State.OnPort.eachLane {f : State → Nat → State} (h : s.OnPort W p l t)
    (hf : ∀ v j, j < 9 → s.OnPort W p l v → s.OnPort W p l (f v j)) : s.OnPort W p l ((List.range 9).foldl f t) :=
  List.foldlRecOn _ f h fun v hv j hj => hf v j (List.mem_range.mp hj) hv

theorem State.OnPort.setRxLanes (h : s.OnPort W p l t) (hW : ∀ g, laneRegs p g → W g) (healthy : Nat) (active : List Nat) (spare : Nat) :
    s.OnPort W p l (t.setRxLanes p healthy active spare) := by
  have hhead := ((h.wr (R.GATE_LANES_RX_GOOD p) healthy (.inl (hW _ (.inl rfl)))).wr (R.GATE_LANES_RX_SPARE p) spare
    (.inl (hW _ (.inl rfl)))).wr (R.GATE_STATUS_NO_SPARE_RX p) (b2n (spare == 15))
      (.inl (hW _ (.inr (.inr ⟨rfl, rfl, (by decide : 16 ≤ 17)⟩))))
  have hin (f : Fld) (j : Nat) (hj : j < 9) (hf : f.addr = 0x10040 + p * 0x10000 + j * 0x4) : W f ∨ ¬ f.ofPorts :=
    .inl (hW f (laneRegs_lane hj _ _ _ hf))
  unfold State.setRxLanes
  exact hhead.eachLane fun _ j hj hv => (((hv.wr (R.GATE_LANE_RX_OK p j) _ (hin _ j hj rfl)).wr (R.GATE_LANE_RX_SPARE p j) _
    (hin _ j hj rfl)).wr (R.GATE_LANE_LOGICAL p j) _ (hin _ j hj rfl)).wr (R.GATE_LANE_RX_IDLE p j) _ (hin _ j hj rfl)

theorem State.OnPort.setTxLanes (h : s.OnPort W p l t) (hW : ∀ g, laneRegs p g → W g) (healthy : Nat) (active : List Nat) (spare : Nat) :
    s.OnPort W p { l with txMap := active } (t.setTxLanes p healthy active spare) := by
  have hhead := ((h.wr (R.GATE_LANES_TX_GOOD p) healthy (.inl (hW _ (.inl rfl)))).wr (R.GATE_LANES_TX_SPARE p) spare
    (.inl (hW _ (.inl rfl)))).wr (R.GATE_STATUS_NO_SPARE_TX p) (b2n (spare == 15)) (.inl (hW _ (.inr (.inr ⟨rfl, rfl, Nat.le_refl 16⟩))))
  exact (hhead.eachLane fun _ _ hj hv => hv.wr _ _ (.inl (hW _ (laneRegs_lane hj _ _ _ rfl)))).modLink fun l => { l with txMap := active }

theorem State.OnPort.trainLanes (h : s.OnPort W p l t) (hW : ∀ g, laneRegs p g → W g) (active : List Nat) :
    s.OnPort W p { l with txMap := active, txFec := (0, 0), rxFec := [] } (t.trainLanes p active) :=
  (h.eachLane fun _ _ hj hv => hv.wr _ _ (.inl (hW _ (laneRegs_lane hj _ _ _ rfl)))).modLink fun l =>
    { l with txMap := active, txFec := (0, 0), rxFec := [] }

theorem State.OnPort.cfgPresent (h : s.OnPort W p l t) (g : Nat) : s.OnPort W p l (t.cfgPresent g) := by
  unfold State.cfgPresent
  split
  · exact h
  · exact h.emit _

theorem State.OnPort.cfgPush (h : s.OnPort W p l t) (cs : List CfgReq) : s.OnPort W p { l with cfg := l.cfg ++ cs } (t.cfgPush p cs) := by
  have hpush := h.modLink fun l => { l with cfg := l.cfg ++ cs }
  exact .ite _ (hpush.cfgPresent p) hpush

/-- The link after its rate has changed (R433). -/
def Link.atRate (l : Link) (r : Nat) : Link := if l.rate = r then l else
    { l with rate := r, rateAck := false, txFec := (0, 0), rxFec := [] }

theorem State.OnPort.setRate (h : s.OnPort W p l t) (r : Nat) : s.OnPort W p (l.atRate r) (t.setRate p r) := h.modLink fun l => l.atRate r

/-! ## Keys (R325, R357) -/

/-- The link without keys. -/
def Link.unkeyed (l : Link) : Link := { l with txKeys := [], rxKeys := [], txSwitch := none, rxSwitch := none }

theorem State.OnPort.eraseKeys (h : s.OnPort W p l t) (hW : ∀ g, keyRegs p g → W g) : s.OnPort W p l.unkeyed (t.eraseKeys p) := by
  have htx (f : Fld) (hf : f.addr = 0x130100 + p * 0x8) : W f ∨ ¬ f.ofPorts := .inl (hW f (.inl hf))
  have hrx (f : Fld) (hf : f.addr = 0x130104 + p * 0x8) : W f ∨ ¬ f.ofPorts := .inl (hW f (.inr hf))
  exact ((((((((((h.modLink Link.unkeyed).wr _ _ (htx _ rfl)).wr _ _ (htx _ rfl)).wr _ _ (htx _ rfl)).wr _ _ (htx _ rfl)).wr _ _
    (htx _ rfl)).wr _ _ (htx _ rfl)).wr _ _ (htx _ rfl)).wr _ _ (hrx _ rfl)).wr _ _ (hrx _ rfl)).wr _ _ (hrx _ rfl)

/-- The transmit switch changes the numbering, the switch and the keys of the link alone. -/
theorem State.OnPort.txKeySwitch (h : s.OnPort W p l t) (hW : ∀ g, keyRegs p g → W g) :
    ∃ n sw ks, s.OnPort W p { l with txFseq := n, txSwitch := sw, txKeys := ks } (t.txKeySwitch p) := by
  have htx (f : Fld) (hf : f.addr = 0x130100 + p * 0x8) : W f ∨ ¬ f.ofPorts := .inl (hW f (.inl hf))
  unfold State.txKeySwitch
  rw [h.link]
  dsimp only
  split
  · rename_i start ph _
    split
    · exact ⟨_, _, _, (((((h.setLink { l with txFseq := 0, txSwitch := none, txKeys := SMap.del l.txKeys (1 - ph) }).wr _ _ (htx _ rfl)).wr
        _ _ (htx _ rfl)).wr _ _ (htx _ rfl)).wr _ _ (htx _ rfl)).wr _ _ (htx _ rfl)⟩
    · exact ⟨_, _, _, h⟩
  · exact ⟨_, _, _, h⟩

end

end Sys2Proof.Machine

namespace Sys2Proof.Machine

/-! ## Sending a frame (R320-R325) -/

section
variable {W V : Fld → Prop} {p : Nat} {l k : Link} {s t u : State}

/-- `k` is `l` but for what the transmitter's lanes change. -/
def Link.Relaned (l k : Link) : Prop :=
  k = { l with txMap := k.txMap, failSwitch := k.failSwitch, txWidth := k.txWidth, countdown := k.countdown, nextSp := k.nextSp,
               txFec := k.txFec, prbs := k.prbs }

theorem Link.Relaned.trans {j : Link} (h : l.Relaned k) (g : k.Relaned j) : l.Relaned j := by
  unfold Link.Relaned at *
  rw [g, h]

/-- Takeover and width change the lanes alone (R338, R339). -/
theorem State.OnPort.txLaneSwitch (h : s.OnPort W p l t) (hW : ∀ g, laneRegs p g → W g) :
    ∃ k, s.OnPort W p k (t.txLaneSwitch p) ∧ l.Relaned k := by
  unfold State.txLaneSwitch
  extract_lets l0 sp s1
  have hfail : ∃ k, s.OnPort W p k s1 ∧ l.Relaned k := by
    unfold s1
    split
    · split
      · exact ⟨_, (h.setTxLanes hW _ _ _).modLink fun l => { l with failSwitch := none }, rfl⟩
      · exact ⟨_, h, rfl⟩
    · exact ⟨_, h, rfl⟩
  obtain ⟨k, hs1, hk⟩ := hfail
  split
  · split
    · exact ⟨_, (hs1.setTxLanes hW _ _ _).modLink fun l => { l with txWidth := none, countdown := 0 }, hk.trans rfl⟩
    · exact ⟨_, hs1, hk⟩
  · exact ⟨_, hs1, hk⟩

/-- A countdown changes the lanes alone (R336). -/
theorem State.OnPort.txCountdown (h : s.OnPort W p l t) (hW : ∀ g, laneRegs p g → W g) :
    ∃ k, s.OnPort W p k (t.txCountdown p) ∧ l.Relaned k := by
  unfold State.txCountdown
  rw [h.link]
  dsimp only
  split
  · exact ⟨_, h, rfl⟩
  · split
    · exact ⟨_, ((h.setTxLanes hW _ _ _).modLink fun l => { l with countdown := 0, nextSp := 15 }).count _ _, rfl⟩
    · exact ⟨_, h.setLink _, rfl⟩

theorem State.OnPort.sendWords (h : s.OnPort W p l t) (frame : List Flit) : ∃ k, s.OnPort W p k (t.sendWords p frame) ∧ l.Relaned k := by
  unfold State.sendWords
  dsimp only
  exact ⟨_, (h.emit _).modLink _, rfl⟩

theorem State.OnPort.traceHead (h : s.OnPort W p l t) (stamp pos : Nat) (i : TxItem) : s.OnPort W p l (t.traceHead p stamp pos i) := by
  unfold State.traceHead
  split
  · exact h
  · exact .ite _ (h.tracePkt _ _ _ _ _ _ _ _) (.ite _ (h.tracePkt _ _ _ _ _ _ _ _) (.ite _ (h.tracePkt _ _ _ _ _ _ _ _) h))

/-- The item as a frame of a stamp carries it: a TIME packet that carries t1 or t3 has the stamp (R251). -/
def TxItem.stamped (i : TxItem) (stamp : Nat) : TxItem :=
  match i.time with
  | some k => if k.fld 0x10 0 2 = 0 ∨ k.fld 0x10 0 2 = 1 then { i with flit := (k.set 0x18 0 64 stamp).hdr } else i
  | none => i

theorem State.stampItem_snd (s : State) (p stamp : Nat) (i : TxItem) : (s.stampItem p stamp i).2 = i.stamped stamp := by
  unfold State.stampItem TxItem.stamped TxItem.time
  cases i.head with
  | none => rfl
  | some o =>
    dsimp only
    by_cases ht : o.pkt.cls = 0 ∧ o.pkt.type = 1
    · by_cases hf : o.pkt.fld 0x10 0 2 = 0 ∨ o.pkt.fld 0x10 0 2 = 1
      · rw [if_pos ⟨ht.1, ht.2, hf⟩, if_pos ht]
        exact (if_pos hf).symm
      · rw [if_neg fun h => hf h.2.2, if_pos ht]
        exact (if_neg hf).symm
    · rw [if_neg fun h => ht ⟨h.1, h.2.1⟩, if_neg ht]

theorem State.OnPort.stampItem (h : s.OnPort W p l t) (stamp : Nat) (i : TxItem) : s.OnPort W p l (t.stampItem p stamp i).1 := by
  have hexch (x : SMap Exchange) : s.OnPort W p l { t with core.time.exch := x } :=
    h.still ((State.Moved.refl W t).same rfl rfl rfl rfl rfl rfl) rfl
  unfold State.stampItem
  cases i.head with
  | none => exact h
  | some o =>
    dsimp only
    split
    · exact .ite _ (hexch _) h
    · exact h

/-- The items of a frame stamped and traced one after the other, with the state after it. -/
def State.stampAll (s : State) (p stamp : Nat) (items : List (Nat × TxItem)) : State × List (Nat × TxItem) :=
  items.foldl (fun (acc : State × List (Nat × TxItem)) x =>
    let (s, i) := acc.1.stampItem p stamp x.2
    (s.traceHead p stamp x.1 i, acc.2 ++ [(x.1, i)])) (s, [])

theorem State.stampAll_snd (s : State) (p stamp : Nat) (items : List (Nat × TxItem)) :
    (s.stampAll p stamp items).2 = items.map fun x => (x.1, x.2.stamped stamp) := by
  have hfold (acc : State × List (Nat × TxItem)) : (items.foldl (fun (acc : State × List (Nat × TxItem)) x =>
      ((acc.1.stampItem p stamp x.2).1.traceHead p stamp x.1 (acc.1.stampItem p stamp x.2).2,
        acc.2 ++ [(x.1, (acc.1.stampItem p stamp x.2).2)])) acc).2 = acc.2 ++ items.map fun x => (x.1, x.2.stamped stamp) := by
    induction items generalizing acc with
    | nil => exact (List.append_nil _).symm
    | cons x items ih => rw [List.foldl_cons, ih, State.stampItem_snd, List.append_assoc, List.map_cons, List.singleton_append]
  exact hfold (s, [])

theorem State.OnPort.stampAll (h : s.OnPort W p l t) (stamp : Nat) (items : List (Nat × TxItem)) :
    s.OnPort W p l (t.stampAll p stamp items).1 := by
  unfold State.stampAll
  refine List.foldlRecOn items _ (motive := fun acc : State × List (Nat × TxItem) => s.OnPort W p l acc.1) h fun acc hacc x _ => ?_
  exact (hacc.stampItem _ _).traceHead _ _ _

/-- The state in which a port puts its next frame together. -/
def State.frameState (s : State) (p : Nat) : State := if p < 8 then (s.txKeySwitch p).txLaneSwitch p else s.txKeySwitch p

/-- The body of a frame in clear: the flits of its items at their positions (R320). -/
def frameBody (cap : Nat) (items : List (Nat × TxItem)) : List Flit :=
  (List.range cap).map (fun k => match items.find? (fun x => x.1 == k) with
    | some x => x.2.flit
    | none => 0)

/-- The trailer of a frame, its tag zero (R321): what a port's state and link and the frame's items and marks give it. -/
def State.frameHead (s : State) (p : Nat) (l : Link) (items : List (Nat × TxItem)) (marks : List (Nat × Nat)) : Nat :=
  let kinds := pack (items.map (fun x => (2 * x.1, 2, x.2.kind)))
  let (b0, s0) := marks.headD (63, 0)
  let (b1, s1) := (marks.drop 1).headD (63, 0)
  let enc := s.rd (R.SECURITY_TX_CUR_VALID p)
  let kph := s.rd (R.SECURITY_TX_KPH p)
  let gate := decide (p < 8)
  trailerHead enc kph (if gate then b2n (l.txMap.length == 4) else 0) (if gate then s.rd (R.GATE_LANES_TX_SPARE p) else 0)
    (if gate then (if l.countdown = 0 then 15 else l.nextSp) else 0) l.txFseq (if gate then l.countdown else 0) b0 s0 b1 s1 kinds

/-- Body and tag of a frame: under a key AES-256-GCM's, else the body in clear and its CRC (R323). -/
def State.seal (s : State) (p : Nat) (l : Link) (head : Nat) (body : List Flit) : List Flit × Nat :=
  if s.rd (R.SECURITY_TX_CUR_VALID p) = 1 then
    let k := SMap.getD l.txKeys (s.rd (R.SECURITY_TX_KPH p)) ⟨0, 0⟩
    let r := gcmSeal k.key (BitVec.ofNat 96 (l.txFseq + k.salt.toNat * 2 ^ 32)) (toLE 48 head) body
    (r.1, r.2.toNat)
  else (body, crc32c (toLE 48 head ++ flitBytes body))

/-- The frame of a body, a trailer and a tag. -/
def frameWith (p head : Nat) (x : List Flit × Nat) : Frame :=
  ⟨x.1 ++ List.replicate (64 - bodyLen p) 0, BitVec.ofNat 512 (head + x.2 * 2 ^ 384), false, 0⟩

/-- A frame has been put together: it leaves, and the numbering goes on (R320, R324). -/
def State.frameLeaves (s : State) (p : Nat) (l : Link) (rest : List TxItem) (result : Bool) (body : List Flit) (f : Frame) : State :=
  let gate := decide (p < 8)
  let enc := s.rd (R.SECURITY_TX_CUR_VALID p)
  let s := (s.emit (.frame p f)).count p 0
  let s := if gate then s.sendWords p (body ++ [f.trailer]) else s.emit (.beats (p - 8) (hingeBeats f))
  let n := (l.txFseq + 1) % 2 ^ 32
  let s := s.modLink p (fun l => { l with tx := rest, txFseq := n, resultOut := l.resultOut || result })
  let s := if enc = 1 then s.wr (R.SECURITY_TX_FSEQ_HI p) (n / 256) else s
  let s := if enc = 1 ∧ n ≥ 2 ^ max 16 (s.rd R.SECURITY_CTL_ROLL_AT_LOG2) ∧ ¬ s.on (R.SECURITY_TX_ROLL_PEND p) then
      (s.wr (R.SECURITY_TX_ROLL_PEND p) 1).keyNeed p 1
    else s
  if gate then s.txCountdown p else s

/-- The parts of a frame's sending, each under a name. -/
theorem State.sendFrame_eq (s : State) (p stamp : Nat) :
    s.sendFrame p stamp =
      let u := s.frameState p
      let l := u.link p
      let fill := fillFrame (bodyLen p) 0 l.tx
      let x := u.stampAll p stamp fill.1
      let head := x.1.frameHead p l x.2 fill.2.1
      let sealed := x.1.seal p l head (frameBody (bodyLen p) x.2)
      x.1.frameLeaves p l fill.2.2 (x.2.any fun i => i.2.isResult) sealed.1 (frameWith p head sealed) := by
  rfl

theorem State.OnPort.frameState (h : s.OnPort W p l t) (hl : ∀ g, laneRegs p g → W g) (hk : ∀ g, keyRegs p g → W g) :
    ∃ k, s.OnPort W p k (t.frameState p) := by
  obtain ⟨n, sw, ks, hkey⟩ := h.txKeySwitch hk
  unfold State.frameState
  split
  · obtain ⟨k, hlane, -⟩ := hkey.txLaneSwitch hl
    exact ⟨k, hlane⟩
  · exact ⟨_, hkey⟩

/-- A port's registers of lanes and keys. -/
def wireRegs (p : Nat) (g : Fld) : Prop := laneRegs p g ∨ keyRegs p g

/-- The registers a frame changes: those of its lanes, and the numbering of its key. -/
def frameRegs (p : Nat) (g : Fld) : Prop := laneRegs p g ∨ g = R.SECURITY_TX_FSEQ_HI p ∨ g = R.SECURITY_TX_ROLL_PEND p

theorem frameRegs_wire {g : Fld} (hg : frameRegs p g) : wireRegs p g := by
  rcases hg with hg | rfl | rfl
  · exact .inl hg
  · exact .inr (.inl rfl)
  · exact .inr (.inl rfl)

/-- A frame that has been put together leaves; the link keeps what is over, and the number after the frame's. -/
theorem State.OnPort.frameLeaves (h : s.OnPort W p l t) (hW : ∀ g, frameRegs p g → W g) (rest : List TxItem) (result : Bool)
    (body : List Flit) (f : Frame) :
    ∃ k, s.OnPort W p k (t.frameLeaves p l rest result body f) ∧
      Link.Relaned { l with tx := rest, txFseq := (l.txFseq + 1) % 2 ^ 32, resultOut := l.resultOut || result } k := by
  have hlane (g : Fld) (hg : laneRegs p g) : W g := hW g (.inl hg)
  have hframe := (h.emit (.frame p f)).count p 0
  unfold State.frameLeaves
  extract_lets gate enc s0 s1 n s2 s3 s4
  have hs1 : ∃ k, s.OnPort W p k s1 ∧ l.Relaned k := by
    unfold s1
    split
    · exact hframe.sendWords _
    · exact ⟨l, hframe.emit _, rfl⟩
  obtain ⟨k, hs1, hk⟩ := hs1
  have hs2 : s.OnPort W p { k with tx := rest, txFseq := n, resultOut := k.resultOut || result } s2 :=
    hs1.modLink fun l => { l with tx := rest, txFseq := n, resultOut := l.resultOut || result }
  have hs3 : s.OnPort W p { k with tx := rest, txFseq := n, resultOut := k.resultOut || result } s3 :=
    .ite _ (hs2.wr _ _ (.inl (hW _ (.inr (.inl rfl))))) hs2
  have hs4 : s.OnPort W p { k with tx := rest, txFseq := n, resultOut := k.resultOut || result } s4 :=
    .ite _ ((hs3.wr _ _ (.inl (hW _ (.inr (.inr rfl))))).keyNeed _ _) hs3
  have hrel : Link.Relaned { l with tx := rest, txFseq := n, resultOut := l.resultOut || result }
      { k with tx := rest, txFseq := n, resultOut := k.resultOut || result } := by
    unfold Link.Relaned at hk ⊢
    rw [hk]
  split
  · obtain ⟨j, hs5, hj⟩ := hs4.txCountdown hlane
    exact ⟨j, hs5, hrel.trans hj⟩
  · exact ⟨_, hs4, hrel⟩

theorem State.OnPort.sendFrame (h : s.OnPort W p l t) (hW : ∀ g, wireRegs p g → W g) (stamp : Nat) :
    ∃ k, s.OnPort W p k (t.sendFrame p stamp) := by
  obtain ⟨j, hstate⟩ := h.frameState (fun g hg => hW g (.inl hg)) fun g hg => hW g (.inr hg)
  rw [State.sendFrame_eq]
  dsimp only
  rw [hstate.link]
  obtain ⟨k, hleaves, -⟩ := (hstate.stampAll stamp (fillFrame (bodyLen p) 0 j.tx).1).frameLeaves
    (fun g hg => hW g (frameRegs_wire hg)) _ _ _ _
  exact ⟨k, hleaves⟩

theorem State.OnPort.sendDown (h : s.OnPort W p l t) (hW : ∀ g, wireRegs p g → W g) (cause : Nat) :
    ∃ k, s.OnPort W p k (t.sendDown p cause) := by
  obtain ⟨n, sw, ks, hkey⟩ := h.txKeySwitch fun g hg => hW g (.inr hg)
  unfold State.sendDown
  dsimp only
  split
  · exact ⟨_, hkey⟩
  · exact (hkey.modLink _).sendFrame hW _

end

end Sys2Proof.Machine

namespace Sys2Proof.Machine

/-! ## Leaving a state (R335, R341) -/

/-- The registers a port's exit writes. -/
def exitRegs (p : Nat) (g : Fld) : Prop := g = R.GATE_STATUS_STATE p ∨ g = R.GATE_STATUS_CAUSE p ∨ wireRegs p g

theorem wireRegs_apart {p : Nat} (hp : p < 10) {f : Fld} (hf : f.addr < 0x10004 + p * 0x10000 ∨
    0x10004 + p * 0x10000 < f.addr ∧ f.addr < 0x10020 + p * 0x10000 ∨
    f.addr = 0x10004 + p * 0x10000 ∧ (f.aon = true ∨ f.lo + f.width ≤ 16)) {g : Fld} (hg : wireRegs p g) : g.apart f := by
  unfold Fld.apart
  rcases hg with (hg | hg | ⟨hg, ha, hlo⟩) | hg | hg
  · exact .inr (.inl (by omega))
  · exact .inr (.inl (by omega))
  · rcases hf with hf | hf | ⟨-, hf | hf⟩
    · exact .inr (.inl (by omega))
    · exact .inr (.inl (by omega))
    · exact .inl (by rw [hf, ha]; decide)
    · exact .inr (.inr (.inr (by omega)))
  · exact .inr (.inl (by omega))
  · exact .inr (.inl (by omega))

section
variable {W V : Fld → Prop} {p : Nat} {l k : Link} {s t u : State}

theorem State.Moved.off (h : s.Moved W t) (hW : ∀ g, W g → g.addr ≠ 0x10) : t.off = s.off := by
  rw [State.off, State.seq, h.rd R.GLOBAL_START_STATUS_STATE (.inl rfl) fun g hg => .inr (.inl (Ne.symm (hW g hg)))]
  rfl

theorem State.Moved.setReadyBit (h : s.Moved W t) (i : Nat) (v : Bool) : s.Moved W (t.setReadyBit i v) := by
  have hfar (a : Nat) (ha : a ∈ [R.GLOBAL_READY_GATE.addr, R.GLOBAL_READY_CHG_CHG.addr]) : ¬ (⟨a, i, 1, true⟩ : Fld).ofPorts := by
    simp only [List.mem_cons, List.not_mem_nil, or_false, R.GLOBAL_READY_GATE, R.GLOBAL_READY_CHG_CHG] at ha
    simp only [Fld.ofPorts]
    omega
  exact .ite _ h ((h.wr _ _ (.inr (hfar _ (by simp)))).wr _ _ (.inr (hfar _ (by simp))))

/-- The state in which what waited for a port is gone, and of what came by it only what local units hold is left (R335). -/
def State.unqueued (s : State) (p : Nat) : State :=
  let oneHop (k : Packet) : Bool := k.cls == 0 || k.cls == 5 || k.tdm
  { s with
    core.router.queued := (s.core.router.queued.filter (fun o => o.port != p)).map (fun (o : OutPkt) =>
      if o.inPort = p then { o with inPort := p + 16 } else o),
    core.resp.inbox := (s.core.resp.inbox.filter (fun (i : InPkt) => !(i.port == p && oneHop i.pkt))).map (fun (i : InPkt) =>
      if i.port = p then { i with port := p + 16 } else i),
    core.time.exch := SMap.del (SMap.del s.core.time.exch p) (p + 16) }

/-- Packets for a port are counted and logged as discarded. -/
def State.discardAll (s : State) (p : Nat) (os : List OutPkt) : State :=
  os.foldl (fun s o => ((s.wr (R.ROUTE_TELEM_DISCARD_COUNT p) (s.rd (R.ROUTE_TELEM_DISCARD_COUNT p) + 1)).startTimer o.tag).logDiscard
    (if o.inPort < 10 then o.inPort else 15) p o.pkt.dest) s

theorem State.dropReady_eq (s : State) (p : Nat) :
    s.dropReady p = ((((s.unqueued p).discardAll p (s.core.router.queued.filter (fun o => o.port == p))).setFlow p Flow.empty).breakPort
      p).setReadyBit p false := rfl

/-- Each packet that waits for an output waited for it before. -/
theorem State.unqueued_mem {x : OutPkt} (hx : x ∈ (s.unqueued p).core.router.queued) :
    x.port ≠ p ∧ ∃ y ∈ s.core.router.queued, x.port = y.port := by
  obtain ⟨y, hy, rfl⟩ := List.mem_map.mp hx
  obtain ⟨hmem, hport⟩ := List.mem_filter.mp hy
  have hsame : (if y.inPort = p then { y with inPort := p + 16 } else y).port = y.port := by
    split <;> rfl
  rw [hsame]
  exact ⟨bne_iff_ne.mp hport, y, hmem, rfl⟩

theorem State.Moved.unqueued (h : s.Moved W t) (p : Nat) : s.Moved W (t.unqueued p) :=
  h.trans ⟨rfl, rfl, List.prefix_rfl, fun _ _ _ => rfl, fun q _ _ _ hq x hx => by
    obtain ⟨-, y, hy, hxy⟩ := State.unqueued_mem hx
    exact hxy ▸ hq y hy⟩

theorem State.Moved.discardAll (h : s.Moved W t) (hp : p < 10) (os : List OutPkt) : s.Moved W (t.discardAll p os) := by
  refine .foldl (fun u o => ?_) h os
  have hcount := (State.Moved.refl W u).wr (R.ROUTE_TELEM_DISCARD_COUNT p) (u.rd (R.ROUTE_TELEM_DISCARD_COUNT p) + 1)
    (.inr (by simp only [Fld.ofPorts, R.ROUTE_TELEM_DISCARD_COUNT]; omega))
  exact (hcount.startTimer _).logDiscard _ _ _

/-- What follows once nothing waits for the port. -/
theorem State.dropReady_after (s : State) (W : Fld → Prop) (hp : p < 10) : (s.unqueued p).Moved W (s.dropReady p) := by
  rw [State.dropReady_eq]
  exact ((((State.Moved.refl W (s.unqueued p)).discardAll hp _).setFlow _ _).breakPort p).setReadyBit p false

theorem State.Moved.dropReady (h : s.Moved W t) (hp : p < 10) : s.Moved W (t.dropReady p) :=
  (h.unqueued p).trans (t.dropReady_after W hp)

/-- A port that has left READY has no packet waiting. -/
theorem State.dropReady_queued (hp : p < 10) (hr : s.portReady p = false) : ∀ x ∈ (s.dropReady p).core.router.queued, x.port ≠ p :=
  (s.dropReady_after (fun _ => False) hp).queue p hp (fun _ => False.elim) hr fun _ hx => (State.unqueued_mem hx).1

/-- The link as a port that leaves its state has it. -/
def Link.cleared (l : Link) : Link := { Link.empty with msgOut := l.msgOut, rateAck := l.rateAck, rate := l.rate }

/-- The first half of an exit: cause, record, R335 and keys. -/
def State.leaveService (s : State) (p cause next was : Nat) (ready : Bool) : State :=
  let s := s.wr (R.GATE_STATUS_CAUSE p) cause
  let s := if ready then (s.count p 9).logErr 2 0 0 p none 0 0 (cause * 16) else s
  let s := if ready then (s.wr (R.GATE_STATUS_STATE p) next).dropReady p else s
  if ready ∨ was = 5 then (s.eraseKeys p).keySend 3 p cause [] else s

/-- The second half of an exit: link, lanes, state and event record. -/
def State.atRest (s : State) (p next : Nat) (ready : Bool) : State :=
  let s := s.modLink p Link.cleared
  let s := if p < 8 then (s.setRxLanes p 0 [] 15).setTxLanes p 0 [] 15 else s
  let s := s.setPortState p next
  if ready then s.portEvent p else s

theorem State.exitPort_eq (s : State) (p cause next : Nat) (down : Bool) :
    s.exitPort p cause next down =
      ((if down then s.sendDown p cause else s).leaveService p cause next (s.portState p) (s.portReady p)).atRest p next (s.portReady p) :=
  rfl

theorem State.OnPort.atRest (h : s.OnPort W p l t) (hstate : W (R.GATE_STATUS_STATE p)) (hW : ∀ g, laneRegs p g → W g) (next : Nat)
    (ready : Bool) : s.OnPort W p l.cleared (t.atRest p next ready) := by
  have hclear := h.modLink Link.cleared
  have hlanes := (hclear.setRxLanes hW 0 [] 15).setTxLanes hW 0 [] 15
  have hset := (State.OnPort.ite (p < 8) hlanes hclear).setPortState next hstate
  exact .ite _ (hset.portEvent p) hset

/-- A port's trace and event record are no registers' business. -/
theorem State.setPortState_state (s : State) (hp : p < 10) {st : Nat} (hst : st < 16) : (s.setPortState p st).portState p = st := by
  have hmoved := (State.Moved.refl (fun _ => False) (s.wr (R.GATE_STATUS_STATE p) st)).traceEv (some R.TRACE_CTL_PORT) 0x40 p 0 0 none 0 0 0
    0 0 0 (s.wr (R.GATE_STATUS_STATE p) st).now (st + (s.wr (R.GATE_STATUS_STATE p) st).rd (R.GATE_STATUS_CAUSE p) * 16)
  refine (hmoved.portState hp fun _ => False.elim).trans ((State.rd_wr_self _ _ _ (by simp [R.GATE_STATUS_STATE])).trans ?_)
  exact Nat.mod_eq_of_lt hst

theorem State.atRest_state (s : State) (hp : p < 10) {next : Nat} (hnext : next < 16) (ready : Bool) :
    (s.atRest p next ready).portState p = next := by
  unfold State.atRest
  extract_lets s1 s2 s3
  have hs3 : s3.portState p = next := s2.setPortState_state hp hnext
  split
  · exact hs3
  · exact hs3

/-- The registers that the keys, the record and the state of a leaving port write. -/
theorem State.Moved.leaveService (h : s.Moved W t) (hp : p < 10) (hstate : W (R.GATE_STATUS_STATE p)) (hW : ∀ g, keyRegs p g → W g)
    (hcause : W (R.GATE_STATUS_CAUSE p)) (cause next was : Nat) (ready : Bool) :
    s.Moved W (t.leaveService p cause next was ready) := by
  unfold State.leaveService
  extract_lets s1 s2 s3
  have hs1 : s.Moved W s1 := h.wr _ _ (.inl hcause)
  have hs2 : s.Moved W s2 := .ite _ ((hs1.count p 9).logErr _ _ _ _ _ _ _ _) hs1
  have hs3 : s.Moved W s3 := .ite _ ((hs2.wr _ _ (.inl hstate)).dropReady hp) hs2
  exact .ite _ (hs3.trans (((State.OnPort.refl W p s3).eraseKeys hW).keySend 3 p cause []).moved) hs3

theorem State.leaveService_cause (s : State) (hp : p < 10) {cause : Nat} (hc : cause < 16) (next was : Nat) (ready : Bool) :
    (s.leaveService p cause next was ready).rd (R.GATE_STATUS_CAUSE p) = cause := by
  have hof : (R.GATE_STATUS_CAUSE p).ofPorts := GATE_STATUS_STATE_ofPorts hp
  unfold State.leaveService
  extract_lets s1 s2 s3
  have hs1 : s1.rd (R.GATE_STATUS_CAUSE p) = cause :=
    (State.rd_wr_self _ _ _ (by simp [R.GATE_STATUS_CAUSE])).trans (Nat.mod_eq_of_lt hc)
  have hkeep (g : Fld) (hg : g = R.GATE_STATUS_STATE p ∨ keyRegs p g) : g.apart (R.GATE_STATUS_CAUSE p) := by
    rcases hg with rfl | hg
    · exact .inr (.inr (.inl (Nat.le_refl 4)))
    · exact wireRegs_apart hp (.inr (.inr ⟨rfl, .inr (by simp [R.GATE_STATUS_CAUSE])⟩)) (.inr hg)
  have hs2 : s1.Moved (fun g => g = R.GATE_STATUS_STATE p ∨ keyRegs p g) s2 :=
    .ite _ (((State.Moved.refl _ s1).count p 9).logErr _ _ _ _ _ _ _ _) (.refl _ s1)
  have hs3 : s1.Moved (fun g => g = R.GATE_STATUS_STATE p ∨ keyRegs p g) s3 := .ite _ ((hs2.wr _ _ (.inl (.inl rfl))).dropReady hp) hs2
  have hend : s1.Moved (fun g => g = R.GATE_STATUS_STATE p ∨ keyRegs p g)
      (if ready = true ∨ was = 5 then (s3.eraseKeys p).keySend 3 p cause [] else s3) :=
    .ite _ (hs3.trans (((State.OnPort.refl _ p s3).eraseKeys fun _ hg => .inr hg).keySend 3 p cause []).moved) hs3
  exact (hend.rd _ hof hkeep).trans hs1

/-- `t` is `s` after port `p` has left its state for `next` with a cause. -/
structure State.Exited (p cause next : Nat) (s t : State) : Prop where
  moved : s.Moved (exitRegs p) t
  state : t.portState p = next
  cause : t.rd (R.GATE_STATUS_CAUSE p) = cause
  link : ∃ l : Link, t.link p = l.cleared

theorem State.exitPort_exited (s : State) {cause next : Nat} (hp : p < 10) (hcause : cause < 16) (hnext : next < 16) (down : Bool) :
    s.Exited p cause next (s.exitPort p cause next down) := by
  rw [State.exitPort_eq]
  have hdown : s.Moved (exitRegs p) (if down then s.sendDown p cause else s) := by
    obtain ⟨k, hk⟩ := (State.OnPort.refl (exitRegs p) p s).sendDown (fun g hg => .inr (.inr hg)) cause
    exact .ite _ hk.moved (.refl _ s)
  generalize (if down then s.sendDown p cause else s) = u at hdown ⊢
  have hleave := hdown.leaveService hp (.inl rfl) (fun g hg => .inr (.inr (.inr hg))) (.inr (.inl rfl)) cause next (s.portState p)
    (s.portReady p)
  have hcauseSet := u.leaveService_cause hp hcause next (s.portState p) (s.portReady p)
  generalize u.leaveService p cause next (s.portState p) (s.portReady p) = v at hleave hcauseSet ⊢
  have hrest := (State.OnPort.refl (fun g => g = R.GATE_STATUS_STATE p ∨ laneRegs p g) p v).atRest (.inl rfl) (fun _ hg => .inr hg) next
    (s.portReady p)
  refine ⟨hleave.trans (hrest.moved.mono ?_), v.atRest_state hp hnext _, ?_, _, hrest.link⟩
  · rintro g (rfl | hg)
    · exact .inl rfl
    · exact .inr (.inr (.inl hg))
  · refine (hrest.moved.rd (R.GATE_STATUS_CAUSE p) (GATE_STATUS_STATE_ofPorts hp) ?_).trans hcauseSet
    rintro g (rfl | hg)
    · exact .inr (.inr (.inl (Nat.le_refl 4)))
    · exact wireRegs_apart hp (.inr (.inr ⟨rfl, .inr (by simp [R.GATE_STATUS_CAUSE])⟩)) (.inl hg)

/-- A port that ends out of READY without DOWN has no packet queued that did not wait before. -/
theorem State.exitPort_queued (s : State) {next : Nat} (cause : Nat) (hp : p < 10) (hnext : next < 16) (h6 : next ≠ 6) (h7 : next ≠ 7) :
    ∀ x ∈ (s.exitPort p cause next false).core.router.queued, x.port = p → x ∈ s.core.router.queued := by
  intro x hx hport
  rw [State.exitPort_eq, ((State.OnPort.refl (fun _ => True) p _).atRest trivial (fun _ _ => trivial) _ _).core] at hx
  have herase (v : State) : ((v.eraseKeys p).keySend 3 p cause []).core.router = v.core.router := by
    rw [(((State.OnPort.refl (fun _ => True) p v).eraseKeys fun _ _ => trivial).keySend 3 p cause []).core]
  cases hr : s.portReady p with
  | false =>
    simp only [hr, State.leaveService, Bool.false_eq_true, if_false, false_or] at hx
    split at hx
    · rwa [herase, State.wr_core_router] at hx
    · rwa [State.wr_core_router] at hx
  | true =>
    simp only [hr, State.leaveService, Bool.false_eq_true, if_false, if_true, true_or, herase] at hx
    refine absurd hport (State.dropReady_queued hp ?_ x hx)
    simp [State.portReady, State.portState, State.rd_wr_self, R.GATE_STATUS_STATE, Nat.mod_eq_of_lt hnext, h6, h7]

end

end Sys2Proof.Machine

namespace Sys2Proof.Machine

/-! ## LINK packets (R329-R331) -/

section
variable {W V : Fld → Prop} {p : Nat} {l k : Link} {s t u : State}

/-- A LINK packet made of fields that share no bit holds them. -/
theorem State.linkPkt_fld {sub off lo w v : Nat} {fields places : List (Nat × Nat × Nat)}
    (hm : hf off lo w v ∈ headFields 0 0 0 (if s.selfValid then s.self else 0) 0 0 0 0 ++ ([hf 0x10 0 4 sub, hf 0x10 4 4 p] ++ fields))
    (hplaces : fields.map (fun x => (x.1, x.2.1)) = places.map fun x => (x.1, x.2.1))
    (hapart : (headFields 0 0 0 0 0 0 0 0 ++ ([hf 0x10 0 4 0, hf 0x10 4 4 0] ++ places)).Pairwise bitsApart)
    (hb : 8 * off + lo + w ≤ 512) : (s.linkPkt p sub fields).fld off lo w = v % 2 ^ w := by
  refine mkPacket_fld _ _ _ _ _ _ _ _ _ _ _ _ _ (bitsApart_of_places ?_ hapart) hm hb
  rw [List.map_append, List.map_append, List.map_append, List.map_append, hplaces]
  rfl

/-- The places of a DISCOVER's fields that every port gives (R330), and those that gates add. -/
def discoverPlaces : List (Nat × Nat × Nat) :=
  [hf 0x11 0 3 0, hf 0x11 6 1 0, hf 0x14 0 16 0, hf 0x16 0 16 0, hf 0x30 0 32 0, hf 0x34 0 32 0, hf 0x20 0 16 0, hf 0x22 0 16 0,
    hf 0x24 0 16 0, hf 0x26 0 16 0, hf 0x28 0 16 0]
def discoverGatePlaces : List (Nat × Nat × Nat) :=
  [hf 0x11 3 2 0, hf 0x11 5 1 0, hf 0x11 7 1 0, hf 0x12 0 9 0, hf 0x18 0 1 0, hf 0x18 1 2 0, hf 0x18 3 1 0]

theorem discoverPlaces_apart :
    (headFields 0 0 0 0 0 0 0 0 ++ ([hf 0x10 0 4 0, hf 0x10 4 4 0] ++ (discoverPlaces ++ discoverGatePlaces))).Pairwise bitsApart := by
  unfold bitsApart
  decide

/-- A DISCOVER is a LINK packet. -/
theorem State.discoverPkt_isLink (s : State) (p : Nat) (warm : Bool) :
    (s.discoverPkt p warm).cls = 0 ∧ (s.discoverPkt p warm).type = 0 := by
  obtain ⟨places, hplaces, hapart⟩ : ∃ places, (places = discoverPlaces ++ discoverGatePlaces ∧ p < 8 ∨ places = discoverPlaces ∧ ¬ p < 8) ∧
      (headFields 0 0 0 0 0 0 0 0 ++ ([hf 0x10 0 4 0, hf 0x10 4 4 0] ++ places)).Pairwise bitsApart := by
    have h := discoverPlaces_apart
    by_cases hp : p < 8
    · exact ⟨_, .inl ⟨rfl, hp⟩, h⟩
    · refine ⟨_, .inr ⟨rfl, hp⟩, ?_⟩
      rw [← List.append_assoc, ← List.append_assoc] at h
      exact List.append_assoc _ _ _ ▸ (List.pairwise_append.mp h).1
  have hfields : ∀ off lo w v, hf off lo w v ∈ headFields 0 0 0 (if s.selfValid then s.self else 0) 0 0 0 0 → 8 * off + lo + w ≤ 512 →
      (s.discoverPkt p warm).fld off lo w = v % 2 ^ w := fun off lo w v hm hb =>
    State.linkPkt_fld (List.mem_append_left _ hm) (by rcases hplaces with ⟨rfl, hp⟩ | ⟨rfl, hp⟩ <;> simp only [hp, if_true, if_false] <;>
      rfl) hapart hb
  exact ⟨hfields 0 0 3 0 (by simp [headFields]) (by decide), hfields 0 3 5 0 (by simp [headFields]) (by decide)⟩

/-- What a DISCOVER says hangs on no link but for the port's CTL word. -/
theorem State.discoverPkt_congr (p : Nat) (warm : Bool) (ht : t = { s with core.links := t.core.links, out := t.out })
    (hctl : (t.link p).ctl = (s.link p).ctl) : t.discoverPkt p warm = s.discoverPkt p warm := by
  obtain ⟨m, o, rfl⟩ : ∃ (m : SMap Link) (o : List Output), t = { s with core.links := m, out := o } := ⟨_, _, ht⟩
  simp only [State.discoverPkt, State.maxRate, State.versions, State.ctl, hctl]
  rfl

/-- Before READY a LINK packet goes to the port's frames (R330). -/
theorem State.sendPort_training (s : State) {p : Nat} {x : Packet} (hr : s.portReady p = false) (h0 : s.portState p ≠ 0)
    (h8 : s.portState p ≠ 8) (hc : x.cls = 0) (ht : x.type = 0) :
    s.sendPort p x = s.modLink p fun l => { l with tx := l.tx ++ txItems ⟨10, p, true, 0, none, none, x, 0⟩ } := by
  simp only [State.sendPort, State.sendBy, hr, h0, h8, hc, ht, ne_eq, not_false_eq_true, true_or, and_self, if_true, Bool.false_eq_true,
    if_false]

end

end Sys2Proof.Machine

namespace Sys2Proof.Machine

/-! ## Training (R330-R334, R340) -/

/-- The registers the training of a port writes: its state, what it negotiates, and its lanes. -/
def trainRegs (p : Nat) (g : Fld) : Prop := g = R.GATE_STATUS_STATE p ∨ g.addr = 0x1000c + p * 0x10000 ∨ laneRegs p g

section
variable {W V : Fld → Prop} {p : Nat} {l k : Link} {s t u : State}

theorem trainRegs_apart (hp : p < 10) {f : Fld} (hf : f.addr < 0x10004 + p * 0x10000 ∨
    f.addr = 0x10004 + p * 0x10000 ∧ (f.aon = true ∨ 4 ≤ f.lo ∧ f.lo + f.width ≤ 16)) {g : Fld} (hg : trainRegs p g) : g.apart f := by
  rcases hg with rfl | hg | hg
  · rcases hf with hf | ⟨-, hf | hf⟩
    · exact .inr (.inl (Nat.ne_of_lt hf))
    · exact .inl (by rw [hf, R.GATE_STATUS_STATE]; exact Bool.noConfusion)
    · exact .inr (.inr (.inl hf.1))
  · exact .inr (.inl (by omega))
  · exact wireRegs_apart hp (hf.imp_right fun hf => .inr (hf.imp_right (Or.imp_right And.right))) (.inl hg)

/-- What a training writes after the state itself leaves the state. -/
theorem laneRegs_apart_state (hp : p < 10) {g : Fld} (hg : g.addr = 0x1000c + p * 0x10000 ∨ laneRegs p g) :
    g.apart (R.GATE_STATUS_STATE p) := by
  rcases hg with hg | hg
  · exact .inr (.inl (by rw [hg]; simp only [R.GATE_STATUS_STATE]; omega))
  · exact wireRegs_apart hp (.inr (.inr ⟨rfl, .inr (by simp [R.GATE_STATUS_STATE])⟩)) (.inl hg)

theorem State.OnPort.setPortCap (h : s.OnPort W p l t) (hp : p < 10) : s.OnPort W p l (t.setPortCap p) := by
  have hfar (f : Fld) (hf : f.addr = 0xd0100 + p * 0x4) : ¬ f.ofPorts := by
    simp only [Fld.ofPorts]
    omega
  exact (h.wr (R.BOLT_PORT_CAP_FLITS p) _ (.inr (hfar _ rfl))).wr (R.BOLT_PORT_CAP_PKTS p) _ (.inr (hfar _ rfl))

/-- A DISCOVER before READY waits in the port's frames, with the lanes it named (R330, R331). -/
theorem State.sendDiscover_eq (s : State) {p : Nat} (hr : s.portReady p = false) (h0 : s.portState p ≠ 0) (h8 : s.portState p ≠ 8)
    (warm : Bool) :
    s.sendDiscover p warm =
      (s.modLink p fun l => { l with tx := l.tx ++ txItems ⟨10, p, true, 0, none, none, s.discoverPkt p warm, 0⟩ }).modLink
      p fun l => { l with sentGood := s.locked p } := by
  rw [State.sendDiscover, State.sendPort_training s hr h0 h8 (s.discoverPkt_isLink p warm).1 (s.discoverPkt_isLink p warm).2]

theorem State.portReady_of_state {st : Nat} (h : s.portState p = st) (h6 : st ≠ 6) (h7 : st ≠ 7) : s.portReady p = false := by
  simp [State.portReady, h, h6, h7]

/-- The link as a gate's training begins. -/
def Link.restarted (l : Link) : Link := { Link.empty with msgOut := l.msgOut, rateAck := l.rateAck, rate := l.rate, ctl := l.ctl }

theorem State.toProbe_eq (s : State) (p : Nat) : s.toProbe p = ((s.modLink p Link.restarted).setRate p 0).setPortState p 1 := rfl

theorem Link.atRate_rate (l : Link) (r : Nat) : (l.atRate r).rate = r := by
  unfold Link.atRate
  split
  · assumption
  · rfl

theorem Link.atRate_cfg (l : Link) (r : Nat) : (l.atRate r).cfg = l.cfg := by
  unfold Link.atRate
  split <;> rfl

/-- PROBE: 56 Gb/s (R330). -/
theorem State.toProbe_spec (s : State) (hp : p < 10) :
    s.OnPort (fun g => g = R.GATE_STATUS_STATE p) p ((s.link p).restarted.atRate 0) (s.toProbe p) ∧ (s.toProbe p).portState p = 1 := by
  rw [State.toProbe_eq]
  exact ⟨(((State.OnPort.refl _ p s).modLink Link.restarted).setRate 0).setPortState 1 rfl, State.setPortState_state _ hp (by decide)⟩

/-- Negotiated rate, width and code of a training. -/
def State.setNeg (s : State) (p rate x4 : Nat) : State :=
  ((s.wr (R.GATE_NEG_RATE p) rate).wr (R.GATE_NEG_X4 p) x4).wr (R.GATE_NEG_SHORT p) 0

theorem State.OnPort.setNeg (h : s.OnPort W p l t) (hW : ∀ g : Fld, g.addr = 0x1000c + p * 0x10000 → W g) (rate x4 : Nat) :
    s.OnPort W p l (t.setNeg p rate x4) :=
  ((h.wr (R.GATE_NEG_RATE p) rate (.inl (hW _ rfl))).wr (R.GATE_NEG_X4 p) x4 (.inl (hW _ rfl))).wr (R.GATE_NEG_SHORT p) 0 (.inl (hW _ rfl))

theorem State.setNeg_rate (s : State) (p : Nat) {rate : Nat} (hr : rate < 4) (x4 : Nat) :
    (s.setNeg p rate x4).rd (R.GATE_NEG_RATE p) = rate := by
  unfold State.setNeg
  rw [State.rd_wr_ne _ _ _ _ (.inr (.inr (.inr (by simp [R.GATE_NEG_RATE, R.GATE_NEG_SHORT])))),
    State.rd_wr_ne _ _ _ _ (.inr (.inr (.inr (by simp [R.GATE_NEG_RATE, R.GATE_NEG_X4])))),
      State.rd_wr_self _ _ _ (by simp [R.GATE_NEG_RATE])]
  exact Nat.mod_eq_of_lt hr

theorem State.OnPort.sendDiscover (h : s.OnPort W p l t) (hr : t.portReady p = false) (h0 : t.portState p ≠ 0) (h8 : t.portState p ≠ 8)
    (warm : Bool) :
    s.OnPort W p { l with tx := l.tx ++ txItems ⟨10, p, true, 0, none, none, t.discoverPkt p warm, 0⟩, sentGood := t.locked p }
      (t.sendDiscover p warm) := by
  rw [State.sendDiscover_eq t hr h0 h8]
  exact (h.modLink fun l => { l with tx := l.tx ++ txItems ⟨10, p, true, 0, none, none, t.discoverPkt p warm, 0⟩ }).modLink
    fun l => { l with sentGood := t.locked p }

/-- The capacity, the lanes and the PHY's coefficients of a gate in FAST. -/
def State.fastLanes (s : State) (p m : Nat) : State :=
  let s := (s.setPortCap p).trainLanes p (assign 0x1FF (bits m 2 1 == 1)).1
  s.cfgPush p ((List.range 9).map (fun l => ⟨l, 0, (SMap.getD s.aon.coefs (p * 16 + l) 0).toNat⟩))

theorem State.toFast_eq (s : State) (p : Nat) :
    s.toFast p = ((((((s.modLink p Link.restarted).setRate p (bits (s.storedMode p) 0 2)).setPortState p 2).setNeg p
      (bits (s.storedMode p) 0 2) (bits (s.storedMode p) 2 1)).fastLanes p (s.storedMode p)).sendDiscover p true) := rfl

theorem State.fastLanes_spec (s : State) (hp : p < 10) (m : Nat) : ∃ l : Link, l.cfg.length = (s.link p).cfg.length + 9 ∧
    s.OnPort (laneRegs p) p l (s.fastLanes p m) :=
  ⟨_, by simp only [List.length_append, List.length_map, List.length_range],
    (((State.OnPort.refl (laneRegs p) p s).setPortCap hp).trainLanes (fun _ hg => hg) (assign 0x1FF (bits m 2 1 == 1)).1).cfgPush
      ((List.range 9).map (fun l => ⟨l, 0, (SMap.getD ((s.setPortCap p).trainLanes p (assign 0x1FF (bits m 2 1 == 1)).1).aon.coefs
        (p * 16 + l) 0).toNat⟩))⟩

/-- FAST: the stored rate, and the nine lanes' coefficients for the PHY (R330, R334). -/
theorem State.toFast_spec (s : State) (hp : p < 10) : ∃ l : Link, l.cfg.length = 9 ∧
    s.OnPort (trainRegs p) p l (s.toFast p) ∧ (s.toFast p).portState p = 2 ∧ (s.toFast p).rd (R.GATE_NEG_RATE p) =
      bits (s.storedMode p) 0 2 := by
  rw [State.toFast_eq]
  generalize s.storedMode p = m
  have h2 := (((State.OnPort.refl (trainRegs p) p s).modLink Link.restarted).setRate (bits m 0 2)).setPortState 2 (.inl rfl)
  have hstate := ((s.modLink p Link.restarted).setRate p (bits m 0 2)).setPortState_state hp (st := 2) (by decide)
  generalize ((s.modLink p Link.restarted).setRate p (bits m 0 2)).setPortState p 2 = v at *
  have hneg := (State.OnPort.refl (fun g => g.addr = 0x1000c + p * 0x10000 ∨ laneRegs p g) p v).setNeg (fun _ hg => .inl hg) (bits m 0 2)
    (bits m 2 1)
  have hstate3 := (hneg.moved.portState hp fun _ => laneRegs_apart_state hp).trans hstate
  have hrate := v.setNeg_rate p (bits_lt m 0 2) (bits m 2 1)
  generalize v.setNeg p (bits m 0 2) (bits m 2 1) = w at *
  obtain ⟨k, hcfg, hlanes⟩ := w.fastLanes_spec hp m
  have hstate4 := (hlanes.moved.portState hp fun _ hg => laneRegs_apart_state hp (.inr hg)).trans hstate3
  have hend := hlanes.sendDiscover (State.portReady_of_state hstate4 (by decide) (by decide)) (by rw [hstate4]; decide)
    (by rw [hstate4]; decide) true
  refine ⟨_, ?_, (h2.trans (hneg.mono fun g hg => .inr hg)).trans (hend.mono fun g hg => .inr (.inr hg)), ?_, ?_⟩
  · rw [hcfg, hneg.link, h2.link, Link.atRate_cfg]
    rfl
  · exact (hend.moved.portState hp fun _ hg => laneRegs_apart_state hp (.inr hg)).trans hstate3
  · refine (hend.moved.rd _ ?_ fun g hg => wireRegs_apart hp ?_ (.inl hg)).trans hrate
    · simp only [Fld.ofPorts, R.GATE_NEG_RATE]
      omega
    · simp only [R.GATE_NEG_RATE]
      omega

/-- What a gate uses in DISCOVER. -/
def State.discoverLanes (s : State) (p : Nat) : State :=
  (if p < 8 then (s.setNeg p 0 1).trainLanes p (assign (s.locked p) true).1 else s).setPortCap p

theorem State.toDiscover_eq (s : State) (p : Nat) : s.toDiscover p = ((s.setPortState p 3).discoverLanes p).sendDiscover p false := by
  unfold State.toDiscover State.discoverLanes State.setNeg
  rfl

theorem State.discoverLanes_spec (s : State) (hp : p < 10) : ∃ l : Link,
    s.OnPort (fun g => g.addr = 0x1000c + p * 0x10000 ∨ laneRegs p g) p l (s.discoverLanes p) ∧ l.tx = (s.link p).tx := by
  unfold State.discoverLanes
  split
  · exact ⟨_, (((State.OnPort.refl (fun g => g.addr = 0x1000c + p * 0x10000 ∨ laneRegs p g) p s).setNeg (fun _ hg => .inl hg) 0
      1).trainLanes (fun _ hg => .inr hg) (assign (s.locked p) true).1).setPortCap hp, rfl⟩
  · exact ⟨_, (State.OnPort.refl _ p s).setPortCap hp, rfl⟩

/-- The DISCOVER that a port sends is the one it would send next. -/
theorem State.sendDiscover_discoverPkt (s : State) {p : Nat} (hr : s.portReady p = false) (h0 : s.portState p ≠ 0) (h8 : s.portState p ≠ 8)
    (warm : Bool) : (s.sendDiscover p warm).discoverPkt p warm = s.discoverPkt p warm := by
  rw [State.sendDiscover_eq s hr h0 h8]
  refine State.discoverPkt_congr p warm rfl ?_
  rw [State.link_modLink_self, State.link_modLink_self]

/-- DISCOVER: the port's frames carry what this end says of itself (R330, R331). -/
theorem State.toDiscover_spec (s : State) (hp : p < 10) : ∃ l : Link, s.OnPort (trainRegs p) p l (s.toDiscover p) ∧
    (s.toDiscover p).portState p = 3 ∧
    l.tx = (s.link p).tx ++ txItems ⟨10, p, true, 0, none, none, (s.toDiscover p).discoverPkt p false, 0⟩ := by
  rw [State.toDiscover_eq]
  have h3 := (State.OnPort.refl (trainRegs p) p s).setPortState 3 (.inl rfl)
  have hstate := s.setPortState_state hp (st := 3) (by decide)
  generalize s.setPortState p 3 = v at *
  obtain ⟨k, hlanes, htx⟩ := v.discoverLanes_spec hp
  have hstate4 := (hlanes.moved.portState hp fun _ => laneRegs_apart_state hp).trans hstate
  generalize v.discoverLanes p = w at *
  have hr := State.portReady_of_state hstate4 (by decide) (by decide)
  have hend := hlanes.sendDiscover hr (by rw [hstate4]; decide) (by rw [hstate4]; decide) false
  refine ⟨_, h3.trans (hend.mono fun g hg => .inr hg), (hend.moved.portState hp fun _ => laneRegs_apart_state hp).trans hstate, ?_⟩
  rw [State.sendDiscover_discoverPkt w hr (by rw [hstate4]; decide) (by rw [hstate4]; decide), ← h3.link, ← htx]

/-- The CTL word as a port leaves DISABLED or BACKOFF, and a gate's acknowledged rate where it begins at 56 Gb/s. -/
def State.leaveRest (s : State) (p : Nat) : State :=
  s.modLink p (fun l => { l with rateAck := if l.rate = 0 then bit s.pins.rateAck p else l.rateAck,
                                  ctl := s.word false (R.GATE_CTL_ENABLE p).addr })

theorem State.train_gate (s : State) (hg : p < 8) : s.train p =
    if s.on (R.GATE_CTL_WARM_OK p) = true ∧ s.on (R.GATE_STATUS_COEF_VALID p) = true then (s.leaveRest p).toFast p
    else (s.leaveRest p).toProbe p := if_pos hg

/-- A hinge port waits for its PHY (R340). -/
def State.waitPhy (s : State) (p : Nat) : State :=
  (s.modLink p (fun l => { Link.empty with msgOut := l.msgOut, ctl := s.word false (R.GATE_CTL_ENABLE p).addr })).setPortState p 9

theorem State.train_hinge (s : State) (hh : ¬ p < 8) : s.train p =
    if bit (s.waitPhy p).pins.linkUp (p - 8) then (s.waitPhy p).toDiscover p else s.waitPhy p := if_neg hh

/-- A port trains (R330, R340). -/
theorem State.train_spec (s : State) (hp : p < 10) : (∃ l, s.OnPort (trainRegs p) p l (s.train p)) ∧
    (s.train p).portState p = if p < 8 then (if s.on (R.GATE_CTL_WARM_OK p) = true ∧ s.on (R.GATE_STATUS_COEF_VALID p) = true then 2 else 1)
      else if bit s.pins.linkUp (p - 8) then 3 else 9 := by
  by_cases hg : p < 8
  · have hrest : s.OnPort (trainRegs p) p _ (s.leaveRest p) := (State.OnPort.refl _ p s).modLink _
    rw [if_pos hg, s.train_gate hg]
    split
    · obtain ⟨l, -, hfast, hstate, -⟩ := (s.leaveRest p).toFast_spec hp
      exact ⟨⟨_, hrest.trans hfast⟩, hstate⟩
    · obtain ⟨hprobe, hstate⟩ := (s.leaveRest p).toProbe_spec hp
      exact ⟨⟨_, hrest.trans (hprobe.mono fun _ => .inl)⟩, hstate⟩
  · have hwait : s.OnPort (trainRegs p) p _ (s.waitPhy p) := ((State.OnPort.refl _ p s).modLink _).setPortState 9 (.inl rfl)
    rw [if_neg hg, s.train_hinge hg, hwait.moved.pins]
    split
    · obtain ⟨l, hdisc, hstate, -⟩ := (s.waitPhy p).toDiscover_spec hp
      exact ⟨⟨_, hwait.trans hdisc⟩, hstate⟩
    · exact ⟨⟨_, hwait⟩, State.setPortState_state _ hp (by decide)⟩

end

end Sys2Proof.Machine

namespace Sys2Proof.Machine

/-! ## ENABLE, RETRAIN and RETRY (R330, R332, R340, R342) -/

/-- `t` shows what `u` does: all but the outputs, which the wiring may hold back. -/
def State.Shown (u t : State) : Prop := t = { u with out := t.out }

section
variable {W V : Fld → Prop} {p : Nat} {l k : Link} {s t u : State} {body : State → State}

theorem State.Shown.core (h : u.Shown t) : t.core = u.core := (congrArg State.core h :)

theorem State.Shown.aon (h : u.Shown t) : t.aon = u.aon := (congrArg State.aon h :)

theorem State.Shown.pins (h : u.Shown t) : t.pins = u.pins := (congrArg State.pins h :)

theorem State.Shown.rd (h : u.Shown t) (f : Fld) : t.rd f = u.rd f := (congrArg (State.rd · f) h :)

theorem State.Shown.link (h : u.Shown t) (k : Nat) : t.link k = u.link k := (congrArg (State.link · k) h :)

theorem State.Shown.portState (h : u.Shown t) (p : Nat) : t.portState p = u.portState p := h.rd _

theorem State.wire_shown (hu : u.off = false) : u.Shown (wire u) :=
  (wire_eq u).trans (by rw [hu]; rfl)

/-- A core-domain command that stays outside OFF shows what its body gives. -/
theorem coreCmd_shown (hoff : s.off = false) (hb : body { s with out := [] } = u) (hu : u.off = false) :
    ∃ t, coreCmd body s = .next t ∧ u.Shown t := by
  subst hb
  exact ⟨_, coreCmd_on body s hoff, State.wire_shown hu⟩

/-- The fields of a port's registers leave the sequencer. -/
theorem exitRegs_off {g : Fld} (hg : exitRegs p g) : g.addr ≠ 0x10 := by
  rcases hg with rfl | rfl | (hg | hg | ⟨hg, -⟩) | hg | hg
  · simp only [R.GATE_STATUS_STATE]
    omega
  · simp only [R.GATE_STATUS_CAUSE]
    omega
  all_goals omega

theorem trainRegs_off {g : Fld} (hg : trainRegs p g) : g.addr ≠ 0x10 := by
  rcases hg with rfl | hg | hg | hg | ⟨hg, -⟩
  · simp only [R.GATE_STATUS_STATE]
    omega
  all_goals omega

theorem State.rd_wr_bits (s : State) {a lo w : Nat} {aon : Bool} (v : Nat) (h : lo + w ≤ 32) :
    (s.wr ⟨a, lo, w, aon⟩ v).rd ⟨a, lo, w, aon⟩ = v % 2 ^ w := s.rd_wr_self _ v h

theorem State.rd_wr_bits_ne (s : State) {a lo w lo' w' : Nat} {aon : Bool} (v : Nat) (h : lo + w ≤ lo' ∨ lo' + w' ≤ lo) :
    (s.wr ⟨a, lo, w, aon⟩ v).rd ⟨a, lo', w', aon⟩ = s.rd ⟨a, lo', w', aon⟩ := s.rd_wr_ne _ _ v (.inr (.inr h))

/-- The writable fields of GATE_CTL (R342). -/
def ctlFields (p : Nat) : List Fld :=
  [R.GATE_CTL_ENABLE p, R.GATE_CTL_CLEAR_OK p, R.GATE_CTL_VERSIONS p, R.GATE_CTL_MAX_RATE p, R.GATE_CTL_X4_ONLY p, R.GATE_CTL_SHORT_OK p,
    R.GATE_CTL_WARM_OK p, R.GATE_CTL_ROTATE p]

theorem ctlFields_addr {g : Fld} (hg : g ∈ ctlFields p) : g.addr = 0x10000 + p * 0x10000 := by
  simp only [ctlFields, List.mem_cons, List.not_mem_nil, or_false] at hg
  rcases hg with rfl | rfl | rfl | rfl | rfl | rfl | rfl | rfl <;> rfl

theorem State.storeGateCtl_wrote (s : State) (p : Nat) (d : Word) : s.Wrote (s.storeGateCtl p d) (ctlFields p) := by
  have hhead := (((State.Wrote.refl s (ctlFields p)).wr (R.GATE_CTL_ENABLE p) (bits d.toNat 0 1) (by simp [ctlFields]) rfl).wr
    (R.GATE_CTL_CLEAR_OK p) (bits d.toNat 5 1) (by simp [ctlFields]) rfl).wr (R.GATE_CTL_VERSIONS p) (bits d.toNat 6 3)
      (by simp [ctlFields]) rfl
  unfold State.storeGateCtl
  dsimp only
  split
  · exact ((((hhead.wr _ _ (by simp [ctlFields]) rfl).wr _ _ (by simp [ctlFields]) rfl).wr _ _ (by simp [ctlFields]) rfl).wr _ _
      (by simp [ctlFields]) rfl).wr _ _ (by simp [ctlFields]) rfl
  · exact hhead

theorem State.storeGateCtl_onPort (s : State) (p : Nat) (d : Word) :
    s.OnPort (fun g => g.addr = 0x10000 + p * 0x10000) p (s.link p) (s.storeGateCtl p d) := by
  have hhead := (((State.OnPort.refl (fun g => g.addr = 0x10000 + p * 0x10000) p s).wr (R.GATE_CTL_ENABLE p) (bits d.toNat 0 1)
    (.inl rfl)).wr
    (R.GATE_CTL_CLEAR_OK p) (bits d.toNat 5 1) (.inl rfl)).wr (R.GATE_CTL_VERSIONS p) (bits d.toNat 6 3) (.inl rfl)
  unfold State.storeGateCtl
  dsimp only
  split
  · exact ((((hhead.wr _ _ (.inl rfl)).wr _ _ (.inl rfl)).wr _ _ (.inl rfl)).wr _ _ (.inl rfl)).wr _ _ (.inl rfl)
  · exact hhead

theorem State.storeGateCtl_enable (s : State) (p : Nat) (d : Word) :
    (s.storeGateCtl p d).rd (R.GATE_CTL_ENABLE p) = bits d.toNat 0 1 := by
  have hlt := Nat.mod_eq_of_lt (bits_lt d.toNat 0 1)
  unfold State.storeGateCtl
  simp only [R.GATE_CTL_ENABLE, R.GATE_CTL_CLEAR_OK, R.GATE_CTL_VERSIONS, R.GATE_CTL_MAX_RATE, R.GATE_CTL_X4_ONLY, R.GATE_CTL_SHORT_OK,
    R.GATE_CTL_WARM_OK, R.GATE_CTL_ROTATE]
  split <;> simp (disch := decide) only [State.rd_wr_bits_ne, State.rd_wr_bits, hlt]

theorem State.storeGateCtl_gate (s : State) (hp : p < 8) (d : Word) :
    (s.storeGateCtl p d).rd (R.GATE_CTL_MAX_RATE p) = bits d.toNat 1 2 ∧ (s.storeGateCtl p d).rd (R.GATE_CTL_WARM_OK p) =
      bits d.toNat 9 1 := by
  have hrate := Nat.mod_eq_of_lt (bits_lt d.toNat 1 2)
  have hwarm := Nat.mod_eq_of_lt (bits_lt d.toNat 9 1)
  unfold State.storeGateCtl
  simp only [hp, if_true, R.GATE_CTL_ENABLE, R.GATE_CTL_CLEAR_OK, R.GATE_CTL_VERSIONS, R.GATE_CTL_MAX_RATE, R.GATE_CTL_X4_ONLY,
    R.GATE_CTL_SHORT_OK, R.GATE_CTL_WARM_OK, R.GATE_CTL_ROTATE]
  constructor <;> simp (disch := decide) only [State.rd_wr_bits_ne, State.rd_wr_bits, hrate, hwarm]

/-- Start control reads nothing of a port's CTL register (R367). -/
theorem State.storeGateCtl_permits (s : State) (p q : Nat) (d : Word) : (s.storeGateCtl p d).permits q = s.permits q := by
  have hw := s.storeGateCtl_wrote p d
  have hfar (f : Fld) (hf : f.addr < 0x10000) : (s.storeGateCtl p d).rd f = s.rd f :=
    hw.rd f fun g hg => .inr (.inl (by rw [ctlFields_addr hg]; omega))
  simp only [State.permits, State.running, State.seq, State.portPresent, State.stHoldsPort, hw.build, hw.aon,
    (s.storeGateCtl_onPort p d).moved.pins, hfar R.GLOBAL_START_STATUS_STATE (by decide), hfar R.GLOBAL_ST_STATUS_STATE (by decide),
    hfar R.GLOBAL_BIST_GATE_FAIL (by decide), hfar R.GLOBAL_BIST_HINGE_FAIL (by decide)]

/-- ENABLE 1 trains a DISABLED port that start control permits. -/
theorem State.enable_trains (hp : p < 10) {d : Word} (hd : bits d.toNat 0 1 = 1) (h0 : s.portState p = 0) (hperm : s.permits p = true) :
    (s.storeGateCtl p d).tryTrain p = (s.storeGateCtl p d).train p := by
  refine if_pos ⟨?_, ?_, (s.storeGateCtl_permits p p d).trans hperm⟩
  · refine ((s.storeGateCtl_onPort p d).moved.portState hp fun g hg => .inr (.inl ?_)).trans h0
    rw [hg]
    simp only [R.GATE_STATUS_STATE]
    omega
  · rw [State.on_eq, State.storeGateCtl_enable, hd]
    rfl

end

end Sys2Proof.Machine

namespace Sys2Proof.Machine

section
variable {W V : Fld → Prop} {p : Nat} {l k : Link} {s t u : State} {body : State → State}

/-- A port that trains keeps its CTL register. -/
theorem State.train_ctl (s : State) (hp : p < 10) {f : Fld} (hf : f.addr = 0x10000 + p * 0x10000) : (s.train p).rd f = s.rd f := by
  obtain ⟨⟨l, hl⟩, -⟩ := s.train_spec hp
  exact hl.moved.rd f (by simp only [Fld.ofPorts, hf]; omega) fun g hg => trainRegs_apart hp (.inl (by omega)) hg

theorem State.storeGateCtl_off (s : State) (p : Nat) (d : Word) : (s.storeGateCtl p d).off = s.off := (s.storeGateCtl_wrote p d).off

theorem State.train_off (s : State) (hp : p < 10) : (s.train p).off = s.off := by
  obtain ⟨⟨l, hl⟩, -⟩ := s.train_spec hp
  exact hl.moved.off fun g hg => trainRegs_off hg

/-- The other registers of a port keep what they hold when its CTL register is written. -/
theorem State.storeGateCtl_rd (s : State) (p : Nat) (d : Word) {f : Fld} (hf : f.addr ≠ 0x10000 + p * 0x10000 ∨ f.aon = true) :
    (s.storeGateCtl p d).rd f = s.rd f := by
  refine (s.storeGateCtl_wrote p d).rd f fun g hg => ?_
  rcases hf with hf | hf
  · exact .inr (.inl (by rw [ctlFields_addr hg]; exact hf))
  · refine .inl ?_
    simp only [ctlFields, List.mem_cons, List.not_mem_nil, or_false] at hg
    rcases hg with rfl | rfl | rfl | rfl | rfl | rfl | rfl | rfl <;> simp [hf, R.GATE_CTL_ENABLE, R.GATE_CTL_CLEAR_OK, R.GATE_CTL_VERSIONS,
      R.GATE_CTL_MAX_RATE, R.GATE_CTL_X4_ONLY, R.GATE_CTL_SHORT_OK, R.GATE_CTL_WARM_OK, R.GATE_CTL_ROTATE]

/-- ENABLE 1 at a gate in DISABLED trains it. -/
theorem exec_gateEnable_trains {g : Gate} {d : Word} (hoff : s.off = false) (hpres : s.portPresent g.val = true)
    (hd : bits d.toNat 0 1 = 1) (h0 : s.portState g.val = 0) (hperm : s.permits g.val = true) :
    ∃ t, exec (.gateEnable g d) s = .next t ∧
      State.Shown ((({ s with out := [] } : State).storeGateCtl g.val d).train g.val) t := by
  have hp : g.val < 10 := Nat.lt_trans g.isLt (by decide)
  refine coreCmd_shown (body := gateEnable g d) hoff ?_ ?_
  · refine (if_neg ?_).trans (State.enable_trains (s := { s with out := [] }) hp hd h0 hperm)
    rw [hd, show ({ s with out := [] } : State).portPresent g.val = true from hpres]
    simp
  · rw [State.train_off _ hp, State.storeGateCtl_off]
    exact hoff

/-- A gate that may not start warm trains from PROBE, at 56 Gb/s. -/
theorem exec_gateEnable_probe {g : Gate} {d : Word} (hoff : s.off = false) (hpres : s.portPresent g.val = true)
    (hd : bits d.toNat 0 1 = 1) (h0 : s.portState g.val = 0) (hperm : s.permits g.val = true) (hwarm : bits d.toNat 9 1 = 0) :
    ∃ t, exec (.gateEnable g d) s = .next t ∧ t.portState g.val = 1 ∧ t.rd (R.GATE_CTL_ENABLE g.val) = 1 ∧
      t.rd (R.GATE_CTL_MAX_RATE g.val) = bits d.toNat 1 2 ∧ (t.link g.val).rate = 0 ∧ (∀ k, k ≠ g.val → t.link k = s.link k) ∧
      t.core.router = s.core.router ∧ t.core.resp = s.core.resp := by
  have hp : g.val < 10 := Nat.lt_trans g.isLt (by decide)
  obtain ⟨t, ht, hshown⟩ := exec_gateEnable_trains hoff hpres hd h0 hperm
  have hstore := State.storeGateCtl_onPort { s with out := [] } g.val d
  have hen := State.storeGateCtl_enable { s with out := [] } g.val d
  obtain ⟨hrate, hwarmOk⟩ := State.storeGateCtl_gate { s with out := [] } g.isLt d
  generalize ({ s with out := [] } : State).storeGateCtl g.val d = v at *
  have htrain : v.train g.val = (v.leaveRest g.val).toProbe g.val := by
    rw [State.train_gate v g.isLt, if_neg]
    rw [State.on_eq, hwarmOk, hwarm]
    simp
  have hrest : v.OnPort (fun g' => g' = R.GATE_STATUS_STATE g.val) g.val _ (v.leaveRest g.val) := (State.OnPort.refl _ g.val v).modLink _
  obtain ⟨hprobe, hstate⟩ := (v.leaveRest g.val).toProbe_spec hp
  rw [← htrain] at hprobe hstate
  have hall := hrest.trans hprobe
  refine ⟨t, ht, (hshown.portState _).trans hstate, (hshown.rd _).trans ?_, (hshown.rd _).trans ?_, ?_, fun k hk => ?_, ?_, ?_⟩
  · rw [State.train_ctl v hp rfl, hen, hd]
  · rw [State.train_ctl v hp rfl, hrate]
  · rw [hshown.link, hall.link]
    exact Link.atRate_rate _ _
  · rw [hshown.link, hall.links k hk, hstore.links k hk]
    rfl
  · rw [hshown.core, hall.core, hstore.core]
  · rw [hshown.core, hall.core, hstore.core]

/-- A gate that may start warm trains from FAST, at its stored rate. -/
theorem exec_gateEnable_fast {g : Gate} {d : Word} (hoff : s.off = false) (hpres : s.portPresent g.val = true)
    (hd : bits d.toNat 0 1 = 1) (h0 : s.portState g.val = 0) (hperm : s.permits g.val = true) (hwarm : bits d.toNat 9 1 = 1)
    (hcoef : s.on (R.GATE_STATUS_COEF_VALID g.val) = true) :
    ∃ t, exec (.gateEnable g d) s = .next t ∧ t.portState g.val = 2 ∧ t.rd (R.GATE_NEG_RATE g.val) = bits (s.storedMode g.val) 0 2 ∧
      (t.link g.val).cfg.length = 9 := by
  have hp : g.val < 10 := Nat.lt_trans g.isLt (by decide)
  obtain ⟨t, ht, hshown⟩ := exec_gateEnable_trains hoff hpres hd h0 hperm
  have haon := (State.storeGateCtl_wrote { s with out := [] } g.val d).aon
  have hcoefs : (({ s with out := [] } : State).storeGateCtl g.val d).rd (R.GATE_STATUS_COEF_VALID g.val) =
      s.rd (R.GATE_STATUS_COEF_VALID g.val) := State.storeGateCtl_rd _ _ _ (.inr rfl)
  obtain ⟨-, hwarmOk⟩ := State.storeGateCtl_gate { s with out := [] } g.isLt d
  generalize ({ s with out := [] } : State).storeGateCtl g.val d = v at *
  have htrain : v.train g.val = (v.leaveRest g.val).toFast g.val := by
    rw [State.train_gate v g.isLt, if_pos]
    rw [State.on_eq, State.on_eq, hwarmOk, hwarm, hcoefs, ← State.on_eq s, hcoef]
    exact ⟨rfl, rfl⟩
  obtain ⟨l, hcfg, hfast, hstate, hrate⟩ := (v.leaveRest g.val).toFast_spec hp
  rw [← htrain] at hfast hstate hrate
  refine ⟨t, ht, (hshown.portState _).trans hstate, (hshown.rd _).trans (hrate.trans ?_), ?_⟩
  · rw [State.storedMode, State.storedMode, show (v.leaveRest g.val).aon = s.aon from haon]
  · rw [hshown.link, hfast.link, hcfg]

/-- ENABLE 0 takes a port out of its state (R330). -/
theorem State.disablePort_spec (s : State) (hp : p < 10) {d : Word} (hd : bits d.toNat 0 1 = 0) (h0 : s.portState p ≠ 0) :
    (s.disablePort p d).off = s.off ∧ (s.disablePort p d).portState p = 0 ∧ (s.disablePort p d).rd (R.GATE_STATUS_CAUSE p) = 11 ∧
      (s.disablePort p d).rd (R.GATE_CTL_ENABLE p) = 0 := by
  have hstate : (s.storeGateCtl p d).portState p = s.portState p :=
    s.storeGateCtl_rd p d (.inl (by simp only [R.GATE_STATUS_STATE]; omega))
  have heq : s.disablePort p d = (s.storeGateCtl p d).exitPort p 11 0 true := if_neg (by rw [hstate]; exact h0)
  have hexit := (s.storeGateCtl p d).exitPort_exited hp (cause := 11) (next := 0) (by decide) (by decide) true
  rw [heq]
  refine ⟨(hexit.moved.off fun g hg => exitRegs_off hg).trans (s.storeGateCtl_off p d), hexit.state, hexit.cause, ?_⟩
  refine (hexit.moved.rd _ (by simp only [Fld.ofPorts, R.GATE_CTL_ENABLE]; omega) ?_).trans ((s.storeGateCtl_enable p d).trans hd)
  rintro g (rfl | rfl | hg)
  · exact .inr (.inl (by simp only [R.GATE_CTL_ENABLE, R.GATE_STATUS_STATE]; omega))
  · exact .inr (.inl (by simp only [R.GATE_CTL_ENABLE, R.GATE_STATUS_CAUSE]; omega))
  · exact wireRegs_apart hp (.inl (by simp only [R.GATE_CTL_ENABLE]; omega)) hg

theorem exec_gateDisable_exits {g : Gate} {d : Word} (hoff : s.off = false) (hpres : s.portPresent g.val = true)
    (hd : bits d.toNat 0 1 = 0) (h0 : s.portState g.val ≠ 0) :
    ∃ t, exec (.gateDisable g d) s = .next t ∧ t.portState g.val = 0 ∧ t.rd (R.GATE_STATUS_CAUSE g.val) = 11 ∧
      t.rd (R.GATE_CTL_ENABLE g.val) = 0 := by
  obtain ⟨hstill, hstate, hcause, hen⟩ := State.disablePort_spec { s with out := [] } (Nat.lt_trans g.isLt (by decide)) hd h0
  have hbody : gateDisable g d { s with out := [] } = ({ s with out := [] } : State).disablePort g.val d := by
    refine if_neg ?_
    rw [hd, show ({ s with out := [] } : State).portPresent g.val = true from hpres]
    simp
  obtain ⟨t, ht, hshown⟩ := coreCmd_shown (body := gateDisable g d) hoff hbody (hstill.trans hoff)
  exact ⟨t, ht, (hshown.portState _).trans hstate, (hshown.rd _).trans hcause, (hshown.rd _).trans hen⟩

theorem exec_hingeEnable_trains {h : Hinge} {d : Word} (hoff : s.off = false) (hpres : s.portPresent (8 + h.val) = true)
    (hd : bits d.toNat 0 1 = 1) (h0 : s.portState (8 + h.val) = 0) (hperm : s.permits (8 + h.val) = true) :
    ∃ t, exec (.hingeEnable h d) s = .next t ∧ t.portState (8 + h.val) = (if bit s.pins.linkUp h.val then 3 else 9) ∧
      t.rd (R.GATE_CTL_ENABLE (8 + h.val)) = 1 := by
  have hp : 8 + h.val < 10 := by omega
  have hbody : hingeEnable h d { s with out := [] } = (({ s with out := [] } : State).storeGateCtl (8 + h.val) d).train (8 + h.val) := by
    refine (if_neg ?_).trans ((if_pos hd).trans (State.enable_trains (s := { s with out := [] }) hp hd h0 hperm))
    exact not_not.mpr hpres
  obtain ⟨t, ht, hshown⟩ := coreCmd_shown (body := hingeEnable h d) hoff hbody (by
    rw [State.train_off _ hp, State.storeGateCtl_off]
    exact hoff)
  refine ⟨t, ht, (hshown.portState _).trans ?_, (hshown.rd _).trans ?_⟩
  · rw [(State.train_spec _ hp).2, if_neg (by omega), (State.storeGateCtl_onPort _ _ _).moved.pins, Nat.add_sub_cancel_left]
  · rw [State.train_ctl _ hp rfl, State.storeGateCtl_enable, hd]

theorem exec_hingeEnable_exits {h : Hinge} {d : Word} (hoff : s.off = false) (hpres : s.portPresent (8 + h.val) = true)
    (hd : bits d.toNat 0 1 = 0) (h0 : s.portState (8 + h.val) ≠ 0) :
    ∃ t, exec (.hingeEnable h d) s = .next t ∧ t.portState (8 + h.val) = 0 ∧ t.rd (R.GATE_STATUS_CAUSE (8 + h.val)) = 11 := by
  obtain ⟨hstill, hstate, hcause, -⟩ := State.disablePort_spec (p := 8 + h.val) { s with out := [] } (by omega) hd h0
  have hbody : hingeEnable h d { s with out := [] } = ({ s with out := [] } : State).disablePort (8 + h.val) d :=
    (if_neg (not_not.mpr hpres)).trans (if_neg (by rw [hd]; decide))
  obtain ⟨t, ht, hshown⟩ := coreCmd_shown (body := hingeEnable h d) hoff hbody (hstill.trans hoff)
  exact ⟨t, ht, (hshown.portState _).trans hstate, (hshown.rd _).trans hcause⟩

/-! ### RETRAIN -/

/-- The counts of training that RETRAIN clears (R342). -/
def State.clearAttempts (s : State) (p : Nat) : State :=
  let s := s.wr (R.GATE_STATUS_ATTEMPTS p) 0
  if p < 8 then s.wr (R.GATE_STATUS_COEF_VALID p) 0 else s

theorem State.clearAttempts_rd (s : State) (p : Nat) {f : Fld} (ha : (R.GATE_STATUS_ATTEMPTS p).apart f)
    (hc : (R.GATE_STATUS_COEF_VALID p).apart f) :
    (s.clearAttempts p).rd f = s.rd f := by
  have hatt := s.rd_wr_ne (R.GATE_STATUS_ATTEMPTS p) f 0 ha
  unfold State.clearAttempts
  dsimp only
  split
  · rw [State.rd_wr_ne _ _ _ _ hc, hatt]
  · exact hatt

theorem coefs_apart_attempts (p : Nat) : (R.GATE_STATUS_COEF_VALID p).apart (R.GATE_STATUS_ATTEMPTS p) :=
  .inl (by simp [R.GATE_STATUS_ATTEMPTS, R.GATE_STATUS_COEF_VALID])

theorem State.clearAttempts_spec (s : State) (p : Nat) : (s.clearAttempts p).rd (R.GATE_STATUS_ATTEMPTS p) = 0 ∧
    (p < 8 → (s.clearAttempts p).rd (R.GATE_STATUS_COEF_VALID p) = 0) := by
  have hatt : (s.wr (R.GATE_STATUS_ATTEMPTS p) 0).rd (R.GATE_STATUS_ATTEMPTS p) = 0 :=
    State.rd_wr_self _ _ _ (by simp [R.GATE_STATUS_ATTEMPTS])
  constructor
  · unfold State.clearAttempts
    dsimp only
    split
    · rw [State.rd_wr_ne _ _ _ _ (coefs_apart_attempts p), hatt]
    · exact hatt
  · intro hp
    rw [State.clearAttempts, if_pos hp]
    exact State.rd_wr_self _ _ _ (by simp [R.GATE_STATUS_COEF_VALID])

theorem State.clearAttempts_frame (s : State) (p : Nat) : s.SameBut (s.clearAttempts p)
    [R.GATE_STATUS_ATTEMPTS p, R.GATE_STATUS_COEF_VALID p] ∧
    s.SameCore (s.clearAttempts p) ∧ s.SameAon (s.clearAttempts p) := by
  refine ⟨fun f hf => s.clearAttempts_rd p (hf _ (by simp)) (hf _ (by simp)), ?_, ?_⟩
  · unfold State.clearAttempts
    dsimp only
    split
    · exact ((State.SameCore.refl s).wr _ _).wr _ _
    · exact (State.SameCore.refl s).wr _ _
  · unfold State.clearAttempts
    dsimp only
    split
    · exact ((State.SameAon.refl s).wr _ _).wr _ _
    · exact (State.SameAon.refl s).wr _ _

/-- RETRAIN takes a port out of READY (R332, R342). -/
theorem exec_retrain_ready {q : Port} (hoff : s.off = false) (hr : s.portReady q.val = true) :
    ∃ t, exec (.retrain q) s = .next t ∧ t.portState q.val = 8 ∧ t.rd (R.GATE_STATUS_CAUSE q.val) = 11 ∧
      t.rd (R.GATE_STATUS_ATTEMPTS q.val) = 0 ∧ (q.val < 8 → t.rd (R.GATE_STATUS_COEF_VALID q.val) = 0) := by
  have hexit := State.exitPort_exited { s with out := [] } (cause := 11) (next := 8) q.isLt (by decide) (by decide) true
  have hbody : retrain q { s with out := [] } = (({ s with out := [] } : State).exitPort q.val 11 8 true).clearAttempts q.val := by
    rw [retrain, if_pos (show ({ s with out := [] } : State).portReady q.val = true from hr)]
    rfl
  generalize ({ s with out := [] } : State).exitPort q.val 11 8 true = v at *
  obtain ⟨hatt, hcoef⟩ := v.clearAttempts_spec q.val
  have hkeep (f : Fld) (hf : f.addr ≠ 0x10004 + q.val * 0x10000 ∨ f.aon = false ∧ f.lo + f.width ≤ 8) :
      (v.clearAttempts q.val).rd f = v.rd f := by
    refine v.clearAttempts_rd q.val ?_ ?_
    · exact hf.elim (fun h => .inr (.inl h)) fun h => .inr (.inr (.inr h.2))
    · exact hf.elim (fun h => .inr (.inl h)) fun h => .inl (by rw [h.1]; simp [R.GATE_STATUS_COEF_VALID])
  obtain ⟨t, ht, hshown⟩ := coreCmd_shown (body := retrain q) hoff hbody (by
    rw [State.off, State.seq, hkeep _ (.inl (by simp only [R.GLOBAL_START_STATUS_STATE]; omega))]
    exact (hexit.moved.off fun g hg => exitRegs_off hg).trans hoff)
  exact ⟨t, ht, (hshown.rd _).trans ((hkeep _ (.inr ⟨rfl, by simp [R.GATE_STATUS_STATE]⟩)).trans hexit.state),
    (hshown.rd _).trans ((hkeep _ (.inr ⟨rfl, by simp [R.GATE_STATUS_CAUSE]⟩)).trans hexit.cause), (hshown.rd _).trans hatt,
    fun hp => (hshown.rd _).trans (hcoef hp)⟩

theorem exec_retrain_other {q : Port} (hoff : s.off = false) (hr : s.portReady q.val = false) :
    ∃ t, exec (.retrain q) s = .next t ∧ t.rd (R.GATE_STATUS_ATTEMPTS q.val) = 0 ∧
      s.SameBut t [R.GATE_STATUS_ATTEMPTS q.val, R.GATE_STATUS_COEF_VALID q.val] ∧ s.SameCore t ∧ s.SameAon t := by
  have hbody : retrain q { s with out := [] } = ({ s with out := [] } : State).clearAttempts q.val := by
    rw [retrain, show ({ s with out := [] } : State).portReady q.val = false from hr]
    rfl
  obtain ⟨hbut, hcore, haon⟩ := State.clearAttempts_frame { s with out := [] } q.val
  obtain ⟨hatt, -⟩ := State.clearAttempts_spec { s with out := [] } q.val
  have hstill : (({ s with out := [] } : State).clearAttempts q.val).off = false := by
    rw [State.off, State.seq, State.clearAttempts_rd _ _ (.inr (.inl ?_)) (.inr (.inl ?_))]
    · exact hoff
    · simp only [R.GLOBAL_START_STATUS_STATE, R.GATE_STATUS_ATTEMPTS]
      omega
    · simp only [R.GLOBAL_START_STATUS_STATE, R.GATE_STATUS_COEF_VALID]
      omega
  obtain ⟨t, ht, hrd, hframe⟩ := coreCmd_writes hoff hbody hstill hbut haon hcore
  exact ⟨t, ht, (hrd _).trans hatt, hframe.1, hframe.2.2, hframe.2.1⟩

/-! ### RETRY and the end of the back-off -/

/-- A port in BACKOFF counts the attempt and trains. -/
theorem State.backoffOver_spec (s : State) (hp : p < 10) (h8 : s.portState p = 8) :
    (s.backoffOver p).off = s.off ∧ (s.backoffOver p).portState p = (if p < 8 then
        (if s.on (R.GATE_CTL_WARM_OK p) = true ∧ s.on (R.GATE_STATUS_COEF_VALID p) = true then 2 else 1)
        else if bit s.pins.linkUp (p - 8) then 3 else 9) ∧
      (s.backoffOver p).rd (R.GATE_STATUS_ATTEMPTS p) = min 255 (s.rd (R.GATE_STATUS_ATTEMPTS p) + 1) := by
  rw [State.backoffOver, if_pos h8]
  have hatt : (s.wr (R.GATE_STATUS_ATTEMPTS p) (min 255 (s.rd (R.GATE_STATUS_ATTEMPTS p) + 1))).rd (R.GATE_STATUS_ATTEMPTS p) =
      min 255 (s.rd (R.GATE_STATUS_ATTEMPTS p) + 1) := by
    rw [State.rd_wr_self _ _ _ (by simp [R.GATE_STATUS_ATTEMPTS])]
    exact Nat.mod_eq_of_lt (Nat.lt_of_le_of_lt (Nat.min_le_left _ _) (by decide : 255 < 256))
  have hkeep (f : Fld) (hf : f.addr ≠ 0x10004 + p * 0x10000 ∨ f.aon = true) :
      (s.wr (R.GATE_STATUS_ATTEMPTS p) (min 255 (s.rd (R.GATE_STATUS_ATTEMPTS p) + 1))).rd f = s.rd f := by
    refine State.rd_wr_ne _ _ _ _ (hf.elim (fun h => .inr (.inl h)) fun h => .inl ?_)
    simp [h, R.GATE_STATUS_ATTEMPTS]
  have hon (f : Fld) (hf : f.addr ≠ 0x10004 + p * 0x10000 ∨ f.aon = true) :
      (s.wr (R.GATE_STATUS_ATTEMPTS p) (min 255 (s.rd (R.GATE_STATUS_ATTEMPTS p) + 1))).on f = s.on f := by
    rw [State.on_eq, State.on_eq, hkeep f hf]
  have hwarm := hon (R.GATE_CTL_WARM_OK p) (.inl (by simp only [R.GATE_CTL_WARM_OK]; omega))
  have hcoef := hon (R.GATE_STATUS_COEF_VALID p) (.inr rfl)
  have hseq := hkeep R.GLOBAL_START_STATUS_STATE (.inl (by simp only [R.GLOBAL_START_STATUS_STATE]; omega))
  have hpins := s.wr_pins (R.GATE_STATUS_ATTEMPTS p) (min 255 (s.rd (R.GATE_STATUS_ATTEMPTS p) + 1))
  generalize s.wr (R.GATE_STATUS_ATTEMPTS p) (min 255 (s.rd (R.GATE_STATUS_ATTEMPTS p) + 1)) = v at *
  obtain ⟨⟨l, hl⟩, hstate⟩ := v.train_spec hp
  refine ⟨?_, ?_, ?_⟩
  · rw [State.train_off v hp, State.off, State.seq, hseq]
    rfl
  · rw [hstate, hwarm, hcoef, hpins]
  · refine (hl.moved.rd (R.GATE_STATUS_ATTEMPTS p) (GATE_STATUS_STATE_ofPorts hp) fun g hg =>
      trainRegs_apart hp (.inr ⟨rfl, .inr ?_⟩) hg).trans hatt
    simp [R.GATE_STATUS_ATTEMPTS]

theorem exec_backoffOver {q : Port} (hoff : s.off = false) (h8 : s.portState q.val = 8) :
    ∀ c ∈ [Instr.retry q, .backoffEnd q], ∃ t, exec c s = .next t ∧ t.portState q.val = (if q.val < 8 then
        (if s.on (R.GATE_CTL_WARM_OK q.val) = true ∧ s.on (R.GATE_STATUS_COEF_VALID q.val) = true then 2 else 1)
        else if bit s.pins.linkUp (q.val - 8) then 3 else 9) ∧
      t.rd (R.GATE_STATUS_ATTEMPTS q.val) = min 255 (s.rd (R.GATE_STATUS_ATTEMPTS q.val) + 1) := by
  obtain ⟨hstill, hstate, hatt⟩ := State.backoffOver_spec { s with out := [] } q.isLt h8
  obtain ⟨t, ht, hshown⟩ := coreCmd_shown (body := fun s => s.backoffOver q.val) hoff rfl (hstill.trans hoff)
  simp only [List.forall_mem_cons]
  exact ⟨⟨t, ht, (hshown.portState _).trans hstate, (hshown.rd _).trans hatt⟩,
    ⟨t, ht, (hshown.portState _).trans hstate, (hshown.rd _).trans hatt⟩, by simp⟩

theorem exec_backoffOver_other {q : Port} (hoff : s.off = false) (h8 : s.portState q.val ≠ 8) :
    ∀ c ∈ [Instr.retry q, .backoffEnd q], ∃ t, exec c s = .next t ∧ t.core = s.core ∧ t.aon = s.aon := by
  have hstill := coreCmd_still (body := fun s => s.backoffOver q.val) hoff (if_neg h8)
  simp only [List.forall_mem_cons]
  exact ⟨hstill, hstill, by simp⟩

end

/-- Settles O38: ENABLE, RETRAIN, RETRY and the end of the back-off at gates and hinge ports. -/
theorem portsEnableAndRetrain : Obligations.PortsEnableAndRetrain := by
  intro s hoff
  exact ⟨fun g d hpres hd h0 hperm hwarm => exec_gateEnable_probe hoff hpres hd h0 hperm hwarm,
    fun g d hpres hd h0 hperm hwarm hcoef => exec_gateEnable_fast hoff hpres hd h0 hperm hwarm hcoef,
    fun g d hpres hd h0 => exec_gateDisable_exits hoff hpres hd h0, fun h d hpres hd h0 hperm =>
      exec_hingeEnable_trains hoff hpres hd h0 hperm,
    fun h d hpres hd h0 => exec_hingeEnable_exits hoff hpres hd h0, fun q hr => exec_retrain_ready hoff hr,
    fun q hr => exec_retrain_other hoff hr, fun q h8 => exec_backoffOver hoff h8, fun q h8 => exec_backoffOver_other hoff h8⟩

end Sys2Proof.Machine

namespace Sys2Proof.Machine

/-! ## Masks of lanes -/

theorem bit_eq_testBit (n i : Nat) : bit n i = n.testBit i := by
  rw [bit, Nat.testBit_eq_decide_div_mod_eq]
  rfl

/-- The bit taken out of a mask is clear. -/
theorem bits_maskDel_self (m i : Nat) : bits (maskDel m i) i 1 = 0 := by
  unfold maskDel
  split
  · have hsub := Nat.sub_mul_div m (2 ^ i) 1
    rw [Nat.mul_one] at hsub
    have hbit : m / 2 ^ i % 2 = 1 := by simpa [bit] using ‹bit m i = true›
    rw [bits, hsub]
    omega
  · have hbit : m / 2 ^ i % 2 ≠ 1 := by simpa [bit] using ‹¬ bit m i = true›
    rw [bits]
    omega

theorem testBit_maskDel (m i j : Nat) : (maskDel m i).testBit j = (m.testBit j && decide (j ≠ i)) := by
  have hclear := bits_maskDel_self m i
  by_cases hj : j = i
  · subst hj
    have h := congrArg (Nat.testBit · 0) hclear
    simp only [bits_testBit, Nat.zero_testBit, Nat.zero_lt_one, decide_true, Bool.true_and, Nat.add_zero] at h
    simp [h]
  · have hadd := testBit_add_field (maskDel m i) 1 i 1 j (by decide) hclear
    rw [if_neg (by omega)] at hadd
    simp only [ne_eq, hj, not_false_eq_true, decide_true, Bool.and_true, ← hadd, Nat.one_mul]
    by_cases hm : bit m i = true
    · have hle : 2 ^ i ≤ m := by
        rw [bit_eq_testBit] at hm
        exact Nat.ge_two_pow_of_testBit hm
      rw [maskDel, if_pos hm, Nat.add_sub_cancel' hle]
    · rw [maskDel, if_neg hm] at hadd ⊢
      rw [Nat.one_mul] at hadd
      exact hadd

/-- A mask with one bit set as asked. -/
theorem bit_maskSet (m i : Nat) (v : Bool) : bit (maskDel m i + if v then 2 ^ i else 0) i = v := by
  have hclear := bits_maskDel_self m i
  cases v with
  | false =>
    rw [bit_eq_testBit]
    simp [testBit_maskDel]
  | true =>
    have h := testBit_add_field (maskDel m i) 1 i 1 i (by decide) hclear
    rw [bit_eq_testBit, if_pos rfl, Nat.add_comm]
    simpa using h

section
variable {W V : Fld → Prop} {p : Nat} {l k : Link} {s t u : State} {body : State → State}

/-! ## The time limits of training (R330, R333, R340, R341) -/

/-- A port's exit as a core-domain command. -/
theorem coreCmd_exits {cause next : Nat} {down : Bool} (hoff : s.off = false) (hp : p < 10) (hcause : cause < 16) (hnext : next < 16)
    (hb : body { s with out := [] } = ({ s with out := [] } : State).exitPort p cause next down) :
    ∃ t, coreCmd body s = .next t ∧ t.portState p = next ∧ t.rd (R.GATE_STATUS_CAUSE p) = cause ∧ (t.link p).txKeys = [] ∧
      (t.link p).rxKeys = [] := by
  have hexit := State.exitPort_exited { s with out := [] } hp hcause hnext down
  obtain ⟨t, ht, hshown⟩ := coreCmd_shown hoff hb ((hexit.moved.off fun g hg => exitRegs_off hg).trans hoff)
  obtain ⟨l, hl⟩ := hexit.link
  refine ⟨t, ht, (hshown.portState _).trans hexit.state, (hshown.rd _).trans hexit.cause, ?_, ?_⟩
  · rw [hshown.link, hl]
    rfl
  · rw [hshown.link, hl]
    rfl

theorem State.Shown.discoverPkt (h : u.Shown t) (p : Nat) (warm : Bool) : t.discoverPkt p warm = u.discoverPkt p warm :=
  (congrArg (State.discoverPkt · p warm) h :)

theorem gate_lt_ten (g : Gate) : g.val < 10 := Nat.lt_trans g.isLt (by decide)

/-- FAST falls back to PROBE (R330). -/
theorem exec_fastTimeout_probes {g : Gate} (hoff : s.off = false) (h2 : s.portState g.val = 2) :
    ∃ t, exec (.fastTimeout g) s = .next t ∧ t.portState g.val = 1 ∧ t.rd (R.GATE_STATUS_COEF_VALID g.val) = 0 := by
  have hclear : (({ s with out := [] } : State).wr (R.GATE_STATUS_COEF_VALID g.val) 0).rd (R.GATE_STATUS_COEF_VALID g.val) = 0 :=
    State.rd_wr_self _ _ _ (by simp [R.GATE_STATUS_COEF_VALID])
  have hstill : (({ s with out := [] } : State).wr (R.GATE_STATUS_COEF_VALID g.val) 0).off = false := by
    rw [State.off, State.seq, State.rd_wr_addr _ _ _ (by simp only [R.GLOBAL_START_STATUS_STATE, R.GATE_STATUS_COEF_VALID]; omega)]
    exact hoff
  have hbody : fastTimeout g { s with out := [] } =
      (({ s with out := [] } : State).wr (R.GATE_STATUS_COEF_VALID g.val) 0).toProbe g.val := if_pos h2
  generalize ({ s with out := [] } : State).wr (R.GATE_STATUS_COEF_VALID g.val) 0 = v at *
  obtain ⟨hprobe, hstate⟩ := v.toProbe_spec (gate_lt_ten g)
  have hprobe := hprobe.mono (V := trainRegs g.val) fun _ => .inl
  obtain ⟨t, ht, hshown⟩ := coreCmd_shown (body := fastTimeout g) hoff hbody ((hprobe.moved.off fun g hg => trainRegs_off hg).trans hstill)
  refine ⟨t, ht, (hshown.portState _).trans hstate, (hshown.rd _).trans ((hprobe.moved.rd (R.GATE_STATUS_COEF_VALID g.val)
    (GATE_STATUS_STATE_ofPorts (gate_lt_ten g)) fun _ hg => trainRegs_apart (gate_lt_ten g) (.inr ⟨rfl, .inl rfl⟩) hg).trans hclear)⟩

/-- PROBE goes on to DISCOVER (R330). -/
theorem exec_probeTimeout_discovers {g : Gate} (hoff : s.off = false) (h1 : s.portState g.val = 1)
    (hlanes : 4 ≤ (lanesOf (s.locked g.val)).length) :
    ∃ t, exec (.probeTimeout g) s = .next t ∧ t.portState g.val = 3 ∧
      (t.link g.val).tx = (s.link g.val).tx ++ txItems ⟨10, g.val, true, 0, none, none, t.discoverPkt g.val false, 0⟩ := by
  obtain ⟨l, hdisc, hstate, htx⟩ := State.toDiscover_spec { s with out := [] } (gate_lt_ten g)
  obtain ⟨t, ht, hshown⟩ := coreCmd_shown (body := probeTimeout g) hoff ((if_neg (not_not.mpr h1)).trans (if_pos hlanes))
    ((hdisc.moved.off fun g hg => trainRegs_off hg).trans hoff)
  refine ⟨t, ht, (hshown.portState _).trans hstate, ?_⟩
  rw [hshown.link, hdisc.link, htx, hshown.discoverPkt]
  rfl

theorem exec_probeTimeout_exits {g : Gate} (hoff : s.off = false) (h1 : s.portState g.val = 1)
    (hlanes : (lanesOf (s.locked g.val)).length < 4) :
    ∃ t, exec (.probeTimeout g) s = .next t ∧ t.portState g.val = 8 ∧ t.rd (R.GATE_STATUS_CAUSE g.val) = 1 := by
  obtain ⟨t, ht, hstate, hcause, -⟩ := coreCmd_exits (body := probeTimeout g) hoff (gate_lt_ten g) (by decide) (by decide)
    ((if_neg (not_not.mpr h1)).trans (if_neg (Nat.not_le.mpr hlanes)))
  exact ⟨t, ht, hstate, hcause⟩

theorem exec_waitPhyTimeout_exits {h : Hinge} (hoff : s.off = false) (h9 : s.portState (8 + h.val) = 9) :
    ∃ t, exec (.waitPhyTimeout h) s = .next t ∧ t.portState (8 + h.val) = 8 ∧ t.rd (R.GATE_STATUS_CAUSE (8 + h.val)) = 1 := by
  obtain ⟨t, ht, hstate, hcause, -⟩ := coreCmd_exits (p := 8 + h.val) (body := waitPhyTimeout h) hoff (by omega) (by decide) (by decide)
    (if_pos h9)
  exact ⟨t, ht, hstate, hcause⟩

/-! ### The end of an equalization window -/

/-- Lanes that an equalization window of a gate found good (R333). -/
def State.passedLanes (s : State) (g : Nat) : List Nat :=
  (List.range 9).filter (fun x => bit (s.locked g) x && !bit (s.link g).bad x
    && decide (s.rd (R.GATE_LANE_RX_SER_EXP g x) ≥ s.rd (R.GATE_RECAL_FAIL_LOG2 g)))

/-- The fields of the TRAIN_RESULT of a window (R330). -/
def State.resultFields (s : State) (g : Nat) : List (Nat × Nat × Nat) :=
  [hf 0x11 0 2 (s.link g).target,
    hf 0x11 2 1 (b2n (decide ((s.passedLanes g).length ≥ if s.on (R.GATE_NEG_X4 g) then 4 else 8))),
    hf 0x12 0 9 (maskOf (s.passedLanes g)),
    hf 0x14 0 8 (((s.passedLanes g).map (fun x => s.rd (R.GATE_LANE_RX_SER_EXP g x))).foldl min 255)]

theorem equalizeWindowEnd_eq {g : Gate} (h4 : s.portState g.val = 4) (hmine : (s.link g.val).mine = none) :
    equalizeWindowEnd g s = (((s.modLink g.val (fun l => { l with mine := some (s.linkPkt g.val 1 (s.resultFields g.val)) })).setRate g.val
      0).sendPort g.val (s.linkPkt g.val 1 (s.resultFields g.val))).trainDecide g.val :=
  if_neg (by rw [h4, hmine]; simp)

theorem State.resultFields_apart (s : State) (g : Nat) :
    (s.resultFields g).map (fun x => (x.1, x.2.1)) = [hf 0x11 0 2 0, hf 0x11 2 1 0, hf 0x12 0 9 0, hf 0x14 0 8 0].map fun x =>
      (x.1, x.2.1) :=
  rfl

/-- A decision waits for both TRAIN_RESULTs, and for this end's to leave. -/
theorem State.trainDecide_waits {g : Nat} (h : (s.link g).mine = none ∨ (s.link g).theirs = none ∨ (s.link g).resultOut = false ∨
    s.portState g ≠ 4) : s.trainDecide g = s := by
  unfold State.trainDecide
  dsimp only
  split
  · rename_i a b hmine htheirs
    refine if_pos ?_
    rcases h with h | h | h | h
    · exact absurd (h.symm.trans hmine) nofun
    · exact absurd (h.symm.trans htheirs) nofun
    · exact .inr (by rw [h]; decide)
    · exact .inl h
  · rfl

/-- The TRAIN_RESULT of a window holds its fields. -/
theorem State.result_fld (s : State) (g : Nat) {off lo w v : Nat}
    (hm : hf off lo w v ∈ headFields 0 0 0 (if s.selfValid then s.self else 0) 0 0 0 0 ++
      ([hf 0x10 0 4 1, hf 0x10 4 4 g] ++ s.resultFields g)) (hb : 8 * off + lo + w ≤ 512) :
    (s.linkPkt g 1 (s.resultFields g)).fld off lo w = v % 2 ^ w :=
  State.linkPkt_fld hm (s.resultFields_apart g) (by unfold bitsApart; decide) hb

theorem State.passedLanes_none {g : Nat} (h : s.locked g = 0) : s.passedLanes g = [] := by
  simp [State.passedLanes, h, bit]

theorem State.passedLanes_all {g : Nat} (h : ∀ x < 9, bit (s.locked g) x = true ∧ bit (s.link g).bad x = false ∧
    s.rd (R.GATE_RECAL_FAIL_LOG2 g) ≤ s.rd (R.GATE_LANE_RX_SER_EXP g x)) : s.passedLanes g = List.range 9 := by
  refine List.filter_eq_self.mpr fun x hx => ?_
  obtain ⟨hlock, hbad, hser⟩ := h x (List.mem_range.mp hx)
  simp [hlock, hbad, hser]

theorem Link.atRate_mine (l : Link) (r : Nat) : (l.atRate r).mine = l.mine ∧ (l.atRate r).theirs = l.theirs := by
  unfold Link.atRate
  split <;> exact ⟨rfl, rfl⟩

/-- The end of an equalization window sends TRAIN_RESULT (R330, R333). -/
theorem exec_equalizeWindowEnd_sends {g : Gate} (hoff : s.off = false) (h4 : s.portState g.val = 4) (hmine : (s.link g.val).mine = none)
    (htheirs : (s.link g.val).theirs = none) :
    ∃ t, exec (.equalizeWindowEnd g) s = .next t ∧ (t.link g.val).mine = some (s.linkPkt g.val 1 (s.resultFields g.val)) ∧
      (t.link g.val).rate = 0 ∧ t.portState g.val = 4 := by
  have hbody := equalizeWindowEnd_eq (s := { s with out := [] }) h4 hmine
  change _ = ((State.setRate (State.modLink { s with out := [] } g.val
    (fun l => { l with mine := some (s.linkPkt g.val 1 (s.resultFields g.val)) })) g.val 0).sendPort g.val
      (s.linkPkt g.val 1 (s.resultFields g.val))).trainDecide g.val at hbody
  have hcls : (s.linkPkt g.val 1 (s.resultFields g.val)).cls = 0 := s.result_fld g.val (off := 0) (lo := 0) (w := 3) (v := 0)
    (by simp [headFields]) (by decide)
  have htype : (s.linkPkt g.val 1 (s.resultFields g.val)).type = 0 := s.result_fld g.val (off := 0) (lo := 3) (w := 5) (v := 0)
    (by simp [headFields]) (by decide)
  generalize s.linkPkt g.val 1 (s.resultFields g.val) = x at *
  have hset := ((State.OnPort.refl (fun _ => False) g.val { s with out := [] }).modLink (fun l => { l with mine := some x })).setRate 0
  have hstate := (hset.moved.portState (gate_lt_ten g) fun _ => False.elim).trans h4
  have hlink := hset.link
  rw [State.sendPort_training _ (State.portReady_of_state hstate (by decide) (by decide)) (by rw [hstate]; decide) (by rw [hstate]; decide)
    hcls htype] at hbody
  have hsent := hset.modLink fun l => { l with tx := l.tx ++ txItems ⟨10, g.val, true, 0, none, none, x, 0⟩ }
  rw [State.trainDecide_waits (.inr (.inl ?_))] at hbody
  · obtain ⟨t, ht, hshown⟩ := coreCmd_shown (body := equalizeWindowEnd g) hoff hbody ((hsent.moved.off fun _ => False.elim).trans hoff)
    refine ⟨t, ht, ?_, ?_, (hshown.portState _).trans ((hsent.moved.portState (gate_lt_ten g) fun _ => False.elim).trans h4)⟩
    · rw [hshown.link, hsent.link]
      exact (Link.atRate_mine _ _).1
    · rw [hshown.link, hsent.link]
      exact Link.atRate_rate _ _
  · rw [hsent.link]
    exact (Link.atRate_mine _ _).2.trans htheirs

/-- What the TRAIN_RESULT of a window says (R330, R333). -/
theorem State.result_says (s : State) (g : Nat) :
    (s.linkPkt g 1 (s.resultFields g)).fld 0x10 0 4 = 1 ∧
    (s.linkPkt g 1 (s.resultFields g)).fld 0x11 2 1 =
      b2n (decide ((s.passedLanes g).length ≥ if s.on (R.GATE_NEG_X4 g) then 4 else 8)) % 2 ∧
    (s.linkPkt g 1 (s.resultFields g)).fld 0x12 0 9 = maskOf (s.passedLanes g) % 512 :=
  ⟨s.result_fld g (off := 0x10) (lo := 0) (w := 4) (v := 1) (by simp [headFields]) (by decide),
    s.result_fld g (off := 0x11) (lo := 2) (w := 1) (by simp [resultFields]) (by decide),
    s.result_fld g (off := 0x12) (lo := 0) (w := 9) (by simp [resultFields]) (by decide)⟩

/-! ### A hinge's link (R340, R341) -/

/-- The state with a hinge's link level. -/
def State.setLinkUp (s : State) (h : Nat) (v : Bool) : State :=
  { s with pins.linkUp := maskDel s.pins.linkUp h + (if v then 2 ^ h else 0) }

theorem exec_hingeLinkChange (h : Hinge) (v : Bool) (s : State) :
    exec (.hingeLinkChange h v) s = .next (wire (hingeLinkChange h v { s with out := [] })) := rfl

theorem exec_hingeLinkChange_up {h : Hinge} (hidle : s.idle = false) (h9 : s.portState (8 + h.val) = 9) :
    ∃ t, exec (.hingeLinkChange h true) s = .next t ∧ t.portState (8 + h.val) = 3 ∧ bit t.pins.linkUp h.val = true := by
  have hp : 8 + h.val < 10 := by omega
  have hbody : hingeLinkChange h true { s with out := [] } = (State.setLinkUp { s with out := [] } h.val true).toDiscover (8 + h.val) :=
    (if_neg (Bool.eq_false_iff.mp hidle)).trans ((if_pos rfl).trans (if_pos h9))
  obtain ⟨l, hdisc, hstate, -⟩ := (State.setLinkUp { s with out := [] } h.val true).toDiscover_spec hp
  have hshown := State.wire_shown ((hdisc.moved.off fun g hg => trainRegs_off hg).trans (State.off_of_idle hidle))
  refine ⟨_, (exec_hingeLinkChange h true s).trans (by rw [hbody]), (hshown.portState _).trans hstate, ?_⟩
  rw [hshown.pins, hdisc.moved.pins]
  exact bit_maskSet _ _ true

theorem exec_hingeLinkChange_down {h : Hinge} (hidle : s.idle = false) (h6 : s.portState (8 + h.val) = 6) :
    ∃ t, exec (.hingeLinkChange h false) s = .next t ∧ t.portState (8 + h.val) = 8 ∧ t.rd (R.GATE_STATUS_CAUSE (8 + h.val)) = 6 := by
  have hp : 8 + h.val < 10 := by omega
  have hbody : hingeLinkChange h false { s with out := [] } =
      (State.setLinkUp { s with out := [] } h.val false).exitPort (8 + h.val) 6 8 false :=
    (if_neg (Bool.eq_false_iff.mp hidle)).trans ((if_neg (by decide)).trans (if_pos h6))
  have hexit := (State.setLinkUp { s with out := [] } h.val false).exitPort_exited hp (cause := 6) (next := 8) (by decide) (by decide) false
  have hshown := State.wire_shown ((hexit.moved.off fun g hg => exitRegs_off hg).trans (State.off_of_idle hidle))
  exact ⟨_, (exec_hingeLinkChange h false s).trans (by rw [hbody]), (hshown.portState _).trans hexit.state, (hshown.rd _).trans hexit.cause⟩

end

/-- Settles O39: the time limits of training, the end of an equalization window, and a hinge's link. -/
theorem trainingTimesOut : Obligations.TrainingTimesOut := by
  intro s hoff
  refine ⟨fun g h2 => exec_fastTimeout_probes hoff h2, fun g h1 hlanes => exec_probeTimeout_discovers hoff h1 hlanes,
    fun g h1 hlanes => exec_probeTimeout_exits hoff h1 hlanes, fun h h9 => exec_waitPhyTimeout_exits hoff h9,
    fun p h5 => coreCmd_exits hoff p.isLt (by decide) (by decide) (if_pos h5), fun g h4 hmine htheirs => ?_,
    fun h hidle h9 => exec_hingeLinkChange_up hidle h9, fun h hidle h6 => exec_hingeLinkChange_down hidle h6⟩
  obtain ⟨t, ht, hresult, hrate, hstate⟩ := exec_equalizeWindowEnd_sends hoff h4 hmine htheirs
  obtain ⟨hsub, hpass, hgood⟩ := s.result_says g.val
  refine ⟨t, _, ht, hresult, hrate, hstate, hsub, fun hnone => ?_, fun hall => ?_⟩
  · rw [State.passedLanes_none hnone] at hpass hgood
    refine ⟨hpass.trans ?_, hgood⟩
    split <;> rfl
  · rw [State.passedLanes_all hall] at hpass hgood
    refine ⟨hpass.trans ?_, hgood⟩
    split <;> rfl

end Sys2Proof.Machine

namespace Sys2Proof.Machine

/-! ## READY and KEYS (R330, R335) -/

/-- The registers a port writes on its way through KEYS into READY. -/
def readyRegs (p : Nat) (g : Fld) : Prop :=
  g = R.GATE_STATUS_STATE p ∨ g = R.GATE_STATUS_ATTEMPTS p ∨ g = R.GATE_STATUS_DEGRADED p ∨ g.addr = 0x10010 + p * 0x10000 ∨
    g.addr = 0x10014 + p * 0x10000 ∨ g = R.SECURITY_TX_CLEAR p

section
variable {W V : Fld → Prop} {p : Nat} {l k : Link} {s t u : State} {body : State → State}

theorem readyRegs_apart (hp : p < 10) {f : Fld} (hf : f.addr = 0x1000c + p * 0x10000 ∨ f.addr = 0x10 ∨
    f = R.GATE_STATUS_COEF_VALID p) {g : Fld} (hg : readyRegs p g) : g.apart f := by
  have haddr : f.addr = 0x1000c + p * 0x10000 ∨ f.addr = 0x10 ∨ f.addr = 0x10004 + p * 0x10000 ∧ f.aon = true := by
    rcases hf with hf | hf | rfl
    · exact .inl hf
    · exact .inr (.inl hf)
    · exact .inr (.inr ⟨rfl, rfl⟩)
  have hstatus (h : g.addr = 0x10004 + p * 0x10000) (ha : g.aon = false) : g.apart f := by
    rcases haddr with haddr | haddr | ⟨-, haddr⟩
    · exact .inr (.inl (by omega))
    · exact .inr (.inl (by omega))
    · exact .inl (by rw [haddr, ha]; decide)
  rcases hg with rfl | rfl | rfl | hg | hg | rfl
  · exact hstatus rfl rfl
  · exact hstatus rfl rfl
  · exact hstatus rfl rfl
  · exact .inr (.inl (by omega))
  · exact .inr (.inl (by omega))
  · exact .inr (.inl (by simp only [R.SECURITY_TX_CLEAR]; omega))

theorem readyRegs_off {g : Fld} (hg : readyRegs p g) : g.addr ≠ 0x10 := by
  rcases hg with rfl | rfl | rfl | hg | hg | rfl
  · simp only [R.GATE_STATUS_STATE]
    omega
  · simp only [R.GATE_STATUS_ATTEMPTS]
    omega
  · simp only [R.GATE_STATUS_DEGRADED]
    omega
  · omega
  · omega
  · simp only [R.SECURITY_TX_CLEAR]
    omega

theorem State.OnPort.draw (h : s.OnPort W p l t) : s.OnPort W p l t.draw.2 := h.still ((State.Moved.refl W t).draw) rfl

theorem State.enqueue_link (s : State) (o : OutPkt) (k : Nat) : (s.enqueue o).link k = s.link k := by
  unfold State.enqueue State.link
  dsimp only
  split
  · simp only [State.wr_core_links]
    rfl
  · simp only [State.wr_core_links]

/-- The first half of an entry to READY: what the partner is, and the port's status. -/
def State.readyStatus (s : State) (p : Nat) : State :=
  let s := match (s.link p).peer with
    | some k => (s.wr (R.GATE_PARTNER_LO_IDENT p) (k.fld 0x30 0 32)).wr (R.GATE_PARTNER_HI_IDENT p) (k.fld 0x34 0 32)
    | none => s
  let s := (s.wr (R.GATE_STATUS_ATTEMPTS p) 0).setPortState p 6
  if p < 8 then s.wr (R.GATE_STATUS_DEGRADED p) 0 else s

/-- The credits of a new partner (R335). -/
def State.peerSizes (s : State) (p : Nat) : SMap Nat :=
  match (s.link p).peer with
  | some k => (List.range 5).map (fun c => (c, max 18 (k.fld (0x20 + 2 * c) 0 16)))
  | none => []

/-- The state in which a port enters READY, its ANNOUNCE not yet sent. -/
def State.readyFlow (s : State) (p : Nat) : State :=
  let u := (s.readyStatus p).draw
  let u := u.2.modLink p (fun l => { l with prbs := u.1 % 2 ^ 31 })
  (((u.setFlow p { Flow.empty with pSize := s.peerSizes p }).setPortCap p).setReadyBit p true).portEvent p

theorem State.toReady_eq (s : State) (p : Nat) : s.toReady p = (s.readyFlow p).announce p := rfl

theorem State.readyStatus_spec (s : State) (hp : p < 10) : s.OnPort (readyRegs p) p (s.link p) (s.readyStatus p) ∧
    (s.readyStatus p).portState p = 6 := by
  unfold State.readyStatus
  extract_lets s1 s2
  have hs1 : s.OnPort (readyRegs p) p (s.link p) s1 := by
    unfold s1
    split
    · exact ((State.OnPort.refl _ p s).wr _ _ (.inl (.inr (.inr (.inr (.inl rfl)))))).wr _ _
        (.inl (.inr (.inr (.inr (.inr (.inl rfl))))))
    · exact .refl _ p s
  have hs2 : s.OnPort (readyRegs p) p (s.link p) s2 := (hs1.wr _ _ (.inl (.inr (.inl rfl)))).setPortState 6 (.inl rfl)
  have hstate : s2.portState p = 6 := (s1.wr (R.GATE_STATUS_ATTEMPTS p) 0).setPortState_state hp (by decide)
  clear_value s2
  split
  · refine ⟨hs2.wr _ _ (.inl (.inr (.inr (.inl rfl)))), ?_⟩
    exact (State.rd_wr_ne _ _ _ _ (.inr (.inr (.inr (by simp [R.GATE_STATUS_STATE, R.GATE_STATUS_DEGRADED]))))).trans hstate
  · exact ⟨hs2, hstate⟩

theorem State.readyFlow_spec (s : State) (hp : p < 10) : s.Moved (readyRegs p) (s.readyFlow p) ∧ (s.readyFlow p).portState p = 6 ∧
    ∃ n, (s.readyFlow p).link p = { (s.link p) with prbs := n } := by
  obtain ⟨hstatus, hstate⟩ := s.readyStatus_spec hp
  unfold State.readyFlow
  generalize s.readyStatus p = v at *
  dsimp only
  have hdraw := hstatus.draw.modLink fun l => { l with prbs := v.draw.1 % 2 ^ 31 }
  have hdrawn := ((State.OnPort.refl (fun _ => False) p v).draw.modLink fun l => { l with prbs := v.draw.1 % 2 ^ 31 })
  generalize v.draw.2.modLink p (fun l => { l with prbs := v.draw.1 % 2 ^ 31 }) = w at *
  have hflow := (State.Moved.refl (fun _ => False) w).setFlow p { Flow.empty with pSize := s.peerSizes p }
  have hlink : (w.setFlow p { Flow.empty with pSize := s.peerSizes p }).link p = w.link p := rfl
  generalize w.setFlow p { Flow.empty with pSize := s.peerSizes p } = x at *
  have hcap := (State.OnPort.refl (fun _ => False) p x).setPortCap hp
  obtain ⟨-, hcore, -⟩ := (x.setPortCap p).setReadyBit_spec p true
  have hend := ((hflow.trans hcap.moved).setReadyBit p true).trans ((State.OnPort.refl _ p _).portEvent p).moved
  refine ⟨hdraw.moved.trans (hend.mono fun _ => False.elim), ?_, v.draw.1 % 2 ^ 31, ?_⟩
  · exact (hend.portState hp fun _ => False.elim).trans ((hdrawn.moved.portState hp fun _ => False.elim).trans hstate)
  · rw [((State.OnPort.refl (fun _ => False) p _).portEvent p).link, State.link, hcore, ← State.link, hcap.link, hlink, hdraw.link]

/-- A port in READY (R330, R335). -/
theorem State.toReady_spec (s : State) (hp : p < 10) : s.Moved (readyRegs p) (s.toReady p) ∧ (s.toReady p).portState p = 6 ∧
    ∃ n, (s.toReady p).link p = { (s.link p) with prbs := n } := by
  obtain ⟨hmoved, hstate, n, hlink⟩ := s.readyFlow_spec hp
  rw [State.toReady_eq, State.announce]
  generalize s.readyFlow p = v at *
  have hr : v.portReady p = true := by rw [State.portReady, hstate]; rfl
  have hsent := (State.Moved.refl (fun _ => False) v).sendPort p (v.announcePkt p)
  refine ⟨hmoved.trans (hsent.mono fun _ => False.elim), (hsent.portState hp fun _ => False.elim).trans hstate, n, ?_⟩
  rw [State.sendPort, State.sendBy_ready hr, State.enqueue_link, hlink]

/-- KEYS, or READY at once where cleartext is agreed (R330). -/
theorem State.toKeys_spec (s : State) (hp : p < 10) : s.Moved (readyRegs p) (s.toKeys p) ∧
    (s.toKeys p).portState p = (if s.on (R.GATE_NEG_CLEAR p) then 6 else 5) ∧ ((s.toKeys p).link p).peer = (s.link p).peer := by
  have hset := (State.OnPort.refl (readyRegs p) p s).setPortState 5 (.inl rfl)
  have hstate := s.setPortState_state hp (st := 5) (by decide)
  have hclear : (s.setPortState p 5).on (R.GATE_NEG_CLEAR p) = s.on (R.GATE_NEG_CLEAR p) := by
    rw [State.on_eq, State.on_eq, hset.moved.rd _ (by simp only [Fld.ofPorts, R.GATE_NEG_CLEAR]; omega) fun g hg =>
      readyRegs_apart hp (.inl rfl) hg]
  unfold State.toKeys
  dsimp only
  rw [hclear]
  generalize s.setPortState p 5 = v at *
  by_cases hc : s.on (R.GATE_NEG_CLEAR p) = true
  · have hfresh := (hset.modLink fun l => { l with txFseq := 0, rxSync := false }).wr (R.SECURITY_TX_CLEAR p) 1
      (.inl (.inr (.inr (.inr (.inr (.inr rfl))))))
    simp only [hc, if_true]
    generalize (v.modLink p fun l => { l with txFseq := 0, rxSync := false }).wr (R.SECURITY_TX_CLEAR p) 1 = w at *
    obtain ⟨hready, hstate6, n, hlink⟩ := w.toReady_spec hp
    exact ⟨hfresh.moved.trans hready, hstate6, by rw [hlink, hfresh.link]⟩
  · simp only [hc, Bool.false_eq_true, if_false]
    have hneed := (State.OnPort.refl (fun _ => False) p v).keyNeed p 0
    exact ⟨hset.moved.trans (hneed.moved.mono fun _ => False.elim), (hneed.moved.portState hp fun _ => False.elim).trans hstate,
      by rw [hneed.link, hset.link]⟩

end

end Sys2Proof.Machine

namespace Sys2Proof.Machine

/-! ## What DISCOVER decides (R330, R331) -/

section
variable {W V : Fld → Prop} {p : Nat} {l k : Link} {s t u : State} {body : State → State}

/-- Both ends accept cleartext (R331). -/
def State.clearAgreed (s : State) (p : Nat) (x : Packet) : Bool := s.ctl p (R.GATE_CTL_CLEAR_OK p) == 1 && x.fld 0x11 6 1 == 1

/-- The width both ends agree on (R331). -/
def State.x4Agreed (s : State) (p : Nat) (x : Packet) : Bool :=
  s.ctl p (R.GATE_CTL_X4_ONLY p) == 1 || x.fld 0x11 7 1 == 1 || decide ((lanesOf (s.link p).sentGood).length < 8)
    || decide ((lanesOf (x.fld 0x12 0 9)).length < 8)

/-- The registers of what ports agree on. -/
def agreeRegs (p : Nat) (g : Fld) : Prop := g.addr = 0x1000c + p * 0x10000 ∨ g.addr = 0x10450 + p * 0x10000

/-- What a port keeps of its partner's DISCOVER for itself: the packet, version, cleartext and partner's port (R331). -/
def State.agreeNeg (s : State) (p : Nat) (x : Packet) (v : Nat) (clear : Bool) : State :=
  (((s.modLink p (fun l => { l with peer := some x })).wr (R.GATE_NEG_VERSION p) v).wr (R.GATE_NEG_CLEAR p) (b2n clear)).wr
    (R.GATE_NEG_PARTNER_PORT p) (x.fld 0x10 4 4)

/-- All that a port keeps of its partner's DISCOVER (R284, R331). -/
def State.agree (s : State) (p : Nat) (x : Packet) (v : Nat) (clear : Bool) : State :=
  let s := s.agreeNeg p x v clear
  let s := if s.vcOver p then s.wr (R.GATE_FLOW_STATUS_SIZE_ERR p) 1 else s
  s.wr (R.GATE_NEG_PARTNER_RELEASE p) (x.fld 0x16 0 16)

theorem State.agreeNeg_spec (s : State) (p : Nat) (x : Packet) {v : Nat} (hv : v < 4) (clear : Bool) :
    s.OnPort (agreeRegs p) p { (s.link p) with peer := some x } (s.agreeNeg p x v clear) ∧
      (s.agreeNeg p x v clear).rd (R.GATE_NEG_VERSION p) = v ∧ (s.agreeNeg p x v clear).rd (R.GATE_NEG_CLEAR p) = b2n clear := by
  refine ⟨?_, ?_, ?_⟩
  · exact ((((State.OnPort.refl (agreeRegs p) p s).modLink fun l => { l with peer := some x }).wr (R.GATE_NEG_VERSION p) v
      (.inl (.inl rfl))).wr
      (R.GATE_NEG_CLEAR p) (b2n clear) (.inl (.inl rfl))).wr (R.GATE_NEG_PARTNER_PORT p) (x.fld 0x10 4 4) (.inl (.inl rfl))
  · simp only [State.agreeNeg, R.GATE_NEG_VERSION, R.GATE_NEG_CLEAR, R.GATE_NEG_PARTNER_PORT]
    simp (disch := decide) only [State.rd_wr_bits_ne, State.rd_wr_bits]
    exact Nat.mod_eq_of_lt hv
  · simp only [State.agreeNeg, R.GATE_NEG_VERSION, R.GATE_NEG_CLEAR, R.GATE_NEG_PARTNER_PORT]
    simp (disch := decide) only [State.rd_wr_bits_ne, State.rd_wr_bits]
    cases clear <;> rfl

theorem State.agree_spec (s : State) (hp : p < 10) (x : Packet) {v : Nat} (hv : v < 4) (clear : Bool) :
    s.OnPort (agreeRegs p) p { (s.link p) with peer := some x } (s.agree p x v clear) ∧
      (s.agree p x v clear).rd (R.GATE_NEG_VERSION p) = v ∧ (s.agree p x v clear).on (R.GATE_NEG_CLEAR p) = clear := by
  obtain ⟨hneg, hversion, hclear⟩ := s.agreeNeg_spec p x hv clear
  unfold State.agree
  generalize s.agreeNeg p x v clear = u at *
  dsimp only
  have hsize : u.OnPort (fun g => g.addr = 0x10450 + p * 0x10000) p (u.link p)
      (if u.vcOver p then u.wr (R.GATE_FLOW_STATUS_SIZE_ERR p) 1 else u) :=
    .ite _ ((State.OnPort.refl (fun g => g.addr = 0x10450 + p * 0x10000) p u).wr _ _ (.inl rfl)) (.refl _ p u)
  have hkeep (f : Fld) (hf : f.addr = 0x1000c + p * 0x10000) (hlo : f.lo + f.width ≤ 16) :
      ((if u.vcOver p then u.wr (R.GATE_FLOW_STATUS_SIZE_ERR p) 1 else u).wr (R.GATE_NEG_PARTNER_RELEASE p) (x.fld 0x16 0 16)).rd f =
        u.rd f := by
    rw [State.rd_wr_ne _ _ _ _ (.inr (.inr (.inr hlo)))]
    exact hsize.moved.rd f (by simp only [Fld.ofPorts, hf]; omega) fun g hg => .inr (.inl (by omega))
  rw [hneg.link] at hsize
  refine ⟨(hneg.trans (hsize.mono fun g hg => .inr hg)).wr _ _ (.inl (.inl rfl)),
    (hkeep _ rfl (by simp [R.GATE_NEG_VERSION])).trans hversion, ?_⟩
  rw [State.on_eq, hkeep _ rfl (by simp [R.GATE_NEG_CLEAR]), hclear]
  cases clear <;> rfl

theorem bothVersions_lt (a b : Nat) : bothVersions a b < 4 := by
  unfold bothVersions
  dsimp only
  split
  · decide
  · split
    · decide
    · split <;> decide

theorem State.discovered_hinge (s : State) (hp : 8 ≤ p) (h3 : s.portState p = 3) (x : Packet) : s.discovered p x =
    if bothVersions (s.versions p) (x.fld 0x11 0 3) = 0 then s.exitPort p 2 8 true
    else (s.agree p x (bothVersions (s.versions p) (x.fld 0x11 0 3)) (s.clearAgreed p x)).toKeys p := by
  unfold State.discovered
  dsimp only
  rw [if_pos hp, h3, if_neg (by decide)]
  rfl

/-- The rate at which a gate begins to equalize (R331). -/
def State.rateCap (s : State) (p : Nat) (x : Packet) : Nat :=
  min (min (s.maxRate p) (x.fld 0x11 3 2)) (if bothVersions (s.versions p) (x.fld 0x11 0 3) < 3 then 2 else 3)

theorem State.discovered_gate (s : State) (hp : p < 8) (h3 : s.portState p = 3) (x : Packet) : s.discovered p x =
    if bothVersions (s.versions p) (x.fld 0x11 0 3) = 0 then s.exitPort p 2 8 true
    else if (lanesOf (s.link p).sentGood).length < 4 ∨ (lanesOf (x.fld 0x12 0 9)).length < 4 then s.exitPort p 3 8 true
    else ((((s.agree p x (bothVersions (s.versions p) (x.fld 0x11 0 3)) (s.clearAgreed p x)).wr (R.GATE_NEG_WARM p) 0).wr
      (R.GATE_NEG_X4 p) (b2n (s.x4Agreed p x))).setPortState p 4).equalize p (s.rateCap p x) := by
  unfold State.discovered
  dsimp only
  rw [if_neg (Nat.not_le.mpr hp), h3, if_neg (by decide), if_pos rfl]
  simp only [Bool.or_eq_true, decide_eq_true_eq]
  rfl

theorem Link.atRate_target (l : Link) (r : Nat) : (l.atRate r).target = l.target ∧ (l.atRate r).peer = l.peer := by
  unfold Link.atRate
  split <;> exact ⟨rfl, rfl⟩

/-- Every lane equalizes at the target rate (R330). -/
theorem State.OnPort.equalize (h : s.OnPort W p l t) (rate : Nat) :
    ∃ k : Link, s.OnPort W p k (t.equalize p rate) ∧ k.target = rate ∧ k.peer = l.peer := by
  have hset := ((h.modLink fun l => { l with target := rate, mine := none, theirs := none, resultOut := false, bad := 0x1FF, cfg :=
    [] }).setRate
    rate).cfgPush ((List.range 9).map (fun l => ⟨l, 2, 0⟩))
  exact ⟨_, hset, (Link.atRate_target _ _).1, (Link.atRate_target _ _).2⟩

/-- What a port's arrival command leaves once its LINK packet has been taken. -/
theorem exec_link_shown {c : Instr} {sub : Nat} {i : InPkt} {rest : List InPkt} {f : InPkt → State → State} (hoff : s.off = false)
    (hc : exec c s = coreCmd (fun s => s.withLink sub f) s)
    (htake : takeFirst (fun i => i.pkt.cls == 0 && i.pkt.type == 0 && i.pkt.fld 0x10 0 4 == sub) s.core.resp.inbox = some (i, rest))
    (hu : f i (s.taken rest) = u) (hstill : u.off = false) : ∃ t, exec c s = .next t ∧ u.Shown t := by
  rw [hc]
  exact coreCmd_shown hoff ((State.withPkt_some (s := { s with out := [] }) (g := fun k => k.fld 0x10 0 4 == sub) f htake).trans hu) hstill

theorem exec_link_exits {c : Instr} {sub cause next : Nat} {down : Bool} {i : InPkt} {rest : List InPkt} {f : InPkt → State → State}
    (hoff : s.off = false) (hc : exec c s = coreCmd (fun s => s.withLink sub f) s)
    (htake : takeFirst (fun i => i.pkt.cls == 0 && i.pkt.type == 0 && i.pkt.fld 0x10 0 4 == sub) s.core.resp.inbox = some (i, rest))
    (hp : p < 10) (hcause : cause < 16) (hnext : next < 16) (hu : f i (s.taken rest) = (s.taken rest).exitPort p cause next down) :
    ∃ t, exec c s = .next t ∧ t.portState p = next ∧ t.rd (R.GATE_STATUS_CAUSE p) = cause := by
  have hexit := (s.taken rest).exitPort_exited hp hcause hnext down
  obtain ⟨t, ht, hshown⟩ := exec_link_shown hoff hc htake hu ((hexit.moved.off fun g hg => exitRegs_off hg).trans hoff)
  exact ⟨t, ht, (hshown.portState _).trans hexit.state, (hshown.rd _).trans hexit.cause⟩

theorem agreeRegs_off {g : Fld} (hg : agreeRegs p g) : g.addr ≠ 0x10 := by
  rcases hg with hg | hg <;> omega

theorem NEG_ofPorts (hp : p < 10) {f : Fld} (hf : f.addr = 0x1000c + p * 0x10000) : f.ofPorts := by
  simp only [Fld.ofPorts, hf]
  omega

/-- A gate with lanes and a version in common equalizes at the lowest of the rates (R330, R331). -/
theorem State.discovered_equalizes (s : State) (hp : p < 8) (h3 : s.portState p = 3) (x : Packet)
    (hv : bothVersions (s.versions p) (x.fld 0x11 0 3) ≠ 0) (hmine : 4 ≤ (lanesOf (s.link p).sentGood).length)
    (htheirs : 4 ≤ (lanesOf (x.fld 0x12 0 9)).length) :
    (s.discovered p x).off = s.off ∧ (s.discovered p x).portState p = 4 ∧ ((s.discovered p x).link p).peer = some x ∧
      (s.discovered p x).rd (R.GATE_NEG_VERSION p) = bothVersions (s.versions p) (x.fld 0x11 0 3) ∧
      ((s.discovered p x).link p).target = s.rateCap p x := by
  have hp10 : p < 10 := Nat.lt_trans hp (by decide)
  obtain ⟨hagree, hversion, -⟩ := s.agree_spec hp10 x (bothVersions_lt (s.versions p) (x.fld 0x11 0 3)) (s.clearAgreed p x)
  rw [s.discovered_gate hp h3, if_neg hv, if_neg (by simp only [not_or, Nat.not_lt]; exact ⟨hmine, htheirs⟩)]
  generalize s.agree p x (bothVersions (s.versions p) (x.fld 0x11 0 3)) (s.clearAgreed p x) = v at *
  have hwidth := ((hagree.mono (V := fun g => agreeRegs p g ∨ g = R.GATE_STATUS_STATE p) fun _ => .inl).wr (R.GATE_NEG_WARM p) 0
    (.inl (.inl (.inl rfl)))).wr (R.GATE_NEG_X4 p) (b2n (s.x4Agreed p x)) (.inl (.inl (.inl rfl)))
  have hneg : ((v.wr (R.GATE_NEG_WARM p) 0).wr (R.GATE_NEG_X4 p) (b2n (s.x4Agreed p x))).rd (R.GATE_NEG_VERSION p) =
      bothVersions (s.versions p) (x.fld 0x11 0 3) := by
    rw [← hversion]
    simp only [R.GATE_NEG_VERSION, R.GATE_NEG_X4, R.GATE_NEG_WARM]
    simp (disch := decide) only [State.rd_wr_bits_ne]
  generalize (v.wr (R.GATE_NEG_WARM p) 0).wr (R.GATE_NEG_X4 p) (b2n (s.x4Agreed p x)) = w at *
  have hset := hwidth.setPortState 4 (.inr rfl)
  have hkeep := (State.OnPort.refl (fun g => g = R.GATE_STATUS_STATE p) p w).setPortState 4 rfl
  have hstate := w.setPortState_state hp10 (st := 4) (by decide)
  generalize w.setPortState p 4 = y at *
  obtain ⟨k, heq, htarget, hpeer⟩ := hset.equalize (s.rateCap p x)
  obtain ⟨_, hkeep', -⟩ := (State.OnPort.refl (fun _ => False) p y).equalize (s.rateCap p x)
  refine ⟨heq.moved.off fun g hg => hg.elim agreeRegs_off ?_, (hkeep'.moved.portState hp10 fun _ => False.elim).trans hstate, ?_, ?_, ?_⟩
  · rintro rfl
    simp only [R.GATE_STATUS_STATE]
    omega
  · rw [heq.link, hpeer]
  · refine (hkeep'.moved.rd _ (NEG_ofPorts hp10 rfl) fun _ => False.elim).trans
      ((hkeep.moved.rd _ (NEG_ofPorts hp10 rfl) fun g hg => .inr (.inl ?_)).trans hneg)
    rw [hg]
    simp only [R.GATE_NEG_VERSION, R.GATE_STATUS_STATE]
    omega
  · rw [heq.link, htarget]

/-- A hinge port with a version in common goes on to KEYS, or READY where both ends accept cleartext (R331, R340). -/
theorem State.discovered_keys (s : State) (hp8 : 8 ≤ p) (hp : p < 10) (h3 : s.portState p = 3) (x : Packet)
    (hv : bothVersions (s.versions p) (x.fld 0x11 0 3) ≠ 0) :
    (s.discovered p x).off = s.off ∧ ((s.discovered p x).link p).peer = some x ∧
      (s.discovered p x).portState p = if s.ctl p (R.GATE_CTL_CLEAR_OK p) = 1 ∧ x.fld 0x11 6 1 = 1 then 6 else 5 := by
  obtain ⟨hagree, -, hclear⟩ := s.agree_spec hp x (bothVersions_lt (s.versions p) (x.fld 0x11 0 3)) (s.clearAgreed p x)
  rw [s.discovered_hinge hp8 h3, if_neg hv]
  generalize s.agree p x (bothVersions (s.versions p) (x.fld 0x11 0 3)) (s.clearAgreed p x) = v at *
  obtain ⟨hkeys, hstate, hpeer⟩ := v.toKeys_spec hp
  refine ⟨(hkeys.off fun g hg => readyRegs_off hg).trans (hagree.moved.off fun g hg => agreeRegs_off hg), ?_, ?_⟩
  · rw [hpeer, hagree.link]
  · rw [hstate, hclear]
    simp only [State.clearAgreed, Bool.and_eq_true, beq_iff_eq]

/-! ## What TRAIN_RESULTs decide (R330, R331) -/

/-- The short code is agreed (R331). -/
def State.shortAgreed (s : State) (g : Nat) (a b : Packet) : Bool :=
  let least := s.rd (R.GATE_RECAL_SHORT_LOG2 g)
  let peerShort := match (s.link g).peer with
    | some k => k.fld 0x11 5 1 == 1
    | none => false
  s.ctl g (R.GATE_CTL_SHORT_OK g) == 1 && peerShort && decide (a.fld 0x14 0 8 ≥ least) && decide (b.fld 0x14 0 8 ≥ least)

/-- The rate and the code a gate fixes. -/
def State.fixNeg (s : State) (g rate : Nat) (short : Bool) : State :=
  ((((s.wr (R.GATE_NEG_RATE g) rate).wr (R.GATE_NEG_SHORT g) (b2n short)).setRate g rate).modLink g
    (fun l => { l with txFec := (0, 0), rxFec := [] })).wr (R.GATE_STATUS_COEF_VALID g) 1

/-- The lanes a gate fixes, with the request for their coefficients. -/
def State.fixLanes (s : State) (g rx tx : Nat) (x4 : Bool) : State :=
  ((s.setRxLanes g rx (assign rx x4).1 (assign rx x4).2).setTxLanes g tx (assign tx x4).1 (assign tx x4).2).cfgPush g
    ((List.range 9).map (fun l => ⟨l, 1, 0⟩))

/-- The stored mode of a gate's coefficients (R334). -/
def State.storeMode (s : State) (g mode : Nat) : State :=
  { s with aon.coefs := SMap.put s.aon.coefs (g * 16 + 9) (BitVec.ofNat 64 mode) }

theorem State.trainDecide_eq (s : State) {g : Nat} {a b : Packet} (hmine : (s.link g).mine = some a) (htheirs : (s.link g).theirs = some b)
    (h4 : s.portState g = 4) (hout : (s.link g).resultOut = true) : s.trainDecide g =
      if a.fld 0x11 2 1 = 1 ∧ b.fld 0x11 2 1 = 1 then ((((s.fixNeg g (s.link g).target (s.shortAgreed g a b)).storeMode g
        ((s.link g).target + b2n (s.on (R.GATE_NEG_X4 g)) * 4)).fixLanes g (a.fld 0x12 0 9) (b.fld 0x12 0 9)
          (s.on (R.GATE_NEG_X4 g)))).toKeys g
      else if (s.link g).target > 0 then s.equalize g ((s.link g).target - 1)
      else s.exitPort g 4 8 false := by
  unfold State.trainDecide
  simp only [hmine, htheirs, h4, hout, ne_eq, not_true_eq_false, or_self, if_false]
  rfl

/-- The registers in which a gate fixes what TRAIN_RESULTs agree on. -/
def fixRegs (p : Nat) (g : Fld) : Prop := g.addr = 0x1000c + p * 0x10000 ∨ g = R.GATE_STATUS_COEF_VALID p ∨ laneRegs p g

theorem fixRegs_off {g : Fld} (hg : fixRegs p g) : g.addr ≠ 0x10 := by
  rcases hg with hg | rfl | hg | hg | ⟨hg, -⟩
  · omega
  · simp only [R.GATE_STATUS_COEF_VALID]
    omega
  all_goals omega

theorem State.fixNeg_spec (s : State) (p rate : Nat) (short : Bool) : s.OnPort (fixRegs p) p
      { ((s.link p).atRate rate) with txFec := (0, 0), rxFec := [] } (s.fixNeg p rate short) ∧
    (s.fixNeg p rate short).rd (R.GATE_NEG_RATE p) = rate % 4 ∧ (s.fixNeg p rate short).rd (R.GATE_STATUS_COEF_VALID p) = 1 ∧
      (s.fixNeg p rate short).rd (R.GATE_NEG_CLEAR p) = s.rd (R.GATE_NEG_CLEAR p) := by
  have hlink (u : State) (f : Fld) : ((u.setRate p rate).modLink p (fun l => { l with txFec := (0, 0), rxFec := [] })).rd f = u.rd f := rfl
  have hkeep (f : Fld) (hf : f.addr = 0x1000c + p * 0x10000) : (s.fixNeg p rate short).rd f =
      ((s.wr (R.GATE_NEG_RATE p) rate).wr (R.GATE_NEG_SHORT p) (b2n short)).rd f := by
    refine (State.rd_wr_addr _ _ _ ?_).trans (hlink _ f)
    rw [hf]
    simp only [R.GATE_STATUS_COEF_VALID]
    omega
  refine ⟨?_, ?_, State.rd_wr_self _ _ _ (by simp [R.GATE_STATUS_COEF_VALID]), ?_⟩
  · exact (((((State.OnPort.refl (fixRegs p) p s).wr (R.GATE_NEG_RATE p) rate (.inl (.inl rfl))).wr (R.GATE_NEG_SHORT p) (b2n short)
      (.inl (.inl rfl))).setRate rate).modLink fun l => { l with txFec := (0, 0), rxFec := [] }).wr (R.GATE_STATUS_COEF_VALID p) 1
      (.inl (.inr (.inl rfl)))
  · rw [hkeep _ rfl]
    simp only [R.GATE_NEG_RATE, R.GATE_NEG_SHORT]
    simp (disch := decide) only [State.rd_wr_bits_ne, State.rd_wr_bits, Nat.reducePow]
  · rw [hkeep _ rfl]
    simp only [R.GATE_NEG_RATE, R.GATE_NEG_SHORT, R.GATE_NEG_CLEAR]
    simp (disch := decide) only [State.rd_wr_bits_ne]

theorem State.OnPort.storeMode (h : s.OnPort W p l t) (g mode : Nat) : s.OnPort W p l (t.storeMode g mode) :=
  h.still ((State.Moved.refl W t).same rfl rfl rfl rfl rfl rfl) rfl

theorem State.OnPort.fixLanes (h : s.OnPort W p l t) (hW : ∀ g, laneRegs p g → W g) (rx tx : Nat) (x4 : Bool) :
    ∃ k, s.OnPort W p k (t.fixLanes p rx tx x4) := ⟨_, ((h.setRxLanes hW _ _ _).setTxLanes hW _ _ _).cfgPush _⟩

/-- Two TRAIN_RESULTs that pass fix the rate and lead on to KEYS (R330, R331). -/
theorem State.trainDecide_fixes (s : State) (hp : p < 10) {a b : Packet} (hmine : (s.link p).mine = some a)
    (htheirs : (s.link p).theirs = some b) (h4 : s.portState p = 4) (hout : (s.link p).resultOut = true)
    (ha : a.fld 0x11 2 1 = 1) (hb : b.fld 0x11 2 1 = 1) :
    s.Moved (fun g => fixRegs p g ∨ readyRegs p g) (s.trainDecide p) ∧ (s.trainDecide p).rd (R.GATE_NEG_RATE p) = (s.link p).target % 4 ∧
      (s.trainDecide p).rd (R.GATE_STATUS_COEF_VALID p) = 1 ∧
      (s.trainDecide p).portState p = if s.on (R.GATE_NEG_CLEAR p) then 6 else 5 := by
  rw [s.trainDecide_eq hmine htheirs h4 hout, if_pos ⟨ha, hb⟩]
  generalize s.on (R.GATE_NEG_X4 p) = x4
  obtain ⟨hneg, hrate, hcoef, hclear⟩ := s.fixNeg_spec p (s.link p).target (s.shortAgreed p a b)
  generalize s.fixNeg p (s.link p).target (s.shortAgreed p a b) = v at *
  obtain ⟨k, hlanes⟩ := ((State.OnPort.refl (laneRegs p) p v).storeMode p ((s.link p).target + b2n x4 * 4)).fixLanes (fun _ hg => hg)
    (a.fld 0x12 0 9) (b.fld 0x12 0 9) x4
  generalize (v.storeMode p ((s.link p).target + b2n x4 * 4)).fixLanes p (a.fld 0x12 0 9) (b.fld 0x12 0 9) x4 = w at *
  obtain ⟨hkeys, hstate, -⟩ := w.toKeys_spec hp
  have hlane (f : Fld) (hf : f.addr = 0x1000c + p * 0x10000) : w.rd f = v.rd f :=
    hlanes.moved.rd f (NEG_ofPorts hp hf) fun g hg => wireRegs_apart hp (by omega) (.inl hg)
  have hon : w.on (R.GATE_NEG_CLEAR p) = s.on (R.GATE_NEG_CLEAR p) := by
    rw [State.on_eq, State.on_eq, hlane _ rfl, hclear]
  refine ⟨((hneg.moved.mono fun _ => .inl).trans (hlanes.moved.mono fun g hg => .inl (.inr (.inr hg)))).trans (hkeys.mono fun _ => .inr),
    ?_, ?_, ?_⟩
  · rw [hkeys.rd _ (NEG_ofPorts hp rfl) fun g hg => readyRegs_apart hp (.inl rfl) hg, hlane _ rfl, hrate]
  · rw [hkeys.rd (R.GATE_STATUS_COEF_VALID p) (GATE_STATUS_STATE_ofPorts hp) fun g hg => readyRegs_apart hp (.inr (.inr rfl)) hg,
      hlanes.moved.rd (R.GATE_STATUS_COEF_VALID p) (GATE_STATUS_STATE_ofPorts hp) fun g hg =>
        wireRegs_apart hp (.inr (.inr ⟨rfl, .inl rfl⟩)) (.inl hg), hcoef]
  · rw [hstate, hon]

end

end Sys2Proof.Machine

namespace Sys2Proof.Machine

section
variable {W V : Fld → Prop} {p : Nat} {l k : Link} {s t u : State} {body : State → State}

theorem exec_discoverArrival (s : State) :
    exec .discoverArrival s = coreCmd (fun s => s.withLink 0 (fun i s => s.discovered i.port i.pkt)) s := rfl

/-- No version in common ends in BACKOFF with cause 2, a gate's want of lanes with cause 3 (R331). -/
theorem State.discovered_exits (s : State) (h3 : s.portState p = 3) (x : Packet) :
    (p < 10 → bothVersions (s.versions p) (x.fld 0x11 0 3) = 0 → s.discovered p x = s.exitPort p 2 8 true) ∧
    (p < 8 → bothVersions (s.versions p) (x.fld 0x11 0 3) ≠ 0 →
      (lanesOf (s.link p).sentGood).length < 4 ∨ (lanesOf (x.fld 0x12 0 9)).length < 4 → s.discovered p x = s.exitPort p 3 8 true) := by
  refine ⟨fun _ hv => ?_, fun hp hv hfew => ?_⟩
  · by_cases hp : p < 8
    · rw [s.discovered_gate hp h3, if_pos hv]
    · rw [s.discovered_hinge (Nat.not_lt.mp hp) h3, if_pos hv]
  · rw [s.discovered_gate hp h3, if_neg hv, if_pos hfew]

/-- The state of a gate that has its partner's TRAIN_RESULT. -/
def State.heard (s : State) (p : Nat) (x : Packet) : State := s.modLink p (fun l => { l with theirs := some x })

theorem State.heard_link (s : State) (p : Nat) (x : Packet) : (s.heard p x).link p = { (s.link p) with theirs := some x } :=
  State.link_modLink_self s p _

/-- TRAIN_RESULT_ARRIVAL at a gate that equalizes shows what the decision gives. -/
theorem exec_trainResultArrival_shown {i : InPkt} {rest : List InPkt} (hoff : s.off = false)
    (htake : takeFirst (fun i => i.pkt.cls == 0 && i.pkt.type == 0 && i.pkt.fld 0x10 0 4 == 1) s.core.resp.inbox = some (i, rest))
    (h4 : s.portState i.port = 4) (hstill : (((s.taken rest).heard i.port i.pkt).trainDecide i.port).off = false) :
    ∃ t, exec .trainResultArrival s = .next t ∧ State.Shown (((s.taken rest).heard i.port i.pkt).trainDecide i.port) t :=
  exec_link_shown (sub := 1) hoff rfl htake (if_pos h4) hstill

end

/-- Settles O40: what a DISCOVER and two TRAIN_RESULTs decide. -/
theorem trainingAgrees : Obligations.TrainingAgrees := by
  intro s i rest hoff
  refine ⟨fun htake h3 => ?_, fun htake hp h4 => ?_⟩
  · obtain ⟨hversion, hlanes⟩ := (s.taken rest).discovered_exits (p := i.port) h3 i.pkt
    refine ⟨fun hp hv => exec_link_exits hoff (exec_discoverArrival s) htake hp (by decide) (by decide) (hversion hp hv),
      fun hp hv hfew => exec_link_exits hoff (exec_discoverArrival s) htake (by omega) (by decide) (by decide) (hlanes hp hv hfew),
      fun hp hv hmine htheirs => ?_, fun hp8 hp hv => ?_⟩
    · obtain ⟨hstill, hstate, hpeer, hneg, htarget⟩ := (s.taken rest).discovered_equalizes hp h3 i.pkt hv hmine htheirs
      obtain ⟨t, ht, hshown⟩ := exec_link_shown hoff (exec_discoverArrival s) htake rfl (hstill.trans hoff)
      refine ⟨t, ht, (hshown.portState _).trans hstate, ?_, (hshown.rd _).trans hneg, ?_⟩
      · rw [hshown.link, hpeer]
      · rw [hshown.link, htarget]
        rfl
    · obtain ⟨hstill, hpeer, hstate⟩ := (s.taken rest).discovered_keys hp8 hp h3 i.pkt hv
      obtain ⟨t, ht, hshown⟩ := exec_link_shown hoff (exec_discoverArrival s) htake rfl (hstill.trans hoff)
      exact ⟨t, ht, by rw [hshown.link, hpeer], (hshown.portState _).trans hstate⟩
  · have hp10 : i.port < 10 := Nat.lt_trans hp (by decide)
    have hlink := (s.taken rest).heard_link i.port i.pkt
    have hmine : (((s.taken rest).heard i.port i.pkt).link i.port).mine = (s.link i.port).mine := by
      rw [hlink]
      rfl
    have hout : (((s.taken rest).heard i.port i.pkt).link i.port).resultOut = (s.link i.port).resultOut := by
      rw [hlink]
      rfl
    have htarget : (((s.taken rest).heard i.port i.pkt).link i.port).target = (s.link i.port).target := by
      rw [hlink]
      rfl
    have htheirs : (((s.taken rest).heard i.port i.pkt).link i.port).theirs = some i.pkt := by
      rw [hlink]
    have hstate : ((s.taken rest).heard i.port i.pkt).portState i.port = 4 := h4
    have hoff' : ((s.taken rest).heard i.port i.pkt).off = false := hoff
    have hclear : ((s.taken rest).heard i.port i.pkt).on (R.GATE_NEG_CLEAR i.port) = s.on (R.GATE_NEG_CLEAR i.port) := rfl
    have hshow := exec_trainResultArrival_shown hoff htake h4
    generalize (s.taken rest).heard i.port i.pkt = v at *
    refine ⟨fun hwait => ?_, fun a ha hsent hpass hpass' => ?_, fun a ha hsent hfail hpos => ?_, fun a ha hsent hfail hzero => ?_⟩
    · have hid : v.trainDecide i.port = v :=
        State.trainDecide_waits (hwait.elim (fun h => .inl (hmine.trans h)) fun h => .inr (.inr (.inl (hout.trans h))))
      obtain ⟨t, ht, hshown⟩ := hshow (by rw [hid]; exact hoff')
      rw [hid] at hshown
      exact ⟨t, ht, by rw [hshown.link, htheirs], (hshown.portState _).trans hstate⟩
    · obtain ⟨hmoved, hrate, hcoef, hend⟩ := v.trainDecide_fixes hp10 (hmine.trans ha) htheirs hstate (hout.trans hsent) hpass hpass'
      obtain ⟨t, ht, hshown⟩ := hshow ((hmoved.off fun g hg => hg.elim fixRegs_off readyRegs_off).trans hoff')
      exact ⟨t, ht, (hshown.rd _).trans (htarget ▸ hrate), (hshown.rd _).trans hcoef, (hshown.portState _).trans (hclear ▸ hend)⟩
    · have heq := v.trainDecide_eq (hmine.trans ha) htheirs hstate (hout.trans hsent)
      rw [if_neg (by omega), if_pos (by omega), htarget] at heq
      obtain ⟨k, hk, hrate, -⟩ := (State.OnPort.refl (fun _ => False) i.port v).equalize ((s.link i.port).target - 1)
      rw [← heq] at hk
      obtain ⟨t, ht, hshown⟩ := hshow ((hk.moved.off fun _ => False.elim).trans hoff')
      refine ⟨t, ht, ?_, (hshown.portState _).trans ((hk.moved.portState hp10 fun _ => False.elim).trans hstate)⟩
      rw [hshown.link, hk.link, hrate]
    · have heq := v.trainDecide_eq (hmine.trans ha) htheirs hstate (hout.trans hsent)
      rw [if_neg (by omega), if_neg (by omega)] at heq
      have hexit := v.exitPort_exited hp10 (cause := 4) (next := 8) (by decide) (by decide) false
      rw [← heq] at hexit
      obtain ⟨t, ht, hshown⟩ := hshow ((hexit.moved.off fun g hg => exitRegs_off hg).trans hoff')
      exact ⟨t, ht, (hshown.portState _).trans hexit.state, (hshown.rd _).trans hexit.cause⟩

end Sys2Proof.Machine

namespace Sys2Proof.Machine

/-! ## Lanes in service (R336-R338, R341, R432-R435) -/

theorem maskDel_le (m i : Nat) : maskDel m i ≤ m := by
  unfold maskDel
  split
  · exact Nat.sub_le _ _
  · exact Nat.le_refl m

/-- The bits of a mask from which one bit has been taken. -/
theorem bits_maskDel (m lo w i : Nat) : bits (maskDel m (lo + i)) lo w = maskDel (bits m lo w) i := by
  refine Nat.eq_of_testBit_eq fun j => ?_
  rw [bits_testBit, testBit_maskDel, testBit_maskDel, bits_testBit, Bool.and_assoc]
  simp only [ne_eq, Nat.add_left_cancel_iff]

theorem maskDel_two_pow (i : Nat) : maskDel (2 ^ i) i = 0 := by
  have h : bit (2 ^ i) i = true := by
    rw [bit_eq_testBit, Nat.testBit_two_pow_self]
  rw [maskDel, if_pos h, Nat.sub_self]

section
variable {W V : Fld → Prop} {p : Nat} {l k : Link} {s t u : State} {body : State → State}

theorem portCmd_shown (hidle : s.idle = false) (hb : body { s with out := [] } = u) (hu : u.off = false) :
    ∃ t, portCmd body s = .next t ∧ u.Shown t := by
  subst hb
  exact ⟨_, portCmd_on body s hidle, State.wire_shown hu⟩

/-! ### A receive lane fails (R337, R338) -/

/-- A lane is out of service, and the receiver has reported it. -/
def State.markFailed (s : State) (g lane good spare : Nat) : State :=
  ((s.wr (R.GATE_LANES_RX_GOOD g) good).wr (R.GATE_LANE_RX_OK g lane) 0).modLink g fun l => { l with failSent := some (lane, spare) }

/-- The registers of a failed lane. -/
def failRegs (p lane : Nat) (g : Fld) : Prop := g = R.GATE_LANES_RX_GOOD p ∨ g = R.GATE_LANE_RX_OK p lane

theorem State.OnPort.markFailed (h : s.OnPort W p l t) {lane : Nat} (hW : ∀ g, failRegs p lane g → W g) (good spare : Nat) :
    s.OnPort W p { l with failSent := some (lane, spare) } (t.markFailed p lane good spare) :=
  ((h.wr (R.GATE_LANES_RX_GOOD p) good (.inl (hW _ (.inl rfl)))).wr (R.GATE_LANE_RX_OK p lane) 0 (.inl (hW _ (.inr rfl)))).modLink
    fun l => { l with failSent := some (lane, spare) }

theorem State.markFailed_good (s : State) (p : Nat) (lane : Nat) {good : Nat} (hgood : good < 2 ^ 9) (spare : Nat) :
    (s.markFailed p lane good spare).rd (R.GATE_LANES_RX_GOOD p) = good := by
  have hlink (u : State) (f : Fld) : (u.modLink p fun l => { l with failSent := some (lane, spare) }).rd f = u.rd f := rfl
  rw [State.markFailed, hlink, State.rd_wr_addr, State.rd_wr_self _ _ _ (by simp [R.GATE_LANES_RX_GOOD])]
  · exact Nat.mod_eq_of_lt hgood
  · simp only [R.GATE_LANES_RX_GOOD, R.GATE_LANE_RX_OK]
    omega

/-- What a failed lane leaves at the receiver that has a spare. -/
def State.failNoted (s : State) (g lane : Nat) : State :=
  ((s.count g 6).logErr 2 0 0 g none 0 0 lane).markFailed g lane (maskDel (s.rd (R.GATE_LANES_RX_GOOD g)) lane)
    (s.rd (R.GATE_LANES_RX_SPARE g))

theorem State.failNoted_spec (s : State) (p lane : Nat) :
    s.OnPort (failRegs p lane) p { (s.link p) with failSent := some (lane, s.rd (R.GATE_LANES_RX_SPARE p)) } (s.failNoted p lane) ∧
      (s.failNoted p lane).rd (R.GATE_LANES_RX_GOOD p) = maskDel (s.rd (R.GATE_LANES_RX_GOOD p)) lane :=
  ⟨(((State.OnPort.refl (failRegs p lane) p s).count p 6).logErr 2 0 0 p none 0 0 lane).markFailed (fun _ hg => hg) _ _,
    State.markFailed_good _ p lane (Nat.lt_of_le_of_lt (maskDel_le _ _) (s.rd_lt (R.GATE_LANES_RX_GOOD p))) _⟩

/-- LANE_FAIL of a failed lane, with the frame from which the spare takes over (R338). -/
def State.laneFailPkt (s : State) (g lane sw : Nat) : Packet := s.linkPkt g 2 [hf 0x11 0 4 lane, hf 0x14 0 32 sw]

theorem State.laneFailPkt_fld (s : State) (g lane sw : Nat) : (s.laneFailPkt g lane sw).fld 0x10 0 4 = 2 ∧
    (s.laneFailPkt g lane sw).fld 0x11 0 4 = lane % 16 ∧ (s.laneFailPkt g lane sw).fld 0x14 0 32 = sw % 2 ^ 32 := by
  have hapart : (headFields 0 0 0 0 0 0 0 0 ++ ([hf 0x10 0 4 0, hf 0x10 4 4 0] ++ [hf 0x11 0 4 0, hf 0x14 0 32 0])).Pairwise bitsApart := by
    unfold bitsApart
    decide
  have hplaces : [hf 0x11 0 4 lane, hf 0x14 0 32 sw].map (fun x => (x.1, x.2.1)) = [hf 0x11 0 4 0, hf 0x14 0 32 0].map fun x =>
    (x.1, x.2.1) :=
    rfl
  exact ⟨State.linkPkt_fld (off := 0x10) (lo := 0) (w := 4) (v := 2) (by simp) hplaces hapart (by decide),
    State.linkPkt_fld (off := 0x11) (lo := 0) (w := 4) (by simp) hplaces hapart (by decide),
    State.linkPkt_fld (off := 0x14) (lo := 0) (w := 32) (by simp) hplaces hapart (by decide)⟩

/-- A lane out of service changes nothing. -/
theorem State.laneFail_idle (h : s.portReady p = false) (lane : Nat) : s.laneFail p lane = s := if_pos (.inl (by rw [h]; decide))

theorem State.laneFail_spare {lane : Nat} (hr : s.portReady p = true) (hgood : bit (s.rd (R.GATE_LANES_RX_GOOD p)) lane = true)
    (hspare : s.rd (R.GATE_LANES_RX_SPARE p) ≠ 15) (hmap : lane ∈ s.rxMap p)
    (h4 : 4 ≤ (lanesOf (maskDel (s.rd (R.GATE_LANES_RX_GOOD p)) lane)).length) :
    s.laneFail p lane = (s.failNoted p lane).sendPort p ((s.failNoted p lane).laneFailPkt p lane (((s.link p).rxFseq + 32) % 2 ^ 32)) := by
  have hlog := ((State.OnPort.refl (fun _ => False) p s).count p 6).logErr 2 0 0 p none 0 0 lane
  rw [← hlog.link]
  unfold State.laneFail
  dsimp only
  rw [if_neg (by simp [hr, hgood]), if_neg (Nat.not_lt.mpr h4), if_pos (List.contains_iff_mem.mpr hmap), if_pos hspare]
  rfl

/-- What the failure of an active lane leaves where there is a spare (R338). -/
theorem State.laneFail_spec {lane : Nat} (hp : p < 10) (hlane : lane < 9) (hr : s.portReady p = true)
    (hgood : bit (s.rd (R.GATE_LANES_RX_GOOD p)) lane = true) (hspare : s.rd (R.GATE_LANES_RX_SPARE p) ≠ 15) (hmap : lane ∈ s.rxMap p)
    (h4 : 4 ≤ (lanesOf (maskDel (s.rd (R.GATE_LANES_RX_GOOD p)) lane)).length) :
    s.Moved (failRegs p lane) (s.laneFail p lane) ∧
      (s.laneFail p lane).rd (R.GATE_LANES_RX_GOOD p) = maskDel (s.rd (R.GATE_LANES_RX_GOOD p)) lane ∧
      ((s.laneFail p lane).link p).failSent = some (lane, s.rd (R.GATE_LANES_RX_SPARE p)) ∧
      ∃ o, (s.laneFail p lane).core.router.queued = s.core.router.queued ++ [o] ∧ o.port = p ∧ o.pkt.fld 0x10 0 4 = 2 ∧
        o.pkt.fld 0x11 0 4 = lane ∧ o.pkt.fld 0x14 0 32 = ((s.link p).rxFseq + 32) % 2 ^ 32 := by
  rw [State.laneFail_spare hr hgood hspare hmap h4]
  obtain ⟨hnoted, hset⟩ := s.failNoted_spec p lane
  have hready : (s.failNoted p lane).portReady p = true := by
    refine (hnoted.moved.portReady hp ?_).trans hr
    rintro g (rfl | rfl)
    · exact .inr (.inl (by simp only [R.GATE_LANES_RX_GOOD, R.GATE_STATUS_STATE]; omega))
    · exact .inr (.inl (by simp only [R.GATE_LANE_RX_OK, R.GATE_STATUS_STATE]; omega))
  generalize s.failNoted p lane = v at *
  obtain ⟨hsub, hfld, hsw⟩ := v.laneFailPkt_fld p lane (((s.link p).rxFseq + 32) % 2 ^ 32)
  generalize v.laneFailPkt p lane (((s.link p).rxFseq + 32) % 2 ^ 32) = x at *
  have hsent := (State.Moved.refl (fun _ => False) v).sendPort p x
  refine ⟨hnoted.moved.trans (hsent.mono fun _ => False.elim), ?_, ?_, ?_⟩
  · refine (hsent.rd _ ?_ fun _ => False.elim).trans hset
    simp only [Fld.ofPorts, R.GATE_LANES_RX_GOOD]
    omega
  · rw [State.sendPort, State.sendBy_ready hready, State.enqueue_link, hnoted.link]
  · obtain ⟨y, hy, hqueued⟩ := v.enqueue_queued ⟨10, p, true, 0, none, none, x, 0⟩
    refine ⟨y, ?_, hy.port, (hy.fld _ _ _ (by decide) (by decide)).trans hsub, (hy.fld _ _ _ (by decide) (by decide)).trans
      (hfld.trans (Nat.mod_eq_of_lt (by omega))), (hy.fld _ _ _ (by decide) (by decide)).trans (hsw.trans (Nat.mod_mod _ _))⟩
    rw [State.sendPort, State.sendBy_ready hready, hqueued, hnoted.core]

end

end Sys2Proof.Machine

namespace Sys2Proof.Machine

section
variable {W V : Fld → Prop} {p : Nat} {l k : Link} {s t u : State} {body : State → State}

/-! ### Lock (R337, R341, R432) -/

/-- The state with a lane's lock level. -/
def State.setLock (s : State) (g l : Nat) (v : Bool) : State :=
  { s with pins.lock := maskDel s.pins.lock (9 * g + l) + (if v then 2 ^ (9 * g + l) else 0) }

theorem exec_laneLockChange (g : Gate) (l : Lane) (v : Bool) (s : State) :
    exec (.laneLockChange g l v) s = .next (wire (laneLockChange g l v { s with out := [] })) := rfl

/-- Lock follows the PHY (R432). -/
theorem exec_laneLockChange_follows {g : Gate} {l : Lane} (hoff : s.off = false) (v : Bool)
    (hquiet : s.idle = true ∨ s.portReady g.val = false) :
    ∃ t, exec (.laneLockChange g l v) s = .next t ∧ bit t.pins.lock (9 * g.val + l.val) = v ∧ t.core = s.core ∧ t.aon = s.aon := by
  have hbody : laneLockChange g l v { s with out := [] } = State.setLock { s with out := [] } g.val l.val v := by
    cases hidle : s.idle with
    | true => exact if_pos hidle
    | false =>
      have hr : s.portReady g.val = false := hquiet.resolve_left (Bool.eq_false_iff.mp hidle)
      exact (if_neg (Bool.eq_false_iff.mp hidle)).trans (if_neg fun h => Bool.eq_false_iff.mp hr h.1)
  have hshown := State.wire_shown (u := State.setLock { s with out := [] } g.val l.val v) hoff
  refine ⟨_, (exec_laneLockChange g l v s).trans (by rw [hbody]), ?_, hshown.core, hshown.aon⟩
  rw [hshown.pins]
  exact bit_maskSet _ _ v

/-- The last lane's lock lost ends READY (R341). -/
theorem exec_laneLockChange_exits {g : Gate} {l : Lane} (hidle : s.idle = false) (hr : s.portReady g.val = true)
    (hlast : s.locked g.val = 2 ^ l.val) :
    ∃ t, exec (.laneLockChange g l false) s = .next t ∧ t.portState g.val = 8 ∧ t.rd (R.GATE_STATUS_CAUSE g.val) = 6 := by
  have hnone : (State.setLock { s with out := [] } g.val l.val false).locked g.val = 0 :=
    (bits_maskDel s.pins.lock (9 * g.val) 9 l.val).trans ((congrArg (maskDel · l.val) hlast).trans (maskDel_two_pow l.val))
  have hbody : laneLockChange g l false { s with out := [] } =
      (State.setLock { s with out := [] } g.val l.val false).exitPort g.val 6 8 true :=
    (if_neg (Bool.eq_false_iff.mp hidle)).trans (if_pos ⟨hr, hnone⟩)
  have hexit := (State.setLock { s with out := [] } g.val l.val false).exitPort_exited (gate_lt_ten g) (cause := 6) (next := 8) (by decide)
    (by decide) true
  have hshown := State.wire_shown ((hexit.moved.off fun g hg => exitRegs_off hg).trans (State.off_of_idle hidle))
  exact ⟨_, (exec_laneLockChange g l false s).trans (by rw [hbody]), (hshown.portState _).trans hexit.state,
    (hshown.rd _).trans hexit.cause⟩

theorem failRegs_off {lane : Nat} {g : Fld} (hg : failRegs p lane g) : g.addr ≠ 0x10 := by
  rcases hg with rfl | rfl
  · simp only [R.GATE_LANES_RX_GOOD]
    omega
  · simp only [R.GATE_LANE_RX_OK]
    omega

theorem failRegs_apart {lane : Nat} (hlane : lane < 9) {f : Fld} (hf : f.addr < 0x10020 + p * 0x10000 ∨
    0x10040 + p * 0x10000 ≤ f.addr ∧ 2 ≤ f.lo) {g : Fld} (hg : failRegs p lane g) : g.apart f := by
  rcases hg with rfl | rfl
  · exact .inr (.inl (by simp only [R.GATE_LANES_RX_GOOD]; omega))
  · rcases hf with hf | ⟨-, hf⟩
    · exact .inr (.inl (by simp only [R.GATE_LANE_RX_OK]; omega))
    · exact .inr (.inr (.inl hf))

/-- A lane out of lock fails; where there is a spare the partner hears of it (R337, R338). -/
theorem exec_laneLockLossTimeout_fails {g : Gate} {l : Lane} (hoff : s.off = false) (hlock : bit (s.locked g.val) l.val = false)
    (hr : s.portReady g.val = true) (hgood : bit (s.rd (R.GATE_LANES_RX_GOOD g.val)) l.val = true)
    (hspare : s.rd (R.GATE_LANES_RX_SPARE g.val) ≠ 15) (hmap : l.val ∈ s.rxMap g.val)
    (h4 : 4 ≤ (lanesOf (maskDel (s.rd (R.GATE_LANES_RX_GOOD g.val)) l.val)).length) :
    ∃ t o, exec (.laneLockLossTimeout g l) s = .next t ∧
      t.rd (R.GATE_LANES_RX_GOOD g.val) = maskDel (s.rd (R.GATE_LANES_RX_GOOD g.val)) l.val ∧
      (t.link g.val).failSent = some (l.val, s.rd (R.GATE_LANES_RX_SPARE g.val)) ∧
      t.core.router.queued = s.core.router.queued ++ [o] ∧ o.port = g.val ∧ o.pkt.fld 0x10 0 4 = 2 ∧ o.pkt.fld 0x11 0 4 = l.val ∧
      o.pkt.fld 0x14 0 32 = ((s.link g.val).rxFseq + 32) % 2 ^ 32 ∧ t.portState g.val = s.portState g.val := by
  obtain ⟨hmoved, hset, hsent, o, hqueued, ho⟩ := State.laneFail_spec (s := { s with out := [] }) (gate_lt_ten g) l.isLt hr hgood
    hspare hmap h4
  have hbody : laneLockLossTimeout g l { s with out := [] } = ({ s with out := [] } : State).laneFail g.val l.val :=
    if_neg (Bool.eq_false_iff.mp hlock)
  obtain ⟨t, ht, hshown⟩ := coreCmd_shown (body := laneLockLossTimeout g l) hoff hbody
    ((hmoved.off fun g hg => failRegs_off hg).trans hoff)
  refine ⟨t, o, ht, (hshown.rd _).trans hset, (congrArg Link.failSent (hshown.link _)).trans hsent, ?_, ho.1, ho.2.1, ho.2.2.1,
    ho.2.2.2, ?_⟩
  · rw [hshown.core, hqueued]
  · refine (hshown.portState _).trans (hmoved.portState (gate_lt_ten g) fun x hx => failRegs_apart l.isLt (.inl ?_) hx)
    simp only [R.GATE_STATUS_STATE]
    omega

/-! ### Error ratios (R337) -/

/-- The state once a window's ratio has been recorded. -/
def State.serNoted (s : State) (g l e : Nat) : State :=
  (s.wr (R.GATE_LANE_RX_SER_EXP g l) e).modLink g fun k =>
    { k with serFail := SMap.put k.serFail l (s.rd (R.GATE_RECAL_FAIL_LOG2 g)) }

theorem State.serNoted_rd (s : State) (p lane e : Nat) {f : Fld} (hf : (R.GATE_LANE_RX_SER_EXP p lane).apart f) :
    (s.serNoted p lane e).rd f = s.rd f := State.rd_wr_ne s _ f e hf

theorem State.serNoted_ser (s : State) (p lane : Nat) {e : Nat} (he : e < 256) :
    (s.serNoted p lane e).rd (R.GATE_LANE_RX_SER_EXP p lane) = e :=
  (State.rd_wr_self s _ e (by simp [R.GATE_LANE_RX_SER_EXP])).trans (Nat.mod_eq_of_lt he)

theorem State.rxMap_congr (h : ∀ j, t.rd (R.GATE_LANE_LOGICAL p j) = s.rd (R.GATE_LANE_LOGICAL p j)) : t.rxMap p = s.rxMap p := by
  simp only [State.rxMap, h]

/-- A window over the ratio in the spare's dwell. -/
def State.spareSeen (s : State) (g : Nat) (bad : Bool) : State :=
    s.modLink g (fun k => { k with spareBad := some (bad && k.spareBad.getD true) })

theorem laneSerWindow_eq (g : Gate) (l : Lane) (e : BitVec 8) (s : State) : laneSerWindow g l e s =
    let v := s.serNoted g.val l.val e.toNat
    let bad := decide (e.toNat < SMap.getD (s.link g.val).serFail l.val (s.rd (R.GATE_RECAL_FAIL_LOG2 g.val)))
    if v.portReady g.val ∧ l.val = v.rd (R.GATE_LANES_RX_SPARE g.val) then v.spareSeen g.val bad
    else if bad then v.laneFail g.val l.val
    else v := rfl

theorem serNoted_spare (s : State) (g : Gate) (l : Lane) (e : Nat) :
    (s.serNoted g.val l.val e).rd (R.GATE_LANES_RX_SPARE g.val) = s.rd (R.GATE_LANES_RX_SPARE g.val) :=
  s.serNoted_rd _ _ e (.inr (.inl (by simp only [R.GATE_LANES_RX_SPARE, R.GATE_LANE_RX_SER_EXP]; omega)))

theorem serNoted_ready (s : State) (g : Gate) (l : Lane) (e : Nat) : (s.serNoted g.val l.val e).portReady g.val = s.portReady g.val := by
  rw [State.portReady, State.portState, s.serNoted_rd _ _ e (.inr (.inl ?_))]
  · rfl
  · simp only [R.GATE_STATUS_STATE, R.GATE_LANE_RX_SER_EXP]
    omega

theorem serNoted_off (s : State) (g : Gate) (l : Lane) (e : Nat) : (s.serNoted g.val l.val e).off = s.off := by
  rw [State.off, State.seq, s.serNoted_rd _ _ e (.inr (.inl ?_))]
  · rfl
  · simp only [R.GLOBAL_START_STATUS_STATE, R.GATE_LANE_RX_SER_EXP]
    omega

/-- A window that fails no lane records its ratio (R337). -/
theorem exec_laneSerWindow_records {g : Gate} {l : Lane} {e : BitVec 8} (hoff : s.off = false)
    (hok : SMap.getD (s.link g.val).serFail l.val (s.rd (R.GATE_RECAL_FAIL_LOG2 g.val)) ≤ e.toNat ∨ s.portReady g.val = false ∨
      l.val = s.rd (R.GATE_LANES_RX_SPARE g.val)) :
    ∃ t, exec (.laneSerWindow g l e) s = .next t ∧ t.rd (R.GATE_LANE_RX_SER_EXP g.val l.val) = e.toNat ∧
      s.SameBut t [R.GATE_LANE_RX_SER_EXP g.val l.val] ∧ t.core = { s.core with regs := t.core.regs, links := t.core.links } := by
  have hready := serNoted_ready { s with out := [] } g l e.toNat
  have hspare := serNoted_spare { s with out := [] } g l e.toNat
  have hbody : ∃ w, laneSerWindow g l e { s with out := [] } = w ∧
      w = { (State.serNoted { s with out := [] } g.val l.val e.toNat) with core.links := w.core.links } := by
    rw [laneSerWindow_eq]
    dsimp only
    split
    · exact ⟨_, rfl, rfl⟩
    · rename_i hlive
      split
      · rename_i hbad
        have hdown : (State.serNoted { s with out := [] } g.val l.val e.toNat).portReady g.val = false := by
          rw [hready]
          rcases hok with hok | hok | hok
          · exact absurd (of_decide_eq_true hbad) (Nat.not_lt.mpr hok)
          · exact hok
          · exact Bool.eq_false_iff.mpr fun hr => hlive ⟨hready.trans hr, hok.trans hspare.symm⟩
        rw [State.laneFail_idle hdown]
        exact ⟨_, rfl, rfl⟩
      · exact ⟨_, rfl, rfl⟩
  obtain ⟨w, hbody, hw⟩ := hbody
  have hrd (f : Fld) : w.rd f = (State.serNoted { s with out := [] } g.val l.val e.toNat).rd f := by
    rw [hw]
    rfl
  obtain ⟨t, ht, hshown⟩ := coreCmd_shown (body := laneSerWindow g l e) hoff hbody (by
    rw [State.off, State.seq, hrd]
    exact (serNoted_off _ g l _).trans hoff)
  refine ⟨t, ht, (hshown.rd _).trans ((hrd _).trans (State.serNoted_ser _ _ _ e.isLt)), fun f hf => ?_, ?_⟩
  · exact (hshown.rd f).trans ((hrd f).trans (State.serNoted_rd _ _ _ _ (hf _ (by simp))))
  · rw [hshown.core, hw]
    exact congrArg (fun c : Core => { c with links := w.core.links })
      (State.wr_core_aon { s with out := [] } (R.GATE_LANE_RX_SER_EXP g.val l.val)
      e.toNat rfl).2

/-- An active lane over the ratio fails (R337, R338). -/
theorem exec_laneSerWindow_fails {g : Gate} {l : Lane} {e : BitVec 8} (hoff : s.off = false)
    (hbad : e.toNat < SMap.getD (s.link g.val).serFail l.val (s.rd (R.GATE_RECAL_FAIL_LOG2 g.val))) (hr : s.portReady g.val = true)
    (hgood : bit (s.rd (R.GATE_LANES_RX_GOOD g.val)) l.val = true) (hspare : s.rd (R.GATE_LANES_RX_SPARE g.val) ≠ 15)
    (hlane : l.val ≠ s.rd (R.GATE_LANES_RX_SPARE g.val)) (hmap : l.val ∈ s.rxMap g.val)
    (h4 : 4 ≤ (lanesOf (maskDel (s.rd (R.GATE_LANES_RX_GOOD g.val)) l.val)).length) :
    ∃ t, exec (.laneSerWindow g l e) s = .next t ∧ t.rd (R.GATE_LANE_RX_SER_EXP g.val l.val) = e.toNat ∧
      t.rd (R.GATE_LANES_RX_GOOD g.val) = maskDel (s.rd (R.GATE_LANES_RX_GOOD g.val)) l.val ∧
      (t.link g.val).failSent = some (l.val, s.rd (R.GATE_LANES_RX_SPARE g.val)) ∧ t.portState g.val = s.portState g.val := by
  have hready := serNoted_ready { s with out := [] } g l e.toNat
  have hspare' := serNoted_spare { s with out := [] } g l e.toNat
  have hstill := serNoted_off { s with out := [] } g l e.toNat
  have hser := State.serNoted_ser { s with out := [] } g.val l.val e.isLt
  have hgood' : (State.serNoted { s with out := [] } g.val l.val e.toNat).rd (R.GATE_LANES_RX_GOOD g.val) =
      s.rd (R.GATE_LANES_RX_GOOD g.val) :=
    State.serNoted_rd _ _ _ _ (.inr (.inl (by simp only [R.GATE_LANES_RX_GOOD, R.GATE_LANE_RX_SER_EXP]; omega)))
  have hstate : (State.serNoted { s with out := [] } g.val l.val e.toNat).portState g.val = s.portState g.val :=
    State.serNoted_rd _ _ _ _ (.inr (.inl (by simp only [R.GATE_STATUS_STATE, R.GATE_LANE_RX_SER_EXP]; omega)))
  have hmap' : (State.serNoted { s with out := [] } g.val l.val e.toNat).rxMap g.val = s.rxMap g.val :=
    State.rxMap_congr fun j => State.serNoted_rd _ _ _ _ (.inr (.inr (.inr (by simp [R.GATE_LANE_LOGICAL, R.GATE_LANE_RX_SER_EXP]))))
  have hbody : laneSerWindow g l e { s with out := [] } =
      (State.serNoted { s with out := [] } g.val l.val e.toNat).laneFail g.val l.val :=
    (laneSerWindow_eq g l e _).trans ((if_neg fun h => hlane (h.2.trans hspare')).trans (if_pos (decide_eq_true hbad)))
  generalize State.serNoted { s with out := [] } g.val l.val e.toNat = v at *
  obtain ⟨hmoved, hset, hsent, -⟩ := State.laneFail_spec (s := v) (gate_lt_ten g) l.isLt (hready.trans hr) (hgood' ▸ hgood)
    (hspare' ▸ hspare)
    (hmap' ▸ hmap) (hgood' ▸ h4)
  obtain ⟨t, ht, hshown⟩ := coreCmd_shown (body := laneSerWindow g l e) hoff hbody
    ((hmoved.off fun g hg => failRegs_off hg).trans (hstill.trans hoff))
  refine ⟨t, ht, (hshown.rd _).trans ((hmoved.rd _ ?_ fun x hx => failRegs_apart l.isLt (.inr ?_) hx).trans hser),
    (hshown.rd _).trans (hset.trans (by rw [hgood'])), (congrArg Link.failSent (hshown.link _)).trans (hsent.trans (by rw [hspare']; rfl)),
    (hshown.portState _).trans ((hmoved.portState (gate_lt_ten g) fun x hx => failRegs_apart l.isLt (.inl ?_) hx).trans hstate)⟩
  · simp only [Fld.ofPorts, R.GATE_LANE_RX_SER_EXP]
    omega
  · simp only [R.GATE_LANE_RX_SER_EXP]
    omega
  · simp only [R.GATE_STATUS_STATE]
    omega

end

end Sys2Proof.Machine

namespace Sys2Proof.Machine

section
variable {W V : Fld → Prop} {p : Nat} {l k : Link} {s t u : State} {body : State → State}

/-! ### Rate acknowledgement and equalization requests (R433-R435) -/

theorem exec_rateAckChange (g : Gate) (v : Bool) (s : State) :
    exec (.rateAckChange g v) s = .next (wire (rateAckChange g v { s with out := [] })) := rfl

/-- The state with a gate's rate acknowledgement. -/
def State.setRateAck (s : State) (g : Nat) (v : Bool) : State :=
  { s with pins.rateAck := maskDel s.pins.rateAck g + (if v then 2 ^ g else 0) }

/-- Rate acknowledgement follows the PHY (R433). -/
theorem exec_rateAckChange_follows {g : Gate} (hoff : s.off = false) (v : Bool) :
    ∃ t, exec (.rateAckChange g v) s = .next t ∧ bit t.pins.rateAck g.val = v ∧
      (t.link g.val).rateAck = (if s.idle then (s.link g.val).rateAck else v) ∧ (∀ k, k ≠ g.val → t.link k = s.link k) ∧
      t.core = { s.core with links := t.core.links } ∧ t.aon = s.aon := by
  have hbody : rateAckChange g v { s with out := [] } = if s.idle then State.setRateAck { s with out := [] } g.val v
    else (State.setRateAck { s with out := [] } g.val v).modLink g.val fun l => { l with rateAck := v } := rfl
  refine ⟨_, exec_rateAckChange g v s, ?_⟩
  rw [hbody]
  cases s.idle with
  | true =>
    have hshown := State.wire_shown (u := State.setRateAck { s with out := [] } g.val v) hoff
    refine ⟨?_, congrArg Link.rateAck (hshown.link _), fun k _ => hshown.link k, hshown.core.trans ?_, hshown.aon⟩
    · rw [if_pos rfl, hshown.pins]
      exact bit_maskSet _ _ v
    · rw [if_pos rfl, hshown.core]
      rfl
  | false =>
    have hset := (State.OnPort.refl (fun _ => False) g.val (State.setRateAck { s with out := [] } g.val v)).modLink
      fun l => { l with rateAck := v }
    have hshown := State.wire_shown (u := (State.setRateAck { s with out := [] } g.val v).modLink g.val fun l =>
      { l with rateAck := v }) hoff
    refine ⟨?_, ?_, fun k hk => (hshown.link k).trans (hset.links k hk), hshown.core.trans ?_, hshown.aon⟩
    · rw [if_neg (by decide), hshown.pins]
      exact bit_maskSet _ _ v
    · rw [if_neg (by decide), if_neg (by decide), hshown.link, hset.link]
    · rw [if_neg (by decide), hshown.core]
      rfl

/-- The next request is presented to the PHY, whatever it is (R434). -/
theorem State.cfgPresent_eq (s : State) (g : Nat) : ∃ o, s.cfgPresent g = { s with out := o } := by
  unfold State.cfgPresent
  split
  · exact ⟨_, rfl⟩
  · exact ⟨_, rfl⟩

/-- Coefficients read from the PHY are stored (R434). -/
theorem exec_phyCfgDone_reads {g : Gate} {c : CfgReq} {rest : List CfgReq} {v : BitVec 64} (hidle : s.idle = false)
    (hcfg : (s.link g.val).cfg = c :: rest) (hop : c.op = 1) :
    ∃ t, exec (.phyCfgDone g v false) s = .next t ∧ SMap.get? t.aon.coefs (g.val * 16 + c.lane) = some v ∧ (t.link g.val).cfg = rest ∧
      t.core = { s.core with links := t.core.links } := by
  have hlink := State.link_modLink_self { s with out := [] } g.val fun l => { l with cfg := rest }
  obtain ⟨o, ho⟩ := State.cfgPresent_eq { (State.modLink { s with out := [] } g.val fun l => { l with cfg := rest }) with
    aon.coefs := SMap.put s.aon.coefs (g.val * 16 + c.lane) v } g.val
  have hbody : phyCfgDone g v false { s with out := [] } = State.cfgPresent
      { (State.modLink { s with out := [] } g.val fun l => { l with cfg := rest }) with
        aon.coefs := SMap.put s.aon.coefs (g.val * 16 + c.lane) v } g.val := by
    have hcfg' : (State.link { s with out := [] } g.val).cfg = c :: rest := hcfg
    simp only [phyCfgDone, Bool.false_eq_true, if_false, hcfg', hop, if_true]
    rfl
  obtain ⟨t, ht, hshown⟩ := portCmd_shown (body := phyCfgDone g v false) hidle (hbody.trans ho) (State.off_of_idle hidle)
  refine ⟨t, ht, ?_, ?_, hshown.core.trans ?_⟩
  · rw [hshown.aon]
    exact SMap.get?_put_self _ _ _
  · exact congrArg Link.cfg ((hshown.link _).trans hlink)
  · rw [hshown.core]
    rfl

/-- A request that fails in training marks its lane (R435). -/
theorem State.cfgFailed_training (s : State) {g : Nat} {c : CfgReq} {rest : List CfgReq} (hcfg : (s.link g).cfg = c :: rest)
    (hr : s.portReady g = false) : ∃ o, s.cfgFailed g =
      { (s.modLink g fun l => { l with cfg := rest, bad := Nat.lor l.bad (2 ^ c.lane) }) with out := o } := by
  unfold State.cfgFailed
  rw [hcfg]
  dsimp only
  obtain ⟨o, ho⟩ := (s.modLink g fun l => { l with cfg := rest, bad := Nat.lor l.bad (2 ^ c.lane) }).cfgPresent_eq g
  rw [ho]
  refine ⟨o, State.laneFail_idle ?_ c.lane⟩
  exact hr

theorem exec_cfgFailed {g : Gate} {c : CfgReq} {rest : List CfgReq} {v : BitVec 64} (hidle : s.idle = false)
    (hcfg : (s.link g.val).cfg = c :: rest) (hr : s.portReady g.val = false) :
    ∀ x ∈ [Instr.phyCfgDone g v true, .phyCfgTimeout g],
      ∃ t, exec x s = .next t ∧ (t.link g.val).cfg = rest ∧ (t.link g.val).bad = Nat.lor (s.link g.val).bad (2 ^ c.lane) ∧
        t.core = { s.core with links := t.core.links } ∧ t.aon = s.aon := by
  have hlink := State.link_modLink_self { s with out := [] } g.val fun l => { l with cfg := rest, bad := Nat.lor l.bad (2 ^ c.lane) }
  obtain ⟨o, ho⟩ := State.cfgFailed_training { s with out := [] } hcfg hr
  obtain ⟨t, ht, hshown⟩ := portCmd_shown (body := fun s => s.cfgFailed g.val) hidle ho (State.off_of_idle hidle)
  have hspec : (t.link g.val).cfg = rest ∧ (t.link g.val).bad = Nat.lor (s.link g.val).bad (2 ^ c.lane) ∧
      t.core = { s.core with links := t.core.links } ∧ t.aon = s.aon := by
    refine ⟨congrArg Link.cfg ((hshown.link _).trans hlink), congrArg Link.bad ((hshown.link _).trans hlink),
      hshown.core.trans ?_, hshown.aon⟩
    rw [hshown.core]
    rfl
  simp only [List.forall_mem_cons]
  exact ⟨⟨t, ht, hspec⟩, ⟨t, ht, hspec⟩, by simp⟩

end

/-- Settles O41: lock, error ratios, rate acknowledgement and equalization requests of lanes. -/
theorem lanesInService : Obligations.LanesInService := by
  intro s g l hoff
  exact ⟨fun v hquiet => exec_laneLockChange_follows hoff v hquiet, fun hidle hr hlast => exec_laneLockChange_exits hidle hr hlast,
    fun hlock => coreCmd_still (body := laneLockLossTimeout g l) hoff (if_pos hlock),
    fun hlock hr hgood hspare hmap h4 => exec_laneLockLossTimeout_fails hoff hlock hr hgood hspare hmap h4,
    fun e hok => exec_laneSerWindow_records hoff hok,
    fun e hbad hr hgood hspare hlane hmap h4 => exec_laneSerWindow_fails hoff hbad hr hgood hspare hlane hmap h4,
    fun v => exec_rateAckChange_follows hoff v, fun c rest v hidle hcfg hop => exec_phyCfgDone_reads hidle hcfg hop,
    fun c rest v hidle hcfg hr => exec_cfgFailed hidle hcfg hr⟩

end Sys2Proof.Machine

namespace Sys2Proof.Machine

/-! ## What the ends of a gate tell each other of its lanes (R336, R338, R339, R341) -/

section
variable {W V : Fld → Prop} {p : Nat} {l k : Link} {s t u : State} {body : State → State}

theorem State.Shown.setLink {x : Link} (h : State.Shown (s.setLink p x) t) : t.link p = x ∧ (∀ k, k ≠ p → t.link k = s.link k) ∧
    t.core = { s.core with links := t.core.links } ∧ t.aon = s.aon := by
  refine ⟨(h.link p).trans (State.link_modLink_self s p fun _ => x), fun k hk => (h.link k).trans (State.link_modLink_ne s (fun _ => x) hk),
    h.core.trans ?_, h.aon⟩
  rw [h.core]
  rfl

/-- A LANE_FAIL in time names the frame from which the spare takes over (R338). -/
theorem exec_laneFailArrival_inTime {i : InPkt} {rest : List InPkt} (hoff : s.off = false)
    (htake : takeFirst (fun i => i.pkt.cls == 0 && i.pkt.type == 0 && i.pkt.fld 0x10 0 4 == 2) s.core.resp.inbox = some (i, rest))
    (hp : i.port < 8) (hr : s.portReady i.port = true) (hsw : i.pkt.fld 0x14 0 32 ≠ 0)
    (hmap : (s.link i.port).txMap.contains (i.pkt.fld 0x11 0 4) = true) (hspare : s.rd (R.GATE_LANES_TX_SPARE i.port) ≠ 15)
    (hnone : (s.link i.port).failSwitch = none) (htime : (s.link i.port).txFseq ≤ i.pkt.fld 0x14 0 32) :
    ∃ t, exec .laneFailArrival s = .next t ∧ (t.link i.port).failSwitch = some (i.pkt.fld 0x14 0 32, i.pkt.fld 0x11 0 4) ∧
      (t.link i.port).countdown = 0 ∧ (t.link i.port).txMap = (s.link i.port).txMap ∧ t.core.regs = s.core.regs := by
  obtain ⟨t, ht, hshown⟩ := exec_link_shown (c := .laneFailArrival) (sub := 2) hoff rfl htake ((if_neg (fun h => h.elim
    (Nat.not_le.mpr hp) fun h => h hr)).trans ((if_neg hsw).trans (if_pos ⟨hmap, hspare, Option.isNone_iff_eq_none.mpr hnone, htime⟩))) hoff
  obtain ⟨hlink, -, hcore, -⟩ := hshown.setLink
  refine ⟨t, ht, ?_, ?_, ?_, ?_⟩
  · rw [hlink]
  · rw [hlink]
  · rw [hlink]
    rfl
  · rw [hcore]
    rfl

/-- A LANE_FAIL that comes late is ignored (R338). -/
theorem exec_laneFailArrival_late {i : InPkt} {rest : List InPkt} (hoff : s.off = false)
    (htake : takeFirst (fun i => i.pkt.cls == 0 && i.pkt.type == 0 && i.pkt.fld 0x10 0 4 == 2) s.core.resp.inbox = some (i, rest))
    (hsw : i.pkt.fld 0x14 0 32 ≠ 0) (hlate : i.pkt.fld 0x14 0 32 < (s.link i.port).txFseq) :
    ∃ t, exec .laneFailArrival s = .next t ∧ t.core = { s.core with resp.inbox := rest } ∧ t.aon = s.aon := by
  have hbody : ∀ c : Prop, [Decidable c] → ∀ x y : State, (if c then s.taken rest else if i.pkt.fld 0x14 0 32 = 0 then x
      else if (s.link i.port).txMap.contains (i.pkt.fld 0x11 0 4) ∧ s.rd (R.GATE_LANES_TX_SPARE i.port) ≠ 15 ∧
        (s.link i.port).failSwitch.isNone ∧ (s.link i.port).txFseq ≤ i.pkt.fld 0x14 0 32 then y else s.taken rest) = s.taken rest := by
    intro c _ x y
    rw [if_neg hsw]
    split
    · rfl
    · refine if_neg ?_
      rintro ⟨-, -, -, h⟩
      exact Nat.not_le.mpr hlate h
  obtain ⟨t, ht, hshown⟩ := exec_link_shown (c := .laneFailArrival) (sub := 2) hoff rfl htake (hbody _ _ _) hoff
  exact ⟨t, ht, hshown.core, hshown.aon⟩

/-- The link once WIDTH has named frames for both directions; a frame named before stands (R339). -/
def Link.widened (l : Link) (x : Packet) : Link :=
  { l with txWidth := some ((l.txWidth.map (·.1)).getD (x.fld 0x14 0 32), x.fld 0x12 0 9),
           rxWidth := some (l.rxWidth.getD (x.fld 0x18 0 32)), failSwitch := none, countdown := 0, nextSp := 15 }

/-- The state in which a gate moves to x4. -/
def State.degrading (s : State) (p : Nat) (x : Packet) : State :=
  let v := s.setLink p ((s.link p).widened x)
  if v.portState p = 6 then v.setPortState p 7 else v

theorem State.degrading_spec (s : State) (hp : p < 10) (hr : s.portReady p = true) (x : Packet) :
    s.OnPort (fun g => g = R.GATE_STATUS_STATE p) p ((s.link p).widened x) (s.degrading p x) ∧ (s.degrading p x).portState p = 7 := by
  have hset := (State.OnPort.refl (fun g => g = R.GATE_STATUS_STATE p) p s).setLink ((s.link p).widened x)
  have hstate : (s.setLink p ((s.link p).widened x)).portState p = s.portState p := rfl
  unfold State.degrading
  dsimp only
  rw [hstate]
  generalize s.setLink p ((s.link p).widened x) = v at *
  split
  · exact ⟨hset.setPortState 7 rfl, v.setPortState_state hp (by decide)⟩
  · refine ⟨hset, hstate.trans ?_⟩
    simp only [State.portReady, Bool.or_eq_true, beq_iff_eq] at hr
    exact hr.resolve_left ‹_›

/-- WIDTH moves both directions at the frames first named, through DEGRADE (R339). -/
theorem exec_widthArrival_degrades {i : InPkt} {rest : List InPkt} (hoff : s.off = false)
    (htake : takeFirst (fun i => i.pkt.cls == 0 && i.pkt.type == 0 && i.pkt.fld 0x10 0 4 == 3) s.core.resp.inbox = some (i, rest))
    (hp : i.port < 8) (hr : s.portReady i.port = true) (hx4 : s.on (R.GATE_NEG_X4 i.port) = false) (hset : i.pkt.fld 0x11 0 1 = 1)
    (htx : (s.link i.port).txMap.length ≠ 4) (hrx : (s.rxMap i.port).length ≠ 4) :
    ∃ t, exec .widthArrival s = .next t ∧ t.portState i.port = 7 ∧
      (t.link i.port).txWidth.map (·.1) = some (((s.link i.port).txWidth.map (·.1)).getD (i.pkt.fld 0x14 0 32)) ∧
      (t.link i.port).txWidth.map (·.2) = some (i.pkt.fld 0x12 0 9) ∧
      (t.link i.port).rxWidth = some ((s.link i.port).rxWidth.getD (i.pkt.fld 0x18 0 32)) ∧
      (t.link i.port).failSwitch = none ∧ (t.link i.port).countdown = 0 := by
  have hp10 : i.port < 10 := Nat.lt_trans hp (by decide)
  obtain ⟨hlink, hstate⟩ := (s.taken rest).degrading_spec hp10 hr i.pkt
  obtain ⟨t, ht, hshown⟩ := exec_link_shown (c := .widthArrival) (sub := 3) (u := (s.taken rest).degrading i.port i.pkt) hoff rfl htake (by
    have hskip : ¬ (i.port ≥ 8 ∨ ¬ (s.taken rest).portReady i.port = true ∨ (s.taken rest).on (R.GATE_NEG_X4 i.port) = true ∨
        i.pkt.fld 0x11 0 1 = 0) := by
      rw [show (s.taken rest).portReady i.port = true from hr, show (s.taken rest).on (R.GATE_NEG_X4 i.port) = false from hx4, hset]
      simp only [ge_iff_le, Nat.not_le.mpr hp, not_true_eq_false, Bool.false_eq_true, Nat.one_ne_zero, or_self, not_false_eq_true]
    dsimp only
    rw [if_neg hskip, if_neg (show ¬ ((s.taken rest).link i.port).txMap.length = 4 from htx),
      if_neg (show ¬ ((s.taken rest).rxMap i.port).length = 4 from hrx)]
    unfold State.degrading Link.widened
    cases ((s.taken rest).link i.port).txWidth <;> cases ((s.taken rest).link i.port).rxWidth <;> rfl)
    ((hlink.moved.off fun g hg => by rw [hg]; simp only [R.GATE_STATUS_STATE]; omega).trans hoff)
  have hend := (hshown.link _).trans hlink.link
  refine ⟨t, ht, (hshown.portState _).trans hstate, ?_⟩
  rw [hend]
  exact ⟨rfl, rfl, rfl, rfl, rfl⟩

/-- RECAL goes to the PHY (R336). -/
theorem exec_recalArrival_presents {i : InPkt} {rest : List InPkt}
    (htake : takeFirst (fun i => i.pkt.cls == 0 && i.pkt.type == 0 && i.pkt.fld 0x10 0 4 == 5) s.core.resp.inbox = some (i, rest))
    (hp : i.port < 8) (hcfg : (s.link i.port).cfg = []) (hiso : s.pins.iso = false) (hidle : s.idle = false) :
    ∃ t, exec .recalArrival s = .next t ∧ t.out = [.phyCfg i.port (i.pkt.fld 0x11 0 4) 3 (i.pkt.fld 0x12 0 16)] ∧
      (t.link i.port).cfg = [⟨i.pkt.fld 0x11 0 4, 3, i.pkt.fld 0x12 0 16⟩] ∧ t.core.regs = s.core.regs := by
  have hcfg' : ((s.taken rest).link i.port).cfg = [] := hcfg
  have hpush : (s.taken rest).cfgPush i.port [⟨i.pkt.fld 0x11 0 4, 3, i.pkt.fld 0x12 0 16⟩] =
      ((s.taken rest).modLink i.port fun l => { l with cfg := l.cfg ++ [⟨i.pkt.fld 0x11 0 4, 3, i.pkt.fld 0x12 0 16⟩] }).emit
        (.phyCfg i.port (i.pkt.fld 0x11 0 4) 3 (i.pkt.fld 0x12 0 16)) := by
    simp only [State.cfgPush, State.cfgPresent, State.link_modLink_self, hcfg', List.isEmpty_nil, if_true, List.nil_append]
  have hbody := (State.withPkt_some (s := { s with out := [] }) (g := fun k => k.fld 0x10 0 4 == 5) (fun i s => if i.port < 8 then
    s.cfgPush i.port [⟨i.pkt.fld 0x11 0 4, 3, i.pkt.fld 0x12 0 16⟩] else s) htake).trans ((if_pos hp).trans hpush)
  have hlink := State.link_modLink_self (s.taken rest) i.port
    fun l => { l with cfg := l.cfg ++ [⟨i.pkt.fld 0x11 0 4, 3, i.pkt.fld 0x12 0 16⟩] }
  refine ⟨_, (coreCmd_on recalArrival s (State.off_of_idle hidle)).trans (congrArg Host.Outcome.next ((congrArg wire hbody).trans
    (wire_id _ hidle hiso))), rfl, (congrArg Link.cfg hlink).trans ?_, rfl⟩
  rw [hcfg']
  rfl

/-- A rotation names the next lane and counts down from 255 (R336). -/
theorem exec_spareRotateStart_begins {g : Gate} {n : Nat} (hoff : s.off = false) (h6 : s.portState g.val = 6)
    (hrot : s.on (R.GATE_CTL_ROTATE g.val) = true) (hspare : s.rd (R.GATE_LANES_TX_SPARE g.val) ≠ 15)
      (hcount : (s.link g.val).countdown = 0)
    (hfail : (s.link g.val).failSwitch = none) (hwidth : (s.link g.val).txWidth = none)
    (hnext : ((rotation (s.rd (R.GATE_LANES_TX_GOOD g.val)) (s.on (R.GATE_NEG_X4 g.val))).filter
      (fun x => decide (s.rd (R.GATE_LANES_TX_SPARE g.val) < x))).head? = some n) :
    ∃ t, exec (.spareRotateStart g) s = .next t ∧ t.link g.val = { (s.link g.val) with countdown := 255, nextSp := n } ∧
      (∀ k, k ≠ g.val → t.link k = s.link k) ∧ t.core = { s.core with links := t.core.links } ∧ t.aon = s.aon := by
  obtain ⟨xs, hxs⟩ := List.head?_eq_some_iff.mp hnext
  have hn : n ≠ 15 := by
    have hmem : n ∈ rotation (s.rd (R.GATE_LANES_TX_GOOD g.val)) (s.on (R.GATE_NEG_X4 g.val)) :=
      (List.mem_filter.mp (hxs ▸ List.mem_cons_self)).1
    have hlane : n ∈ lanesOf (s.rd (R.GATE_LANES_TX_GOOD g.val)) := by
      unfold rotation at hmem
      split at hmem
      · exact List.mem_of_mem_take hmem
      · exact hmem
    have hlt := List.mem_range.mp (List.mem_filter.mp hlane).1
    omega
  have hbody : spareRotateStart g { s with out := [] } = State.setLink { s with out := [] } g.val
      { (s.link g.val) with countdown := 255, nextSp := n } := by
    have hhead : (((rotation (s.rd (R.GATE_LANES_TX_GOOD g.val)) (s.on (R.GATE_NEG_X4 g.val))).filter
        (fun x => decide (x > s.rd (R.GATE_LANES_TX_SPARE g.val)))) ++ (rotation (s.rd (R.GATE_LANES_TX_GOOD g.val))
          (s.on (R.GATE_NEG_X4 g.val))).filter (fun x => decide (x < s.rd (R.GATE_LANES_TX_SPARE g.val)))).headD 15 = n := by
      rw [show (rotation _ _).filter (fun x => decide (x > s.rd (R.GATE_LANES_TX_SPARE g.val))) = n :: xs from hxs]
      rfl
    rw [← hhead] at hn ⊢
    exact if_pos ⟨h6, hrot, hspare, hn, hcount, Option.isNone_iff_eq_none.mpr hfail, Option.isNone_iff_eq_none.mpr hwidth⟩
  obtain ⟨t, ht, hshown⟩ := coreCmd_shown (body := spareRotateStart g) hoff hbody hoff
  exact ⟨t, ht, hshown.setLink⟩

theorem State.sendPort_links (hr : s.portReady p = true) (x : Packet) : (s.sendPort p x).core.links = s.core.links := by
  rw [State.sendPort, State.sendBy_ready hr]
  unfold State.enqueue
  dsimp only
  split
  · simp only [State.wr_core_links]
    rfl
  · simp only [State.wr_core_links]

/-- What a port in service sends waits last in the router's queue. -/
theorem State.sendPort_last (hr : s.portReady p = true) (x : Packet) : ∃ o, (s.sendPort p x).core.router.queued =
    s.core.router.queued ++ [o] ∧
    o.port = p ∧ ∀ off lo w, 8 * off + lo + w ≤ 512 → 13 ≤ 8 * off + lo → o.pkt.fld off lo w = x.fld off lo w := by
  obtain ⟨o, ho, hqueued⟩ := s.sendBy_queued hr 10 true 0 x
  exact ⟨o, hqueued, ho.port, fun off lo w hb hlo => ho.fld off lo w hb (.inl hlo)⟩

theorem State.sendPort_off (s : State) (p : Nat) (x : Packet) : (s.sendPort p x).off = s.off :=
  ((State.Moved.refl (fun _ => False) s).sendPort p x).off fun _ => False.elim

/-- LANE_FAIL is sent again (R338). -/
theorem exec_laneFailResend_sends {g : Gate} {lane spare : Nat} (hoff : s.off = false)
    (hsent : (s.link g.val).failSent = some (lane, spare))
    (hr : s.portReady g.val = true) (hlane : lane < 16) :
    ∃ t o, exec (.laneFailResend g) s = .next t ∧ t.core.router.queued = s.core.router.queued ++ [o] ∧ o.port = g.val ∧
      o.pkt.fld 0x10 0 4 = 2 ∧ o.pkt.fld 0x11 0 4 = lane ∧
      o.pkt.fld 0x14 0 32 = (if lane = spare then 0 else ((s.link g.val).rxFseq + 32) % 2 ^ 32) ∧ t.core.links = s.core.links := by
  have hbody : laneFailResend g { s with out := [] } = State.sendPort { s with out := [] } g.val
    (State.laneFailPkt { s with out := [] } g.val lane
      (if lane = spare then 0 else ((s.link g.val).rxFseq + 32) % 2 ^ 32)) := by
    have hsent' : (State.link { s with out := [] } g.val).failSent = some (lane, spare) := hsent
    simp only [laneFailResend, hsent']
    exact if_pos hr
  have hsw : (if lane = spare then 0 else ((s.link g.val).rxFseq + 32) % 2 ^ 32) < 2 ^ 32 := by
    split <;> omega
  generalize (if lane = spare then 0 else ((s.link g.val).rxFseq + 32) % 2 ^ 32) = sw at *
  obtain ⟨hsub, hfld, hframe⟩ := State.laneFailPkt_fld { s with out := [] } g.val lane sw
  have hlinks := State.sendPort_links (s := { s with out := [] }) hr (State.laneFailPkt { s with out := [] } g.val lane sw)
  obtain ⟨o, hqueued, hport, ho⟩ := State.sendPort_last (s := { s with out := [] }) hr
    (State.laneFailPkt { s with out := [] } g.val lane sw)
  obtain ⟨t, ht, hshown⟩ := coreCmd_shown (body := laneFailResend g) hoff hbody ((State.sendPort_off _ _ _).trans hoff)
  refine ⟨t, o, ht, (congrArg (·.router.queued) hshown.core).trans hqueued, hport, (ho _ _ _ (by decide) (by decide)).trans hsub,
    (ho _ _ _ (by decide) (by decide)).trans (hfld.trans (Nat.mod_eq_of_lt hlane)),
    (ho _ _ _ (by decide) (by decide)).trans (hframe.trans (Nat.mod_eq_of_lt hsw)), (congrArg (·.links) hshown.core).trans hlinks⟩

theorem State.widthPkt_fld (s : State) (g sw own : Nat) : (s.widthPkt g sw own).fld 0x10 0 4 = 3 ∧
    (s.widthPkt g sw own).fld 0x14 0 32 = sw % 2 ^ 32 := by
  have hapart : (headFields 0 0 0 0 0 0 0 0 ++ ([hf 0x10 0 4 0, hf 0x10 4 4 0] ++
      [hf 0x11 0 1 0, hf 0x12 0 9 0, hf 0x14 0 32 0, hf 0x18 0 32 0])).Pairwise bitsApart := by
    unfold bitsApart
    decide
  exact ⟨State.linkPkt_fld (off := 0x10) (lo := 0) (w := 4) (v := 3)
      (places := [hf 0x11 0 1 0, hf 0x12 0 9 0, hf 0x14 0 32 0, hf 0x18 0 32 0]) (by simp) rfl hapart (by decide),
    State.linkPkt_fld (off := 0x14) (lo := 0) (w := 32)
      (places := [hf 0x11 0 1 0, hf 0x12 0 9 0, hf 0x14 0 32 0, hf 0x18 0 32 0]) (by simp) rfl hapart (by decide)⟩

/-- The frame a transmitter's width change waits for, or the next (R339). -/
def Link.widthFrom (l : Link) : Nat :=
  match l.txWidth with
  | some (f, _) => f
  | none => l.txFseq

theorem State.portReady_of_degrade (h : s.portState p = 7) : s.portReady p = true := by
  rw [State.portReady, h]
  rfl

/-- WIDTH is sent again (R339). -/
theorem exec_widthResend_sends {g : Gate} {n : Nat} (hoff : s.off = false) (hrx : (s.link g.val).rxWidth = some n)
    (h7 : s.portState g.val = 7) :
    ∃ t o, exec (.widthResend g) s = .next t ∧ (t.link g.val).rxWidth = some (((s.link g.val).rxFseq + 32) % 2 ^ 32) ∧
      t.core.router.queued = s.core.router.queued ++ [o] ∧ o.pkt.fld 0x10 0 4 = 3 ∧
      o.pkt.fld 0x14 0 32 = ((s.link g.val).rxFseq + 32) % 2 ^ 32 := by
  have hbody : widthResend g { s with out := [] } = State.sendPort (State.setLink { s with out := [] } g.val
      { (s.link g.val) with rxWidth := some (((s.link g.val).rxFseq + 32) % 2 ^ 32) }) g.val
        (State.widthPkt { s with out := [] } g.val (((s.link g.val).rxFseq + 32) % 2 ^ 32) (s.link g.val).widthFrom) := by
    have hrx' : (State.link { s with out := [] } g.val).rxWidth = some n := hrx
    simp only [widthResend, hrx']
    exact if_pos h7
  have hlink := State.link_modLink_self { s with out := [] } g.val
    fun _ => { (s.link g.val) with rxWidth := some (((s.link g.val).rxFseq + 32) % 2 ^ 32) }
  have hr : State.portReady (State.setLink { s with out := [] } g.val
      { (s.link g.val) with rxWidth := some (((s.link g.val).rxFseq + 32) % 2 ^ 32) }) g.val = true := State.portReady_of_degrade h7
  have hsw : ((s.link g.val).rxFseq + 32) % 2 ^ 32 < 2 ^ 32 := Nat.mod_lt _ (Nat.two_pow_pos 32)
  obtain ⟨hsub, hframe⟩ := State.widthPkt_fld { s with out := [] } g.val (((s.link g.val).rxFseq + 32) % 2 ^ 32) (s.link g.val).widthFrom
  generalize State.widthPkt { s with out := [] } g.val (((s.link g.val).rxFseq + 32) % 2 ^ 32) (s.link g.val).widthFrom = x at *
  generalize ((s.link g.val).rxFseq + 32) % 2 ^ 32 = sw at *
  have hlinks := State.sendPort_links hr x
  obtain ⟨o, hqueued, -, ho⟩ := State.sendPort_last hr x
  obtain ⟨t, ht, hshown⟩ := coreCmd_shown (body := widthResend g) hoff hbody ((State.sendPort_off _ _ _).trans hoff)
  refine ⟨t, o, ht, ?_, (congrArg (·.router.queued) hshown.core).trans hqueued, (ho _ _ _ (by decide) (by decide)).trans hsub,
    (ho _ _ _ (by decide) (by decide)).trans (hframe.trans (Nat.mod_eq_of_lt hsw))⟩
  rw [State.link, hshown.core, hlinks]
  exact congrArg Link.rxWidth hlink

end

/-- Settles O42: LANE_FAIL, WIDTH, RECAL, DOWN and the rotation of the spare, with what is sent again. -/
theorem laneMessages : Obligations.LaneMessages := by
  intro s hoff
  exact ⟨fun i rest htake hp hr hsw hmap hspare hnone htime => exec_laneFailArrival_inTime hoff htake hp hr hsw hmap hspare hnone htime,
    fun i rest htake _ hsw hlate => exec_laneFailArrival_late hoff htake hsw hlate,
    fun i rest htake hp hr hx4 hset htx hrx => exec_widthArrival_degrades hoff htake hp hr hx4 hset htx hrx,
    fun i rest htake hp hcfg hiso hidle => exec_recalArrival_presents htake hp hcfg hiso hidle,
    fun i rest htake hp hr => exec_link_exits (c := .downArrival) (sub := 6) hoff rfl htake hp (by decide) (by decide) (if_pos hr),
    fun g n h6 hrot hspare hcount hfail hwidth hnext => exec_spareRotateStart_begins hoff h6 hrot hspare hcount hfail hwidth hnext,
    fun g lane spare hsent hr hlane => exec_laneFailResend_sends hoff hsent hr hlane,
    fun g n hrx h7 => exec_widthResend_sends hoff hrx h7⟩

end Sys2Proof.Machine

namespace Sys2Proof.Machine

/-! ## Session keys (R325, R357-R361, R459, R460) -/

theorem ofLE_lt (bs : Bytes) : ofLE bs < 256 ^ bs.length := by
  induction bs with
  | nil => exact Nat.one_pos
  | cons b bs ih =>
    have hb := b.isLt
    rw [ofLE, List.length_cons, Nat.pow_succ]
    omega

theorem leAt_lt (bs : Bytes) (off len : Nat) : leAt bs off len < 256 ^ len :=
  Nat.lt_of_lt_of_le (ofLE_lt _) (Nat.pow_le_pow_right (by decide) (List.length_take_le _ _))

section
variable {W V : Fld → Prop} {p : Nat} {l k : Link} {s t u : State} {body : State → State} {m : KeyMsg}

/-- The fields of SECURITY_STATUS that tell of a message to ignore. -/
def loadErrFields : List Fld := [R.SECURITY_STATUS_LOAD_ERR, R.SECURITY_STATUS_LOAD_ERR_PORT]

theorem State.loadErr_wrote (s : State) (q : Nat) : s.Wrote (s.loadErr q) loadErrFields :=
  ((State.Wrote.refl s loadErrFields).wr _ _ (by simp [loadErrFields]) rfl).wr _ _ (by simp [loadErrFields]) rfl

theorem State.loadErr_rd (s : State) {q : Nat} (hq : q < 16) : (s.loadErr q).rd R.SECURITY_STATUS_LOAD_ERR = 1 ∧
    (s.loadErr q).rd R.SECURITY_STATUS_LOAD_ERR_PORT = q := by
  refine ⟨?_, (State.rd_wr_self _ _ _ (by decide)).trans (Nat.mod_eq_of_lt hq)⟩
  exact (State.rd_wr_ne _ _ _ _ (.inr (.inr (.inr (by decide))))).trans (State.rd_wr_self _ _ _ (by decide))

theorem keyMsgPort_lt (m : KeyMsg) : keyMsgPort m < 16 := bits_lt _ _ _

theorem keyMsgOk_port (hok : keyMsgOk m = true) : keyMsgPort m < 10 := by
  simp only [keyMsgOk, Bool.and_eq_true, decide_eq_true_eq] at hok
  omega

theorem State.withKey_ok {type : Nat} (f : State → State) (htst : s.pins.tst = false) (hok : keyMsgOk m = true)
    (htype : keyMsgType m = type) :
    s.withKey m type f = f s := by
  simp only [State.withKey, htst, hok, htype, Bool.false_eq_true, not_true_eq_false, if_false, if_true]

theorem State.withKey_malformed {type : Nat} (f : State → State) (htst : s.pins.tst = false) (hok : keyMsgOk m = false) :
    s.withKey m type f = s.loadErr (keyMsgPort m) := by
  simp only [State.withKey, htst, hok, Bool.false_eq_true, not_false_eq_true, if_false, if_true]

/-- A command that ends in LOAD_ERR. -/
theorem portCmd_loadErr (hidle : s.idle = false) (hb : body { s with out := [] } = ({ s with out := [] } : State).loadErr (keyMsgPort m)) :
    ∃ t, portCmd body s = .next t ∧ t.rd R.SECURITY_STATUS_LOAD_ERR = 1 ∧ t.rd R.SECURITY_STATUS_LOAD_ERR_PORT = keyMsgPort m ∧
      s.SameBut t loadErrFields ∧ s.SameCore t ∧ s.SameAon t := by
  obtain ⟨herr, hport⟩ := State.loadErr_rd { s with out := [] } (keyMsgPort_lt m)
  obtain ⟨t, ht, hrd, hbut, haon, hcore⟩ := portCmd_writes hidle (State.loadErr_wrote _ _) hb
  exact ⟨t, ht, (hrd _).trans herr, (hrd _).trans hport, hbut, hcore, haon⟩

theorem State.SameCore.links (h : s.SameCore t) : t.core.links = s.core.links := by
  rw [State.SameCore] at h
  rw [h]

/-- A malformed message of any type sets LOAD_ERR and loads nothing (R460). -/
theorem exec_keyMsg_malformed (hidle : s.idle = false) (htst : s.pins.tst = false) (hok : keyMsgOk m = false) :
    ∀ c ∈ [Instr.keyLoad m, .keyArm m, .reject m, .keyxOut m],
      ∃ t, exec c s = .next t ∧ t.rd R.SECURITY_STATUS_LOAD_ERR = 1 ∧ t.rd R.SECURITY_STATUS_LOAD_ERR_PORT = keyMsgPort m ∧
        s.SameBut t [R.SECURITY_STATUS_LOAD_ERR, R.SECURITY_STATUS_LOAD_ERR_PORT] ∧ s.SameCore t ∧ s.SameAon t := by
  simp only [List.forall_mem_cons]
  exact ⟨portCmd_loadErr (body := keyLoad m) hidle (State.withKey_malformed _ htst hok),
    portCmd_loadErr (body := keyArm m) hidle (State.withKey_malformed _ htst hok),
    portCmd_loadErr (body := reject m) hidle (State.withKey_malformed _ htst hok),
    portCmd_loadErr (body := keyxOut m) hidle (State.withKey_malformed _ htst hok), by simp⟩

/-! ### KEY_LOAD (R358) -/

/-- The key slot a KEY_LOAD brings. -/
def keyMsgSlot (m : KeyMsg) : KeySlot := ⟨BitVec.ofNat 256 (leAt (keyMsgBytes m) 0 32), BitVec.ofNat 64 (leAt (keyMsgBytes m) 32 8)⟩

/-- KEY_LOAD fills the transmit slot of the next phase of a port in KEYS. -/
theorem exec_keyLoad_fills (hidle : s.idle = false) (htst : s.pins.tst = false) (hok : keyMsgOk m = true) (htype : keyMsgType m = 0x12)
    (htx : bits m.header.toNat 12 1 = 0) (h5 : s.portState (keyMsgPort m) = 5)
    (hnext : bits m.header.toNat 13 1 = nextPhase (s.on (R.SECURITY_TX_CUR_VALID (keyMsgPort m))) (s.rd (R.SECURITY_TX_KPH (keyMsgPort m))))
    (hload : s.on (R.SECURITY_TX_NEXT_LOADED (keyMsgPort m)) = false) :
    ∃ t k, exec (.keyLoad m) s = .next t ∧ t.rd (R.SECURITY_TX_NEXT_LOADED (keyMsgPort m)) = 1 ∧
      SMap.get? (t.link (keyMsgPort m)).txKeys (bits m.header.toNat 13 1) = some k ∧ k.key.toNat = leAt (keyMsgBytes m) 0 32 ∧
      k.salt.toNat = leAt (keyMsgBytes m) 32 8 ∧ (t.link (keyMsgPort m)).rxKeys = (s.link (keyMsgPort m)).rxKeys ∧
      s.SameBut t [R.SECURITY_TX_NEXT_LOADED (keyMsgPort m)] ∧ s.SameAon t := by
  have hlink := State.link_modLink_self { s with out := [] } (keyMsgPort m)
    fun l => { l with txKeys := SMap.put l.txKeys (bits m.header.toNat 13 1) (keyMsgSlot m) }
  have hw := (State.Wrote.refl (State.modLink { s with out := [] } (keyMsgPort m)
    fun l => { l with txKeys := SMap.put l.txKeys (bits m.header.toNat 13 1) (keyMsgSlot m) })
    [R.SECURITY_TX_NEXT_LOADED (keyMsgPort m)]).wr (R.SECURITY_TX_NEXT_LOADED (keyMsgPort m)) 1 (by simp) rfl
  have hbody : keyLoad m { s with out := [] } = (State.modLink { s with out := [] } (keyMsgPort m)
      fun l => { l with txKeys := SMap.put l.txKeys (bits m.header.toNat 13 1) (keyMsgSlot m) }).wr
        (R.SECURITY_TX_NEXT_LOADED (keyMsgPort m)) 1 := by
    rw [keyLoad, State.withKey_ok (s := { s with out := [] }) _ htst hok htype]
    simp only [htx, beq_self_eq_true, if_true]
    refine if_neg ?_
    rintro (h | h | h)
    · exact h (.inl h5)
    · exact h hnext
    · exact Bool.eq_false_iff.mp hload h
  obtain ⟨t, ht, hshown⟩ := portCmd_shown (body := keyLoad m) hidle hbody (hw.off.trans (State.off_of_idle hidle))
  have hend : t.link (keyMsgPort m) = { (s.link (keyMsgPort m)) with
      txKeys := SMap.put (s.link (keyMsgPort m)).txKeys (bits m.header.toNat 13 1) (keyMsgSlot m) } := by
    rw [hshown.link, State.link, hw.core]
    exact hlink
  refine ⟨t, keyMsgSlot m, ht, (hshown.rd _).trans (State.rd_wr_self _ _ _ (by simp [R.SECURITY_TX_NEXT_LOADED])), ?_, ?_, ?_, ?_,
    fun f hf => (hshown.rd f).trans (hw.rd f hf), ?_⟩
  · rw [hend]
    exact SMap.get?_put_self _ _ _
  · exact (BitVec.toNat_ofNat _ _).trans (Nat.mod_eq_of_lt (leAt_lt _ _ 32))
  · exact (BitVec.toNat_ofNat _ _).trans (Nat.mod_eq_of_lt (leAt_lt _ _ 8))
  · rw [hend]
  · rw [State.SameAon, hshown.aon, hw.aon]
    rfl

/-- A slot already loaded takes no key. -/
theorem exec_keyLoad_loaded (hidle : s.idle = false) (htst : s.pins.tst = false) (hok : keyMsgOk m = true) (htype : keyMsgType m = 0x12)
    (hrx : bits m.header.toNat 12 1 = 1) (hload : s.on (R.SECURITY_RX_NEXT_LOADED (keyMsgPort m)) = true) :
    ∃ t, exec (.keyLoad m) s = .next t ∧ t.rd R.SECURITY_STATUS_LOAD_ERR = 1 ∧ t.rd R.SECURITY_STATUS_LOAD_ERR_PORT = keyMsgPort m ∧
      t.core.links = s.core.links := by
  have hbody : keyLoad m { s with out := [] } = ({ s with out := [] } : State).loadErr (keyMsgPort m) := by
    rw [keyLoad, State.withKey_ok (s := { s with out := [] }) _ htst hok htype]
    simp only [hrx, Nat.reduceBEq, Bool.false_eq_true, if_false]
    exact if_pos (.inr (.inr hload))
  obtain ⟨t, ht, herr, hport, -, hcore, -⟩ := portCmd_loadErr (body := keyLoad m) hidle hbody
  exact ⟨t, ht, herr, hport, hcore.links⟩

/-! ### KEY_ARM (R358, R360) -/

/-- The next transmit phase of a port. -/
def State.txNext (s : State) (p : Nat) : Nat := nextPhase (s.on (R.SECURITY_TX_CUR_VALID p)) (s.rd (R.SECURITY_TX_KPH p))

/-- A send by a named port changes its link's frames alone. -/
theorem State.sendPort_link (s : State) (p : Nat) (x : Packet) : ∃ tx, (s.sendPort p x).link p = { (s.link p) with tx := tx } := by
  unfold State.sendPort State.sendBy
  dsimp only
  split
  · rw [State.enqueue_link]
    exact ⟨_, rfl⟩
  · split
    · rw [State.link_modLink_self]
      exact ⟨_, rfl⟩
    · exact ⟨_, rfl⟩

/-- KEY_ARM with both slots loaded arms the transmit switch 64 frames ahead. -/
theorem exec_keyArm_arms (hidle : s.idle = false) (htst : s.pins.tst = false) (hok : keyMsgOk m = true) (htype : keyMsgType m = 0x13)
    (htx : (SMap.get? (s.link (keyMsgPort m)).txKeys (s.txNext (keyMsgPort m))).isSome = true)
    (hrx : (SMap.get? (s.link (keyMsgPort m)).rxKeys (s.txNext (keyMsgPort m))).isSome = true)
    (harmed : s.on (R.SECURITY_TX_ARMED (keyMsgPort m)) = false) :
    ∃ t, exec (.keyArm m) s = .next t ∧ t.rd (R.SECURITY_TX_ARMED (keyMsgPort m)) = 1 ∧
      (t.link (keyMsgPort m)).txSwitch = some (((s.link (keyMsgPort m)).txFseq + 64) % 2 ^ 32, s.txNext (keyMsgPort m)) ∧ s.SameAon t := by
  have hp := keyMsgOk_port hok
  have hbody : ∃ x : Packet, keyArm m { s with out := [] } = State.sendPort (State.wr (State.modLink { s with out := [] } (keyMsgPort m)
      fun l => { l with txSwitch := some (((s.link (keyMsgPort m)).txFseq + 64) % 2 ^ 32, s.txNext (keyMsgPort m)) })
        (R.SECURITY_TX_ARMED (keyMsgPort m)) 1) (keyMsgPort m) x := by
    rw [keyArm, State.withKey_ok (s := { s with out := [] }) _ htst hok htype]
    refine ⟨_, (if_neg ?_).trans (if_neg (Bool.eq_false_iff.mp harmed))⟩
    rintro (h | h)
    · exact Option.isSome_iff_ne_none.mp htx (Option.isNone_iff_eq_none.mp h)
    · exact Option.isSome_iff_ne_none.mp hrx (Option.isNone_iff_eq_none.mp h)
  obtain ⟨x, hbody⟩ := hbody
  have harm := ((State.OnPort.refl (keyRegs (keyMsgPort m)) (keyMsgPort m) { s with out := [] }).modLink
    fun l => { l with txSwitch := some (((s.link (keyMsgPort m)).txFseq + 64) % 2 ^ 32, s.txNext (keyMsgPort m)) }).wr
      (R.SECURITY_TX_ARMED (keyMsgPort m)) 1 (.inl (.inl rfl))
  have hset : (State.wr (State.modLink { s with out := [] } (keyMsgPort m)
      fun l => { l with txSwitch := some (((s.link (keyMsgPort m)).txFseq + 64) % 2 ^ 32, s.txNext (keyMsgPort m)) })
        (R.SECURITY_TX_ARMED (keyMsgPort m)) 1).rd (R.SECURITY_TX_ARMED (keyMsgPort m)) = 1 :=
    State.rd_wr_self _ _ _ (by simp [R.SECURITY_TX_ARMED])
  have haon : (State.wr (State.modLink { s with out := [] } (keyMsgPort m)
      fun l => { l with txSwitch := some (((s.link (keyMsgPort m)).txFseq + 64) % 2 ^ 32, s.txNext (keyMsgPort m)) })
        (R.SECURITY_TX_ARMED (keyMsgPort m)) 1).aon = s.aon := (State.wr_core_aon _ _ _ rfl).1
  generalize State.wr (State.modLink { s with out := [] } (keyMsgPort m)
      fun l => { l with txSwitch := some (((s.link (keyMsgPort m)).txFseq + 64) % 2 ^ 32, s.txNext (keyMsgPort m)) })
        (R.SECURITY_TX_ARMED (keyMsgPort m)) 1 = v at *
  obtain ⟨tx, hlink⟩ := v.sendPort_link (keyMsgPort m) x
  have hsent := (State.Moved.refl (fun _ => False) v).sendPort (keyMsgPort m) x
  obtain ⟨t, ht, hshown⟩ := portCmd_shown (body := keyArm m) hidle hbody ((v.sendPort_off _ _).trans ((harm.moved.off fun g hg => by
    rcases hg with hg | hg <;> omega).trans (State.off_of_idle hidle)))
  refine ⟨t, ht, (hshown.rd _).trans ((hsent.rd _ ?_ fun _ => False.elim).trans hset), ?_, ?_⟩
  · simp only [Fld.ofPorts, R.SECURITY_TX_ARMED]
    omega
  · rw [hshown.link, hlink, harm.link]
  · rw [State.SameAon, hshown.aon, (v.sendPort_sent _ _).aon, haon]

/-- KEY_ARM without both slots loaded sets LOAD_ERR. -/
theorem exec_keyArm_unloaded (hidle : s.idle = false) (htst : s.pins.tst = false) (hok : keyMsgOk m = true) (htype : keyMsgType m = 0x13)
    (hnone : (SMap.get? (s.link (keyMsgPort m)).txKeys (s.txNext (keyMsgPort m))).isNone = true ∨
      (SMap.get? (s.link (keyMsgPort m)).rxKeys (s.txNext (keyMsgPort m))).isNone = true) :
    ∃ t, exec (.keyArm m) s = .next t ∧ t.rd R.SECURITY_STATUS_LOAD_ERR = 1 ∧ t.rd R.SECURITY_STATUS_LOAD_ERR_PORT = keyMsgPort m ∧
      t.core.links = s.core.links := by
  obtain ⟨t, ht, herr, hport, -, hcore, -⟩ := portCmd_loadErr (body := keyArm m) hidle
    ((State.withKey_ok (s := { s with out := [] }) _ htst hok htype).trans (if_pos hnone))
  exact ⟨t, ht, herr, hport, hcore.links⟩

/-! ### REJECT (R358) -/

theorem exec_reject_exits (hidle : s.idle = false) (htst : s.pins.tst = false) (hok : keyMsgOk m = true) (htype : keyMsgType m = 0x14)
    (hstate : s.portState (keyMsgPort m) = 5 ∨ s.portReady (keyMsgPort m) = true) :
    ∃ t, exec (.reject m) s = .next t ∧ t.portState (keyMsgPort m) = 8 ∧ t.rd (R.GATE_STATUS_CAUSE (keyMsgPort m)) = 5 ∧
      (t.link (keyMsgPort m)).txKeys = [] ∧ (t.link (keyMsgPort m)).rxKeys = [] := by
  have hp := keyMsgOk_port hok
  have hexit := State.exitPort_exited { s with out := [] } hp (cause := 5) (next := 8) (by decide) (by decide) (s.portReady (keyMsgPort m))
  have hbody : reject m { s with out := [] } =
      (State.exitPort { s with out := [] } (keyMsgPort m) 5 8 (s.portReady (keyMsgPort m))).eraseKeys (keyMsgPort m) :=
    (State.withKey_ok (s := { s with out := [] }) _ htst hok htype).trans (if_pos hstate)
  generalize State.exitPort { s with out := [] } (keyMsgPort m) 5 8 (s.portReady (keyMsgPort m)) = v at *
  have herase := (State.OnPort.refl (keyRegs (keyMsgPort m)) (keyMsgPort m) v).eraseKeys fun _ hg => hg
  have hkeep (f : Fld) (hf : f.addr = 0x10004 + keyMsgPort m * 0x10000) : (v.eraseKeys (keyMsgPort m)).rd f = v.rd f := by
    refine herase.moved.rd f (by simp only [Fld.ofPorts, hf]; omega) fun g hg => .inr (.inl ?_)
    rcases hg with hg | hg <;> omega
  obtain ⟨t, ht, hshown⟩ := portCmd_shown (body := reject m) hidle hbody ((herase.moved.off fun g hg => by
    rcases hg with hg | hg <;> omega).trans ((hexit.moved.off fun g hg => exitRegs_off hg).trans (State.off_of_idle hidle)))
  refine ⟨t, ht, (hshown.portState _).trans ((hkeep _ rfl).trans hexit.state),
    (hshown.rd _).trans ((hkeep _ rfl).trans hexit.cause), ?_, ?_⟩
  · rw [hshown.link, herase.link]
    rfl
  · rw [hshown.link, herase.link]
    rfl

end

end Sys2Proof.Machine

namespace Sys2Proof.Machine

section
variable {p : Nat} {s t u : State} {m : KeyMsg}

/-! ### KEYX_OUT (R359) -/

/-- Packets that a port in service sends one after the other wait in the router's queue, and change nothing of links and key port. -/
theorem State.sendPorts_waits (hp : p < 10) (x : State → Nat → Packet) (is : List Nat) (hr : s.portReady p = true) :
    let t := is.foldl (fun s i => s.sendPort p (x s i)) s
    t.core.router.queued.length = s.core.router.queued.length + is.length ∧ t.core.links = s.core.links ∧
      t.core.keyPort = s.core.keyPort ∧ t.off = s.off := by
  induction is generalizing s with
  | nil => exact ⟨rfl, rfl, rfl, rfl⟩
  | cons i is ih =>
    obtain ⟨o, hqueued, -⟩ := s.sendPort_last hr (x s i)
    obtain ⟨hlen, hlinks, hkey, hoff⟩ := ih (s := s.sendPort p (x s i))
      ((((State.Moved.refl (fun _ => False) s).sendPort p (x s i)).portReady hp fun _ => False.elim).trans hr)
    refine ⟨?_, hlinks.trans (s.sendPort_links hr _), hkey.trans ?_, hoff.trans (s.sendPort_off _ _)⟩
    · rw [List.foldl_cons, hlen, hqueued, List.length_append, List.length_cons, List.length_cons, List.length_nil]
      omega
    · rw [(s.sendPort_sent p _).core]

theorem exec_keyxOut_sends (hidle : s.idle = false) (htst : s.pins.tst = false) (hok : keyMsgOk m = true) (htype : keyMsgType m = 0x11)
    (hr : s.portReady (keyMsgPort m) = true) :
    ∃ t, exec (.keyxOut m) s = .next t ∧ t.core.router.queued.length = s.core.router.queued.length + (keyMsgLen m + 511) / 512 ∧
      (t.link (keyMsgPort m)).msgOut = ((s.link (keyMsgPort m)).msgOut + 1) % 256 ∧ t.core.keyPort = s.core.keyPort := by
  have hbody : ∃ x : State → Nat → Packet, keyxOut m { s with out := [] } = (List.range ((keyMsgLen m + 511) / 512)).foldl
      (fun s i => s.sendPort (keyMsgPort m) (x s i))
      (State.modLink { s with out := [] } (keyMsgPort m) fun l => { l with msgOut := (l.msgOut + 1) % 256 }) :=
    ⟨_, State.withKey_ok (s := { s with out := [] }) _ htst hok htype⟩
  obtain ⟨x, hbody⟩ := hbody
  obtain ⟨hlen, hlinks, hkey, hoff⟩ := State.sendPorts_waits (s := State.modLink { s with out := [] } (keyMsgPort m)
    fun l => { l with msgOut := (l.msgOut + 1) % 256 }) (keyMsgOk_port hok) x (List.range ((keyMsgLen m + 511) / 512)) hr
  obtain ⟨t, ht, hshown⟩ := portCmd_shown (body := keyxOut m) hidle hbody (hoff.trans (State.off_of_idle hidle))
  refine ⟨t, ht, ?_, ?_, ?_⟩
  · rw [hshown.core, hlen, List.length_range]
    rfl
  · rw [hshown.link, State.link, hlinks]
    exact congrArg Link.msgOut (State.link_modLink_self { s with out := [] } (keyMsgPort m) _)
  · rw [hshown.core]
    exact hkey

/-! ### KEY_SWITCH (R325) -/

theorem exec_keySwitchArrival_names {i : InPkt} {rest : List InPkt} (hoff : s.off = false)
    (htake : takeFirst (fun i => i.pkt.cls == 0 && i.pkt.type == 0 && i.pkt.fld 0x10 0 4 == 4) s.core.resp.inbox = some (i, rest)) :
    ∃ t, exec .keySwitchArrival s = .next t ∧ (t.link i.port).rxSwitch = some (i.pkt.fld 0x14 0 32, i.pkt.fld 0x11 0 1) ∧
      (∀ k, k ≠ i.port → t.link k = s.link k) ∧ t.core.regs = s.core.regs ∧ t.aon = s.aon := by
  obtain ⟨t, ht, hshown⟩ := exec_link_shown (c := .keySwitchArrival) hoff rfl htake rfl hoff
  refine ⟨t, ht, ?_, fun k hk => ?_, ?_, hshown.aon⟩
  · rw [hshown.link, State.link_modLink_self]
  · rw [hshown.link]
    exact State.link_modLink_ne _ _ hk
  · rw [hshown.core]
    rfl

/-! ### KEYX_ARRIVAL (R359) -/

/-- The beats of a message to the root-of-trust that has room. -/
def State.keyBeats (type port cause : Nat) (payload : Bytes) : List (Nat × Bool) :=
  (pack [(0, 8, type), (8, 4, port), (16, 4, cause), (32, 13, payload.length)], (payload.length + 7) / 8 == 0) ::
    (List.range ((payload.length + 7) / 8)).map fun i => (leAt payload (8 * i) 8, i + 1 == (payload.length + 7) / 8)

/-- A message of 512 bytes has room at a key port that holds no beat. -/
theorem State.keySend_fits {v : State} {type port cause : Nat} {payload : Bytes} (hout : v.core.keyPort.out = [])
    (hmax : payload.length ≤ 512) : v.keySend type port cause payload =
      { v with core.keyPort.out := keyBeats type port cause payload } := by
  refine (if_neg fun h => ?_).trans (by rw [hout]; rfl)
  rw [hout, List.length_nil] at h
  omega

theorem keyBeats_length (type port cause : Nat) (payload : Bytes) :
    (State.keyBeats type port cause payload).length = 1 + (payload.length + 7) / 8 := by
  simp [State.keyBeats, Nat.add_comm]

/-- A message of one fragment goes to the root-of-trust whole. -/
theorem exec_keyxArrival_whole {i : InPkt} {rest : List InPkt} (hoff : s.off = false)
    (htake : takeFirst (fun i => i.pkt.cls == 0 && i.pkt.type == 5 && true) s.core.resp.inbox = some (i, rest))
    (hplain : i.pkt.fld 0x10 0 4 = 0) (hone : i.pkt.fld 0x12 4 4 = 1) (hnone : (s.link i.port).keyx = none)
    (hlen : i.pkt.payload.length = i.pkt.fld 0x14 0 13) (hout : s.core.keyPort.out = []) (hmax : i.pkt.payload.length ≤ 512) :
    ∃ t h, exec .keyxArrival s = .next t ∧ (t.link i.port).keyx = none ∧ t.core.keyPort.out.head? = some h ∧ bits h.1 0 8 = 2 ∧
      t.core.keyPort.out.length = 1 + (i.pkt.payload.length + 7) / 8 := by
  have hbody : keyxArrival { s with out := [] } =
      ((s.taken rest).modLink i.port fun l => { l with keyx := none }).keySend 2 i.port 0 i.pkt.payload := by
    refine (State.withPkt_some (s := { s with out := [] }) (g := fun _ => true) _ htake).trans ((if_neg (not_not.mpr hplain)).trans ?_)
    have hkeyx : ((s.taken rest).link i.port).keyx = none := hnone
    have htake : ((SMap.vals (SMap.put ([] : SMap Bytes) (i.pkt.fld 0x12 0 4) i.pkt.payload)).flatMap id).take (i.pkt.fld 0x14 0 13) =
        i.pkt.payload := by
      simp [SMap.put, SMap.vals, ← hlen]
    refine Eq.trans (b := ((s.taken rest).modLink i.port fun l => { l with keyx := none }).keySend 2 i.port 0
      (((SMap.vals (SMap.put ([] : SMap Bytes) (i.pkt.fld 0x12 0 4) i.pkt.payload)).flatMap id).take (i.pkt.fld 0x14 0 13))) ?_
        (by rw [htake])
    simp only [State.taken] at hkeyx
    simp only [hkeyx, hone]
    rfl
  obtain ⟨t, ht, hshown⟩ := coreCmd_shown (body := keyxArrival) hoff (hbody.trans (State.keySend_fits hout hmax)) hoff
  have hnokeyx : (((s.taken rest).modLink i.port fun l => { l with keyx := none }).link i.port).keyx = none := by
    rw [State.link_modLink_self]
  have hbeats : t.core.keyPort.out = State.keyBeats 2 i.port 0 i.pkt.payload := by rw [hshown.core]
  refine ⟨t, _, ht, ?_, by rw [hbeats, State.keyBeats, List.head?_cons], bits_pack_mem _ ?_ (0, 8, 2) List.mem_cons_self, ?_⟩
  · rw [hshown.link]
    exact hnokeyx
  · unfold bitsApart
    simp
  · rw [hbeats, keyBeats_length]

/-! ### The beats of the key port (R458, R460) -/

theorem exec_keyPortBeatTaken_gives {b : Nat} {last : Bool} {l : List (Nat × Bool)} (hidle : s.idle = false)
    (hout : s.core.keyPort.out = (b, last) :: l) :
    ∃ t, exec .keyPortBeatTaken s = .next t ∧ t.out = [.keyBeat b last] ∧ t.core = { s.core with keyPort.out := l } ∧ t.aon = s.aon := by
  have hbody : keyPortBeatTaken { s with out := [] } =
      State.emit { s with out := [], core := { s.core with keyPort.out := l } } (.keyBeat b last) := by
    simp only [keyPortBeatTaken, hout]
  have hwire : wire (State.emit { s with out := [], core := { s.core with keyPort.out := l } } (.keyBeat b last)) =
      State.emit { s with out := [], core := { s.core with keyPort.out := l } } (.keyBeat b last) := by
    cases hiso : s.pins.iso with
    | false => exact wire_id _ hidle hiso
    | true =>
      generalize hv : State.emit { s with out := [], core := { s.core with keyPort.out := l } } (.keyBeat b last) = v
      have hvidle : v.idle = false := by rw [← hv]; exact hidle
      have hviso : v.pins.iso = true := by rw [← hv]; exact hiso
      have hvout : v.out.filter Output.isAon = v.out := by rw [← hv]; rfl
      simp only [wire, State.off_of_idle hvidle, hvidle, hviso, hvout, Bool.false_eq_true, if_false, if_true]
  refine ⟨_, (portCmd_on keyPortBeatTaken s hidle).trans (congrArg _ ((congrArg wire hbody).trans hwire)), rfl, rfl, rfl⟩

end

/-- Settles O43: a KEY message loads, arms or rejects as its rules say, a malformed one sets LOAD_ERR; KEYX goes out in fragments
and comes in as beats for the root-of-trust. -/
theorem sessionKeys : Obligations.SessionKeys := fun _ _ hidle htst =>
  ⟨exec_keyLoad_fills hidle htst, exec_keyLoad_loaded hidle htst, exec_keyMsg_malformed hidle htst, exec_keyArm_arms hidle htst,
    exec_keyArm_unloaded hidle htst, exec_reject_exits hidle htst, exec_keyxOut_sends hidle htst,
    fun _ _ => exec_keySwitchArrival_names (State.off_of_idle hidle), fun _ _ => exec_keyxArrival_whole (State.off_of_idle hidle),
    fun _ _ _ => exec_keyPortBeatTaken_gives hidle⟩

end Sys2Proof.Machine

namespace Sys2Proof.Machine

/-! ## What a frame carries (R320, R321, R323) -/

/-! ### Its body -/

section
variable {cap : Nat} {items : List (Nat × TxItem)} {x : Nat × TxItem}

/-- The flits that fill a frame stand at rising positions of its body; slot marks are none of them. -/
theorem fillFrame_places (cap : Nat) (tx : List TxItem) (pos : Nat) :
    (fillFrame cap pos tx).1.Pairwise (fun x y => x.1 < y.1) ∧ ∀ x ∈ (fillFrame cap pos tx).1, pos ≤ x.1 ∧ x.1 < cap := by
  induction tx generalizing pos with
  | nil => exact ⟨.nil, by simp [fillFrame]⟩
  | cons i tx ih =>
    unfold fillFrame
    split
    · split
      · exact ih pos
      · exact ⟨.nil, by simp⟩
    · split
      · rename_i hpos
        obtain ⟨hup, hin⟩ := ih (pos + 1)
        refine ⟨List.pairwise_cons.mpr ⟨fun y hy => (hin y hy).1, hup⟩, List.forall_mem_cons.mpr ⟨⟨Nat.le_refl _, hpos⟩, fun y hy => ?_⟩⟩
        obtain ⟨hlo, hhi⟩ := hin y hy
        exact ⟨by omega, hhi⟩
      · exact ⟨.nil, by simp⟩

/-- The item at a position is the one found there. -/
theorem find?_place (hup : items.Pairwise fun x y => x.1 < y.1) (hx : x ∈ items) : items.find? (fun y => y.1 == x.1) = some x := by
  induction items with
  | nil => simp at hx
  | cons i items ih =>
    obtain ⟨hlt, hup⟩ := List.pairwise_cons.mp hup
    rcases List.mem_cons.mp hx with rfl | hx
    · exact List.find?_cons_of_pos (by simp)
    · have hne := hlt x hx
      rw [List.find?_cons_of_neg (by simp; omega)]
      exact ih hup hx

theorem frameBody_length (cap : Nat) (items : List (Nat × TxItem)) : (frameBody cap items).length = cap := by
  simp [frameBody]

/-- The body carries an item's flit at its position. -/
theorem frameBody_place (hup : items.Pairwise fun x y => x.1 < y.1) (hx : x ∈ items) (hlt : x.1 < cap) :
    (frameBody cap items)[x.1]? = some x.2.flit := by
  rw [frameBody, List.getElem?_map, List.getElem?_range hlt, Option.map_some, find?_place hup hx]

/-- The items of a frame with its stamp. -/
def stampItems (items : List (Nat × TxItem)) (stamp : Nat) : List (Nat × TxItem) := items.map fun x => (x.1, x.2.stamped stamp)

theorem TxItem.stamped_plain {i : TxItem} (h : i.time = none) (stamp : Nat) : i.stamped stamp = i := by
  rw [TxItem.stamped, h]

theorem TxItem.stamped_time {i : TxItem} {k : Packet} (h : i.time = some k) (hk : k.fld 0x10 0 2 ≤ 1) (stamp : Nat) :
    (i.stamped stamp).flit = (k.set 0x18 0 64 stamp).hdr := by
  rw [TxItem.stamped, h]
  dsimp only
  rw [if_pos (by omega)]

theorem TxItem.stamped_kind (i : TxItem) (stamp : Nat) : (i.stamped stamp).kind = i.kind := by
  unfold TxItem.stamped
  split
  · split <;> rfl
  · rfl

theorem stampItems_rise (hup : items.Pairwise fun x y => x.1 < y.1) (stamp : Nat) :
    (stampItems items stamp).Pairwise fun x y => x.1 < y.1 := List.pairwise_map.mpr hup

/-- The body of a frame carries each item, stamped, at its position. -/
theorem frameBody_stamped (hup : items.Pairwise fun x y => x.1 < y.1) (hx : x ∈ items) (hlt : x.1 < cap) (stamp : Nat) :
    (frameBody cap (stampItems items stamp))[x.1]? = some (x.2.stamped stamp).flit :=
  frameBody_place (x := (x.1, x.2.stamped stamp)) (stampItems_rise hup stamp) (List.mem_map.mpr ⟨x, hx, rfl⟩) hlt

/-! ### Its trailer -/

/-- The kinds of a frame's positions (R321). -/
def frameKinds (items : List (Nat × TxItem)) : Nat := pack (items.map fun x => (2 * x.1, 2, x.2.kind))

/-- Each position's kind is its item's. -/
theorem bits_frameKinds (hup : items.Pairwise fun x y => x.1 < y.1) (hx : x ∈ items) : bits (frameKinds items) (2 * x.1) 2 =
    x.2.kind % 4 := by
  refine bits_pack_mem (items.map fun x => (2 * x.1, 2, x.2.kind)) ?_ (2 * x.1, 2, x.2.kind) (List.mem_map.mpr ⟨x, hx, rfl⟩)
  refine List.pairwise_map.mpr (hup.imp fun {a b} h => ?_)
  unfold bitsApart
  dsimp only
  omega

theorem bits_mod_two_pow {n lo w m : Nat} (h : lo + w ≤ m) : bits (n % 2 ^ m) lo w = bits n lo w := by
  apply Nat.eq_of_testBit_eq
  intro i
  rw [bits_testBit, bits_testBit, Nat.testBit_mod_two_pow]
  by_cases hi : i < w
  · simp [hi, show lo + i < m by omega]
  · simp [hi]

theorem bits_bits {n lo w lo' w' : Nat} (h : lo' + w' ≤ w) : bits (bits n lo w) lo' w' = bits n (lo + lo') w' := by
  apply Nat.eq_of_testBit_eq
  intro i
  rw [bits_testBit, bits_testBit, bits_testBit, Nat.add_assoc]
  by_cases hi : i < w'
  · simp [hi, show lo' + i < w by omega]
  · simp [hi]

/-- A number without bits from a place on is less than that power. -/
theorem lt_two_pow_of_bits {n m : Nat} (h : bits n m n = 0) : n < 2 ^ m := by
  rw [bits, Nat.mod_eq_of_lt (Nat.lt_of_le_of_lt (Nat.div_le_self _ _) Nat.lt_two_pow_self)] at h
  exact (Nat.div_eq_zero_iff_lt (Nat.two_pow_pos m)).mp h

/-- The fields of a trailer's head, with their places. -/
def trailerFields (enc kph x4 spare nextsp fseq countdown bpos0 bslot0 bpos1 bslot1 kinds : Nat) : List (Nat × Nat × Nat) :=
  [(0, 16, 0x4C59), (16, 1, enc), (17, 1, kph), (18, 1, x4), (24, 4, spare), (28, 4, nextsp), (32, 32, fseq), (64, 8, countdown),
    (96, 6, bpos0), (102, 10, bslot0), (112, 6, bpos1), (118, 10, bslot1), (128, 128, kinds)]

section
variable {enc kph x4 spare nextsp fseq countdown bpos0 bslot0 bpos1 bslot1 kinds : Nat}

theorem trailerFields_apart : (trailerFields enc kph x4 spare nextsp fseq countdown bpos0 bslot0 bpos1 bslot1 kinds).Pairwise
    bitsApart := by
  unfold bitsApart trailerFields
  simp

theorem bits_trailerHead {lo w v : Nat}
    (h : (lo, w, v) ∈ trailerFields enc kph x4 spare nextsp fseq countdown bpos0 bslot0 bpos1 bslot1 kinds) :
    bits (trailerHead enc kph x4 spare nextsp fseq countdown bpos0 bslot0 bpos1 bslot1 kinds) lo w = v % 2 ^ w :=
  bits_pack_mem _ trailerFields_apart (lo, w, v) h

theorem trailerHead_lt : trailerHead enc kph x4 spare nextsp fseq countdown bpos0 bslot0 bpos1 bslot1 kinds < 2 ^ 384 := by
  refine lt_two_pow_of_bits (bits_pack_apart _ trailerFields_apart (384, _, 0) ?_)
  unfold bitsApart trailerFields
  simp

end

/-- The trailer of a head and a tag. -/
theorem trailer_parts {head tag : Nat} (hh : head < 2 ^ 384) (ht : tag < 2 ^ 128) :
    (BitVec.ofNat 512 (head + tag * 2 ^ 384)).toNat = head + tag * 2 ^ 384 := by
  rw [BitVec.toNat_ofNat, Nat.mod_eq_of_lt]
  omega

theorem trailer_head {head tag : Nat} (hh : head < 2 ^ 384) (ht : tag < 2 ^ 128) :
    (BitVec.ofNat 512 (head + tag * 2 ^ 384)).toNat % 2 ^ 384 = head := by
  rw [trailer_parts hh ht]
  exact (Nat.add_mul_mod_self_right _ _ _).trans (Nat.mod_eq_of_lt hh)

theorem bits_add_mul_self {n v lo w : Nat} (hn : n < 2 ^ lo) (hv : v < 2 ^ w) : bits (n + v * 2 ^ lo) lo w = v := by
  rw [bits, Nat.add_mul_div_right _ _ (Nat.two_pow_pos lo), Nat.div_eq_of_lt hn, Nat.zero_add, Nat.mod_eq_of_lt hv]

theorem trailer_tag {head tag : Nat} (hh : head < 2 ^ 384) (ht : tag < 2 ^ 128) :
    bits (BitVec.ofNat 512 (head + tag * 2 ^ 384)).toNat 384 128 = tag :=
  (congrArg (bits · 384 128) (trailer_parts hh ht)).trans (bits_add_mul_self hh ht)

theorem trailer_bits {head tag lo w : Nat} (hh : head < 2 ^ 384) (ht : tag < 2 ^ 128) (h : lo + w ≤ 384) :
    bits (BitVec.ofNat 512 (head + tag * 2 ^ 384)).toNat lo w = bits head lo w := by
  rw [← bits_mod_two_pow h, trailer_head hh ht]

/-! ### Its CRC (R213, R323) -/

theorem crcBit_lt {c : Nat} (h : c < 2 ^ 32) : crcBit c < 2 ^ 32 := by
  unfold crcBit
  split
  · exact Nat.xor_lt_two_pow (by omega) (by decide)
  · omega

theorem iterate_crcBit_lt (n : Nat) {c : Nat} (h : c < 2 ^ 32) : iterate crcBit n c < 2 ^ 32 := by
  induction n generalizing c with
  | zero => exact h
  | succ n ih => exact ih (crcBit_lt h)

theorem crc32c_lt (bs : Bytes) : crc32c bs < 2 ^ 32 := by
  refine Nat.xor_lt_two_pow ?_ (by decide)
  refine List.foldlRecOn bs _ (motive := fun c => c < 2 ^ 32) (by decide) fun c hc b _ => ?_
  exact iterate_crcBit_lt 8 (Nat.xor_lt_two_pow hc (Nat.lt_trans b.isLt (by decide)))

end

end Sys2Proof.Machine

namespace Sys2Proof.Machine

/-! ## The frame that leaves (R320, R324, R325) -/

section
variable {W V : Fld → Prop} {p : Nat} {l k : Link} {s t u : State}

theorem Link.Relaned.tx (h : l.Relaned k) : k.tx = l.tx := (congrArg Link.tx h :)

theorem Link.Relaned.txFseq (h : l.Relaned k) : k.txFseq = l.txFseq := (congrArg Link.txFseq h :)

theorem Link.Relaned.txKeys (h : l.Relaned k) : k.txKeys = l.txKeys := (congrArg Link.txKeys h :)

/-- The head of the trailer of the frame that a port sends next with a stamp. -/
def State.sentHead (s : State) (p stamp : Nat) : Nat :=
  let u := s.frameState p
  let fill := fillFrame (bodyLen p) 0 (u.link p).tx
  u.frameHead p (u.link p) (stampItems fill.1 stamp) fill.2.1

/-- The body in clear of the frame that a port sends next with a stamp. -/
def State.sentBody (s : State) (p stamp : Nat) : List Flit :=
  frameBody (bodyLen p) (stampItems (fillFrame (bodyLen p) 0 ((s.frameState p).link p).tx).1 stamp)

/-- Body and tag of that frame. -/
def State.sentSeal (s : State) (p stamp : Nat) : List Flit × Nat :=
  (s.frameState p).seal p ((s.frameState p).link p) (s.sentHead p stamp) (s.sentBody p stamp)

/-- The frame that a port sends next with a stamp. -/
def State.sentFrame (s : State) (p stamp : Nat) : Frame := frameWith p (s.sentHead p stamp) (s.sentSeal p stamp)

theorem keyRegs_ofPorts (hp : p < 10) {f : Fld} (hf : f.addr = 0x130100 + p * 0x8) : f.ofPorts := by
  simp only [Fld.ofPorts, hf]
  revert hp
  omega

theorem laneRegs_apart_key {f g : Fld} (hf : f.addr = 0x130100 + p * 0x8) (hg : laneRegs p g) : g.apart f := by
  rcases hg with hg | hg | ⟨hg, -⟩
  all_goals exact .inr (.inl (by omega))

/-- The stamps and traces of a frame's items change nothing that its trailer or its seal reads. -/
theorem State.OnPort.frameHead (h : s.OnPort (fun _ => False) p l t) (hp : p < 10) (items : List (Nat × TxItem))
    (marks : List (Nat × Nat)) :
    t.frameHead p k items marks = s.frameHead p k items marks := by
  have hkey (f : Fld) (hf : f.addr = 0x130100 + p * 0x8) : t.rd f = s.rd f := h.moved.rd f (keyRegs_ofPorts hp hf) fun _ => False.elim
  have hspare : t.rd (R.GATE_LANES_TX_SPARE p) = s.rd (R.GATE_LANES_TX_SPARE p) :=
    h.moved.rd _ (by simp only [Fld.ofPorts, R.GATE_LANES_TX_SPARE]; omega) fun _ => False.elim
  simp only [State.frameHead, hkey _ (show (R.SECURITY_TX_CUR_VALID p).addr = _ from rfl),
    hkey _ (show (R.SECURITY_TX_KPH p).addr = _ from rfl),
    hspare]

theorem State.OnPort.seal (h : s.OnPort (fun _ => False) p l t) (hp : p < 10) (head : Nat) (body : List Flit) :
    t.seal p k head body = s.seal p k head body := by
  have hkey (f : Fld) (hf : f.addr = 0x130100 + p * 0x8) : t.rd f = s.rd f := h.moved.rd f (keyRegs_ofPorts hp hf) fun _ => False.elim
  simp only [State.seal, hkey _ (show (R.SECURITY_TX_CUR_VALID p).addr = _ from rfl), hkey _ (show (R.SECURITY_TX_KPH p).addr = _ from rfl)]

/-- The frame leaves: whole, and a hinge's in its beats. -/
theorem State.frameLeaves_out (s : State) (p : Nat) (l : Link) (rest : List TxItem) (result : Bool) (body : List Flit) (f : Frame) :
    .frame p f ∈ (s.frameLeaves p l rest result body f).out ∧
      (8 ≤ p → .beats (p - 8) (hingeBeats f) ∈ (s.frameLeaves p l rest result body f).out) := by
  unfold State.frameLeaves
  extract_lets gate enc s0 s1 n s2 s3 s4
  have hs1 : .frame p f ∈ s1.out ∧ (8 ≤ p → .beats (p - 8) (hingeBeats f) ∈ s1.out) := by
    have hframe : Output.frame p f ∈ s0.out := List.mem_append_right _ (List.mem_singleton_self _)
    unfold s1
    split
    · rename_i hgate
      have hp : p < 8 := of_decide_eq_true hgate
      obtain ⟨k, hk, -⟩ := (State.OnPort.refl (fun _ => True) p s0).sendWords (body ++ [f.trailer])
      exact ⟨hk.moved.out.subset hframe, fun h => absurd hp (Nat.not_lt.mpr h)⟩
    · exact ⟨List.mem_append_left _ hframe, fun _ => List.mem_append_right _ (List.mem_singleton_self _)⟩
  have hs2 := (State.OnPort.refl (fun _ => True) p s1).modLink fun l =>
    { l with tx := rest, txFseq := n, resultOut := l.resultOut || result }
  have hs3 : s1.OnPort (fun _ => True) p _ s3 := .ite _ (hs2.wr _ _ (.inl trivial)) hs2
  have hs4 : s1.OnPort (fun _ => True) p _ s4 := .ite _ ((hs3.wr _ _ (.inl trivial)).keyNeed _ _) hs3
  have hend : s1.out <+: (if gate then s4.txCountdown p else s4).out := by
    split
    · obtain ⟨k, hk, -⟩ := hs4.txCountdown fun _ _ => trivial
      exact hk.moved.out
    · exact hs4.moved.out
  exact ⟨hend.subset hs1.1, fun h => hend.subset (hs1.2 h)⟩

/-- Without a key switch a frame is put together in a state that differs in its lanes alone. -/
theorem State.frameState_spec (hsw : s.txKeySwitch p = s) : ∃ k, s.OnPort (laneRegs p) p k (s.frameState p) ∧ (s.link p).Relaned k := by
  unfold State.frameState
  rw [hsw]
  split
  · exact (State.OnPort.refl (laneRegs p) p s).txLaneSwitch fun _ hg => hg
  · exact ⟨_, .refl _ p s, rfl⟩

/-- A frame without a key switch leaves; what is over waits, and the number goes on. -/
theorem State.sendFrame_spec (hp : p < 10) (hsw : s.txKeySwitch p = s) (stamp : Nat) :
    (∃ k, s.OnPort (frameRegs p) p k (s.sendFrame p stamp) ∧ k.tx = (fillFrame (bodyLen p) 0 (s.link p).tx).2.2 ∧
      k.txFseq = ((s.link p).txFseq + 1) % 2 ^ 32) ∧
    .frame p (s.sentFrame p stamp) ∈ (s.sendFrame p stamp).out ∧
      (8 ≤ p → .beats (p - 8) (hingeBeats (s.sentFrame p stamp)) ∈ (s.sendFrame p stamp).out) := by
  obtain ⟨j, hstate, hj⟩ := State.frameState_spec hsw
  have hlink := hstate.link
  rw [State.sendFrame_eq]
  unfold State.sentFrame State.sentSeal State.sentHead State.sentBody
  generalize s.frameState p = u at *
  have hstamp := (State.OnPort.refl (fun _ => False) p u).stampAll stamp (fillFrame (bodyLen p) 0 (u.link p).tx).1
  have hitems := u.stampAll_snd p stamp (fillFrame (bodyLen p) 0 (u.link p).tx).1
  dsimp only
  rw [hitems, hstamp.frameHead hp, hstamp.seal hp]
  generalize (u.stampAll p stamp (fillFrame (bodyLen p) 0 (u.link p).tx).1).1 = v at *
  obtain ⟨k, hleaves, hk⟩ := ((hstate.mono fun _ hg => .inl hg).trans (hstamp.mono fun _ => False.elim)).frameLeaves
    (W := frameRegs p) (fun _ hg => hg) (fillFrame (bodyLen p) 0 (u.link p).tx).2.2 _ _ _
  refine ⟨⟨k, hleaves, ?_, ?_⟩, v.frameLeaves_out p (u.link p) _ _ _ _⟩
  · rw [hk.tx, hlink, hj.tx]
  · rw [hk.txFseq]
    dsimp only
    rw [hlink, hj.txFseq]

/-! ### What the frame holds -/

section
variable {stamp : Nat} {x : Nat × TxItem}

theorem State.sentHead_lt (s : State) (p stamp : Nat) : s.sentHead p stamp < 2 ^ 384 := trailerHead_lt

/-- The trailer of the next frame says whether and under which key the frame is, its number, and the kinds of its positions (R321). -/
theorem State.sentHead_bits (hp : p < 10) (hsw : s.txKeySwitch p = s) (stamp : Nat) :
    bits (s.sentHead p stamp) 0 16 = 0x4C59 ∧ bits (s.sentHead p stamp) 16 1 = s.rd (R.SECURITY_TX_CUR_VALID p) ∧
      bits (s.sentHead p stamp) 17 1 = s.rd (R.SECURITY_TX_KPH p) ∧ bits (s.sentHead p stamp) 32 32 = (s.link p).txFseq % 2 ^ 32 ∧
      ∀ x ∈ (fillFrame (bodyLen p) 0 (s.link p).tx).1, bits (s.sentHead p stamp) (128 + 2 * x.1) 2 = x.2.kind % 4 := by
  obtain ⟨k, hstate, hk⟩ := State.frameState_spec hsw
  have hkey (f : Fld) (hf : f.addr = 0x130100 + p * 0x8) : (s.frameState p).rd f = s.rd f :=
    hstate.moved.rd f (keyRegs_ofPorts hp hf) fun _ hg => laneRegs_apart_key hf hg
  have hvalid := hkey (R.SECURITY_TX_CUR_VALID p) rfl
  have hkph := hkey (R.SECURITY_TX_KPH p) rfl
  have hfseq : ((s.frameState p).link p).txFseq = (s.link p).txFseq := by rw [hstate.link, hk.txFseq]
  have htx : ((s.frameState p).link p).tx = (s.link p).tx := by rw [hstate.link, hk.tx]
  unfold State.sentHead
  generalize s.frameState p = u at *
  dsimp only
  rw [htx]
  obtain ⟨hup, hin⟩ := fillFrame_places (bodyLen p) (s.link p).tx 0
  generalize fillFrame (bodyLen p) 0 (s.link p).tx = fill at *
  unfold State.frameHead
  dsimp only
  refine ⟨bits_trailerHead (v := 0x4C59) (by simp [trailerFields]), ?_, ?_, ?_, fun x hx => ?_⟩
  · rw [bits_trailerHead (v := u.rd (R.SECURITY_TX_CUR_VALID p)) (by simp [trailerFields]), hvalid]
    exact Nat.mod_eq_of_lt (State.rd_lt _ _)
  · rw [bits_trailerHead (v := u.rd (R.SECURITY_TX_KPH p)) (by simp [trailerFields]), hkph]
    exact Nat.mod_eq_of_lt (State.rd_lt _ _)
  · rw [bits_trailerHead (v := (u.link p).txFseq) (by simp [trailerFields]), hfseq]
  · obtain ⟨-, hlt⟩ := hin x hx
    have hcap : bodyLen p ≤ 64 := by
      unfold bodyLen
      split <;> decide
    have hkinds := bits_frameKinds (stampItems_rise hup stamp) (List.mem_map.mpr ⟨x, hx, rfl⟩)
    rw [← bits_bits (w := 128) (by omega), bits_trailerHead (v := frameKinds (stampItems fill.1 stamp))
      (by simp [trailerFields, frameKinds]),
      bits_mod_two_pow (by omega), hkinds, TxItem.stamped_kind]

/-- The body in clear is full, and carries each item with the frame's stamp. -/
theorem State.sentBody_length (s : State) (p stamp : Nat) : (s.sentBody p stamp).length = bodyLen p := frameBody_length _ _

theorem State.sentBody_place (hsw : s.txKeySwitch p = s) (stamp : Nat) (hx : x ∈ (fillFrame (bodyLen p) 0 (s.link p).tx).1) :
    (s.sentBody p stamp)[x.1]? = some (x.2.stamped stamp).flit := by
  obtain ⟨k, hstate, hk⟩ := State.frameState_spec hsw
  have htx : ((s.frameState p).link p).tx = (s.link p).tx := by rw [hstate.link, hk.tx]
  obtain ⟨hup, hin⟩ := fillFrame_places (bodyLen p) (s.link p).tx 0
  rw [State.sentBody, htx]
  exact frameBody_stamped hup hx (hin x hx).2 stamp

/-- In cleartext body and tag are the body in clear and its CRC; under a key they are AES-256-GCM's (R323). -/
theorem State.sentSeal_clear (hp : p < 10) (hsw : s.txKeySwitch p = s) (hclear : s.on (R.SECURITY_TX_CUR_VALID p) = false) (stamp : Nat) :
    s.sentSeal p stamp = (s.sentBody p stamp, crc32c (toLE 48 (s.sentHead p stamp) ++ flitBytes (s.sentBody p stamp))) := by
  obtain ⟨k, hstate, -⟩ := State.frameState_spec hsw
  have hvalid : (s.frameState p).rd (R.SECURITY_TX_CUR_VALID p) = s.rd (R.SECURITY_TX_CUR_VALID p) :=
    hstate.moved.rd _ (keyRegs_ofPorts hp rfl) fun _ hg => laneRegs_apart_key rfl hg
  rw [State.on_eq] at hclear
  refine if_neg ?_
  rw [hvalid]
  simpa using hclear

theorem State.sentSeal_keyed (hp : p < 10) (hsw : s.txKeySwitch p = s) (hkeyed : s.on (R.SECURITY_TX_CUR_VALID p) = true) (stamp : Nat) :
    s.sentSeal p stamp =
      let k := SMap.getD (s.link p).txKeys (s.rd (R.SECURITY_TX_KPH p)) ⟨0, 0⟩
      let r := gcmSeal k.key (BitVec.ofNat 96 ((s.link p).txFseq + k.salt.toNat * 2 ^ 32)) (toLE 48 (s.sentHead p stamp))
        (s.sentBody p stamp)
      (r.1, r.2.toNat) := by
  obtain ⟨k, hstate, hk⟩ := State.frameState_spec hsw
  have hkey (f : Fld) (hf : f.addr = 0x130100 + p * 0x8) : (s.frameState p).rd f = s.rd f :=
    hstate.moved.rd f (keyRegs_ofPorts hp hf) fun _ hg => laneRegs_apart_key hf hg
  rw [State.on_eq] at hkeyed
  have hvalid : (s.frameState p).rd (R.SECURITY_TX_CUR_VALID p) = 1 := by
    rw [hkey _ rfl]
    simpa using hkeyed
  refine (if_pos hvalid).trans ?_
  rw [hkey (R.SECURITY_TX_KPH p) rfl, hstate.link, hk.txKeys, hk.txFseq]

end

end

end Sys2Proof.Machine

namespace Sys2Proof.Machine

/-! ## FRAME_SEND (R320-R325) -/

section
variable {W V : Fld → Prop} {p : Nat} {l k : Link} {s t u : State}

/-- Fields that neither the sequencer nor a port's armed key switch is among. -/
def aloofRegs (p : Nat) (g : Fld) : Prop := g.addr ≠ 0x10 ∧ g.apart (R.SECURITY_TX_ARMED p)

theorem aloofRegs_gate (hp : p < 10) {g : Fld} (hlo : 0x10000 ≤ g.addr) (hhi : g.addr < 0xb0000) : aloofRegs p g :=
  ⟨by omega, .inr (.inl (by simp only [R.SECURITY_TX_ARMED]; revert hp; omega))⟩

theorem aloofRegs_key {g : Fld} (hg : g.addr = 0x130100 + p * 0x8) (hlo : 4 ≤ g.lo) : aloofRegs p g :=
  ⟨by omega, .inr (.inr (.inr hlo))⟩

theorem laneRegs_aloof (hp : p < 10) {g : Fld} (hg : laneRegs p g) : aloofRegs p g := by
  rcases hg with hg | hg | ⟨hg, -⟩ <;> exact aloofRegs_gate hp (by omega) (by omega)

theorem frameRegs_aloof (hp : p < 10) {g : Fld} (hg : frameRegs p g) : aloofRegs p g := by
  rcases hg with hg | rfl | rfl
  · exact laneRegs_aloof hp hg
  · exact aloofRegs_key rfl (by simp [R.SECURITY_TX_FSEQ_HI])
  · exact aloofRegs_key rfl (by simp [R.SECURITY_TX_ROLL_PEND])

theorem status_aloof (hp : p < 10) {g : Fld} (hg : g.addr = 0x10004 + p * 0x10000) : aloofRegs p g :=
  aloofRegs_gate hp (by omega) (by omega)

theorem fixRegs_aloof (hp : p < 10) {g : Fld} (hg : fixRegs p g) : aloofRegs p g := by
  rcases hg with hg | rfl | hg
  · exact aloofRegs_gate hp (by omega) (by omega)
  · exact status_aloof hp rfl
  · exact laneRegs_aloof hp hg

theorem readyRegs_aloof (hp : p < 10) {g : Fld} (hg : readyRegs p g) : aloofRegs p g := by
  rcases hg with rfl | rfl | rfl | hg | hg | rfl
  · exact status_aloof hp rfl
  · exact status_aloof hp rfl
  · exact status_aloof hp rfl
  · exact aloofRegs_gate hp (by omega) (by omega)
  · exact aloofRegs_gate hp (by omega) (by omega)
  · exact aloofRegs_key rfl (by simp [R.SECURITY_TX_CLEAR])

theorem State.Moved.idle (h : s.Moved W t) (hW : ∀ g, W g → g.addr ≠ 0x10) : t.idle = s.idle := by
  rw [State.idle, State.idle, h.off hW, State.seq, State.seq, h.rd R.GLOBAL_START_STATUS_STATE (.inl rfl) fun g hg =>
    .inr (.inl (Ne.symm (hW g hg)))]

theorem State.Moved.armed (h : s.Moved (aloofRegs p) t) (hp : p < 10) : t.rd (R.SECURITY_TX_ARMED p) = s.rd (R.SECURITY_TX_ARMED p) :=
  h.rd _ (keyRegs_ofPorts hp rfl) fun _ hg => hg.2

/-! ### What follows a frame -/

theorem State.Moved.fitPort (h : s.Moved W t) (q n : Nat) : s.Moved W (t.fitPort q n) := by
  induction n generalizing t with
  | zero => exact h
  | succ n ih =>
    unfold State.fitPort
    split
    · exact ih (h.breakCircuit _)
    · exact h

/-- The move to x4 (R339). -/
theorem State.widthCheck_moved (s : State) (hp : p < 10) : s.Moved (aloofRegs p) (s.widthCheck p) := by
  have hneg := aloofRegs_gate hp (g := R.GATE_NEG_X4 p) (by simp only [R.GATE_NEG_X4]; omega) (by simp only [R.GATE_NEG_X4]; omega)
  have hmove := ((((((State.OnPort.refl (aloofRegs p) p s).wr (R.GATE_NEG_X4 p) 1 (.inl hneg)).wr (R.GATE_STATUS_DEGRADED p) 1
    (.inl (status_aloof hp rfl))).count p 8).setPortState 6 (status_aloof hp rfl)).logErr 2 0 0 p none 0 0 0).setPortCap hp
  exact .ite _ (hmove.moved.fitPort _ _) (.refl _ s)

theorem State.widthCheck_still (h : s.portState p ≠ 7) : s.widthCheck p = s := if_neg fun h7 => h h7.1

/-- A port without service and without keys leaves its state by its status and its lanes alone. -/
theorem State.exitPort_unkeyed (s : State) (hp : p < 10) {st : Nat} (hst : s.portState p = st) (h5 : st ≠ 5) (h6 : st ≠ 6) (h7 : st ≠ 7)
    (cause next : Nat) : s.Moved (aloofRegs p) (s.exitPort p cause next false) := by
  have hleave : s.leaveService p cause next (s.portState p) (s.portReady p) = s.wr (R.GATE_STATUS_CAUSE p) cause := by
    rw [State.portReady_of_state hst h6 h7, hst]
    exact if_neg (by simp [h5])
  rw [State.exitPort_eq]
  simp only [Bool.false_eq_true, if_false]
  rw [hleave]
  exact (((State.OnPort.refl (aloofRegs p) p s).wr (R.GATE_STATUS_CAUSE p) cause (.inl (status_aloof hp rfl))).atRest (status_aloof hp rfl)
    (fun _ hg => laneRegs_aloof hp hg) next (s.portReady p)).moved

/-- The decision that TRAIN_RESULTs wait for (R330). -/
theorem State.trainDecide_moved (s : State) (hp : p < 10) : s.Moved (aloofRegs p) (s.trainDecide p) := by
  by_cases hwait : (s.link p).mine = none ∨ (s.link p).theirs = none ∨ (s.link p).resultOut = false ∨ s.portState p ≠ 4
  · rw [State.trainDecide_waits hwait]
    exact .refl _ s
  · simp only [not_or, ne_eq, not_not, Bool.not_eq_false] at hwait
    obtain ⟨hmine, htheirs, hout, h4⟩ := hwait
    obtain ⟨a, hmine⟩ := Option.ne_none_iff_exists'.mp hmine
    obtain ⟨b, htheirs⟩ := Option.ne_none_iff_exists'.mp htheirs
    by_cases hpass : a.fld 0x11 2 1 = 1 ∧ b.fld 0x11 2 1 = 1
    · exact (s.trainDecide_fixes hp hmine htheirs h4 hout hpass.1 hpass.2).1.mono fun g hg =>
        hg.elim (fixRegs_aloof hp) (readyRegs_aloof hp)
    · rw [State.trainDecide_eq s hmine htheirs h4 hout, if_neg hpass]
      obtain ⟨k, hequal, -⟩ := (State.OnPort.refl (aloofRegs p) p s).equalize ((s.link p).target - 1)
      exact .ite _ hequal.moved (s.exitPort_unkeyed hp h4 (by decide) (by decide) (by decide) 4 8)

/-! ### The key switch (R325) -/

theorem State.txKeySwitch_none (h : (s.link p).txSwitch = none) : s.txKeySwitch p = s := by
  unfold State.txKeySwitch
  dsimp only
  rw [h]

theorem State.txKeySwitch_early {start ph : Nat} (h : (s.link p).txSwitch = some (start, ph)) (hne : (s.link p).txFseq ≠ start) :
    s.txKeySwitch p = s := by
  unfold State.txKeySwitch
  dsimp only
  rw [h]
  exact if_neg hne

/-- The state after a key switch to a phase. -/
def State.keySwitched (s : State) (p ph : Nat) : State :=
  let s := s.setLink p { (s.link p) with txFseq := 0, txSwitch := none, txKeys := SMap.del (s.link p).txKeys (1 - ph) }
  let s := ((s.wr (R.SECURITY_TX_CUR_VALID p) 1).wr (R.SECURITY_TX_KPH p) ph).wr (R.SECURITY_TX_NEXT_LOADED p) 0
  (s.wr (R.SECURITY_TX_ARMED p) 0).wr (R.SECURITY_TX_ROLL_PEND p) 0

theorem State.txKeySwitch_falls {start ph : Nat} (h : (s.link p).txSwitch = some (start, ph)) (heq : (s.link p).txFseq = start) :
    s.txKeySwitch p = s.keySwitched p ph := by
  unfold State.txKeySwitch
  dsimp only
  rw [h]
  exact if_pos heq

theorem State.keySwitched_onPort (s : State) (p ph : Nat) : s.OnPort (keyRegs p) p
    { (s.link p) with txFseq := 0, txSwitch := none, txKeys := SMap.del (s.link p).txKeys (1 - ph) } (s.keySwitched p ph) :=
  (((((State.OnPort.refl (keyRegs p) p s).setLink
    { (s.link p) with txFseq := 0, txSwitch := none, txKeys := SMap.del (s.link p).txKeys (1 - ph) }).wr (R.SECURITY_TX_CUR_VALID p) 1
      (.inl (.inl rfl))).wr (R.SECURITY_TX_KPH p) ph (.inl (.inl rfl))).wr (R.SECURITY_TX_NEXT_LOADED p) 0 (.inl (.inl rfl))).wr
        (R.SECURITY_TX_ARMED p) 0 (.inl (.inl rfl)) |>.wr (R.SECURITY_TX_ROLL_PEND p) 0 (.inl (.inl rfl))

theorem State.keySwitched_rd (s : State) (p : Nat) {ph : Nat} (hph : ph < 2) :
    (s.keySwitched p ph).rd (R.SECURITY_TX_CUR_VALID p) = 1 ∧ (s.keySwitched p ph).rd (R.SECURITY_TX_KPH p) = ph ∧
      (s.keySwitched p ph).rd (R.SECURITY_TX_ARMED p) = 0 := by
  unfold State.keySwitched
  simp only [R.SECURITY_TX_CUR_VALID, R.SECURITY_TX_KPH, R.SECURITY_TX_NEXT_LOADED, R.SECURITY_TX_ARMED, R.SECURITY_TX_ROLL_PEND]
  simp (disch := decide) only [State.rd_wr_bits_ne, State.rd_wr_bits, Nat.reducePow, Nat.reduceMod]
  exact ⟨trivial, Nat.mod_eq_of_lt hph, trivial⟩

/-- The switch falls on a frame once. -/
theorem State.txKeySwitch_idem (s : State) (p : Nat) : (s.txKeySwitch p).txKeySwitch p = s.txKeySwitch p := by
  cases h : (s.link p).txSwitch with
  | none => rw [State.txKeySwitch_none h, State.txKeySwitch_none h]
  | some x =>
    obtain ⟨start, ph⟩ := x
    by_cases heq : (s.link p).txFseq = start
    · rw [State.txKeySwitch_falls h heq]
      exact State.txKeySwitch_none (congrArg Link.txSwitch (s.keySwitched_onPort p ph).link)
    · rw [State.txKeySwitch_early h heq, State.txKeySwitch_early h heq]

end

end Sys2Proof.Machine

namespace Sys2Proof.Machine

section
variable {p : Nat} {s t u : State} {q : Port} {c : Crossing}

theorem keyRegs_apart_state (hp : p < 10) {g : Fld} (hg : keyRegs p g) : g.apart (R.GATE_STATUS_STATE p) :=
  wireRegs_apart hp (.inr (.inr ⟨rfl, .inr (by simp [R.GATE_STATUS_STATE])⟩)) (.inr hg)

theorem frameRegs_apart_state (hp : p < 10) {g : Fld} (hg : frameRegs p g) : g.apart (R.GATE_STATUS_STATE p) :=
  wireRegs_apart hp (.inr (.inr ⟨rfl, .inr (by simp [R.GATE_STATUS_STATE])⟩)) (frameRegs_wire hg)

theorem State.txKeySwitch_framing (s : State) (hp : p < 10) : (s.txKeySwitch p).framing p = s.framing p := by
  obtain ⟨n, sw, ks, hu⟩ := (State.OnPort.refl (keyRegs p) p s).txKeySwitch fun _ hg => hg
  rw [State.framing, State.framing, hu.moved.portState hp fun g hg => keyRegs_apart_state hp hg, hu.link]

/-- FRAME_SEND of a port whose key, if it has one, is not spent. -/
theorem frameSend_sends (hf : s.framing q.val = true) (hlive : (s.txKeySwitch q.val).keySpent q.val = false) :
    frameSend q c s = (((s.txKeySwitch q.val).sendFrame q.val ((s.txKeySwitch q.val).crossTime q.val c false)).widthCheck q.val).trainDecide
      q.val := by
  unfold frameSend
  dsimp only
  rw [if_pos hf, s.txKeySwitch_framing q.isLt, hf, hlive]
  simp only [not_true_eq_false, Bool.false_eq_true, if_false]

theorem frameSend_spent (hf : s.framing q.val = true) (hspent : (s.txKeySwitch q.val).keySpent q.val = true) :
    frameSend q c s = (s.txKeySwitch q.val).exitPort q.val 10 8 false := by
  unfold frameSend
  dsimp only
  rw [if_pos hf, s.txKeySwitch_framing q.isLt, hf, hspent]
  simp only [not_true_eq_false, if_false, if_true]

/-- A frame and what follows it: the frame is among the outputs, and an armed switch stays as it is. -/
theorem State.sendFrame_follows (hp : p < 10) (hsw : u.txKeySwitch p = u) (stamp : Nat) :
    u.Moved (aloofRegs p) (((u.sendFrame p stamp).widthCheck p).trainDecide p) ∧
      .frame p (u.sentFrame p stamp) ∈ (((u.sendFrame p stamp).widthCheck p).trainDecide p).out ∧
      (8 ≤ p → .beats (p - 8) (hingeBeats (u.sentFrame p stamp)) ∈ (((u.sendFrame p stamp).widthCheck p).trainDecide p).out) := by
  obtain ⟨⟨k, hsent, -⟩, hframe, hbeats⟩ := State.sendFrame_spec hp hsw stamp
  generalize u.sendFrame p stamp = v at *
  have hrest := (v.widthCheck_moved hp).trans ((v.widthCheck p).trainDecide_moved hp)
  exact ⟨(hsent.moved.mono fun g hg => frameRegs_aloof hp hg).trans hrest, hrest.out.subset hframe, fun h => hrest.out.subset (hbeats h)⟩

/-- FRAME_SEND outside isolation lets the frame out. -/
theorem exec_frameSend_sends (hidle : s.idle = false) (hiso : s.pins.iso = false) (hf : s.framing q.val = true)
    (hu : State.txKeySwitch { s with out := [] } q.val = u) (hum : ({ s with out := [] } : State).Moved (keyRegs q.val) u)
    (hlive : u.keySpent q.val = false) :
    ∃ t, exec (.frameSend ⟨q, c⟩) s = .next t ∧
      t = ((u.sendFrame q.val (u.crossTime q.val c false)).widthCheck q.val).trainDecide q.val ∧
      .frame q.val (u.sentFrame q.val (u.crossTime q.val c false)) ∈ t.out ∧
      (8 ≤ q.val → .beats (q.val - 8) (hingeBeats (u.sentFrame q.val (u.crossTime q.val c false))) ∈ t.out) ∧
      t.rd (R.SECURITY_TX_ARMED q.val) = u.rd (R.SECURITY_TX_ARMED q.val) := by
  have hbody := frameSend_sends (q := q) (c := c) (s := { s with out := [] }) hf (by rw [hu]; exact hlive)
  rw [hu] at hbody
  have hsw : u.txKeySwitch q.val = u := by rw [← hu, State.txKeySwitch_idem]
  obtain ⟨hmoved, hframe, hbeats⟩ := State.sendFrame_follows q.isLt hsw (u.crossTime q.val c false)
  generalize ((u.sendFrame q.val (u.crossTime q.val c false)).widthCheck q.val).trainDecide q.val = v at *
  have hvidle : v.idle = false := (hmoved.idle fun _ hg => hg.1).trans
    ((hum.idle fun g hg => by rcases hg with hg | hg <;> omega).trans hidle)
  have hviso : v.pins.iso = false := by rw [hmoved.pins, hum.pins]; exact hiso
  refine ⟨v, ?_, rfl, hframe, hbeats, hmoved.armed q.isLt⟩
  exact (portCmd_on (frameSend q c) s hidle).trans (congrArg _ ((congrArg wire hbody).trans (wire_id v hvidle hviso)))

/-! ### The four ways of FRAME_SEND -/

theorem bodyLen_le (p : Nat) : bodyLen p ≤ 64 := by
  unfold bodyLen
  split <;> decide

theorem frameWith_body_length {head : Nat} {x : List Flit × Nat} (h : x.1.length = bodyLen p) : (frameWith p head x).body.length = 64 := by
  have hcap := bodyLen_le p
  rw [frameWith, List.length_append, h, List.length_replicate]
  omega

theorem frameWith_body_take {head : Nat} {x : List Flit × Nat} (h : x.1.length = bodyLen p) :
    (frameWith p head x).body.take (bodyLen p) = x.1 := by
  rw [frameWith, ← h]
  exact List.take_left' rfl

/-- The trailer of the next frame: its head, and its tag above. -/
theorem State.sentFrame_trailer (s : State) (stamp : Nat) (ht : (s.sentSeal p stamp).2 < 2 ^ 128) :
    (s.sentFrame p stamp).trailer.toNat % 2 ^ 384 = s.sentHead p stamp ∧
      bits (s.sentFrame p stamp).trailer.toNat 384 128 = (s.sentSeal p stamp).2 ∧
      ∀ lo w, lo + w ≤ 384 → bits (s.sentFrame p stamp).trailer.toNat lo w = bits (s.sentHead p stamp) lo w :=
  ⟨trailer_head (s.sentHead_lt p stamp) ht, trailer_tag (s.sentHead_lt p stamp) ht, fun _ _ => trailer_bits (s.sentHead_lt p stamp) ht⟩

theorem State.sentFrame_place {stamp : Nat} {x : Nat × TxItem} (hsw : u.txKeySwitch p = u)
    (hbody : (u.sentSeal p stamp).1 = u.sentBody p stamp)
    (hx : x ∈ (fillFrame (bodyLen p) 0 (u.link p).tx).1) : (u.sentFrame p stamp).body[x.1]? = some (x.2.stamped stamp).flit := by
  have hlt : x.1 < (u.sentBody p stamp).length := by
    rw [State.sentBody_length]
    exact ((fillFrame_places (bodyLen p) (u.link p).tx 0).2 x hx).2
  rw [State.sentFrame, frameWith, hbody]
  exact (List.getElem?_append_left hlt).trans (State.sentBody_place hsw stamp hx)

/-- The frame of a port in cleartext. -/
theorem State.sentFrame_clear (hp : p < 10) (hsw : u.txKeySwitch p = u) (hclear : u.on (R.SECURITY_TX_CUR_VALID p) = false) (stamp : Nat) :
    let f := u.sentFrame p stamp
    f.body.length = 64 ∧ bits f.trailer.toNat 0 16 = 0x4C59 ∧ bits f.trailer.toNat 16 1 = 0 ∧
      bits f.trailer.toNat 32 32 = (u.link p).txFseq % 2 ^ 32 ∧
      bits f.trailer.toNat 384 128 = crc32c (toLE 48 (f.trailer.toNat % 2 ^ 384) ++ flitBytes (f.body.take (bodyLen p))) ∧
      ∀ x ∈ (fillFrame (bodyLen p) 0 (u.link p).tx).1,
        bits f.trailer.toNat (128 + 2 * x.1) 2 = x.2.kind % 4 ∧ (x.2.time = none → f.body[x.1]? = some x.2.flit) ∧
        ∀ k, x.2.time = some k → k.fld 0x10 0 2 ≤ 1 → f.body[x.1]? = some (k.set 0x18 0 64 stamp).hdr := by
  have hseal := State.sentSeal_clear hp hsw hclear stamp
  have hlen := u.sentBody_length p stamp
  obtain ⟨htrailer, htag, hbits⟩ := u.sentFrame_trailer (p := p) stamp (by
    rw [hseal]
    exact Nat.lt_trans (crc32c_lt _) (by decide))
  obtain ⟨hmagic, henc, -, hfseq, hkinds⟩ := State.sentHead_bits hp hsw stamp
  have hbody : (u.sentSeal p stamp).1 = u.sentBody p stamp := by rw [hseal]
  have htake : (u.sentFrame p stamp).body.take (bodyLen p) = u.sentBody p stamp := by
    rw [← hbody]
    exact frameWith_body_take (by rw [hbody, hlen])
  have hvalid : u.rd (R.SECURITY_TX_CUR_VALID p) = 0 := by
    have hlt : u.rd (R.SECURITY_TX_CUR_VALID p) < 2 := u.rd_lt _
    rw [State.on_eq, beq_eq_false_iff_ne] at hclear
    omega
  refine ⟨frameWith_body_length (by rw [hbody, hlen]), (hbits _ _ (by decide)).trans hmagic,
    (hbits _ _ (by decide)).trans (henc.trans hvalid),
    (hbits _ _ (by decide)).trans hfseq, ?_, fun x hx => ?_⟩
  · rw [htag, htrailer, htake, hseal]
  · have hplace := State.sentFrame_place (stamp := stamp) hsw hbody hx
    have hlt := ((fillFrame_places (bodyLen p) (u.link p).tx 0).2 x hx).2
    have hcap := bodyLen_le p
    refine ⟨(hbits _ _ (by omega)).trans (hkinds x hx), fun hplain => ?_, fun k htime hk => ?_⟩
    · rw [hplace, TxItem.stamped_plain hplain]
    · rw [hplace, TxItem.stamped_time htime hk]

theorem exec_frameSend_clear (hidle : s.idle = false) (hf : s.framing q.val = true) (hiso : s.pins.iso = false)
    (hclear : s.on (R.SECURITY_TX_CUR_VALID q.val) = false) (hnone : (s.link q.val).txSwitch = none) :
    ∃ t f, exec (.frameSend ⟨q, c⟩) s = .next t ∧ .frame q.val f ∈ t.out ∧ f.body.length = 64 ∧ f.uncorrected = false ∧
      (8 ≤ q.val → .beats (q.val - 8) (hingeBeats f) ∈ t.out) ∧
      bits f.trailer.toNat 0 16 = 0x4C59 ∧ bits f.trailer.toNat 16 1 = 0 ∧
      bits f.trailer.toNat 32 32 = (s.link q.val).txFseq % 2 ^ 32 ∧
      bits f.trailer.toNat 384 128 = crc32c (toLE 48 (f.trailer.toNat % 2 ^ 384) ++ flitBytes (f.body.take (bodyLen q.val))) ∧
      (∀ x ∈ (fillFrame (bodyLen q.val) 0 (s.link q.val).tx).1,
        bits f.trailer.toNat (128 + 2 * x.1) 2 = x.2.kind % 4 ∧ (x.2.time = none → f.body[x.1]? = some x.2.flit) ∧
        ∀ k, x.2.time = some k → k.fld 0x10 0 2 ≤ 1 → f.body[x.1]? = some (k.set 0x18 0 64 (s.crossTime q.val c false)).hdr) ∧
      (s.portState q.val ≠ 4 → s.portState q.val ≠ 7 →
        (t.link q.val).tx = (fillFrame (bodyLen q.val) 0 (s.link q.val).tx).2.2 ∧
        (t.link q.val).txFseq = ((s.link q.val).txFseq + 1) % 2 ^ 32 ∧ (∀ k, k ≠ q.val → t.link k = s.link k) ∧
        t.core.router = s.core.router ∧ t.core.resp = s.core.resp ∧ t.core.rq = s.core.rq) := by
  have hsw : State.txKeySwitch { s with out := [] } q.val = { s with out := [] } := State.txKeySwitch_none hnone
  obtain ⟨t, ht, heq, hframe, hbeats, -⟩ := exec_frameSend_sends (c := c) hidle hiso hf hsw (.refl _ _) (by
    rw [State.keySpent, show State.on { s with out := [] } (R.SECURITY_TX_CUR_VALID q.val) = false from hclear]
    rfl)
  obtain ⟨hlen, hmagic, henc, hfseq, htag, hitems⟩ := State.sentFrame_clear q.isLt hsw hclear
    (State.crossTime { s with out := [] } q.val c false)
  refine ⟨t, _, ht, hframe, hlen, rfl, hbeats, hmagic, henc, hfseq, htag, hitems, fun h4 h7 => ?_⟩
  obtain ⟨⟨k, hsent, htx, hnext⟩, -⟩ := State.sendFrame_spec q.isLt hsw (State.crossTime { s with out := [] } q.val c false)
  have hstate : (State.sendFrame { s with out := [] } q.val (State.crossTime { s with out := [] } q.val c false)).portState q.val =
      s.portState q.val := hsent.moved.portState q.isLt fun g hg => frameRegs_apart_state q.isLt hg
  rw [State.widthCheck_still (by rw [hstate]; exact h7), State.trainDecide_waits (.inr (.inr (.inr (by rw [hstate]; exact h4))))] at heq
  rw [heq]
  generalize State.sendFrame { s with out := [] } q.val (State.crossTime { s with out := [] } q.val c false) = v at *
  have hcore := hsent.core
  refine ⟨?_, ?_, hsent.links, ?_, ?_, ?_⟩
  · rw [hsent.link, htx]
    rfl
  · rw [hsent.link, hnext]
    rfl
  all_goals rw [hcore]

theorem exec_frameSend_keyed (hidle : s.idle = false) (hf : s.framing q.val = true) (hiso : s.pins.iso = false)
    (hkeyed : s.on (R.SECURITY_TX_CUR_VALID q.val) = true) (hnone : (s.link q.val).txSwitch = none)
    (hfseq : (s.link q.val).txFseq < 2 ^ 32 - 1) :
    ∃ t f plain r, exec (.frameSend ⟨q, c⟩) s = .next t ∧ .frame q.val f ∈ t.out ∧ bits f.trailer.toNat 16 1 = 1 ∧
      bits f.trailer.toNat 17 1 = s.rd (R.SECURITY_TX_KPH q.val) ∧ bits f.trailer.toNat 32 32 = (s.link q.val).txFseq ∧
      plain.length = bodyLen q.val ∧
      (∀ x ∈ (fillFrame (bodyLen q.val) 0 (s.link q.val).tx).1, x.2.time = none → plain[x.1]? = some x.2.flit) ∧
      r = gcmSeal (SMap.getD (s.link q.val).txKeys (s.rd (R.SECURITY_TX_KPH q.val)) ⟨0, 0⟩).key
        (BitVec.ofNat 96 ((s.link q.val).txFseq +
          (SMap.getD (s.link q.val).txKeys (s.rd (R.SECURITY_TX_KPH q.val)) ⟨0, 0⟩).salt.toNat * 2 ^ 32))
        (toLE 48 (f.trailer.toNat % 2 ^ 384)) plain ∧
      f.body = r.1 ++ List.replicate (64 - bodyLen q.val) 0 ∧ bits f.trailer.toNat 384 128 = r.2.toNat := by
  have hsw : State.txKeySwitch { s with out := [] } q.val = { s with out := [] } := State.txKeySwitch_none hnone
  obtain ⟨t, ht, -, hframe, -⟩ := exec_frameSend_sends (c := c) hidle hiso hf hsw (.refl _ _) (by
    rw [State.keySpent, show (State.link { s with out := [] } q.val).txFseq = (s.link q.val).txFseq from rfl,
      beq_eq_false_iff_ne.mpr (Nat.ne_of_lt hfseq), Bool.and_false])
  have hseal := State.sentSeal_keyed q.isLt hsw hkeyed (State.crossTime { s with out := [] } q.val c false)
  obtain ⟨-, henc, hkph, hnum, -⟩ := State.sentHead_bits q.isLt hsw (State.crossTime { s with out := [] } q.val c false)
  obtain ⟨htrailer, htag, hbits⟩ := State.sentFrame_trailer { s with out := [] } (p := q.val)
    (State.crossTime { s with out := [] } q.val c false)
    (by rw [hseal]; exact BitVec.isLt _)
  refine ⟨t, _, State.sentBody { s with out := [] } q.val (State.crossTime { s with out := [] } q.val c false), _, ht, hframe,
    (hbits _ _ (by decide)).trans (henc.trans ?_), (hbits _ _ (by decide)).trans hkph, (hbits _ _ (by decide)).trans (hnum.trans ?_),
    State.sentBody_length _ _ _, fun x hx hplain => ?_, rfl, ?_, ?_⟩
  · exact beq_iff_eq.mp hkeyed
  · exact Nat.mod_eq_of_lt (Nat.lt_of_lt_of_le hfseq (Nat.sub_le _ _))
  · rw [State.sentBody_place hsw _ hx, TxItem.stamped_plain hplain]
  · rw [htrailer, State.sentFrame, frameWith, hseal]
    rfl
  · rw [htag, htrailer, hseal]
    rfl

theorem exec_frameSend_switches {ph : Nat} (hidle : s.idle = false) (hf : s.framing q.val = true) (hiso : s.pins.iso = false)
    (hsw : (s.link q.val).txSwitch = some ((s.link q.val).txFseq, ph)) (hph : ph < 2) :
    ∃ t f, exec (.frameSend ⟨q, c⟩) s = .next t ∧ .frame q.val f ∈ t.out ∧ bits f.trailer.toNat 16 1 = 1 ∧
      bits f.trailer.toNat 17 1 = ph ∧ bits f.trailer.toNat 32 32 = 0 ∧ t.rd (R.SECURITY_TX_ARMED q.val) = 0 := by
  have hu : State.txKeySwitch { s with out := [] } q.val = State.keySwitched { s with out := [] } q.val ph :=
    State.txKeySwitch_falls hsw rfl
  have hport := State.keySwitched_onPort { s with out := [] } q.val ph
  obtain ⟨hvalid, hkph, harmed⟩ := State.keySwitched_rd { s with out := [] } q.val hph
  have hstill : (State.keySwitched { s with out := [] } q.val ph).txKeySwitch q.val = State.keySwitched { s with out := [] } q.val ph := by
    rw [← hu, State.txKeySwitch_idem]
  generalize State.keySwitched { s with out := [] } q.val ph = u at *
  have hfseq : (u.link q.val).txFseq = 0 := by rw [hport.link]
  obtain ⟨t, ht, -, hframe, -, hend⟩ := exec_frameSend_sends (c := c) hidle hiso hf hu hport.moved (by
    rw [State.keySpent, hfseq]
    exact Bool.and_false _)
  have hseal := State.sentSeal_keyed q.isLt hstill (beq_iff_eq.mpr hvalid) (u.crossTime q.val c false)
  obtain ⟨-, henc, hphase, hnum, -⟩ := State.sentHead_bits q.isLt hstill (u.crossTime q.val c false)
  obtain ⟨-, -, hbits⟩ := u.sentFrame_trailer (p := q.val) (u.crossTime q.val c false) (by rw [hseal]; exact BitVec.isLt _)
  exact ⟨t, _, ht, hframe, (hbits _ _ (by decide)).trans (henc.trans hvalid), (hbits _ _ (by decide)).trans (hphase.trans hkph),
    (hbits _ _ (by decide)).trans (hnum.trans (by rw [hfseq]; rfl)), hend.trans harmed⟩

theorem exec_frameSend_spent (hidle : s.idle = false) (hf : s.framing q.val = true) (hkeyed : s.on (R.SECURITY_TX_CUR_VALID q.val) = true)
    (hlast : (s.link q.val).txFseq = 2 ^ 32 - 1) (hsw : ∀ ph, (s.link q.val).txSwitch ≠ some (2 ^ 32 - 1, ph)) :
    ∃ t, exec (.frameSend ⟨q, c⟩) s = .next t ∧ t.portState q.val = 8 ∧ t.rd (R.GATE_STATUS_CAUSE q.val) = 10 ∧
      (t.link q.val).txKeys = [] ∧ (t.link q.val).rxKeys = [] ∧
        (∀ x ∈ t.core.router.queued, x.port = q.val → x ∈ s.core.router.queued) := by
  have hu : State.txKeySwitch { s with out := [] } q.val = { s with out := [] } := by
    cases h : (s.link q.val).txSwitch with
    | none => exact State.txKeySwitch_none h
    | some x =>
      obtain ⟨start, ph⟩ := x
      refine State.txKeySwitch_early (s := { s with out := [] }) h fun heq => hsw ph ?_
      rw [h, ← heq]
      exact congrArg (fun n => some (n, ph)) hlast
  have hspent : State.keySpent { s with out := [] } q.val = true := Bool.and_eq_true_iff.mpr ⟨hkeyed, beq_iff_eq.mpr hlast⟩
  have hbody := frameSend_spent (q := q) (c := c) (s := { s with out := [] }) hf (by rw [hu]; exact hspent)
  rw [hu] at hbody
  have hexit := State.exitPort_exited { s with out := [] } q.isLt (cause := 10) (next := 8) (by decide) (by decide) false
  have hqueue := State.exitPort_queued { s with out := [] } (next := 8) 10 q.isLt (by decide) (by decide) (by decide)
  generalize State.exitPort { s with out := [] } q.val 10 8 false = v at *
  obtain ⟨l, hlink⟩ := hexit.link
  obtain ⟨t, ht, hshown⟩ := portCmd_shown (body := frameSend q c) hidle hbody
    ((hexit.moved.off fun g hg => exitRegs_off hg).trans (State.off_of_idle hidle))
  refine ⟨t, ht, (hshown.portState _).trans hexit.state, (hshown.rd _).trans hexit.cause, ?_, ?_, ?_⟩
  · rw [hshown.link, hlink]
    rfl
  · rw [hshown.link, hlink]
    rfl
  · rw [hshown.core]
    exact hqueue

/-- Settles O36: what a port's frame carries in clear, under a key and at a key switch, and that a spent key sends none. -/
theorem framesLeave : Obligations.FramesLeave := fun _ _ _ hidle hf =>
  ⟨exec_frameSend_clear hidle hf, exec_frameSend_keyed hidle hf, fun _ => exec_frameSend_switches hidle hf, exec_frameSend_spent hidle hf⟩

end

end Sys2Proof.Machine

namespace Sys2Proof.Machine

/-! ## What brings a frame (R318-R320, R440) -/

/-- `t` is `s` but for the link of port `p`, which is `l`, and counters. -/
structure State.OnLink (p : Nat) (l : Link) (s t : State) : Prop where
  eq : t = { s with core := { s.core with links := t.core.links, cnt := t.core.cnt } }
  link : t.link p = l
  links : ∀ k, k ≠ p → t.link k = s.link k

section
variable {W : Fld → Prop} {p : Nat} {l k : Link} {s t u : State} {fr : Frame} {rx : RxFrame} {x : Crossing}

theorem State.OnLink.refl (p : Nat) (s : State) : s.OnLink p (s.link p) s := ⟨rfl, rfl, fun _ _ => rfl⟩

theorem State.OnLink.trans (h : s.OnLink p l t) (g : t.OnLink p k u) : s.OnLink p k u where
  eq := g.eq.trans (by rw [h.eq])
  link := g.link
  links := fun j hj => (g.links j hj).trans (h.links j hj)

theorem State.OnLink.modLink (h : s.OnLink p l t) (g : Link → Link) : s.OnLink p (g l) (t.modLink p g) where
  eq := (congrArg (fun v : State => { v with core.links := (t.modLink p g).core.links }) h.eq :)
  link := (State.link_modLink_self t p g).trans (by rw [h.link])
  links := fun k hk => (State.link_modLink_ne t g hk).trans (h.links k hk)

theorem State.OnLink.countN (h : s.OnLink p l t) (slot event n : Nat) : s.OnLink p l (t.countN slot event n) :=
  h.trans ⟨rfl, h.link, fun _ _ => rfl⟩

theorem State.OnLink.rd (h : s.OnLink p l t) (f : Fld) : t.rd f = s.rd f := (congrArg (State.rd · f) h.eq :)

theorem State.OnLink.portState (h : s.OnLink p l t) (q : Nat) : t.portState q = s.portState q := h.rd _

theorem State.OnLink.portReady (h : s.OnLink p l t) (q : Nat) : t.portReady q = s.portReady q := by
  rw [State.portReady, State.portReady, h.portState]

theorem State.OnLink.framing (h : s.OnLink p l t) (hl : l.rateAck = (s.link p).rateAck) : t.framing p = s.framing p := by
  rw [State.framing, State.framing, h.portState, h.link, hl]

theorem State.OnLink.off (h : s.OnLink p l t) : t.off = s.off := (congrArg State.off h.eq :)

theorem State.OnLink.regs (h : s.OnLink p l t) : t.core.regs = s.core.regs := (congrArg (fun v => v.core.regs) h.eq :)

theorem State.OnLink.resp (h : s.OnLink p l t) : t.core.resp = s.core.resp := (congrArg (fun v => v.core.resp) h.eq :)

theorem State.OnLink.router (h : s.OnLink p l t) : t.core.router = s.core.router := (congrArg (fun v => v.core.router) h.eq :)

theorem State.OnLink.rq (h : s.OnLink p l t) : t.core.rq = s.core.rq := (congrArg (fun v => v.core.rq) h.eq :)

theorem State.OnLink.onPort (h : s.OnLink p l t) : s.OnPort W p l t where
  moved := (State.Moved.refl W s).same (congrArg State.build h.eq :) (congrArg State.pins h.eq :) (congrArg State.out h.eq :)
    (congrArg (fun v => v.aon.regs) h.eq :) (congrArg (fun v => v.core.regs) h.eq :) (congrArg (fun v => v.core.router.queued) h.eq :)
  core := by rw [h.eq]
  link := h.link
  links := h.links

/-! ### The pieces of a frame -/

/-- A link that has received: its code words and beats. -/
def Link.received (l : Link) (fec : List FecPiece) (beats : List HingeBeat) (stamp : Nat) : Link :=
  { l with rxFec := fec, rxBeats := beats, rxStamp := stamp }

theorem State.takeFrame_onLink (s : State) (p : Nat) (words : List (List Nat)) :
    ∃ fec, s.OnLink p { (s.link p) with rxFec := fec } (s.takeFrame p words).2 := by
  have hset (n : Nat) (fec : Link → List FecPiece) := ((State.OnLink.refl p s).countN p 5 n).modLink fun l => { l with rxFec := fec l }
  unfold State.takeFrame
  dsimp only
  split
  · exact ⟨_, hset _ fun l => l.rxFec ++ _⟩
  · exact ⟨_, hset _ fun _ => _⟩

section
variable {b : HingeBeat} {stamp : Nat}

/-- A beat 0 begins a frame. -/
theorem State.hingeBeat_begins (hf : s.framing p = true) (hnone : (s.link p).rxBeats = []) (hb : b.index = 0) :
    s.hingeBeat p stamp b = s.modLink p fun l => { l with rxBeats := [b], rxStamp := stamp } := by
  unfold State.hingeBeat
  simp only [hf, hnone, hb, not_true_eq_false, if_false, if_true, and_self]

/-- A beat in sequence joins a frame that it does not complete. -/
theorem State.hingeBeat_joins (hf : s.framing p = true) (hsome : (s.link p).rxBeats ≠ []) (hb : b.index.toNat = (s.link p).rxBeats.length)
    (hlt : (s.link p).rxBeats.length < 3) : s.hingeBeat p stamp b = s.modLink p fun l => { l with rxBeats := l.rxBeats ++ [b] } := by
  unfold State.hingeBeat
  simp only [hf, hsome, hb, hlt, not_true_eq_false, ne_eq, if_false, if_true]

/-- The fourth beat completes it. -/
theorem State.hingeBeat_completes (hf : s.framing p = true) (hsome : (s.link p).rxBeats ≠ [])
    (hb : b.index.toNat = (s.link p).rxBeats.length) (hlt : ¬ (s.link p).rxBeats.length < 3) :
    s.hingeBeat p stamp b = (s.modLink p fun l => { l with rxBeats := [] }).frameIn p (s.link p).rxStamp
      (beatsFrame ((s.link p).rxBeats ++ [b])) [] [] := by
  unfold State.hingeBeat
  simp only [hf, hsome, hb, hlt, not_true_eq_false, ne_eq, if_false]

end

/-- Four beats in sequence complete a frame. -/
theorem State.hingeBeats_frame {a b c d : HingeBeat} {k0 k1 k2 k3 : Nat} (hf : s.framing p = true) (hnone : (s.link p).rxBeats = [])
    (ha : a.index = 0) (hb : b.index = 1) (hc : c.index = 2) (hd : d.index = 3) :
    ∃ v, (((s.hingeBeat p k0 a).hingeBeat p k1 b).hingeBeat p k2 c).hingeBeat p k3 d = v.frameIn p k0 (beatsFrame [a, b, c, d]) [] [] ∧
      s.OnLink p ((s.link p).received (s.link p).rxFec [] k0) v := by
  have h0 := (State.OnLink.refl p s).modLink fun l => { l with rxBeats := [a], rxStamp := k0 }
  have h1 := h0.modLink fun l => { l with rxBeats := l.rxBeats ++ [b] }
  have h2 := h1.modLink fun l => { l with rxBeats := l.rxBeats ++ [c] }
  rw [State.hingeBeat_begins hf hnone ha,
    State.hingeBeat_joins ((h0.framing rfl).trans hf) (by rw [h0.link]; simp) (by rw [h0.link, hb]; rfl)
      (by rw [h0.link]; exact (by decide : (1 : Nat) < 3)),
    State.hingeBeat_joins ((h1.framing rfl).trans hf) (by rw [h1.link]; simp) (by rw [h1.link, hc]; rfl)
      (by rw [h1.link]; exact (by decide : (2 : Nat) < 3)),
    State.hingeBeat_completes ((h2.framing rfl).trans hf) (by rw [h2.link]; simp) (by rw [h2.link, hd]; rfl)
      (by rw [h2.link]; exact (by decide : ¬ (3 : Nat) < 3))]
  refine ⟨_, ?_, h2.modLink fun l => { l with rxBeats := [] }⟩
  rw [h2.link]
  rfl

theorem State.arriving_beats {beats : List HingeBeat} (h : s.arriving p (.hinge beats) = some fr) :
    ∃ a b c d, beats = [a, b, c, d] ∧ (s.link p).rxBeats = [] ∧ (a.index = 0 ∧ b.index = 1 ∧ c.index = 2 ∧ d.index = 3) ∧
      beatsFrame [a, b, c, d] = fr := by
  unfold State.arriving at h
  split at h
  · cases ‹RxFrame.hinge beats = RxFrame.gate _ _›
  · rename_i a b c d hbeats _
    cases hbeats
    obtain ⟨⟨hnone, hindex⟩, hframe⟩ := Option.ite_none_right_eq_some.mp h
    exact ⟨a, b, c, d, rfl, hnone, hindex, Option.some.inj hframe⟩
  · cases h

/-- FRAME_RECEIVE of what completes a frame checks that frame. -/
theorem frameReceive_frame {q : Port} (hf : s.framing q.val = true) (ha : s.arriving q.val rx = some fr) :
    ∃ v stamp words spare fec beats n, frameReceive q rx x s = v.frameIn q.val stamp fr words spare ∧
      s.OnLink q.val ((s.link q.val).received fec beats n) v := by
  cases rx with
  | gate words spare =>
    by_cases hq : q.val < 8
    · simp only [State.arriving, hq, decide_true] at ha
      obtain ⟨fec, hv⟩ := s.takeFrame_onLink q.val (words.map (·.map BitVec.toNat))
      refine ⟨_, s.crossTime q.val { x with ago := BitVec.ofNat 16 (x.ago.toNat - 0) } true, words.map (·.map BitVec.toNat),
        spare.map (·.map BitVec.toNat), fec, (s.link q.val).rxBeats, (s.link q.val).rxStamp, ?_, hv⟩
      unfold frameReceive
      simp only [hq, decide_true, hf, not_true_eq_false, if_false]
      generalize s.takeFrame q.val (words.map (·.map BitVec.toNat)) = y at *
      obtain ⟨y, v⟩ := y
      subst ha
      rfl
    · simp [State.arriving, hq] at ha
  | hinge beats =>
    by_cases hq : q.val < 8
    · simp [State.arriving, hq] at ha
    · obtain ⟨a, b, c, d, rfl, hnone, hindex, rfl⟩ := State.arriving_beats ha
      obtain ⟨h0, h1, h2, h3⟩ := hindex
      have hbeats (k0 k1 k2 k3 : Nat) := State.hingeBeats_frame (k0 := k0) (k1 := k1) (k2 := k2) (k3 := k3) hf hnone h0 h1 h2 h3
      unfold frameReceive
      simp only [hq, decide_false, List.zipIdx_cons, List.zipIdx_nil, List.foldl_cons, List.foldl_nil]
      obtain ⟨v, hin, hv⟩ := hbeats _ _ _ _
      exact ⟨v, _, _, _, _, _, _, hin, hv⟩

end

end Sys2Proof.Machine

namespace Sys2Proof.Machine

/-! ## Frames that fail a check (R322, R324, R341) -/

/-- A link after a frame whose first failing check is `check` (0: none), with the next number (R322, R324). -/
def Link.numbered (l : Link) (check next : Nat) : Link :=
  { l with rxFseq := next, rxSync := l.rxSync || check == 0, fseqFails := if check = 3 then l.fseqFails else 0,
           authFails := if check = 4 ∨ check = 5 then l.authFails else 0 }

/-- The number expected after a frame. -/
def Link.nextNumber (l : Link) (fr : Frame) : Nat :=
  ((if l.rxSync ∨ fr.uncorrected then l.rxFseq else bits fr.trailer.toNat 32 32) + 1) % 2 ^ 32

/-- What a good frame does once it has been numbered (R322, R325, R336). -/
def State.goodFrame (s : State) (p stamp trailer : Nat) (body : List Flit) (words onSpare : List (List Nat)) : State :=
  let s := s.count p 1
  let s := if p < 8 then (s.watchCountdown p trailer words onSpare).trailerLanes p trailer else s
  let s := if s.portState p = 5 ∧ bit trailer 16 ∧ (s.on (R.SECURITY_TX_ARMED p) ∨ s.on (R.SECURITY_TX_CUR_VALID p)) then s.toReady p else s
  s.bodyIn p stamp trailer body

section
variable {W : Fld → Prop} {p : Nat} {l k : Link} {s t u v : State} {fr : Frame} {rx : RxFrame} {x : Crossing} {q : Port} {c : Nat}
  {body : List Flit} {stamp : Nat} {words spare : List (List Nat)}

theorem State.rxKeySwitch_none (h : (s.link p).rxSwitch = none) : s.rxKeySwitch p = s := by
  unfold State.rxKeySwitch
  dsimp only
  rw [h]

theorem State.frameIn_eq (hsw : (s.link p).rxSwitch = none) (hc : s.checkFrame p fr = (c, body)) :
    s.frameIn p stamp fr words spare =
      if c ≠ 0 then (s.modLink p fun l => l.numbered c ((s.link p).nextNumber fr)).frameFails p c
      else (s.modLink p fun l => l.numbered c ((s.link p).nextNumber fr)).goodFrame p stamp fr.trailer.toNat body words spare := by
  unfold State.frameIn
  dsimp only
  rw [State.rxKeySwitch_none hsw, hc]
  rfl

/-- A check reads registers and the receiver's numbering and keys. -/
theorem State.OnLink.checkFrame (h : s.OnLink p l t) (hsync : l.rxSync = (s.link p).rxSync) (hfseq : l.rxFseq = (s.link p).rxFseq)
    (hkeys : l.rxKeys = (s.link p).rxKeys) (fr : Frame) : t.checkFrame p fr = s.checkFrame p fr := by
  unfold State.checkFrame
  simp only [h.rd, h.link, hsync, hfseq, hkeys]

/-- A frame that arrives is numbered, and is discarded or released. -/
theorem frameReceive_checks (hf : s.framing q.val = true) (hsw : (s.link q.val).rxSwitch = none) (ha : s.arriving q.val rx = some fr)
    (hc : s.checkFrame q.val fr = (c, body)) :
    ∃ w stamp words spare fec beats n,
      s.OnLink q.val (((s.link q.val).received fec beats n).numbered c ((s.link q.val).nextNumber fr)) w ∧
      frameReceive q rx x s = if c ≠ 0 then w.frameFails q.val c else w.goodFrame q.val stamp fr.trailer.toNat body words spare := by
  obtain ⟨v, stamp, words, spare, fec, beats, n, hin, hv⟩ := frameReceive_frame (x := x) hf ha
  refine ⟨_, stamp, words, spare, fec, beats, n, hv.modLink fun l => l.numbered c ((s.link q.val).nextNumber fr), hin.trans ?_⟩
  rw [State.frameIn_eq (by rw [hv.link]; exact hsw) ((hv.checkFrame rfl rfl rfl fr).trans hc), hv.link]
  rfl

/-! ### What a discarded frame leaves -/

/-- A link whose frame has been discarded (R326). -/
def Link.dropped (l : Link) (p : Nat) : Link :=
  { l with asm := none, torn := true, rxCount := 0, rxSlot := l.rxSlot.map (fun (k, n) => (k, n + bodyLen p)) }

/-- A frame is discarded: its record, its status bit and its count. -/
def State.frameDropped (s : State) (p check : Nat) (flag : Fld) (event : Nat) : State :=
  (((s.logErr 1 0 0 p none 0 0 check).modLink p fun l => l.dropped p).wr flag 1).count p event

theorem State.frameDropped_spec (s : State) (p check event : Nat) {flag : Fld} (hflag : laneRegs p flag) (hw : 1 ≤ flag.width)
    (hb : flag.lo + flag.width ≤ 32) :
    s.OnPort (laneRegs p) p ((s.link p).dropped p) (s.frameDropped p check flag event) ∧
      (s.frameDropped p check flag event).rd flag = 1 := by
  have hdrop := ((State.OnPort.refl (laneRegs p) p s).logErr 1 0 0 p none 0 0 check).modLink fun l => l.dropped p
  refine ⟨(hdrop.wr flag 1 (.inl hflag)).count p event, (State.rd_wr_self _ flag 1 hb).trans (Nat.mod_eq_of_lt ?_)⟩
  exact Nat.lt_of_lt_of_le (by decide) (Nat.pow_le_pow_right (by decide) hw)

theorem laneRegs_off {g : Fld} (hg : laneRegs p g) : g.addr ≠ 0x10 := exitRegs_off (p := p) (.inr (.inr (.inl hg)))

/-- The frames that checks 1 and 2 have failed lately (R341). -/
def State.badTimesOf (s : State) (l : Link) : List Nat := (l.badTimes ++ [s.now]).filter fun t => decide (s.now < t + 100 * usLsb)

theorem State.frameFails_eq (s : State) (p c : Nat) : s.frameFails p c =
    if c ≤ 2 then
      let u := s.frameDropped p c (R.GATE_STATUS_UNCORR p) 2
      let v := u.modLink p fun l => { l with badTimes := u.badTimesOf (u.link p) }
      if (u.badTimesOf (u.link p)).length > 1024 ∧ v.portReady p then v.exitPort p 7 8 true else v
    else if c = 3 then
      let u := s.frameDropped p c (R.GATE_STATUS_FSEQ_ERR p) 3
      let v := u.modLink p fun l => { l with fseqFails := (u.link p).fseqFails + 1 }
      if (u.link p).fseqFails + 1 ≥ 4 ∧ v.portReady p then v.exitPort p 8 8 true else v
    else
      let u := s.frameDropped p c (R.GATE_STATUS_AUTH_FAIL p) 4
      let v := u.modLink p fun l => { l with authFails := (u.link p).authFails + 1 }
      if (u.link p).authFails + 1 ≥ 64 ∧ v.portReady p then v.exitPort p 12 8 true else v := rfl

/-- A field of the port's status that a failing check sets. -/
theorem statusFlag_lane {w lo : Nat} (hlo : 16 ≤ lo) : laneRegs p ⟨0x10004 + p * 0x10000, lo, w, false⟩ := .inr (.inr ⟨rfl, rfl, hlo⟩)

/-- Checks 1 and 2. -/
theorem State.frameFails_uncorr (s : State) (p : Nat) (hc : c ≤ 2) (hlen : (s.link p).badTimes.length < 1024) :
    ∃ times, s.OnPort (laneRegs p) p { ((s.link p).dropped p) with badTimes := times } (s.frameFails p c) ∧
      (s.frameFails p c).rd (R.GATE_STATUS_UNCORR p) = 1 := by
  obtain ⟨hdrop, hflag⟩ := s.frameDropped_spec p c 2 (flag := R.GATE_STATUS_UNCORR p) (statusFlag_lane (by decide)) (Nat.le_refl 1)
    (by decide : 19 + 1 ≤ 32)
  rw [State.frameFails_eq, if_pos hc]
  generalize s.frameDropped p c (R.GATE_STATUS_UNCORR p) 2 = u at *
  dsimp only
  have hfew : ¬ (u.badTimesOf (u.link p)).length > 1024 := by
    have hle : (u.badTimesOf (u.link p)).length ≤ ((u.link p).badTimes ++ [u.now]).length := List.length_filter_le _ _
    rw [hdrop.link, List.length_append] at hle
    have hsame : ((s.link p).dropped p).badTimes.length = (s.link p).badTimes.length := rfl
    rw [hdrop.link]
    simp only [List.length_cons, List.length_nil] at hle
    omega
  rw [if_neg fun h => hfew h.1]
  exact ⟨_, hdrop.modLink fun l => { l with badTimes := u.badTimesOf (u.link p) }, hflag⟩

/-- Check 3. -/
theorem State.frameFails_fseq (s : State) (p : Nat) : ∃ v,
    s.OnPort (laneRegs p) p { ((s.link p).dropped p) with fseqFails := (s.link p).fseqFails + 1 } v ∧ v.rd (R.GATE_STATUS_FSEQ_ERR p) = 1 ∧
      s.frameFails p 3 = if (s.link p).fseqFails + 1 ≥ 4 ∧ v.portReady p then v.exitPort p 8 8 true else v := by
  obtain ⟨hdrop, hflag⟩ := s.frameDropped_spec p 3 3 (flag := R.GATE_STATUS_FSEQ_ERR p) (statusFlag_lane (by decide)) (Nat.le_refl 1)
    (by decide : 21 + 1 ≤ 32)
  rw [State.frameFails_eq, if_neg (by decide), if_pos rfl]
  generalize s.frameDropped p 3 (R.GATE_STATUS_FSEQ_ERR p) 3 = u at *
  have hfails : (u.link p).fseqFails = (s.link p).fseqFails := by rw [hdrop.link, Link.dropped]
  have hv := hdrop.modLink fun l => { l with fseqFails := (u.link p).fseqFails + 1 }
  dsimp only
  rw [hfails] at hv ⊢
  exact ⟨_, hv, hflag, rfl⟩

/-- Checks 4 and 5. -/
theorem State.frameFails_auth (s : State) (p : Nat) (hc : c = 4 ∨ c = 5) : ∃ v,
    s.OnPort (laneRegs p) p { ((s.link p).dropped p) with authFails := (s.link p).authFails + 1 } v ∧ v.rd (R.GATE_STATUS_AUTH_FAIL p) = 1 ∧
      s.frameFails p c = if (s.link p).authFails + 1 ≥ 64 ∧ v.portReady p then v.exitPort p 12 8 true else v := by
  obtain ⟨hdrop, hflag⟩ := s.frameDropped_spec p c 4 (flag := R.GATE_STATUS_AUTH_FAIL p) (statusFlag_lane (by decide)) (Nat.le_refl 1)
    (by decide : 20 + 1 ≤ 32)
  rw [State.frameFails_eq, if_neg (by omega), if_neg (by omega)]
  generalize s.frameDropped p c (R.GATE_STATUS_AUTH_FAIL p) 4 = u at *
  have hfails : (u.link p).authFails = (s.link p).authFails := by rw [hdrop.link, Link.dropped]
  have hv := hdrop.modLink fun l => { l with authFails := (u.link p).authFails + 1 }
  dsimp only
  rw [hfails] at hv ⊢
  exact ⟨_, hv, hflag, rfl⟩

end

end Sys2Proof.Machine

namespace Sys2Proof.Machine

section
variable {p : Nat} {l k : Link} {s t u v : State} {fr : Frame} {rx : RxFrame} {x : Crossing} {q : Port} {c : Nat} {body : List Flit}

/-- FRAME_RECEIVE that leaves port and router as they are. -/
theorem exec_frameReceive_stays (hidle : s.idle = false) (hb : frameReceive q rx x { s with out := [] } = u)
    (hu : ({ s with out := [] } : State).OnPort (laneRegs q.val) q.val k u) :
    ∃ t, exec (.frameReceive q ⟨rx, x⟩) s = .next t ∧ (∀ f, t.rd f = u.rd f) ∧ t.portState q.val = s.portState q.val ∧ t.link q.val = k ∧
      t.core.resp = s.core.resp ∧ t.core.router = s.core.router := by
  obtain ⟨t, ht, hshown⟩ := portCmd_shown (body := frameReceive q rx x) hidle hb ((hu.moved.off fun g hg => laneRegs_off hg).trans
    (State.off_of_idle hidle))
  refine ⟨t, ht, hshown.rd, (hshown.portState _).trans (hu.moved.portState q.isLt fun g hg => laneRegs_apart_state q.isLt (.inr hg)),
    (hshown.link _).trans hu.link, ?_, ?_⟩
  · rw [hshown.core, hu.core]
  · rw [hshown.core, hu.core]

/-- FRAME_RECEIVE that takes the port out of service. -/
theorem exec_frameReceive_exits {cause : Nat} (hidle : s.idle = false) (hcause : cause < 16)
    (hb : frameReceive q rx x { s with out := [] } = v.exitPort q.val cause 8 true)
    (hv : ({ s with out := [] } : State).OnPort (laneRegs q.val) q.val k v) :
    ∃ t, exec (.frameReceive q ⟨rx, x⟩) s = .next t ∧ t.portState q.val = 8 ∧ t.rd (R.GATE_STATUS_CAUSE q.val) = cause := by
  have hexit := v.exitPort_exited q.isLt hcause (next := 8) (by decide) true
  obtain ⟨t, ht, hshown⟩ := portCmd_shown (body := frameReceive q rx x) hidle hb ((hexit.moved.off fun g hg => exitRegs_off hg).trans
    ((hv.moved.off fun g hg => laneRegs_off hg).trans (State.off_of_idle hidle)))
  exact ⟨t, ht, (hshown.portState _).trans hexit.state, (hshown.rd _).trans hexit.cause⟩

theorem State.takeFrame_fst (s : State) (p : Nat) (words : List (List Nat)) :
    (s.takeFrame p words).1 = (takeBits 32768 ((s.link p).rxFec ++ (words.map (wordPiece (s.on (R.GATE_NEG_SHORT p)))).map (·.1))).map
      fun y => ⟨(List.range 64).map (fun i => BitVec.ofNat 512 (bits y.1 (512 * i) 512)), BitVec.ofNat 512 (bits y.1 (512 * 63) 512), y.2.1,
        ((words.map (wordPiece (s.on (R.GATE_NEG_SHORT p)))).filter (·.2)).length⟩ := by
  have hlink (n : Nat) : (s.countN p 5 n).link p = s.link p := rfl
  unfold State.takeFrame
  dsimp only
  rw [hlink]
  generalize takeBits 32768 _ = y
  cases y <;> rfl

theorem State.arriving_outputs (s : State) : State.arriving { s with out := [] } = s.arriving := by
  funext p rx
  unfold State.arriving
  simp only [State.takeFrame_fst]
  rfl

/-- A frame that fails a check is numbered and fails. -/
theorem frameReceive_fails (hf : s.framing q.val = true) (hsw : (s.link q.val).rxSwitch = none) (ha : s.arriving q.val rx = some fr)
    (hc : s.checkFrame q.val fr = (c, body)) (hne : c ≠ 0) : ∃ w fec beats n,
      ({ s with out := [] } : State).OnLink q.val (((s.link q.val).received fec beats n).numbered c ((s.link q.val).nextNumber fr)) w ∧
      frameReceive q rx x { s with out := [] } = w.frameFails q.val c := by
  obtain ⟨w, _, _, _, fec, beats, n, hw, hb⟩ := frameReceive_checks (s := { s with out := [] }) (rx := rx) (fr := fr) (x := x) hf hsw
    (s.arriving_outputs ▸ ha) hc
  exact ⟨w, fec, beats, n, hw, hb.trans (if_pos hne)⟩

theorem exec_frameReceive_uncorr (hidle : s.idle = false) (hf : s.framing q.val = true) (hsw : (s.link q.val).rxSwitch = none)
    (ha : s.arriving q.val rx = some fr) (hc : s.checkFrame q.val fr = (c, body)) (h12 : c = 1 ∨ c = 2)
    (hlen : (s.link q.val).badTimes.length < 1024) :
    ∃ t, exec (.frameReceive q ⟨rx, x⟩) s = .next t ∧ t.rd (R.GATE_STATUS_UNCORR q.val) = 1 ∧ t.portState q.val = s.portState q.val ∧
      (t.link q.val).asm = none ∧ t.core.resp = s.core.resp ∧ t.core.router = s.core.router := by
  obtain ⟨w, fec, beats, n, hw, hb⟩ := frameReceive_fails (x := x) hf hsw ha hc (by omega)
  obtain ⟨times, hfail, hflag⟩ := w.frameFails_uncorr q.val (c := c) (by omega) (by rw [hw.link]; exact hlen)
  obtain ⟨t, ht, hrd, hstate, hlink, hresp, hrouter⟩ := exec_frameReceive_stays hidle hb (hw.onPort.trans hfail)
  exact ⟨t, ht, (hrd _).trans hflag, hstate, by rw [hlink]; rfl, hresp, hrouter⟩

theorem exec_frameReceive_fseq (hidle : s.idle = false) (hf : s.framing q.val = true) (hsw : (s.link q.val).rxSwitch = none)
    (ha : s.arriving q.val rx = some fr) (hc : s.checkFrame q.val fr = (c, body)) (h3 : c = 3) (hlt : (s.link q.val).fseqFails + 1 < 4) :
    ∃ t, exec (.frameReceive q ⟨rx, x⟩) s = .next t ∧ t.rd (R.GATE_STATUS_FSEQ_ERR q.val) = 1 ∧ t.portState q.val = s.portState q.val ∧
      (t.link q.val).fseqFails = (s.link q.val).fseqFails + 1 ∧ t.core.resp = s.core.resp ∧ t.core.router = s.core.router := by
  subst h3
  obtain ⟨w, fec, beats, n, hw, hb⟩ := frameReceive_fails (x := x) hf hsw ha hc (by decide)
  obtain ⟨v, hfail, hflag, heq⟩ := w.frameFails_fseq q.val
  have hfails : (w.link q.val).fseqFails = (s.link q.val).fseqFails := by rw [hw.link]; rfl
  rw [heq, hfails, if_neg (by omega)] at hb
  obtain ⟨t, ht, hrd, hstate, hlink, hresp, hrouter⟩ := exec_frameReceive_stays hidle hb (hw.onPort.trans hfail)
  exact ⟨t, ht, (hrd _).trans hflag, hstate, by rw [hlink]; exact congrArg (· + 1) hfails, hresp, hrouter⟩

theorem exec_frameReceive_fseq_exits (hidle : s.idle = false) (hf : s.framing q.val = true) (hsw : (s.link q.val).rxSwitch = none)
    (ha : s.arriving q.val rx = some fr) (hc : s.checkFrame q.val fr = (c, body)) (h3 : c = 3) (hge : 4 ≤ (s.link q.val).fseqFails + 1)
    (hr : s.portReady q.val = true) :
    ∃ t, exec (.frameReceive q ⟨rx, x⟩) s = .next t ∧ t.portState q.val = 8 ∧ t.rd (R.GATE_STATUS_CAUSE q.val) = 8 := by
  subst h3
  obtain ⟨w, fec, beats, n, hw, hb⟩ := frameReceive_fails (x := x) hf hsw ha hc (by decide)
  obtain ⟨v, hfail, -, heq⟩ := w.frameFails_fseq q.val
  have hfails : (w.link q.val).fseqFails = (s.link q.val).fseqFails := by rw [hw.link]; rfl
  have hv := hw.onPort.trans hfail
  have hready : v.portReady q.val = true := (hv.moved.portReady q.isLt fun g hg => laneRegs_apart_state q.isLt (.inr hg)).trans hr
  rw [heq, hfails, if_pos ⟨hge, hready⟩] at hb
  exact exec_frameReceive_exits hidle (by decide) hb hv

theorem exec_frameReceive_auth (hidle : s.idle = false) (hf : s.framing q.val = true) (hsw : (s.link q.val).rxSwitch = none)
    (ha : s.arriving q.val rx = some fr) (hc : s.checkFrame q.val fr = (c, body)) (h45 : c = 4 ∨ c = 5)
    (hlt : (s.link q.val).authFails + 1 < 64) :
    ∃ t, exec (.frameReceive q ⟨rx, x⟩) s = .next t ∧ t.rd (R.GATE_STATUS_AUTH_FAIL q.val) = 1 ∧ t.portState q.val = s.portState q.val ∧
      (t.link q.val).authFails = (s.link q.val).authFails + 1 ∧ t.core.resp = s.core.resp ∧ t.core.router = s.core.router := by
  obtain ⟨w, fec, beats, n, hw, hb⟩ := frameReceive_fails (x := x) hf hsw ha hc (by omega)
  obtain ⟨v, hfail, hflag, heq⟩ := w.frameFails_auth q.val h45
  have hfails : (w.link q.val).authFails = (s.link q.val).authFails := by rw [hw.link]; exact if_pos h45
  rw [heq, hfails, if_neg (by omega)] at hb
  obtain ⟨t, ht, hrd, hstate, hlink, hresp, hrouter⟩ := exec_frameReceive_stays hidle hb (hw.onPort.trans hfail)
  exact ⟨t, ht, (hrd _).trans hflag, hstate, by rw [hlink]; exact congrArg (· + 1) hfails, hresp, hrouter⟩

theorem exec_frameReceive_auth_exits (hidle : s.idle = false) (hf : s.framing q.val = true) (hsw : (s.link q.val).rxSwitch = none)
    (ha : s.arriving q.val rx = some fr) (hc : s.checkFrame q.val fr = (c, body)) (h45 : c = 4 ∨ c = 5)
    (hge : 64 ≤ (s.link q.val).authFails + 1) (hr : s.portReady q.val = true) :
    ∃ t, exec (.frameReceive q ⟨rx, x⟩) s = .next t ∧ t.portState q.val = 8 ∧ t.rd (R.GATE_STATUS_CAUSE q.val) = 12 := by
  obtain ⟨w, fec, beats, n, hw, hb⟩ := frameReceive_fails (x := x) hf hsw ha hc (by omega)
  obtain ⟨v, hfail, -, heq⟩ := w.frameFails_auth q.val h45
  have hfails : (w.link q.val).authFails = (s.link q.val).authFails := by rw [hw.link]; exact if_pos h45
  have hv := hw.onPort.trans hfail
  have hready : v.portReady q.val = true := (hv.moved.portReady q.isLt fun g hg => laneRegs_apart_state q.isLt (.inr hg)).trans hr
  rw [heq, hfails, if_pos ⟨hge, hready⟩] at hb
  exact exec_frameReceive_exits hidle (by decide) hb hv

/-! ### A hinge's beat out of sequence (R440) -/

/-- A beat out of sequence ends the frame being assembled; a beat 0 begins another. -/
theorem State.hingeBeat_breaks {b : HingeBeat} {stamp : Nat} (hf : s.framing p = true) (hsome : (s.link p).rxBeats ≠ [])
    (hb : b.index.toNat ≠ (s.link p).rxBeats.length) :
    s.hingeBeat p stamp b =
      let v := (s.modLink p fun l => { l with rxBeats := [] }).frameIn p (s.link p).rxStamp ⟨[], 0, true, 0⟩ [] []
      if v.framing p ∧ b.index = 0 then v.modLink p fun l => { l with rxBeats := [b], rxStamp := stamp } else v := by
  unfold State.hingeBeat
  simp only [hf, hsome, hb, not_true_eq_false, ne_eq, not_false_eq_true, if_false, if_true]

theorem exec_frameReceive_breaks {b : HingeBeat} (hidle : s.idle = false) (hf : s.framing q.val = true)
    (hsw : (s.link q.val).rxSwitch = none) (hh : 8 ≤ q.val) (hsome : (s.link q.val).rxBeats ≠ [])
    (hb : b.index.toNat ≠ (s.link q.val).rxBeats.length) (hlen : (s.link q.val).badTimes.length < 1024) :
    ∃ t, exec (.frameReceive q ⟨.hinge [b], x⟩) s = .next t ∧ t.rd (R.GATE_STATUS_UNCORR q.val) = 1 ∧
      t.portState q.val = s.portState q.val ∧ (t.link q.val).rxBeats = (if b.index = 0 then [b] else []) ∧
      t.core.resp = s.core.resp ∧ t.core.router = s.core.router := by
  have hempty := (State.OnLink.refl q.val { s with out := [] }).modLink fun l => { l with rxBeats := [] }
  have hbody := (State.hingeBeat_breaks (s := { s with out := [] }) (stamp := State.crossTime { s with out := [] } q.val
    { x with ago := BitVec.ofNat 16 (x.ago.toNat - 0) } true) hf hsome hb)
  generalize State.modLink { s with out := [] } q.val (fun l => { l with rxBeats := [] }) = w at *
  have hcheck : w.checkFrame q.val ⟨[], 0, true, 0⟩ = (2, []) := by
    simp [State.checkFrame, show ¬ q.val < 8 by omega]
  have hnum := hempty.modLink fun l => l.numbered 2 ((w.link q.val).nextNumber ⟨[], 0, true, 0⟩)
  have hin : w.frameIn q.val (State.link { s with out := [] } q.val).rxStamp ⟨[], 0, true, 0⟩ [] [] =
      (w.modLink q.val fun l => l.numbered 2 ((w.link q.val).nextNumber ⟨[], 0, true, 0⟩)).frameFails q.val 2 :=
    (State.frameIn_eq (by rw [hempty.link]; exact hsw) hcheck).trans (if_pos (by decide))
  generalize (w.modLink q.val fun l => l.numbered 2 ((w.link q.val).nextNumber ⟨[], 0, true, 0⟩)) = y at *
  obtain ⟨times, hfail, hflag⟩ := y.frameFails_uncorr q.val (c := 2) (by decide) (by rw [hnum.link]; exact hlen)
  rw [hin] at hbody
  generalize y.frameFails q.val 2 = v at *
  have hv := hnum.onPort.trans hfail
  rw [hnum.link] at hv
  have hframing : v.framing q.val = true := by
    rw [State.framing, hv.moved.portState q.isLt fun g hg => laneRegs_apart_state q.isLt (.inr hg), hv.link]
    exact hf
  have hreceive : frameReceive q (.hinge [b]) x { s with out := [] } = State.hingeBeat { s with out := [] } q.val
      (State.crossTime { s with out := [] } q.val { x with ago := BitVec.ofNat 16 (x.ago.toNat - 0) } true) b := by
    unfold frameReceive
    simp only [show ¬ q.val < 8 by omega, decide_false, List.zipIdx_cons, List.zipIdx_nil, List.foldl_cons, List.foldl_nil]
  simp only [hframing, true_and] at hbody
  by_cases h0 : b.index = 0
  · rw [if_pos h0] at hbody
    obtain ⟨t, ht, hrd, hstate, hlink, hresp, hrouter⟩ := exec_frameReceive_stays hidle (hreceive.trans hbody) (hv.modLink _)
    exact ⟨t, ht, (hrd _).trans hflag, hstate, by rw [hlink, if_pos h0], hresp, hrouter⟩
  · rw [if_neg h0] at hbody
    obtain ⟨t, ht, hrd, hstate, hlink, hresp, hrouter⟩ := exec_frameReceive_stays hidle (hreceive.trans hbody) hv
    exact ⟨t, ht, (hrd _).trans hflag, hstate, by rw [hlink, if_neg h0]; rfl, hresp, hrouter⟩

end

end Sys2Proof.Machine

namespace Sys2Proof.Machine

/-! ## Good frames (R322, R326) -/

section
variable {p : Nat} {l k : Link} {s t u v : State} {fr : Frame} {rx : RxFrame} {x : Crossing} {q : Port} {c : Nat} {body : List Flit}
  {f : Flit} {stamp trailer : Nat} {words spare : List (List Nat)}

/-! ### A trailer that says nothing new (R336-R339) -/

theorem State.watchCountdown_quiet (h : bits trailer 64 8 = 0 ∨ (s.link p).rxCount < 3 ∧ (s.link p).spareBad ≠ some true) :
    s.watchCountdown p trailer words spare = s.modLink p fun l => { l with rxCount := bits trailer 64 8, rxNext := bits trailer 28 4 } := by
  have hdiffers : decide (3 ≤ (s.link p).rxCount ∧ 2 ≤ bits trailer 64 8) = false := decide_eq_false (by omega)
  have htired : (decide ((s.link p).rxCount = 0 ∧ bits trailer 64 8 ≠ 0) && (s.link p).spareBad == some true) = false := by
    rcases h with h | ⟨-, h⟩
    · simp [h]
    · simp [h]
  unfold State.watchCountdown
  simp only [hdiffers, htired, Bool.false_and, Bool.false_eq_true, or_self, and_false, if_false]

theorem State.trailerLanes_quiet (h6 : s.portState p = 6) (hwidth : (s.link p).rxWidth = none) (hfail : (s.link p).failSent = none)
    (hspare : bits trailer 24 4 = s.rd (R.GATE_LANES_RX_SPARE p)) : s.trailerLanes p trailer = s := by
  have hr : s.portReady p = true := by rw [State.portReady, h6]; rfl
  unfold State.trailerLanes
  simp only [hwidth, hfail, hspare, hr, Option.isSome_none, Bool.false_eq_true, false_and, not_true_eq_false, if_false, if_true]
  exact State.widthCheck_still (by rw [h6]; decide)

/-- A good frame of a port in READY whose trailer says nothing new is its body. -/
theorem State.goodFrame_quiet (h6 : s.portState p = 6) (hquiet : s.trailerQuiet p trailer) :
    ∃ a b v, s.OnLink p { (s.link p) with rxCount := a, rxNext := b } v ∧
      s.goodFrame p stamp trailer body words spare = v.bodyIn p stamp trailer body := by
  have hcount := (State.OnLink.refl p s).countN p 1 1
  have hwatch := hcount.modLink fun l => { l with rxCount := bits trailer 64 8, rxNext := bits trailer 28 4 }
  have hstill (v : State) (hv : v.portState p = 6) :
      (if v.portState p = 5 ∧ bit trailer 16 ∧ (v.on (R.SECURITY_TX_ARMED p) ∨ v.on (R.SECURITY_TX_CUR_VALID p)) then v.toReady p
        else v) = v :=
    if_neg fun h => absurd (hv.symm.trans h.1) (by decide)
  unfold State.goodFrame
  dsimp only
  by_cases hp : p < 8
  · obtain ⟨hwidth, hfail, hspare, hsteady⟩ := hquiet hp
    refine ⟨_, _, _, hwatch, ?_⟩
    have h6' := (hwatch.portState p).trans h6
    rw [if_pos hp, State.count, State.watchCountdown_quiet (s := s.countN p 1 1) hsteady,
      State.trailerLanes_quiet h6' (by rw [hwatch.link]; exact hwidth) (by rw [hwatch.link]; exact hfail) (by rw [hwatch.rd]; exact hspare),
      hstill _ h6']
  · refine ⟨(s.link p).rxCount, (s.link p).rxNext, _, hcount, ?_⟩
    rw [if_neg hp, State.count, hstill _ ((hcount.portState p).trans h6)]

/-! ### The body, position by position -/

/-- A slot mark before a position, if the trailer has one (R321, R326). -/
def State.markIn (s : State) (p trailer i : Nat) : State :=
  let mark := if bits trailer 96 6 = i ∧ i ≠ 63 then some (bits trailer 102 10)
    else if bits trailer 112 6 = i ∧ i ≠ 63 then some (bits trailer 118 10) else none
  match mark with
  | some k => s.modLink p (fun l => { l with rxSlot := some (k, 0) })
  | none => s

/-- The next position of the slot. -/
def State.stepSlot (s : State) (p : Nat) : State := s.modLink p (fun l => { l with rxSlot := l.rxSlot.map (fun (k, n) => (k, n + 1)) })

/-- One position of a good frame's body. -/
def State.posIn (p stamp trailer : Nat) (s : State) (x : Flit × Nat) : State :=
  let s := s.markIn p trailer x.2
  let kind := bits trailer (128 + 2 * x.2) 2
  let s := if kind = 1 then s.flitIn p stamp x.2 x.1 else if kind = 2 then s.lcfReceive p x.1 else s
  s.stepSlot p

theorem State.bodyIn_eq (s : State) (p stamp trailer : Nat) (body : List Flit) :
    s.bodyIn p stamp trailer body = (body.take (bodyLen p)).zipIdx.foldl (State.posIn p stamp trailer) s := rfl

theorem State.markIn_onLink (s : State) (p trailer i : Nat) : ∃ r, s.OnLink p { (s.link p) with rxSlot := r } (s.markIn p trailer i) := by
  unfold State.markIn
  dsimp only
  split
  · exact ⟨_, (State.OnLink.refl p s).modLink fun l => { l with rxSlot := some (_, 0) }⟩
  · exact ⟨_, .refl p s⟩

theorem State.OnLink.stepSlot (h : s.OnLink p l t) : ∃ r, s.OnLink p { l with rxSlot := r } (t.stepSlot p) :=
  ⟨_, h.modLink fun l => { l with rxSlot := l.rxSlot.map (fun (k, n) => (k, n + 1)) }⟩

/-- Positions that carry nothing move the slot alone. -/
theorem State.idlePositions_onLink (xs : List (Flit × Nat)) (hidle : ∀ x ∈ xs, bits trailer (128 + 2 * x.2) 2 = 0) (s : State) :
    ∃ r, s.OnLink p { (s.link p) with rxSlot := r } (xs.foldl (State.posIn p stamp trailer) s) := by
  induction xs generalizing s with
  | nil => exact ⟨_, .refl p s⟩
  | cons x xs ih =>
    obtain ⟨hx, hxs⟩ := List.forall_mem_cons.mp hidle
    obtain ⟨a, hmark⟩ := s.markIn_onLink p trailer x.2
    obtain ⟨b, hstep⟩ := hmark.stepSlot
    have hpos : State.posIn p stamp trailer s x = (s.markIn p trailer x.2).stepSlot p := by
      simp only [State.posIn, hx, OfNat.zero_ne_ofNat, zero_ne_one, if_false]
    obtain ⟨r, hrest⟩ := ih hxs (State.posIn p stamp trailer s x)
    rw [hpos] at hrest
    rw [hstep.link] at hrest
    rw [List.foldl_cons, hpos]
    exact ⟨r, hstep.trans hrest⟩

/-- A position of a body is one of the frame's. -/
theorem zipIdx_lt {x : Flit × Nat} {n : Nat} (hx : x ∈ body.zipIdx n) : n ≤ x.2 ∧ x.2 < n + body.length := by
  obtain ⟨f, i⟩ := x
  obtain ⟨hlo, hhi, -⟩ := List.mem_zipIdx hx
  exact ⟨hlo, hhi⟩

/-- A frame of idle positions moves the slot alone. -/
theorem State.bodyIn_idle (s : State) (hkinds : ∀ i < 64, bits trailer (128 + 2 * i) 2 = 0) :
    ∃ r, s.OnLink p { (s.link p) with rxSlot := r } (s.bodyIn p stamp trailer body) := by
  refine s.idlePositions_onLink _ fun x hx => hkinds _ ?_
  have hlt := (zipIdx_lt hx).2
  have hcap := bodyLen_le p
  rw [List.length_take] at hlt
  omega

/-! ### A LINK packet of one flit -/

theorem State.rxFlit_keeps (s : State) (p : Nat) (k : Packet) : (s.rxFlit p k).core.links = s.core.links ∧
    (s.rxFlit p k).core.resp = s.core.resp ∧ (s.rxFlit p k).core.router.queued = s.core.router.queued ∧ (s.rxFlit p k).off = s.off := by
  unfold State.rxFlit
  split
  · exact ⟨rfl, rfl, rfl, rfl⟩
  · exact ⟨rfl, rfl, rfl, rfl⟩

/-- READY takes a LINK packet outside a slot (R330). -/
theorem State.allowed_link {x : Packet} (hr : s.portReady p = true) (hc : x.cls = 0) (ht : x.type = 0) (htdm : x.tdm = false)
    (slot : Option (Nat × Nat)) : s.allowed p x slot = true := by
  simp [State.allowed, hr, hc, ht, htdm]

/-- A LINK packet of one flit whose header has come reaches the local units. -/
theorem State.asmDone_link {n : Nat} (hasm : (s.link p).asm = some ⟨f, n, 0, [], false⟩) (hc : (Packet.mk f []).cls = 0)
    (ht : (Packet.mk f []).type = 0) (hplen : (Packet.mk f []).plen = 0) (htdm : (Packet.mk f []).tdm = false) :
    (s.asmDone p).core.resp.inbox = s.core.resp.inbox ++ [⟨p, n, ⟨f, []⟩⟩] ∧ (s.asmDone p).core.router.queued = s.core.router.queued ∧
      (s.asmDone p).off = s.off := by
  have hdone : s.asmDone p = (s.setLink p { (s.link p) with asm := none }).deliver ⟨p, n, ⟨f, []⟩⟩ := by
    unfold State.asmDone
    simp only [hasm, ne_eq, not_true_eq_false, if_false, hplen, if_true, List.take_zero, Bool.false_eq_true]
    unfold State.packetIn
    simp only [hc, htdm, Packet.pinned, ht]
    rfl
  rw [hdone]
  exact ⟨rfl, rfl, rfl⟩

/-- A LINK packet of one flit reaches the local units. -/
theorem State.flitIn_link (hr : s.portReady p = true) (hasm : (s.link p).asm = none) (hok : headerOk ⟨f, []⟩ = true)
    (hc : (Packet.mk f []).cls = 0) (ht : (Packet.mk f []).type = 0) (hplen : (Packet.mk f []).plen = 0)
    (htdm : (Packet.mk f []).tdm = false) (frame pos : Nat) :
    ∃ n, (s.flitIn p frame pos f).core.resp.inbox = s.core.resp.inbox ++ [⟨p, n, ⟨f, []⟩⟩] ∧
      (s.flitIn p frame pos f).core.router.queued = s.core.router.queued ∧ (s.flitIn p frame pos f).off = s.off := by
  have hin : ∃ n, s.flitIn p frame pos f =
      ((s.modLink p fun l => { l with torn := false, asm := some ⟨f, n, 0, [], false⟩ }).rxFlit p ⟨f, []⟩).asmDone p := by
    unfold State.flitIn
    simp only [hasm, hok, s.allowed_link hr hc ht htdm, hc, ht, hplen, and_self, if_true, Nat.zero_ne_one, and_false, if_false]
    exact ⟨_, rfl⟩
  obtain ⟨n, hin⟩ := hin
  have hlink := State.link_modLink_self s p fun l => { l with torn := false, asm := some ⟨f, n, 0, [], false⟩ }
  obtain ⟨hlinks, hresp, hqueued, hoff⟩ := State.rxFlit_keeps
    (s.modLink p fun l => { l with torn := false, asm := some ⟨f, n, 0, [], false⟩ })
    p ⟨f, []⟩
  rw [hin]
  generalize (s.modLink p fun l => { l with torn := false, asm := some ⟨f, n, 0, [], false⟩ }).rxFlit p ⟨f, []⟩ = v at *
  obtain ⟨hinbox, hwait, hstill⟩ := State.asmDone_link (s := v) (n := n) (f := f) (p := p) (by
    rw [State.link, hlinks]
    exact congrArg Link.asm hlink) hc ht hplen htdm
  refine ⟨n, hinbox.trans ?_, hwait.trans hqueued, hstill.trans hoff⟩
  rw [hresp]
  rfl

/-- A body whose first position alone carries something, a LINK packet of one flit, hands it to the local units. -/
theorem State.bodyIn_link {rest : List Flit} (hr : s.portReady p = true) (hasm : (s.link p).asm = none) (hok : headerOk ⟨f, []⟩ = true)
    (hc : (Packet.mk f []).cls = 0) (ht : (Packet.mk f []).type = 0) (hplen : (Packet.mk f []).plen = 0)
    (htdm : (Packet.mk f []).tdm = false) (hfirst : bits trailer 128 2 = 1) (hkinds : ∀ i < 64, 0 < i → bits trailer (128 + 2 * i) 2 = 0) :
    ∃ n, (s.bodyIn p stamp trailer (f :: rest)).core.resp.inbox = s.core.resp.inbox ++ [⟨p, n, ⟨f, []⟩⟩] ∧
      (s.bodyIn p stamp trailer (f :: rest)).core.router.queued = s.core.router.queued ∧
      (s.bodyIn p stamp trailer (f :: rest)).off = s.off := by
  obtain ⟨r, hmark⟩ := s.markIn_onLink p trailer 0
  obtain ⟨n, hinbox, hqueued, hoff⟩ := State.flitIn_link (s := s.markIn p trailer 0) ((hmark.portReady p).trans hr)
    (by rw [hmark.link]; exact hasm) hok hc ht hplen htdm stamp 0
  have hpos : State.posIn p stamp trailer s (f, 0) = ((s.markIn p trailer 0).flitIn p stamp 0 f).stepSlot p := by
    simp only [State.posIn, Nat.mul_zero, Nat.add_zero, hfirst, if_true]
  have hcap : bodyLen p = bodyLen p - 1 + 1 := by
    unfold bodyLen
    split <;> rfl
  rw [State.bodyIn_eq, hcap, List.take_succ_cons, List.zipIdx_cons, List.foldl_cons, hpos]
  generalize (s.markIn p trailer 0).flitIn p stamp 0 f = v at *
  obtain ⟨a, hstep⟩ := (State.OnLink.refl p v).stepSlot
  obtain ⟨b, hrest⟩ := (v.stepSlot p).idlePositions_onLink (p := p) (stamp := stamp) (trailer := trailer)
    ((rest.take (bodyLen p - 1)).zipIdx (0 + 1)) fun x hx => by
      obtain ⟨hlo, hhi⟩ := zipIdx_lt hx
      have hle := bodyLen_le p
      rw [List.length_take] at hhi
      exact hkinds _ (by omega) (by omega)
  have hend := hstep.trans hrest
  refine ⟨n, ?_, ?_, hend.off.trans (hoff.trans hmark.off)⟩
  · rw [hend.resp, hinbox, hmark.resp]
  · rw [hend.router, hqueued, hmark.router]

/-! ### FRAME_RECEIVE of a good frame -/

/-- A good frame of a port in READY whose trailer says nothing new is numbered, and its body is released. -/
theorem frameReceive_good (hf : s.framing q.val = true) (hsw : (s.link q.val).rxSwitch = none) (ha : s.arriving q.val rx = some fr)
    (hc : s.checkFrame q.val fr = (0, body)) (h6 : s.portState q.val = 6) (hquiet : s.trailerQuiet q.val fr.trailer.toNat) :
    ∃ v l stamp, ({ s with out := [] } : State).OnLink q.val l v ∧ l.rxSync = true ∧ l.rxFseq = (s.link q.val).nextNumber fr ∧
      l.asm = (s.link q.val).asm ∧ frameReceive q rx x { s with out := [] } = v.bodyIn q.val stamp fr.trailer.toNat body := by
  obtain ⟨w, stamp, words, spare, fec, beats, n, hw, hb⟩ := frameReceive_checks (s := { s with out := [] }) (rx := rx) (fr := fr)
    (x := x) hf hsw
    (s.arriving_outputs ▸ ha) hc
  have hquiet' : w.trailerQuiet q.val fr.trailer.toNat := by
    intro hq
    obtain ⟨hwidth, hfail, hspare, hsteady⟩ := hquiet hq
    rw [hw.link, hw.rd]
    exact ⟨hwidth, hfail, hspare, hsteady⟩
  obtain ⟨a, b, v, hv, hgood⟩ := State.goodFrame_quiet (s := w) (stamp := stamp) (body := body) (words := words) (spare := spare)
    ((hw.portState _).trans h6) hquiet'
  have hend := hw.trans hv
  refine ⟨v, _, stamp, hend, ?_, ?_, ?_, (hb.trans (if_neg (by decide))).trans hgood⟩
  · rw [hw.link]
    exact Bool.or_true _
  · rw [hw.link]
    rfl
  · rw [hw.link]
    rfl

/-- Check 1 or 2 fails first where code words were not corrected. -/
theorem State.checkFrame_corrected (hc : s.checkFrame p fr = (0, body)) : fr.uncorrected = false := by
  cases h : fr.uncorrected with
  | false => rfl
  | true =>
    unfold State.checkFrame at hc
    simp only [h, if_true, Prod.mk.injEq] at hc
    split at hc <;> exact absurd hc.1 (by decide)

theorem exec_frameReceive_idle (hidle : s.idle = false) (hf : s.framing q.val = true) (hsw : (s.link q.val).rxSwitch = none)
    (ha : s.arriving q.val rx = some fr) (hc : s.checkFrame q.val fr = (c, body)) (h0 : c = 0) (h6 : s.portState q.val = 6)
    (hquiet : s.trailerQuiet q.val fr.trailer.toNat) (hkinds : ∀ i < 64, bits fr.trailer.toNat (128 + 2 * i) 2 = 0) :
    ∃ t, exec (.frameReceive q ⟨rx, x⟩) s = .next t ∧ (t.link q.val).rxSync = true ∧
      (t.link q.val).rxFseq = ((if (s.link q.val).rxSync then (s.link q.val).rxFseq else bits fr.trailer.toNat 32 32) + 1) % 2 ^ 32 ∧
      t.core.resp = s.core.resp ∧ t.core.router = s.core.router ∧ t.core.regs = s.core.regs ∧ t.core.rq = s.core.rq := by
  subst h0
  obtain ⟨v, l, stamp, hv, hsync, hfseq, -, hb⟩ := frameReceive_good (x := x) hf hsw ha hc h6 hquiet
  obtain ⟨r, hrest⟩ := v.bodyIn_idle (p := q.val) (stamp := stamp) (body := body) hkinds
  have hend := hv.trans hrest
  obtain ⟨t, ht, hshown⟩ := portCmd_shown (body := frameReceive q rx x) hidle hb (hend.off.trans (State.off_of_idle hidle))
  have hnumber : (s.link q.val).nextNumber fr =
      ((if (s.link q.val).rxSync then (s.link q.val).rxFseq else bits fr.trailer.toNat 32 32) + 1) % 2 ^ 32 := by
    simp only [Link.nextNumber, State.checkFrame_corrected hc, Bool.false_eq_true, or_false]
  refine ⟨t, ht, ?_, ?_, ?_, ?_, ?_, ?_⟩
  · rw [hshown.link, hrest.link, hv.link]
    exact hsync
  · rw [hshown.link, hrest.link, hv.link, ← hnumber]
    exact hfseq
  · rw [hshown.core, hend.resp]
  · rw [hshown.core, hend.router]
  · rw [hshown.core, hend.regs]
  · rw [hshown.core, hend.rq]

theorem exec_frameReceive_link {rest : List Flit} (hidle : s.idle = false) (hf : s.framing q.val = true)
    (hsw : (s.link q.val).rxSwitch = none) (ha : s.arriving q.val rx = some fr) (hc : s.checkFrame q.val fr = (c, body)) (h0 : c = 0)
    (hbody : body = f :: rest) (h6 : s.portState q.val = 6) (hquiet : s.trailerQuiet q.val fr.trailer.toNat)
    (hasm : (s.link q.val).asm = none) (hfirst : bits fr.trailer.toNat 128 2 = 1)
    (hkinds : ∀ i < 64, 0 < i → bits fr.trailer.toNat (128 + 2 * i) 2 = 0) (hok : headerOk ⟨f, []⟩ = true) (hcls : (Packet.mk f []).cls = 0)
    (htype : (Packet.mk f []).type = 0) (hplen : (Packet.mk f []).plen = 0) (htdm : (Packet.mk f []).tdm = false) :
    ∃ t x', exec (.frameReceive q ⟨rx, x⟩) s = .next t ∧ t.core.resp.inbox = s.core.resp.inbox ++ [x'] ∧ x'.port = q.val ∧
      x'.pkt = ⟨f, []⟩ ∧ t.core.router.queued = s.core.router.queued := by
  subst h0 hbody
  obtain ⟨v, l, stamp, hv, -, -, hopen, hb⟩ := frameReceive_good (x := x) hf hsw ha hc h6 hquiet
  have hr : v.portReady q.val = true := by rw [State.portReady, hv.portState]; exact congrArg (fun n => n == 6 || n == 7) h6
  obtain ⟨n, hinbox, hqueued, hoff⟩ := State.bodyIn_link (s := v) (stamp := stamp) (rest := rest) hr (by rw [hv.link, hopen, hasm])
    hok hcls htype
    hplen htdm hfirst hkinds
  obtain ⟨t, ht, hshown⟩ := portCmd_shown (body := frameReceive q rx x) hidle hb (hoff.trans (hv.off.trans (State.off_of_idle hidle)))
  refine ⟨t, ⟨q.val, n, ⟨f, []⟩⟩, ht, ?_, rfl, rfl, ?_⟩
  · rw [hshown.core, hinbox, hv.resp]
  · rw [hshown.core, hqueued, hv.router]

end

/-- Settles O37: a frame that fails a check is discarded with its status bit, and repeated failures end READY; a good one's flits
are released; a hinge's beat out of sequence ends the frame being assembled. -/
theorem framesArrive : Obligations.FramesArrive := fun _ _ _ hidle hf hsw =>
  ⟨fun _ _ _ _ ha hc => ⟨exec_frameReceive_uncorr hidle hf hsw ha hc, exec_frameReceive_fseq hidle hf hsw ha hc,
      exec_frameReceive_fseq_exits hidle hf hsw ha hc, exec_frameReceive_auth hidle hf hsw ha hc,
      exec_frameReceive_auth_exits hidle hf hsw ha hc, exec_frameReceive_idle hidle hf hsw ha hc,
      fun _ _ => exec_frameReceive_link hidle hf hsw ha hc⟩,
    fun _ => exec_frameReceive_breaks hidle hf hsw⟩

end Sys2Proof.Machine
